-- ==== Sys2Proof/Word.lean ====
section
/-! DEFINITION. The word types of the V24 and their plainest names: registers of 64 bits (R177), instruction words of 32 bits (R150), register fields of 5 bits (R151), bytes. -/

namespace Sys2Proof

/-- A 64-bit scalar register or control register (R177, R170). -/
abbrev Word := BitVec 64
/-- A byte of memory. -/
abbrev Byte := BitVec 8
/-- An instruction word (R150). -/
abbrev InsnWord := BitVec 32
/-- A register field of an instruction word: register 0 to 31 of the kind its entry names (R151). -/
abbrev Reg := BitVec 5
/-- A tile accumulator a0 to a15 (R153). -/
abbrev Acc := BitVec 4
/-- The strand of another module that sends a message, as the packet that brings it names it: the port that it arrives on, the module, the writer id there, and whether it is of class 0 (R350, R352, R464). DESIGN CHOICE, log entries 9, 29. -/
structure Party where
  port   : Nat
  module : BitVec 18
  writer : BitVec 12
  urgent : Bool
deriving DecidableEq, Repr

/-- A vector register: 128 lanes of 64 bits, lane l at bits [64l+63:64l] (R44). -/
abbrev VReg := BitVec 8192

end Sys2Proof
end

