-- ==== Sys2Proof/Syntax.lean ====
section
/-! DEFINITION. The syntax of the Ixper instruction set and of the module's events: one constructor for each row of the opcode table, the events that have no word first, then the instruction words (R150 to R162). Operand fields keep the letters of R151; an event names the unit or strand it concerns. -/

namespace Sys2Proof

/-- One instruction word or one event of the module, as the opcode table lists them. -/
inductive Instr where
  /-- DOORBELL_WRITE (R24): A host write to a launch window's DOORBELL submits that link's PKT to the launch queue once earlier posted writes have arrived; the Starter checks the queue context, the packet and the room, and records the outcome in WINSTAT. -/
  | doorbellWrite (link : Nat) (window : Nat)
  /-- MODNUM_WRITE (R19): A write to MODID.MODNUM is accepted only while the module is ready and idle of launches; it sets ASSIGNED and may restrict the fabric to channel 7. -/
  | modnumWrite (value : Word)
  /-- MODCTL_RESET (R33): A write of MODCTL.RESET restarts the module. -/
  | modctlReset (failStep : Nat) (failCode : BitVec 16)
  /-- MODCTL_FULLSTART (R33): A write of MODCTL.FULLSTART, from BAR0 or its mirror, clears the failed-start count and restarts the module. -/
  | modctlFullstart (failStep : Nat) (failCode : BitVec 16)
  /-- LATTOL_WRITE (R38): A write to LATTOL that lowers TOL or clears an A3OK bit moves the affected dies to the deepest state the new value permits. -/
  | lattolWrite (value : Word)
  /-- PWRCAP_WRITE (R39): A write to PWRCAP clamps CAP to between 2,000 and 16,000 W and stores zero in the reserved bits. -/
  | pwrcapWrite (value : Word)
  /-- RTCTL_FLUSH (R351): A write of 1 to RTCTL.FLUSH drops every held route entry on every die before the write completes. -/
  | rtctlFlush
  /-- HOSTERR_WRITE (R460): Any write of HOSTERR clears the whole register. -/
  | hosterrWrite
  /-- REGISTER_WRITE (R18): A host write to a BAR0 register with no behaviour of its own, such as PKT, CMPADDR or BAR2BASE, stores the value; a write to a reserved offset or read-only register is ignored. -/
  | registerWrite (link : Nat) (offset : BitVec 26) (value : Word)
  /-- BAR2_HOST_WRITE (R21): A host write through BAR2 lands un-turned with writer id 0xF80 or 0xF81, or is dropped and logged for dies 24–31. -/
  | bar2HostWrite (link : Nat) (offset : BitVec 42) (data : List Byte)
  /-- BAR2_HOST_READ (R22): A host read through BAR2 returns the line's data when clear or turned at G, a poisoned completion for a poisoned line, and otherwise all ones with HOSTERR recording it. -/
  | bar2HostRead (link : Nat) (offset : BitVec 42) (len : Nat)
  /-- CONFIGURATION_REQUEST (R29): A configuration request on a host link is answered with Configuration Request Retry Status until READY is set or the start is terminal. -/
  | configurationRequest (link : Nat)
  /-- POWER_ON_RESET (R28): Reset release starts the module: supplies and clocks, flash check, die bring-up, vault training, zeroing, fabric training, then MODSTAT.READY. -/
  | powerOnReset (failStep : Nat) (failCode : BitVec 16)
  /-- HOST_LINK_RESET (R32): A link reset starts the module with BOOTCAUSE.RESET = 1. -/
  | hostLinkReset (failStep : Nat) (failCode : BitVec 16)
  /-- START_TIMEOUT (R29): READY not set within 2 s of reset release fails the start with CODE 0x0700. -/
  | startTimeout
  /-- START_RETRY (R454): 100 ms after a failed start the boot controller starts again, keeping the RESET cause. -/
  | startRetry (failStep : Nat) (failCode : BitVec 16)
  /-- POWER_AVERAGE_TICK (R16): Every 100 µs the power manager averages module power and steps the clock of every A0 die down or up by 250 MHz against the cap. -/
  | powerAverageTick (power : BitVec 16)
  /-- CAP_ISSUE_HOLD (R459): When the average stays above CAP for 1 ms at CLKSTEP 6, new engine commands are held at issue on every die and HOSTERR records KIND 6. -/
  | capIssueHold
  /-- DIE_IDLE_ENTRY (R35): A die idle for the entry time of a state enters the deepest state that LATTOL permits, after draining outbound buffers and invalidating inbound caches. -/
  | dieIdleEntry (die : Nat)
  /-- DIE_WAKE (R37): A launch placed on a die or a request to its scratchpad or vaults wakes it, cancelling any entry in progress. -/
  | dieWake (die : Nat)
  /-- DIE_EXIT_COMPLETE (R37): After the exit latency the die is in A0, its waiting requests proceed, and after A3 its scratchpad and tile store read as zero. -/
  | dieExitComplete (die : Nat)
  /-- DIE_ENTRY_FAILURE (R457): A die not in its target state within 1 ms of beginning entry returns to A0, makes no entry for 100 ms and records HOSTERR KIND 7. -/
  | dieEntryFailure (die : Nat)
  /-- DIE_EXIT_FAILURE (R458): A die not in A0 within four times its exit latency is failed: its strands are lost with 0x301 and accesses to it take 0x301. -/
  | dieExitFailure (die : Nat)
  /-- HOST_LINK_DOWN (R461): A host link goes down: writes and doorbells not yet arrived are lost, and later completion records and MSI-X toward it are dropped with HOSTERR KIND 5. -/
  | hostLinkDown (link : Nat)
  /-- FLIT_CHECK_FAIL (R349): A fabric flit that fails its check code is replayed from the port's retry buffer. -/
  | flitCheckFail (port : Nat)
  /-- FABRIC_PORT_RETRAIN (R462): A flit replayed 16 times without acknowledgement makes the port retrain, and new packets for the port wait. -/
  | fabricPortRetrain (port : Nat)
  /-- FABRIC_RETRAIN_END (R462): A retrain ends; a failed one marks the port down and loses every packet in its retry buffer and queue. -/
  | fabricRetrainEnd (port : Nat) (ok : Bool)
  /-- LOSS_NOTICE (R462): A loss notice arriving on channel 7 names the issuer of a dropped packet, which fails with cause 0x300. -/
  | lossNotice (packet : Nat)
  /-- FABRIC_REPLY_TIMEOUT (R462): A request or write with no reply or acknowledgement 1 ms after local completion is lost. -/
  | fabricReplyTimeout (packet : Nat)
  /-- LOCAL_COMPLETION (R353): A packet's last flit enters its port's retry buffer and the packet's source is released. -/
  | localCompletion (packet : Nat)
  /-- ROUTE_ENTRY_READ (R351): A perimeter die reads a route entry it does not hold at the home and treats a line not clear or turned at G as no route. -/
  | routeEntryRead (die : Nat) (target : Nat)
  /-- DCLKW_SYNCHRONISATION (R280): A channel 7 management frame aligns the wall clock DCLKW between modules. -/
  | dclkwSynchronisation (tick : BitVec 63)
  /-- HOME_WRITE (R88): A write arriving at its home updates data and line tag atomically and raises GEN, or is discarded on a poisoned line. -/
  | homeWrite (index : Nat) (badBytes : Nat)
  /-- HOME_READ (R95): A read reaching the home resolves by the line's state and the reader's distance, returning data or a fault cause. -/
  | homeRead (sid : Nat) (address : BitVec 61) (d : Reg) (badBytes : Nat)
  /-- LOAD_REPLY (R187): A read reply reaches the core, writes the register and fills the inbound cache when the line is clear or turned at C or above. -/
  | loadReply (index : Nat)
  /-- OUTBOUND_DRAIN_TIMEOUT (R83): An outbound buffer line drains to its home no later than 4 µs after its last write. -/
  | outboundDrainTimeout (core : Nat)
  /-- TURN_INVALIDATION (R89): A range invalidation reaches an inbound cache, which drops the lines and acknowledges. -/
  | turnInvalidation (core : Nat)
  /-- INVALIDATION_ACK (R89): An invalidation acknowledgement arrives, and the line counts done once all are in. -/
  | invalidationAck (index : Nat)
  /-- TABLE_WALK_COMPLETE (R78): A queued translation walk completes, filling the translation buffer or raising 0x080 or 0x081 for the access. -/
  | tableWalkComplete (sid : Nat) (address : Word) (access : Nat)
  /-- PATROL_SCRUB (R426): The patrol scrubber reads the next vault line, correcting or poisoning it, so that every line is read once in 24 hours. -/
  | patrolScrub (core : Nat) (badBytes : Nat)
  /-- HARRIER_FILL (R99): A copy block lands at its destination; for a scratchpad destination CHWM advances over the filled prefix, turning its blocks at C. -/
  | harrierFill (core : Nat) (channel : Nat) (block : Nat)
  /-- COPY_RETIRE (R251): A copy command retires once its DRAM destination is turned at LVL and any credit or enqueue is acknowledged, and the channel starts its next command. -/
  | copyRetire (core : Nat) (channel : Nat)
  /-- BARRIER_CREDIT (R295): A COPYB credit at the barrier's home lowers PENDBYTES, or sets OVERRUN and faults the COPYB with 0x183, and may complete the phase. -/
  | barrierCredit (index : Nat)
  /-- PUTQ_ENQUEUE (R252): A PUTQ enqueue reaches the queue home and adds its message when there is room, or waits there. -/
  | putqEnqueue (index : Nat)
  /-- PUTQ_ENQUEUE_EXPIRY (R252): A PUTQ enqueue that waits longer than its captured DLCAP faults the command with cause 0x185. -/
  | putqEnqueueExpiry (index : Nat)
  /-- PARKED_COPY_RETRY (R424): A parked copy retries its faulting page each time a TLBINV or TLBINVALL completes on the die, and every 10 µs. -/
  | parkedCopyRetry (core : Nat) (channel : Nat)
  /-- PARKED_COPY_DISCARD (R424): A parked copy whose page is still absent at DLCAP is discarded, and a second 0x080 record is written. -/
  | parkedCopyDiscard (core : Nat) (channel : Nat)
  /-- STREAM_FILL (R103): A transfer unit reads ahead an affine input element or drains an output element behind the program. -/
  | streamFill (sid : Nat) (stream : Nat)
  /-- REMOTE_GROUP_DELIVERY (R233): A remote-stream element group arrives from the producer strand into the consumer's stream buffer. -/
  | remoteGroupDelivery (sid : Nat) (stream : Nat)
  /-- STREAM_BUDGET_EXPIRY (R105): A stream wait that exceeds its budget raises cause 0x181 at the reading or writing instruction. -/
  | streamBudgetExpiry (sid : Nat)
  /-- ENGINE_COMMAND_RETIRE (R257): An engine command finishes and retires in issue order; a faulted one writes its record and discards the later commands. -/
  | engineCommandRetire (core : Nat)
  /-- TILE_STORE_CLEAR_END (R255): The clearing of the released tile store and L0 ends and the engine queue is freed. -/
  | tileStoreClearEnd (core : Nat)
  /-- WAIT_EXPIRY (R282): A wait's clock reaches its effective deadline and the Pacer ends it or sends a withdrawal or cancellation to the home. -/
  | waitExpiry (sid : Nat)
  /-- HOME_OBJECT_OPERATION (R290): An object operation arriving at the home is performed whole in arrival order, registering or waking waiters. -/
  | homeObjectOperation (op : Nat) (object : BitVec 61) (value : Word) (party : Party)
  /-- WAITER_WAKE (R290): A wake-up or status from the home reaches the Pacer and completes the waiting instruction, into the saved x[d] with DETAIL 9 if the strand is away. -/
  | waiterWake (index : Nat)
  /-- WAIT_CANCELLATION (R432): A cancellation reaches the home and removes its waiter, or finds it already served and changes nothing. -/
  | waitCancellation (sid : Nat)
  /-- BARAW_WITHDRAWAL (R297): A withdrawal reaches the barrier home: it lowers ARRIVED if the phase is unchanged (WITHDRAWN), else changes nothing (LATE). -/
  | barawWithdrawal (sid : Nat)
  /-- WAITER_REFUSAL_RESEND (R290): 1 µs after a refusal the Pacer resends the wait, which tests the condition afresh. -/
  | waiterRefusalResend (sid : Nat)
  /-- WATERMARK_DECLARATION (R59): A declaration of completed elements reaches the Starter, which raises the launch's watermark over the contiguous prefix. -/
  | watermarkDeclaration (index : Nat)
  /-- WATERMARK_RISE (R60): A watermark rise reaches a core's Pacer and a holding SETVL whose bound it meets grants. -/
  | watermarkRise (sid : Nat)
  /-- DEPENDENCE_HOLD_EXPIRY (R62): A dependence hold that reaches its DEPDL deadline traps with cause 0x182 at the SETVL. -/
  | dependenceHoldExpiry (sid : Nat)
  /-- LAUNCH_TAKE (R333): When a live-launch record is free, the Starter takes the head packet of the best queue and places its strands on core wait lists. -/
  | launchTake
  /-- STRAND_START (R335): A core with a free slot, area index and lanes starts or resumes the first eligible strand of its wait list with a grant. -/
  | strandStart (core : Nat)
  /-- LAUNCH_RETIRE (R67): A launch retires when all strands have ended, it is cancelled or it fails: W is set or frozen and LWAITs are woken. -/
  | launchRetire (lid : Word)
  /-- PREEMPTION_REQUEST (R338): For a strand that has waited its time, the Starter chooses victims and sends them pre-emption requests. -/
  | preemptionRequest (core : Nat)
  /-- PREEMPTION_REQUEST_ARRIVAL (R339): A pre-emption request reaches the victim's core and stands for its next pre-emption point. -/
  | preemptionRequestArrival (sid : Nat)
  /-- FORCED_PREEMPTION (R339): 8 µs after a request arrives, a victim that reached no pre-emption point is stopped and saved with its full vector state. -/
  | forcedPreemption (sid : Nat)
  /-- SAVE_COMPLETE (R395): A save ends with STATE = 1, and the slot and lanes become free. -/
  | saveComplete (sid : Nat)
  /-- ISSUE_AGING (R337): A ready class 1–3 strand passed over for 1,024 consecutive cycles becomes aged and is preferred in issue. -/
  | issueAging (sid : Nat)
  /-- IMPRECISE_DELIVERY (R384): A record pending 4 µs of DCLKR without a delivery point is delivered as an imprecise trap at the next instruction boundary. -/
  | impreciseDelivery (sid : Nat)
  /-- HANDLER_WATCHDOG (R440): A strand that stays with SSTATUS.NEST = 1 for 10 ms of residence is saved, lost with 0x3F0 and its launch failed. -/
  | handlerWatchdog (sid : Nat)
  /-- SAVE_RESTORE_WATCHDOG (R441): A save or restore not finished within 1 ms restarts once, and a second expiry loses the strand with 0x3F0. -/
  | saveRestoreWatchdog (sid : Nat)
  /-- TRAP_REPEAT_WATCHDOG (R440): 4,096 traps in a row at one EPC with one cause lose the strand with 0x3F0. -/
  | trapRepeatWatchdog (sid : Nat)
  /-- HEARTBEAT_WATCHDOG (R442): 100 missed 1 ms heartbeats of die 0's front end restart the module with BOOTCAUSE.RESET = 3, losing every live launch. -/
  | heartbeatWatchdog (failStep : Nat) (failCode : BitVec 16)
  /-- RELAY_ROUND_COMPLETE (R360): The Relay combines a round's contributions in the rank tree and stages the result at each rank, or fails a mismatched round with 0x208. -/
  | relayRoundComplete (group : Nat) (slot : Nat)
  /-- PARKED_ARRIVAL_RETRY (R362): A parked Relay arrival is retried after each TLBINV or TLBINVALL on its die and every 10 µs. -/
  | parkedArrivalRetry (index : Nat)
  /-- DBGCTL_HALT (R444): Setting a DBGCTL.HALT bit stops the strand in that slot by a forced save that invalidates at G. -/
  | dbgctlHalt (core : Nat) (slot : Nat)
  /-- DBGCTL_STEP (R445): Setting a DBGCTL.STEP bit restores the halted strand, runs one instruction or element, saves it again and clears the bit. -/
  | dbgctlStep (core : Nat) (slot : Nat)
  /-- DBGCTL_FREEZE (R446): Setting or clearing DBGCTL.FREEZE pauses or resumes Harrier channels, the engine and unsent Relay chunks for halted strands. -/
  | dbgctlFreeze (core : Nat) (freeze : Bool)
  /-- TEN_SET (R399): A write that sets TEN.EN gives the strand the tile store, traps 0x284 for a user strand if another holds it, or takes it from the holder for a supervisor. -/
  | tenSet
  /-- TEN_CLEAR (R254): A write that clears TEN.EN waits for the strand's engine commands to retire and releases the tile store. -/
  | tenClear
  /-- RESERVED_ENCODING (R161): A strand issues a word that is no instruction (the all-zero word, an unassigned major or minor, a reserved field) and takes cause 0x001 precisely. -/
  | reservedEncoding (word : InsnWord)
  /-- INSTRUCTION_FETCH_FAULT (R401): The next instruction cannot be fetched (0x080, 0x081, 0x084, 0x090–0x092, 0x380, or 0x011 on a supervisor line without a marker) and the strand traps as that instruction is about to issue. -/
  | instructionFetchFault (cause : BitVec 10) (tval : Word)
  /-- HOST_LINK_UP (R461): A host link trains and comes up, after reset or after going down, HOSTERR recording a retrain, so that later doorbells, BAR accesses and completion records reach it again. -/
  | hostLinkUp (link : Nat)
  /-- DIE_STATE_ENTRY_COMPLETE (R457): A die that began entry to A1, A2 or A3 reaches its target state after its drain and invalidation, and DIESTATE records the new state. -/
  | dieStateEntryComplete (die : Nat)
  /-- ROUTE_UPDATE (R352): A fabric management frame carrying a route update arrives on channel 7. -/
  | routeUpdate (target : Nat) (entry : Word)
  /-- LINE_MARKER (R166): Word 0 of a supervisor line marks its target words and issues as a NOP on sequential flow. -/
  | lineMarker (m : BitVec 15)
  /-- NOP (R178): Advances the program counter by 4. -/
  | nop
  /-- TRAP (R307): Takes a precise software trap 0x0F0 with TVAL the code and EPC P + 4. -/
  | trap (code : BitVec 10)
  /-- BRK (R307): Takes breakpoint 0x3F8, or halts the strand when DBGCTL.BRKSUP = 1. -/
  | brk (code : BitVec 10)
  /-- ERET (R387): Restores x12–x19 from the entry frame and the privilege, clears NEST and resumes at EPC. -/
  | eret
  /-- YIELD (R307): Traps 0x184 with full vector save if a request stands, else moves the strand behind ready strands of its class. -/
  | yield
  /-- HALT (R66): Turns the strand's writes at PUBLVL, declares its elements complete, waits for its commands and ends the strand. -/
  | halt
  /-- TLBINV (R307): Removes translation entries for the page of x[a] under the ASID of x[b] on the issuing die. -/
  | tlbinv (a : Reg) (b : Reg)
  /-- TLBINVALL (R307): Removes every translation entry of the die. -/
  | tlbinvall
  /-- ADD (R179): x[d] ← A + B. -/
  | add (d : Reg) (a : Reg) (b : Reg)
  /-- SUB (R179): x[d] ← A − B. -/
  | sub (d : Reg) (a : Reg) (b : Reg)
  /-- AND (R179): x[d] ← A AND B. -/
  | and (d : Reg) (a : Reg) (b : Reg)
  /-- OR (R179): x[d] ← A OR B. -/
  | or (d : Reg) (a : Reg) (b : Reg)
  /-- XOR (R179): x[d] ← A XOR B. -/
  | xor (d : Reg) (a : Reg) (b : Reg)
  /-- ANDN (R179): x[d] ← A AND NOT B. -/
  | andn (d : Reg) (a : Reg) (b : Reg)
  /-- SLL (R179): Shift left by B[5:0]. -/
  | sll (d : Reg) (a : Reg) (b : Reg)
  /-- SRL (R179): Logical shift right by B[5:0]. -/
  | srl (d : Reg) (a : Reg) (b : Reg)
  /-- SRA (R179): Arithmetic shift right by B[5:0]. -/
  | sra (d : Reg) (a : Reg) (b : Reg)
  /-- SLT (R179): Signed set-less-than. -/
  | slt (d : Reg) (a : Reg) (b : Reg)
  /-- SLTU (R179): Unsigned set-less-than. -/
  | sltu (d : Reg) (a : Reg) (b : Reg)
  /-- MIN (R179): Signed minimum. -/
  | min (d : Reg) (a : Reg) (b : Reg)
  /-- MAX (R179): Signed maximum. -/
  | max (d : Reg) (a : Reg) (b : Reg)
  /-- MINU (R179): Unsigned minimum. -/
  | minu (d : Reg) (a : Reg) (b : Reg)
  /-- MAXU (R179): Unsigned maximum. -/
  | maxu (d : Reg) (a : Reg) (b : Reg)
  /-- CLZ (R179): Counts leading zero bits. -/
  | clz (d : Reg) (a : Reg)
  /-- CTZ (R179): Counts trailing zero bits. -/
  | ctz (d : Reg) (a : Reg)
  /-- POPC (R179): Counts one bits. -/
  | popc (d : Reg) (a : Reg)
  /-- ROL (R179): Rotates left by B[5:0]. -/
  | rol (d : Reg) (a : Reg) (b : Reg)
  /-- ROR (R179): Rotates right by B[5:0]. -/
  | ror (d : Reg) (a : Reg) (b : Reg)
  /-- SEXTW (R179): Sign-extends the low 32 bits. -/
  | sextw (d : Reg) (a : Reg)
  /-- ZEXTW (R179): Zero-extends the low 32 bits. -/
  | zextw (d : Reg) (a : Reg)
  /-- CMOV (R179): x[d] ← A if B ≠ 0, else unchanged. -/
  | cmov (d : Reg) (a : Reg) (b : Reg)
  /-- ADDI (R180): Adds a sign-extended imm16. -/
  | addi (d : Reg) (a : Reg) (i : BitVec 16)
  /-- ANDI (R180): ANDs a zero-extended imm16. -/
  | andi (d : Reg) (a : Reg) (i : BitVec 16)
  /-- ORI (R180): ORs a zero-extended imm16. -/
  | ori (d : Reg) (a : Reg) (i : BitVec 16)
  /-- XORI (R180): XORs a zero-extended imm16. -/
  | xori (d : Reg) (a : Reg) (i : BitVec 16)
  /-- SLTI (R180): Signed compare with a sign-extended imm16. -/
  | slti (d : Reg) (a : Reg) (i : BitVec 16)
  /-- SLTIU (R180): Unsigned compare with a sign-extended imm16. -/
  | sltiu (d : Reg) (a : Reg) (i : BitVec 16)
  /-- SLLI (R181): Shift left by an immediate. -/
  | slli (d : Reg) (a : Reg) (s : BitVec 6)
  /-- SRLI (R181): Logical shift right by an immediate. -/
  | srli (d : Reg) (a : Reg) (s : BitVec 6)
  /-- SRAI (R181): Arithmetic shift right by an immediate. -/
  | srai (d : Reg) (a : Reg) (s : BitVec 6)
  /-- LUI (R182): x[d] ← Sext(imm21) << 16. -/
  | lui (d : Reg) (i : BitVec 21)
  /-- ADDPC (R182): x[d] ← P + (Sext(imm21) << 16). -/
  | addpc (d : Reg) (i : BitVec 21)
  /-- MUL (R183): Low 64 bits of the product. -/
  | mul (d : Reg) (a : Reg) (b : Reg)
  /-- MULH (R183): High 64 bits of the signed product. -/
  | mulh (d : Reg) (a : Reg) (b : Reg)
  /-- MULHU (R183): High 64 bits of the unsigned product. -/
  | mulhu (d : Reg) (a : Reg) (b : Reg)
  /-- DIV (R183): Signed division truncating toward zero, never trapping. -/
  | div (d : Reg) (a : Reg) (b : Reg)
  /-- DIVU (R183): Unsigned division. -/
  | divu (d : Reg) (a : Reg) (b : Reg)
  /-- REM (R183): Signed remainder. -/
  | rem (d : Reg) (a : Reg) (b : Reg)
  /-- REMU (R183): Unsigned remainder. -/
  | remu (d : Reg) (a : Reg) (b : Reg)
  /-- LB (R185): Loads a sign-extended byte as an inbound read. -/
  | lb (d : Reg) (a : Reg) (o : BitVec 13)
  /-- LH (R185): Loads a sign-extended halfword. -/
  | lh (d : Reg) (a : Reg) (o : BitVec 13)
  /-- LW (R185): Loads a sign-extended word. -/
  | lw (d : Reg) (a : Reg) (o : BitVec 13)
  /-- LD (R185): Loads a doubleword. -/
  | ld (d : Reg) (a : Reg) (o : BitVec 13)
  /-- LBU (R185): Loads a zero-extended byte. -/
  | lbu (d : Reg) (a : Reg) (o : BitVec 13)
  /-- LHU (R185): Loads a zero-extended halfword. -/
  | lhu (d : Reg) (a : Reg) (o : BitVec 13)
  /-- LWU (R185): Loads a zero-extended word. -/
  | lwu (d : Reg) (a : Reg) (o : BitVec 13)
  /-- SB (R185): Stores a byte into the outbound buffer. -/
  | sb (t : Reg) (a : Reg) (o : BitVec 13)
  /-- SH (R185): Stores a halfword. -/
  | sh (t : Reg) (a : Reg) (o : BitVec 13)
  /-- SW (R185): Stores a word. -/
  | sw (t : Reg) (a : Reg) (o : BitVec 13)
  /-- SD (R185): Stores a doubleword. -/
  | sd (t : Reg) (a : Reg) (o : BitVec 13)
  /-- FADD (R188): FP32 addition under RM. -/
  | fadd (d : Reg) (a : Reg) (b : Reg)
  /-- FSUB (R188): FP32 subtraction. -/
  | fsub (d : Reg) (a : Reg) (b : Reg)
  /-- FMUL (R188): FP32 multiplication. -/
  | fmul (d : Reg) (a : Reg) (b : Reg)
  /-- FDIV (R188): FP32 division. -/
  | fdiv (d : Reg) (a : Reg) (b : Reg)
  /-- FSQRT (R188): FP32 square root. -/
  | fsqrt (d : Reg) (a : Reg)
  /-- FMIN (R188): minimumNumber. -/
  | fmin (d : Reg) (a : Reg) (b : Reg)
  /-- FMAX (R188): maximumNumber. -/
  | fmax (d : Reg) (a : Reg) (b : Reg)
  /-- FEQ (R188): Quiet FP32 equality compare. -/
  | feq (d : Reg) (a : Reg) (b : Reg)
  /-- FLT (R188): Signalling less-than compare. -/
  | flt (d : Reg) (a : Reg) (b : Reg)
  /-- FLE (R188): Signalling less-or-equal compare. -/
  | fle (d : Reg) (a : Reg) (b : Reg)
  /-- FCVTFI (R188): FP32 to I64 under RM, saturating. -/
  | fcvtfi (d : Reg) (a : Reg)
  /-- FCVTIF (R188): I64 to FP32 under RM. -/
  | fcvtif (d : Reg) (a : Reg)
  /-- FSGNJ (R188): Bits [30:0] of a with the sign of b. -/
  | fsgnj (d : Reg) (a : Reg) (b : Reg)
  /-- FNEG (R188): Inverts bit 31. -/
  | fneg (d : Reg) (a : Reg)
  /-- FABS (R188): Clears bit 31. -/
  | fabs (d : Reg) (a : Reg)
  /-- FCLASS (R190): Writes the class word of a. -/
  | fclass (d : Reg) (a : Reg)
  /-- FMA (R191): a × b + c with one rounding. -/
  | fma (d : Reg) (a : Reg) (b : Reg) (c : Reg)
  /-- FNMA (R191): −(a × b + c) with one rounding. -/
  | fnma (d : Reg) (a : Reg) (b : Reg) (c : Reg)
  /-- FMS (R191): a × b − c with one rounding. -/
  | fms (d : Reg) (a : Reg) (b : Reg) (c : Reg)
  /-- BEQ (R192): Branches to a 64-byte block if equal. -/
  | beq (a : Reg) (b : Reg) (o : BitVec 13)
  /-- BNE (R192): Branches if not equal. -/
  | bne (a : Reg) (b : Reg) (o : BitVec 13)
  /-- BLT (R192): Branches if signed less. -/
  | blt (a : Reg) (b : Reg) (o : BitVec 13)
  /-- BGE (R192): Branches if signed greater or equal. -/
  | bge (a : Reg) (b : Reg) (o : BitVec 13)
  /-- BLTU (R192): Branches if unsigned less. -/
  | bltu (a : Reg) (b : Reg) (o : BitVec 13)
  /-- BGEU (R192): Branches if unsigned greater or equal. -/
  | bgeu (a : Reg) (b : Reg) (o : BitVec 13)
  /-- JMP (R192): Jumps to a block offset. -/
  | jmp (o : BitVec 26)
  /-- CALL (R193): Writes Ret(P) to x31 and jumps. -/
  | call (o : BitVec 26)
  /-- JR (R193): Transfers to x[a] after the target check. -/
  | jr (a : Reg)
  /-- CALLR (R193): Writes Ret(P) to x31 and transfers to x[a]. -/
  | callr (a : Reg)
  /-- CSRR (R196): Reads a CSR into x[d]. -/
  | csrr (d : Reg) (c : BitVec 12)
  /-- CSRW (R196): Writes x[a] to a CSR, returning the old value. -/
  | csrw (d : Reg) (a : Reg) (c : BitVec 12)
  /-- CSRS (R196): Sets CSR bits from x[a]. -/
  | csrs (d : Reg) (a : Reg) (c : BitVec 12)
  /-- CSRC (R196): Clears CSR bits from x[a]. -/
  | csrc (d : Reg) (a : Reg) (c : BitVec 12)
  /-- CSRWI (R196): Writes a 5-bit immediate to a CSR. -/
  | csrwi (d : Reg) (i : BitVec 5) (c : BitVec 12)
  /-- SETVL (R198): Pre-emption point and dependence hold; grants min(request, VLMAX) into VL. -/
  | setvl (d : Reg) (a : Reg)
  /-- SETVLMAX (R198): SETVL with a request of VLMAX. -/
  | setvlmax (d : Reg)
  /-- SETTYPE (R201): Writes x[a][7:0] to VTYPE and returns VLMAX. -/
  | settype (d : Reg) (a : Reg)
  /-- SETTYPEI (R201): Writes an immediate to VTYPE and returns VLMAX. -/
  | settypei (d : Reg) (imm : BitVec 8)
  /-- VFADD_VV (R208): Element-wise float add. -/
  | vfaddVv (d : Reg) (a : Reg) (b : Reg)
  /-- VFADD_VX (R208): Float add with a scalar. -/
  | vfaddVx (d : Reg) (a : Reg) (x : Reg)
  /-- VFSUB_VV (R208): Element-wise float subtract. -/
  | vfsubVv (d : Reg) (a : Reg) (b : Reg)
  /-- VFSUB_VX (R208): Float subtract a scalar. -/
  | vfsubVx (d : Reg) (a : Reg) (x : Reg)
  /-- VFMUL_VV (R208): Element-wise float multiply. -/
  | vfmulVv (d : Reg) (a : Reg) (b : Reg)
  /-- VFMUL_VX (R208): Float multiply by a scalar. -/
  | vfmulVx (d : Reg) (a : Reg) (x : Reg)
  /-- VFDIV_VV (R208): Element-wise float divide. -/
  | vfdivVv (d : Reg) (a : Reg) (b : Reg)
  /-- VFDIV_VX (R208): Float divide by a scalar. -/
  | vfdivVx (d : Reg) (a : Reg) (x : Reg)
  /-- VFMIN_VV (R208): Element-wise minimumNumber. -/
  | vfminVv (d : Reg) (a : Reg) (b : Reg)
  /-- VFMIN_VX (R208): minimumNumber with a scalar. -/
  | vfminVx (d : Reg) (a : Reg) (x : Reg)
  /-- VFMAX_VV (R208): Element-wise maximumNumber. -/
  | vfmaxVv (d : Reg) (a : Reg) (b : Reg)
  /-- VFMAX_VX (R208): maximumNumber with a scalar. -/
  | vfmaxVx (d : Reg) (a : Reg) (x : Reg)
  /-- VFSQRT (R208): Element-wise square root. -/
  | vfsqrt (d : Reg) (a : Reg)
  /-- VFABS (R208): Clears element sign bits. -/
  | vfabs (d : Reg) (a : Reg)
  /-- VFNEG (R208): Inverts element sign bits. -/
  | vfneg (d : Reg) (a : Reg)
  /-- VFSGNJ_VV (R208): Element with the sign of the other operand. -/
  | vfsgnjVv (d : Reg) (a : Reg) (b : Reg)
  /-- VFSGNJ_VX (R208): Element with the sign of a scalar. -/
  | vfsgnjVx (d : Reg) (a : Reg) (x : Reg)
  /-- VFRSUB_VV (R208): Reverse subtract b − a. -/
  | vfrsubVv (d : Reg) (a : Reg) (b : Reg)
  /-- VFRSUB_VX (R208): Scalar minus element. -/
  | vfrsubVx (d : Reg) (a : Reg) (x : Reg)
  /-- VFEQ_VV (R208): Quiet equality compare. -/
  | vfeqVv (d : Reg) (a : Reg) (b : Reg)
  /-- VFEQ_VX (R208): Quiet equality with a scalar. -/
  | vfeqVx (d : Reg) (a : Reg) (x : Reg)
  /-- VFNE_VV (R208): Quiet inequality compare. -/
  | vfneVv (d : Reg) (a : Reg) (b : Reg)
  /-- VFNE_VX (R208): Quiet inequality with a scalar. -/
  | vfneVx (d : Reg) (a : Reg) (x : Reg)
  /-- VFLT_VV (R208): Signalling less-than compare. -/
  | vfltVv (d : Reg) (a : Reg) (b : Reg)
  /-- VFLT_VX (R208): Signalling less-than with a scalar. -/
  | vfltVx (d : Reg) (a : Reg) (x : Reg)
  /-- VFLE_VV (R208): Signalling less-or-equal compare. -/
  | vfleVv (d : Reg) (a : Reg) (b : Reg)
  /-- VFLE_VX (R208): Signalling less-or-equal with a scalar. -/
  | vfleVx (d : Reg) (a : Reg) (x : Reg)
  /-- VFCVT_FI (R209): Float to signed integer under RM, saturating. -/
  | vfcvtFi (d : Reg) (a : Reg)
  /-- VFCVT_FI_U (R209): Float to unsigned integer under RM, saturating. -/
  | vfcvtFiU (d : Reg) (a : Reg)
  /-- VFCVT_IF (R209): Signed integer to float under RM. -/
  | vfcvtIf (d : Reg) (a : Reg)
  /-- VFCVT_IF_U (R209): Unsigned integer to float under RM. -/
  | vfcvtIfU (d : Reg) (a : Reg)
  /-- VFWIDEN (R209): BF16 elements widened exactly to FP32. -/
  | vfwiden (d : Reg) (a : Reg)
  /-- VFNARROW (R209): FP32 elements rounded to BF16. -/
  | vfnarrow (d : Reg) (a : Reg)
  /-- VFMA (R210): Element-wise a × b + c, one rounding. -/
  | vfma (d : Reg) (a : Reg) (b : Reg) (c : Reg)
  /-- VFNMA (R210): Element-wise −(a × b + c). -/
  | vfnma (d : Reg) (a : Reg) (b : Reg) (c : Reg)
  /-- VFMS (R210): Element-wise a × b − c. -/
  | vfms (d : Reg) (a : Reg) (b : Reg) (c : Reg)
  /-- VFMA_VX (R210): Element-wise a × scalar + c. -/
  | vfmaVx (d : Reg) (a : Reg) (x : Reg) (c : Reg)
  /-- VADD_VV (R211): Wrapping integer add. -/
  | vaddVv (d : Reg) (a : Reg) (b : Reg)
  /-- VADD_VX (R211): Wrapping add of a scalar. -/
  | vaddVx (d : Reg) (a : Reg) (x : Reg)
  /-- VADD_VI (R211): Wrapping add of an immediate. -/
  | vaddVi (d : Reg) (a : Reg) (i : BitVec 5)
  /-- VADD_SAT_VV (R211): Signed saturating add. -/
  | vaddSatVv (d : Reg) (a : Reg) (b : Reg)
  /-- VADD_SAT_VX (R211): Signed saturating add of a scalar. -/
  | vaddSatVx (d : Reg) (a : Reg) (x : Reg)
  /-- VADD_SAT_VI (R211): Signed saturating add of an immediate. -/
  | vaddSatVi (d : Reg) (a : Reg) (i : BitVec 5)
  /-- VADD_USAT_VV (R211): Unsigned saturating add. -/
  | vaddUsatVv (d : Reg) (a : Reg) (b : Reg)
  /-- VADD_USAT_VX (R211): Unsigned saturating add of a scalar. -/
  | vaddUsatVx (d : Reg) (a : Reg) (x : Reg)
  /-- VADD_USAT_VI (R211): Unsigned saturating add of an immediate. -/
  | vaddUsatVi (d : Reg) (a : Reg) (i : BitVec 5)
  /-- VSUB_VV (R211): Wrapping integer subtract. -/
  | vsubVv (d : Reg) (a : Reg) (b : Reg)
  /-- VSUB_VX (R211): Wrapping subtract of a scalar. -/
  | vsubVx (d : Reg) (a : Reg) (x : Reg)
  /-- VSUB_VI (R211): Wrapping subtract of an immediate. -/
  | vsubVi (d : Reg) (a : Reg) (i : BitVec 5)
  /-- VSUB_SAT_VV (R211): Signed saturating subtract. -/
  | vsubSatVv (d : Reg) (a : Reg) (b : Reg)
  /-- VSUB_SAT_VX (R211): Signed saturating subtract of a scalar. -/
  | vsubSatVx (d : Reg) (a : Reg) (x : Reg)
  /-- VSUB_SAT_VI (R211): Signed saturating subtract of an immediate. -/
  | vsubSatVi (d : Reg) (a : Reg) (i : BitVec 5)
  /-- VSUB_USAT_VV (R211): Unsigned saturating subtract. -/
  | vsubUsatVv (d : Reg) (a : Reg) (b : Reg)
  /-- VSUB_USAT_VX (R211): Unsigned saturating subtract of a scalar. -/
  | vsubUsatVx (d : Reg) (a : Reg) (x : Reg)
  /-- VSUB_USAT_VI (R211): Unsigned saturating subtract of an immediate. -/
  | vsubUsatVi (d : Reg) (a : Reg) (i : BitVec 5)
  /-- VMUL_VV (R211): Low EW bits of the product. -/
  | vmulVv (d : Reg) (a : Reg) (b : Reg)
  /-- VMUL_VX (R211): Product with a scalar. -/
  | vmulVx (d : Reg) (a : Reg) (x : Reg)
  /-- VMUL_VI (R211): Product with an immediate. -/
  | vmulVi (d : Reg) (a : Reg) (i : BitVec 5)
  /-- VMULH_VV (R211): High half of the signed product. -/
  | vmulhVv (d : Reg) (a : Reg) (b : Reg)
  /-- VMULH_VX (R211): High half of the signed product with a scalar. -/
  | vmulhVx (d : Reg) (a : Reg) (x : Reg)
  /-- VMULH_VI (R211): High half of the signed product with an immediate. -/
  | vmulhVi (d : Reg) (a : Reg) (i : BitVec 5)
  /-- VMULH_U_VV (R211): High half of the unsigned product. -/
  | vmulhUVv (d : Reg) (a : Reg) (b : Reg)
  /-- VMULH_U_VX (R211): High half of the unsigned product with a scalar. -/
  | vmulhUVx (d : Reg) (a : Reg) (x : Reg)
  /-- VMULH_U_VI (R211): High half of the unsigned product with an immediate. -/
  | vmulhUVi (d : Reg) (a : Reg) (i : BitVec 5)
  /-- VAND_VV (R211): Bitwise AND. -/
  | vandVv (d : Reg) (a : Reg) (b : Reg)
  /-- VAND_VX (R211): Bitwise AND with a scalar. -/
  | vandVx (d : Reg) (a : Reg) (x : Reg)
  /-- VAND_VI (R211): Bitwise AND with an immediate. -/
  | vandVi (d : Reg) (a : Reg) (i : BitVec 5)
  /-- VOR_VV (R211): Bitwise OR. -/
  | vorVv (d : Reg) (a : Reg) (b : Reg)
  /-- VOR_VX (R211): Bitwise OR with a scalar. -/
  | vorVx (d : Reg) (a : Reg) (x : Reg)
  /-- VOR_VI (R211): Bitwise OR with an immediate. -/
  | vorVi (d : Reg) (a : Reg) (i : BitVec 5)
  /-- VXOR_VV (R211): Bitwise XOR. -/
  | vxorVv (d : Reg) (a : Reg) (b : Reg)
  /-- VXOR_VX (R211): Bitwise XOR with a scalar. -/
  | vxorVx (d : Reg) (a : Reg) (x : Reg)
  /-- VXOR_VI (R211): Bitwise XOR with an immediate. -/
  | vxorVi (d : Reg) (a : Reg) (i : BitVec 5)
  /-- VSLL_VV (R211): Shift left by B mod EW. -/
  | vsllVv (d : Reg) (a : Reg) (b : Reg)
  /-- VSLL_VX (R211): Shift left by a scalar count. -/
  | vsllVx (d : Reg) (a : Reg) (x : Reg)
  /-- VSLL_VI (R211): Shift left by an immediate count. -/
  | vsllVi (d : Reg) (a : Reg) (i : BitVec 5)
  /-- VSRL_VV (R211): Logical shift right. -/
  | vsrlVv (d : Reg) (a : Reg) (b : Reg)
  /-- VSRL_VX (R211): Logical shift right by a scalar. -/
  | vsrlVx (d : Reg) (a : Reg) (x : Reg)
  /-- VSRL_VI (R211): Logical shift right by an immediate. -/
  | vsrlVi (d : Reg) (a : Reg) (i : BitVec 5)
  /-- VSRA_VV (R211): Arithmetic shift right. -/
  | vsraVv (d : Reg) (a : Reg) (b : Reg)
  /-- VSRA_VX (R211): Arithmetic shift right by a scalar. -/
  | vsraVx (d : Reg) (a : Reg) (x : Reg)
  /-- VSRA_VI (R211): Arithmetic shift right by an immediate. -/
  | vsraVi (d : Reg) (a : Reg) (i : BitVec 5)
  /-- VMIN_VV (R211): Signed minimum. -/
  | vminVv (d : Reg) (a : Reg) (b : Reg)
  /-- VMIN_VX (R211): Signed minimum with a scalar. -/
  | vminVx (d : Reg) (a : Reg) (x : Reg)
  /-- VMIN_VI (R211): Signed minimum with an immediate. -/
  | vminVi (d : Reg) (a : Reg) (i : BitVec 5)
  /-- VMAX_VV (R211): Signed maximum. -/
  | vmaxVv (d : Reg) (a : Reg) (b : Reg)
  /-- VMAX_VX (R211): Signed maximum with a scalar. -/
  | vmaxVx (d : Reg) (a : Reg) (x : Reg)
  /-- VMAX_VI (R211): Signed maximum with an immediate. -/
  | vmaxVi (d : Reg) (a : Reg) (i : BitVec 5)
  /-- VMINU_VV (R211): Unsigned minimum. -/
  | vminuVv (d : Reg) (a : Reg) (b : Reg)
  /-- VMINU_VX (R211): Unsigned minimum with a scalar. -/
  | vminuVx (d : Reg) (a : Reg) (x : Reg)
  /-- VMINU_VI (R211): Unsigned minimum with an immediate. -/
  | vminuVi (d : Reg) (a : Reg) (i : BitVec 5)
  /-- VMAXU_VV (R211): Unsigned maximum. -/
  | vmaxuVv (d : Reg) (a : Reg) (b : Reg)
  /-- VMAXU_VX (R211): Unsigned maximum with a scalar. -/
  | vmaxuVx (d : Reg) (a : Reg) (x : Reg)
  /-- VMAXU_VI (R211): Unsigned maximum with an immediate. -/
  | vmaxuVi (d : Reg) (a : Reg) (i : BitVec 5)
  /-- VEQ_VV (R211): Integer equality compare. -/
  | veqVv (d : Reg) (a : Reg) (b : Reg)
  /-- VEQ_VX (R211): Equality with a scalar. -/
  | veqVx (d : Reg) (a : Reg) (x : Reg)
  /-- VEQ_VI (R211): Equality with an immediate. -/
  | veqVi (d : Reg) (a : Reg) (i : BitVec 5)
  /-- VNE_VV (R211): Integer inequality compare. -/
  | vneVv (d : Reg) (a : Reg) (b : Reg)
  /-- VNE_VX (R211): Inequality with a scalar. -/
  | vneVx (d : Reg) (a : Reg) (x : Reg)
  /-- VNE_VI (R211): Inequality with an immediate. -/
  | vneVi (d : Reg) (a : Reg) (i : BitVec 5)
  /-- VLT_VV (R211): Signed less-than compare. -/
  | vltVv (d : Reg) (a : Reg) (b : Reg)
  /-- VLT_VX (R211): Signed less-than with a scalar. -/
  | vltVx (d : Reg) (a : Reg) (x : Reg)
  /-- VLT_VI (R211): Signed less-than with an immediate. -/
  | vltVi (d : Reg) (a : Reg) (i : BitVec 5)
  /-- VLTU_VV (R211): Unsigned less-than compare. -/
  | vltuVv (d : Reg) (a : Reg) (b : Reg)
  /-- VLTU_VX (R211): Unsigned less-than with a scalar. -/
  | vltuVx (d : Reg) (a : Reg) (x : Reg)
  /-- VLTU_VI (R211): Unsigned less-than with an immediate. -/
  | vltuVi (d : Reg) (a : Reg) (i : BitVec 5)
  /-- VLE_VV (R211): Signed less-or-equal compare. -/
  | vleVv (d : Reg) (a : Reg) (b : Reg)
  /-- VLE_VX (R211): Signed less-or-equal with a scalar. -/
  | vleVx (d : Reg) (a : Reg) (x : Reg)
  /-- VLE_VI (R211): Signed less-or-equal with an immediate. -/
  | vleVi (d : Reg) (a : Reg) (i : BitVec 5)
  /-- VID (R212): Writes each element's index. -/
  | vid (d : Reg)
  /-- VBCAST_VV (R212): Vector register move. -/
  | vbcastVv (d : Reg) (b : Reg)
  /-- VBCAST_VX (R212): Broadcasts a scalar. -/
  | vbcastVx (d : Reg) (x : Reg)
  /-- VBCAST_VI (R212): Broadcasts an immediate. -/
  | vbcastVi (d : Reg) (i : BitVec 5)
  /-- VMERGE_VV (R212): Selects B or A per mask element. -/
  | vmergeVv (d : Reg) (a : Reg) (b : Reg)
  /-- VMERGE_VX (R212): Selects a scalar or A per mask element. -/
  | vmergeVx (d : Reg) (a : Reg) (x : Reg)
  /-- VMERGE_VI (R212): Selects an immediate or A per mask element. -/
  | vmergeVi (d : Reg) (a : Reg) (i : BitVec 5)
  /-- VSLIDEUP (R214): Slides elements up by x[b], filling with x[c]. -/
  | vslideup (d : Reg) (a : Reg) (b : Reg) (c : Reg)
  /-- VSLIDEDN (R214): Slides elements down by x[b], filling with x[c]. -/
  | vslidedn (d : Reg) (a : Reg) (b : Reg) (c : Reg)
  /-- VGATHER (R214): Gathers elements by index vector. -/
  | vgather (d : Reg) (a : Reg) (b : Reg) (c : Reg)
  /-- VCOMPRESS (R214): Packs active elements to the bottom. -/
  | vcompress (d : Reg) (a : Reg)
  /-- VMVXS (R214): Moves element x[b] to a scalar. -/
  | vmvxs (d : Reg) (a : Reg) (b : Reg)
  /-- VMVSX (R214): Moves a scalar into element x[b]. -/
  | vmvsx (d : Reg) (a : Reg) (b : Reg)
  /-- VMAND (R213): Mask AND. -/
  | vmand (d : Reg) (a : Reg) (b : Reg)
  /-- VMOR (R213): Mask OR. -/
  | vmor (d : Reg) (a : Reg) (b : Reg)
  /-- VMXOR (R213): Mask XOR. -/
  | vmxor (d : Reg) (a : Reg) (b : Reg)
  /-- VMNOT (R213): Mask NOT. -/
  | vmnot (d : Reg) (a : Reg)
  /-- VMCNT (R213): Counts active set mask elements into a scalar. -/
  | vmcnt (d : Reg) (a : Reg)
  /-- VMLEAD (R213): Index of the first active set mask element, or −1. -/
  | vmlead (d : Reg) (a : Reg)
  /-- VMRANK (R213): Prefix count of set mask elements. -/
  | vmrank (d : Reg) (a : Reg)
  /-- VFREDSUM (R215): Tree float sum into a scalar. -/
  | vfredsum (d : Reg) (a : Reg)
  /-- VFREDMAX (R215): Float maximum reduction. -/
  | vfredmax (d : Reg) (a : Reg)
  /-- VFREDMIN (R215): Float minimum reduction. -/
  | vfredmin (d : Reg) (a : Reg)
  /-- VREDSUM (R215): Wrapping integer tree sum. -/
  | vredsum (d : Reg) (a : Reg)
  /-- VREDMAX (R215): Signed maximum reduction. -/
  | vredmax (d : Reg) (a : Reg)
  /-- VREDMIN (R215): Signed minimum reduction. -/
  | vredmin (d : Reg) (a : Reg)
  /-- VLD (R223): Unit-stride vector load with format conversion, or a collective-window read. -/
  | vld (v : Reg) (a : Reg) (b : Reg) (f : BitVec 4)
  /-- VLDS (R223): Strided vector load. -/
  | vlds (v : Reg) (a : Reg) (b : Reg) (f : BitVec 4)
  /-- VLDX (R223): Indexed vector load. -/
  | vldx (v : Reg) (a : Reg) (b : Reg) (f : BitVec 4)
  /-- VSEGLD2 (R224): Segmented load of 2 fields. -/
  | vsegld2 (v : Reg) (a : Reg) (b : Reg) (f : BitVec 4)
  /-- VSEGLD3 (R224): Segmented load of 3 fields. -/
  | vsegld3 (v : Reg) (a : Reg) (b : Reg) (f : BitVec 4)
  /-- VSEGLD4 (R224): Segmented load of 4 fields. -/
  | vsegld4 (v : Reg) (a : Reg) (b : Reg) (f : BitVec 4)
  /-- VSEGLD5 (R224): Segmented load of 5 fields. -/
  | vsegld5 (v : Reg) (a : Reg) (b : Reg) (f : BitVec 4)
  /-- VSEGLD6 (R224): Segmented load of 6 fields. -/
  | vsegld6 (v : Reg) (a : Reg) (b : Reg) (f : BitVec 4)
  /-- VSEGLD7 (R224): Segmented load of 7 fields. -/
  | vsegld7 (v : Reg) (a : Reg) (b : Reg) (f : BitVec 4)
  /-- VSEGLD8 (R224): Segmented load of 8 fields. -/
  | vsegld8 (v : Reg) (a : Reg) (b : Reg) (f : BitVec 4)
  /-- VST (R223): Unit-stride vector store, or a collective contribution. -/
  | vst (v : Reg) (a : Reg) (b : Reg) (f : BitVec 4)
  /-- VSTS (R223): Strided vector store. -/
  | vsts (v : Reg) (a : Reg) (b : Reg) (f : BitVec 4)
  /-- VSTX (R223): Indexed vector store. -/
  | vstx (v : Reg) (a : Reg) (b : Reg) (f : BitVec 4)
  /-- VSEGST2 (R224): Segmented store of 2 fields. -/
  | vsegst2 (v : Reg) (a : Reg) (b : Reg) (f : BitVec 4)
  /-- VSEGST3 (R224): Segmented store of 3 fields. -/
  | vsegst3 (v : Reg) (a : Reg) (b : Reg) (f : BitVec 4)
  /-- VSEGST4 (R224): Segmented store of 4 fields. -/
  | vsegst4 (v : Reg) (a : Reg) (b : Reg) (f : BitVec 4)
  /-- VSEGST5 (R224): Segmented store of 5 fields. -/
  | vsegst5 (v : Reg) (a : Reg) (b : Reg) (f : BitVec 4)
  /-- VSEGST6 (R224): Segmented store of 6 fields. -/
  | vsegst6 (v : Reg) (a : Reg) (b : Reg) (f : BitVec 4)
  /-- VSEGST7 (R224): Segmented store of 7 fields. -/
  | vsegst7 (v : Reg) (a : Reg) (b : Reg) (f : BitVec 4)
  /-- VSEGST8 (R224): Segmented store of 8 fields. -/
  | vsegst8 (v : Reg) (a : Reg) (b : Reg) (f : BitVec 4)
  /-- PLSTA (R228): Builds A-group plane records in the own scratchpad. -/
  | plsta (v : Reg) (a : Reg)
  /-- PLSTB (R228): Builds integer B-group records. -/
  | plstb (v : Reg) (a : Reg)
  /-- PLSTB_DPW8 (R228): Builds DPW8 B-group records. -/
  | plstbDpw8 (v : Reg) (a : Reg)
  /-- VGLK (R244): Reads elements at their homes and records line generations in the link record. -/
  | vglk (v : Reg) (a : Reg) (b : Reg) (f : BitVec 4)
  /-- VSCC (R245): Writes each masked element only if its line's generation is unchanged, turning it at SCOPE and clearing its mask bit. -/
  | vscc (v : Reg) (a : Reg) (b : Reg) (f : BitVec 4)
  /-- VAPND (R247): Turns outstanding writes, then appends active work identifiers to an append queue, waiting for room. -/
  | vapnd (d : Reg) (a : Reg) (b : Reg)
  /-- SBIND (R231): Reads and checks a stream descriptor and binds v28–v31. -/
  | sbind (v : Reg) (a : Reg)
  /-- SUNBIND (R234): Releases a stream binding, flushing output. -/
  | sunbind (v : Reg)
  /-- SPOS (R234): Returns the elements consumed or produced since SBIND. -/
  | spos (d : Reg) (v : Reg)
  /-- TURN (R236): Drains and turns a region's lines at a level under a deadline. -/
  | turn (d : Reg) (a : Reg) (b : Reg) (c : Reg) (l : BitVec 3)
  /-- TURNALL (R239): Turns every span of the write log at a level. -/
  | turnall (d : Reg) (c : Reg) (l : BitVec 3)
  /-- FENCE (R240): Waits for selected classes of outstanding operations. -/
  | fence (d : Reg) (a : Reg) (c : Reg)
  /-- PUBLISH (R241): Turns the log at PUBLVL and declares elements below WIDBASE complete. -/
  | publish (d : Reg) (c : Reg)
  /-- COPY (R250): Queues a copy command on a Harrier channel. -/
  | copy (d : Reg) (a : Reg) (b : Reg)
  /-- COPYB (R252): Queues a copy that credits its bytes to a barrier. -/
  | copyb (d : Reg) (a : Reg) (b : Reg) (c : Reg)
  /-- PUTQ (R252): Queues a copy that enqueues its destination address to a queue object. -/
  | putq (d : Reg) (a : Reg) (b : Reg) (c : Reg)
  /-- SETTILE (R261): Grants tile rows, columns and depth into TSHAPE. -/
  | settile (a : Reg) (b : Reg) (c : Reg)
  /-- TZERO (R267): Zeroes an accumulator. -/
  | tzero (d : Acc)
  /-- TMAC (R263): Accumulates A-group by integer B-group products into binary128 cells. -/
  | tmac (d : Acc) (a : Reg) (b : Reg) (c : Reg)
  /-- TMACW (R263): Accumulates A-group by DPW8 B-group products. -/
  | tmacw (d : Acc) (a : Reg) (b : Reg) (c : Reg)
  /-- TMOVR (R266): Reads an accumulator row into a vector after earlier commands retire. -/
  | tmovr (s : Acc) (v : Reg) (b : Reg)
  /-- TMOVC (R266): Reads an accumulator column into a vector. -/
  | tmovc (s : Acc) (v : Reg) (b : Reg)
  /-- TLD (R267): Loads binary128 cells from the scratchpad. -/
  | tld (d : Acc) (a : Reg) (b : Reg)
  /-- TST (R267): Stores binary128 cells to the scratchpad. -/
  | tst (s : Acc) (a : Reg) (b : Reg)
  /-- TADD (R267): Adds one accumulator into another. -/
  | tadd (d : Acc) (a : Acc)
  /-- SIGCFG (R270): Sets signature depth and channels and returns the image size. -/
  | sigcfg (d : Reg) (a : Reg) (b : Reg)
  /-- SIGINIT (R275): Stores the unit signature. -/
  | siginit
  /-- SIGUPD (R275): Multiplies the signature by the exponentials of the increments. -/
  | sigupd (v : Reg)
  /-- SIGJOIN (R275): Joins an image on the right. -/
  | sigjoin (a : Reg)
  /-- SIGJOINL (R275): Joins an image on the left. -/
  | sigjoinl (a : Reg)
  /-- SIGLOG (R275): Stores the logarithm of the signature. -/
  | siglog
  /-- SIGLD (R275): Loads a signature image. -/
  | sigld (a : Reg)
  /-- SIGST (R275): Stores the signature image as stores of the strand. -/
  | sigst (a : Reg)
  /-- WAITC (R287): Waits until outstanding loads, stores, copies and engine commands fall within limits. -/
  | waitc (d : Reg) (a : Reg) (l : BitVec 4) (s : BitVec 4) (c : BitVec 4) (t : BitVec 4)
  /-- WAITW (R293): Waits until a channel's watermark passes an offset. -/
  | waitw (d : Reg) (a : Reg) (b : Reg) (c : Reg)
  /-- BARW (R296): Waits until a barrier reaches a phase. -/
  | barw (d : Reg) (a : Reg) (b : Reg) (c : Reg)
  /-- BARA (R296): Turns outstanding writes and arrives at a barrier. -/
  | bara (d : Reg) (a : Reg) (b : Reg)
  /-- BARAW (R296): Arrives at a barrier and waits for the phase to complete. -/
  | baraw (d : Reg) (a : Reg) (b : Reg)
  /-- BAREXP (R296): Adds expected bytes to a barrier's phase. -/
  | barexp (d : Reg) (a : Reg) (b : Reg) (c : Reg)
  /-- QSEND (R299): Turns writes and enqueues a message, waiting for room. -/
  | qsend (d : Reg) (a : Reg) (b : Reg) (c : Reg)
  /-- QRECV (R299): Waits for and removes a queue entry. -/
  | qrecv (d : Reg) (a : Reg) (b : Reg) (c : Reg)
  /-- TASKADD (R300): Owner pushes a task at the deque tail. -/
  | taskadd (d : Reg) (a : Reg) (b : Reg) (c : Reg)
  /-- TASKTAKE (R300): Owner pops a task from the deque tail. -/
  | tasktake (d : Reg) (a : Reg) (b : Reg) (c : Reg)
  /-- TASKSTEAL (R300): Removes a task from a deque head, or searches the launch's deques. -/
  | tasksteal (d : Reg) (a : Reg) (b : Reg) (c : Reg)
  /-- APWAIT (R299): Waits for VL identifiers in an append queue and takes them. -/
  | apwait (d : Reg) (a : Reg) (b : Reg) (c : Reg)
  /-- CWAIT (R303): Waits until a collective slot's round completes for the strand. -/
  | cwait (d : Reg) (a : Reg) (c : Reg)
  /-- LAUNCH (R305): Turns writes at M and submits a packet to a launch queue of the module. -/
  | launch (d : Reg) (a : Reg) (b : Reg) (c : Reg)
  /-- LWAIT (R306): Waits for a launch to retire. -/
  | lwait (d : Reg) (a : Reg) (b : Reg)
  /-- LCANCEL (R306): Cancels a launch and waits for it to retire. -/
  | lcancel (d : Reg) (a : Reg) (b : Reg)
deriving DecidableEq, Repr

end Sys2Proof
end

