-- ==== Sys2Proof/WellFormed.lean ====
section
/-! DEFINITION. Which terms of Instr stand for something the machine can meet: the fields of an instruction word that have reserved values (R4, R154, R157, R160, R220, R224, R229), and the units an event names (R1, R7, R13, R17, R34, R41). -/

namespace Sys2Proof

/-- The five levels S, C, D, M, G; codes 5 to 7 name no level (R2, R4). -/
def levelOk (l : BitVec 3) : Bool := l.toNat ≤ 4

/-- Memory formats 0 to 11; 12 to 15 are reserved (R157). -/
def fmtOk (f : BitVec 4) : Bool := f.toNat ≤ 11

/-- The nibble formats E2M1 and I4 (R220). -/
def fmtNibble (f : BitVec 4) : Bool := f.toNat == 5 || f.toNat == 8

/-- A format that a strided, indexed or segmented access may name (R157, R220). -/
def fmtByte (f : BitVec 4) : Bool := fmtOk f && !fmtNibble f

/-- The n registers of a segmented access end at v31 or below (R224). -/
def segOk (v : Reg) (n : Nat) : Bool := v.toNat + n ≤ 32

/-- A stream register v28 to v31 (R229). -/
def streamReg (v : Reg) : Bool := 28 ≤ v.toNat

/-- A module core number (R7). DESIGN CHOICE, log entry 59. -/
def coreOk (m : Nat) : Bool := m < 384

/-- A die number (R7). DESIGN CHOICE, log entry 59. -/
def dieOk (n : Nat) : Bool := n < 24

/-- A host link (R17). DESIGN CHOICE, log entry 59. -/
def linkOk (n : Nat) : Bool := n < 2

/-- A fabric port (R13). DESIGN CHOICE, log entry 59. -/
def portOk (n : Nat) : Bool := n < 48

/-- The operand checks of a term; `true` for a term with nothing to check. -/
def Instr.wf : Instr → Bool
  | .doorbellWrite link window => linkOk link && decide (window < 256)
  | .modnumWrite _ => true
  | .modctlReset failStep _ => decide (failStep ≤ 7)
  | .modctlFullstart failStep _ => decide (failStep ≤ 7)
  | .lattolWrite _ => true
  | .pwrcapWrite _ => true
  | .rtctlFlush => true
  | .hosterrWrite => true
  | .registerWrite link _ _ => linkOk link
  | .bar2HostWrite link _ _ => linkOk link
  | .bar2HostRead link _ _ => linkOk link
  | .configurationRequest link => linkOk link
  | .powerOnReset failStep _ => decide (failStep ≤ 7)
  | .hostLinkReset failStep _ => decide (failStep ≤ 7)
  | .startTimeout => true
  | .startRetry failStep _ => decide (failStep ≤ 7)
  | .powerAverageTick _ => true
  | .capIssueHold => true
  | .dieIdleEntry die => dieOk die
  | .dieWake die => dieOk die
  | .dieExitComplete die => dieOk die
  | .dieEntryFailure die => dieOk die
  | .dieExitFailure die => dieOk die
  | .hostLinkDown link => linkOk link
  | .flitCheckFail port => portOk port
  | .fabricPortRetrain port => portOk port
  | .fabricRetrainEnd port _ => portOk port
  | .lossNotice _ => true
  | .fabricReplyTimeout _ => true
  | .localCompletion _ => true
  | .routeEntryRead die target => dieOk die && decide (target < 262144)
  | .dclkwSynchronisation _ => true
  | .homeWrite _ _ => true
  | .homeRead _ _ _ _ => true
  | .loadReply _ => true
  | .outboundDrainTimeout core => coreOk core
  | .turnInvalidation core => coreOk core
  | .invalidationAck _ => true
  | .tableWalkComplete _ _ _ => true
  | .patrolScrub core _ => coreOk core
  | .harrierFill core channel _ => coreOk core && decide (channel < 8)
  | .copyRetire core channel => coreOk core && decide (channel < 8)
  | .barrierCredit _ => true
  | .putqEnqueue _ => true
  | .putqEnqueueExpiry _ => true
  | .parkedCopyRetry core channel => coreOk core && decide (channel < 8)
  | .parkedCopyDiscard core channel => coreOk core && decide (channel < 8)
  | .streamFill _ stream => decide (stream < 4)
  | .remoteGroupDelivery _ stream => decide (stream < 4)
  | .streamBudgetExpiry _ => true
  | .engineCommandRetire core => coreOk core
  | .tileStoreClearEnd core => coreOk core
  | .waitExpiry _ => true
  | .homeObjectOperation _ _ _ _ => true
  | .waiterWake _ => true
  | .waitCancellation _ => true
  | .barawWithdrawal _ => true
  | .waiterRefusalResend _ => true
  | .watermarkDeclaration _ => true
  | .watermarkRise _ => true
  | .dependenceHoldExpiry _ => true
  | .launchTake => true
  | .strandStart core => coreOk core
  | .launchRetire _ => true
  | .preemptionRequest core => coreOk core
  | .preemptionRequestArrival _ => true
  | .forcedPreemption _ => true
  | .saveComplete _ => true
  | .issueAging _ => true
  | .impreciseDelivery _ => true
  | .handlerWatchdog _ => true
  | .saveRestoreWatchdog _ => true
  | .trapRepeatWatchdog _ => true
  | .heartbeatWatchdog failStep _ => decide (failStep ≤ 7)
  | .relayRoundComplete _ slot => decide (slot < 256)
  | .parkedArrivalRetry _ => true
  | .dbgctlHalt core slot => coreOk core && decide (slot < 8)
  | .dbgctlStep core slot => coreOk core && decide (slot < 8)
  | .dbgctlFreeze core _ => coreOk core
  | .tenSet => true
  | .tenClear => true
  | .reservedEncoding _ => true
  | .instructionFetchFault _ _ => true
  | .hostLinkUp link => linkOk link
  | .dieStateEntryComplete die => dieOk die
  | .routeUpdate target _ => decide (target < 262144)
  | .lineMarker _ => true
  | .nop => true
  | .trap _ => true
  | .brk _ => true
  | .eret => true
  | .yield => true
  | .halt => true
  | .tlbinv _ _ => true
  | .tlbinvall => true
  | .add _ _ _ => true
  | .sub _ _ _ => true
  | .and _ _ _ => true
  | .or _ _ _ => true
  | .xor _ _ _ => true
  | .andn _ _ _ => true
  | .sll _ _ _ => true
  | .srl _ _ _ => true
  | .sra _ _ _ => true
  | .slt _ _ _ => true
  | .sltu _ _ _ => true
  | .min _ _ _ => true
  | .max _ _ _ => true
  | .minu _ _ _ => true
  | .maxu _ _ _ => true
  | .clz _ _ => true
  | .ctz _ _ => true
  | .popc _ _ => true
  | .rol _ _ _ => true
  | .ror _ _ _ => true
  | .sextw _ _ => true
  | .zextw _ _ => true
  | .cmov _ _ _ => true
  | .addi _ _ _ => true
  | .andi _ _ _ => true
  | .ori _ _ _ => true
  | .xori _ _ _ => true
  | .slti _ _ _ => true
  | .sltiu _ _ _ => true
  | .slli _ _ _ => true
  | .srli _ _ _ => true
  | .srai _ _ _ => true
  | .lui _ _ => true
  | .addpc _ _ => true
  | .mul _ _ _ => true
  | .mulh _ _ _ => true
  | .mulhu _ _ _ => true
  | .div _ _ _ => true
  | .divu _ _ _ => true
  | .rem _ _ _ => true
  | .remu _ _ _ => true
  | .lb _ _ _ => true
  | .lh _ _ _ => true
  | .lw _ _ _ => true
  | .ld _ _ _ => true
  | .lbu _ _ _ => true
  | .lhu _ _ _ => true
  | .lwu _ _ _ => true
  | .sb _ _ _ => true
  | .sh _ _ _ => true
  | .sw _ _ _ => true
  | .sd _ _ _ => true
  | .fadd _ _ _ => true
  | .fsub _ _ _ => true
  | .fmul _ _ _ => true
  | .fdiv _ _ _ => true
  | .fsqrt _ _ => true
  | .fmin _ _ _ => true
  | .fmax _ _ _ => true
  | .feq _ _ _ => true
  | .flt _ _ _ => true
  | .fle _ _ _ => true
  | .fcvtfi _ _ => true
  | .fcvtif _ _ => true
  | .fsgnj _ _ _ => true
  | .fneg _ _ => true
  | .fabs _ _ => true
  | .fclass _ _ => true
  | .fma _ _ _ _ => true
  | .fnma _ _ _ _ => true
  | .fms _ _ _ _ => true
  | .beq _ _ _ => true
  | .bne _ _ _ => true
  | .blt _ _ _ => true
  | .bge _ _ _ => true
  | .bltu _ _ _ => true
  | .bgeu _ _ _ => true
  | .jmp _ => true
  | .call _ => true
  | .jr _ => true
  | .callr _ => true
  | .csrr _ _ => true
  | .csrw _ _ _ => true
  | .csrs _ _ _ => true
  | .csrc _ _ _ => true
  | .csrwi _ _ _ => true
  | .setvl _ _ => true
  | .setvlmax _ => true
  | .settype _ _ => true
  | .settypei _ _ => true
  | .vfaddVv _ _ _ => true
  | .vfaddVx _ _ _ => true
  | .vfsubVv _ _ _ => true
  | .vfsubVx _ _ _ => true
  | .vfmulVv _ _ _ => true
  | .vfmulVx _ _ _ => true
  | .vfdivVv _ _ _ => true
  | .vfdivVx _ _ _ => true
  | .vfminVv _ _ _ => true
  | .vfminVx _ _ _ => true
  | .vfmaxVv _ _ _ => true
  | .vfmaxVx _ _ _ => true
  | .vfsqrt _ _ => true
  | .vfabs _ _ => true
  | .vfneg _ _ => true
  | .vfsgnjVv _ _ _ => true
  | .vfsgnjVx _ _ _ => true
  | .vfrsubVv _ _ _ => true
  | .vfrsubVx _ _ _ => true
  | .vfeqVv _ _ _ => true
  | .vfeqVx _ _ _ => true
  | .vfneVv _ _ _ => true
  | .vfneVx _ _ _ => true
  | .vfltVv _ _ _ => true
  | .vfltVx _ _ _ => true
  | .vfleVv _ _ _ => true
  | .vfleVx _ _ _ => true
  | .vfcvtFi _ _ => true
  | .vfcvtFiU _ _ => true
  | .vfcvtIf _ _ => true
  | .vfcvtIfU _ _ => true
  | .vfwiden _ _ => true
  | .vfnarrow _ _ => true
  | .vfma _ _ _ _ => true
  | .vfnma _ _ _ _ => true
  | .vfms _ _ _ _ => true
  | .vfmaVx _ _ _ _ => true
  | .vaddVv _ _ _ => true
  | .vaddVx _ _ _ => true
  | .vaddVi _ _ _ => true
  | .vaddSatVv _ _ _ => true
  | .vaddSatVx _ _ _ => true
  | .vaddSatVi _ _ _ => true
  | .vaddUsatVv _ _ _ => true
  | .vaddUsatVx _ _ _ => true
  | .vaddUsatVi _ _ _ => true
  | .vsubVv _ _ _ => true
  | .vsubVx _ _ _ => true
  | .vsubVi _ _ _ => true
  | .vsubSatVv _ _ _ => true
  | .vsubSatVx _ _ _ => true
  | .vsubSatVi _ _ _ => true
  | .vsubUsatVv _ _ _ => true
  | .vsubUsatVx _ _ _ => true
  | .vsubUsatVi _ _ _ => true
  | .vmulVv _ _ _ => true
  | .vmulVx _ _ _ => true
  | .vmulVi _ _ _ => true
  | .vmulhVv _ _ _ => true
  | .vmulhVx _ _ _ => true
  | .vmulhVi _ _ _ => true
  | .vmulhUVv _ _ _ => true
  | .vmulhUVx _ _ _ => true
  | .vmulhUVi _ _ _ => true
  | .vandVv _ _ _ => true
  | .vandVx _ _ _ => true
  | .vandVi _ _ _ => true
  | .vorVv _ _ _ => true
  | .vorVx _ _ _ => true
  | .vorVi _ _ _ => true
  | .vxorVv _ _ _ => true
  | .vxorVx _ _ _ => true
  | .vxorVi _ _ _ => true
  | .vsllVv _ _ _ => true
  | .vsllVx _ _ _ => true
  | .vsllVi _ _ _ => true
  | .vsrlVv _ _ _ => true
  | .vsrlVx _ _ _ => true
  | .vsrlVi _ _ _ => true
  | .vsraVv _ _ _ => true
  | .vsraVx _ _ _ => true
  | .vsraVi _ _ _ => true
  | .vminVv _ _ _ => true
  | .vminVx _ _ _ => true
  | .vminVi _ _ _ => true
  | .vmaxVv _ _ _ => true
  | .vmaxVx _ _ _ => true
  | .vmaxVi _ _ _ => true
  | .vminuVv _ _ _ => true
  | .vminuVx _ _ _ => true
  | .vminuVi _ _ _ => true
  | .vmaxuVv _ _ _ => true
  | .vmaxuVx _ _ _ => true
  | .vmaxuVi _ _ _ => true
  | .veqVv _ _ _ => true
  | .veqVx _ _ _ => true
  | .veqVi _ _ _ => true
  | .vneVv _ _ _ => true
  | .vneVx _ _ _ => true
  | .vneVi _ _ _ => true
  | .vltVv _ _ _ => true
  | .vltVx _ _ _ => true
  | .vltVi _ _ _ => true
  | .vltuVv _ _ _ => true
  | .vltuVx _ _ _ => true
  | .vltuVi _ _ _ => true
  | .vleVv _ _ _ => true
  | .vleVx _ _ _ => true
  | .vleVi _ _ _ => true
  | .vid _ => true
  | .vbcastVv _ _ => true
  | .vbcastVx _ _ => true
  | .vbcastVi _ _ => true
  | .vmergeVv _ _ _ => true
  | .vmergeVx _ _ _ => true
  | .vmergeVi _ _ _ => true
  | .vslideup _ _ _ _ => true
  | .vslidedn _ _ _ _ => true
  | .vgather _ _ _ _ => true
  | .vcompress _ _ => true
  | .vmvxs _ _ _ => true
  | .vmvsx _ _ _ => true
  | .vmand _ _ _ => true
  | .vmor _ _ _ => true
  | .vmxor _ _ _ => true
  | .vmnot _ _ => true
  | .vmcnt _ _ => true
  | .vmlead _ _ => true
  | .vmrank _ _ => true
  | .vfredsum _ _ => true
  | .vfredmax _ _ => true
  | .vfredmin _ _ => true
  | .vredsum _ _ => true
  | .vredmax _ _ => true
  | .vredmin _ _ => true
  | .vld _ _ _ f => fmtOk f
  | .vlds _ _ _ f => fmtByte f
  | .vldx _ _ _ f => fmtByte f
  | .vsegld2 v _ _ f => fmtByte f && segOk v 2
  | .vsegld3 v _ _ f => fmtByte f && segOk v 3
  | .vsegld4 v _ _ f => fmtByte f && segOk v 4
  | .vsegld5 v _ _ f => fmtByte f && segOk v 5
  | .vsegld6 v _ _ f => fmtByte f && segOk v 6
  | .vsegld7 v _ _ f => fmtByte f && segOk v 7
  | .vsegld8 v _ _ f => fmtByte f && segOk v 8
  | .vst _ _ _ f => fmtOk f
  | .vsts _ _ _ f => fmtByte f
  | .vstx _ _ _ f => fmtByte f
  | .vsegst2 v _ _ f => fmtByte f && segOk v 2
  | .vsegst3 v _ _ f => fmtByte f && segOk v 3
  | .vsegst4 v _ _ f => fmtByte f && segOk v 4
  | .vsegst5 v _ _ f => fmtByte f && segOk v 5
  | .vsegst6 v _ _ f => fmtByte f && segOk v 6
  | .vsegst7 v _ _ f => fmtByte f && segOk v 7
  | .vsegst8 v _ _ f => fmtByte f && segOk v 8
  | .plsta _ _ => true
  | .plstb _ _ => true
  | .plstbDpw8 _ _ => true
  | .vglk _ _ _ f => fmtOk f
  | .vscc _ _ _ f => fmtOk f
  | .vapnd _ _ _ => true
  | .sbind v _ => streamReg v
  | .sunbind v => streamReg v
  | .spos _ v => streamReg v
  | .turn _ _ _ _ l => levelOk l
  | .turnall _ _ l => levelOk l
  | .fence _ _ _ => true
  | .publish _ _ => true
  | .copy _ _ _ => true
  | .copyb _ _ _ _ => true
  | .putq _ _ _ _ => true
  | .settile _ _ _ => true
  | .tzero _ => true
  | .tmac _ _ _ _ => true
  | .tmacw _ _ _ _ => true
  | .tmovr _ _ _ => true
  | .tmovc _ _ _ => true
  | .tld _ _ _ => true
  | .tst _ _ _ => true
  | .tadd _ _ => true
  | .sigcfg _ _ _ => true
  | .siginit => true
  | .sigupd _ => true
  | .sigjoin _ => true
  | .sigjoinl _ => true
  | .siglog => true
  | .sigld _ => true
  | .sigst _ => true
  | .waitc _ _ _ _ _ _ => true
  | .waitw _ _ _ _ => true
  | .barw _ _ _ _ => true
  | .bara _ _ _ => true
  | .baraw _ _ _ => true
  | .barexp _ _ _ _ => true
  | .qsend _ _ _ _ => true
  | .qrecv _ _ _ _ => true
  | .taskadd _ _ _ _ => true
  | .tasktake _ _ _ _ => true
  | .tasksteal _ _ _ _ => true
  | .apwait _ _ _ _ => true
  | .cwait _ _ _ => true
  | .launch _ _ _ _ => true
  | .lwait _ _ _ => true
  | .lcancel _ _ _ => true

/-- The terms that are instruction words; the others are events of the module, which no word encodes. -/
def Instr.isWord : Instr → Bool
  | .doorbellWrite _ _ => false
  | .modnumWrite _ => false
  | .modctlReset _ _ => false
  | .modctlFullstart _ _ => false
  | .lattolWrite _ => false
  | .pwrcapWrite _ => false
  | .rtctlFlush => false
  | .hosterrWrite => false
  | .registerWrite _ _ _ => false
  | .bar2HostWrite _ _ _ => false
  | .bar2HostRead _ _ _ => false
  | .configurationRequest _ => false
  | .powerOnReset _ _ => false
  | .hostLinkReset _ _ => false
  | .startTimeout => false
  | .startRetry _ _ => false
  | .powerAverageTick _ => false
  | .capIssueHold => false
  | .dieIdleEntry _ => false
  | .dieWake _ => false
  | .dieExitComplete _ => false
  | .dieEntryFailure _ => false
  | .dieExitFailure _ => false
  | .hostLinkDown _ => false
  | .flitCheckFail _ => false
  | .fabricPortRetrain _ => false
  | .fabricRetrainEnd _ _ => false
  | .lossNotice _ => false
  | .fabricReplyTimeout _ => false
  | .localCompletion _ => false
  | .routeEntryRead _ _ => false
  | .dclkwSynchronisation _ => false
  | .homeWrite _ _ => false
  | .homeRead _ _ _ _ => false
  | .loadReply _ => false
  | .outboundDrainTimeout _ => false
  | .turnInvalidation _ => false
  | .invalidationAck _ => false
  | .tableWalkComplete _ _ _ => false
  | .patrolScrub _ _ => false
  | .harrierFill _ _ _ => false
  | .copyRetire _ _ => false
  | .barrierCredit _ => false
  | .putqEnqueue _ => false
  | .putqEnqueueExpiry _ => false
  | .parkedCopyRetry _ _ => false
  | .parkedCopyDiscard _ _ => false
  | .streamFill _ _ => false
  | .remoteGroupDelivery _ _ => false
  | .streamBudgetExpiry _ => false
  | .engineCommandRetire _ => false
  | .tileStoreClearEnd _ => false
  | .waitExpiry _ => false
  | .homeObjectOperation _ _ _ _ => false
  | .waiterWake _ => false
  | .waitCancellation _ => false
  | .barawWithdrawal _ => false
  | .waiterRefusalResend _ => false
  | .watermarkDeclaration _ => false
  | .watermarkRise _ => false
  | .dependenceHoldExpiry _ => false
  | .launchTake => false
  | .strandStart _ => false
  | .launchRetire _ => false
  | .preemptionRequest _ => false
  | .preemptionRequestArrival _ => false
  | .forcedPreemption _ => false
  | .saveComplete _ => false
  | .issueAging _ => false
  | .impreciseDelivery _ => false
  | .handlerWatchdog _ => false
  | .saveRestoreWatchdog _ => false
  | .trapRepeatWatchdog _ => false
  | .heartbeatWatchdog _ _ => false
  | .relayRoundComplete _ _ => false
  | .parkedArrivalRetry _ => false
  | .dbgctlHalt _ _ => false
  | .dbgctlStep _ _ => false
  | .dbgctlFreeze _ _ => false
  | .tenSet => false
  | .tenClear => false
  | .reservedEncoding _ => false
  | .instructionFetchFault _ _ => false
  | .hostLinkUp _ => false
  | .dieStateEntryComplete _ => false
  | .routeUpdate _ _ => false
  | .lineMarker _ => true
  | .nop => true
  | .trap _ => true
  | .brk _ => true
  | .eret => true
  | .yield => true
  | .halt => true
  | .tlbinv _ _ => true
  | .tlbinvall => true
  | .add _ _ _ => true
  | .sub _ _ _ => true
  | .and _ _ _ => true
  | .or _ _ _ => true
  | .xor _ _ _ => true
  | .andn _ _ _ => true
  | .sll _ _ _ => true
  | .srl _ _ _ => true
  | .sra _ _ _ => true
  | .slt _ _ _ => true
  | .sltu _ _ _ => true
  | .min _ _ _ => true
  | .max _ _ _ => true
  | .minu _ _ _ => true
  | .maxu _ _ _ => true
  | .clz _ _ => true
  | .ctz _ _ => true
  | .popc _ _ => true
  | .rol _ _ _ => true
  | .ror _ _ _ => true
  | .sextw _ _ => true
  | .zextw _ _ => true
  | .cmov _ _ _ => true
  | .addi _ _ _ => true
  | .andi _ _ _ => true
  | .ori _ _ _ => true
  | .xori _ _ _ => true
  | .slti _ _ _ => true
  | .sltiu _ _ _ => true
  | .slli _ _ _ => true
  | .srli _ _ _ => true
  | .srai _ _ _ => true
  | .lui _ _ => true
  | .addpc _ _ => true
  | .mul _ _ _ => true
  | .mulh _ _ _ => true
  | .mulhu _ _ _ => true
  | .div _ _ _ => true
  | .divu _ _ _ => true
  | .rem _ _ _ => true
  | .remu _ _ _ => true
  | .lb _ _ _ => true
  | .lh _ _ _ => true
  | .lw _ _ _ => true
  | .ld _ _ _ => true
  | .lbu _ _ _ => true
  | .lhu _ _ _ => true
  | .lwu _ _ _ => true
  | .sb _ _ _ => true
  | .sh _ _ _ => true
  | .sw _ _ _ => true
  | .sd _ _ _ => true
  | .fadd _ _ _ => true
  | .fsub _ _ _ => true
  | .fmul _ _ _ => true
  | .fdiv _ _ _ => true
  | .fsqrt _ _ => true
  | .fmin _ _ _ => true
  | .fmax _ _ _ => true
  | .feq _ _ _ => true
  | .flt _ _ _ => true
  | .fle _ _ _ => true
  | .fcvtfi _ _ => true
  | .fcvtif _ _ => true
  | .fsgnj _ _ _ => true
  | .fneg _ _ => true
  | .fabs _ _ => true
  | .fclass _ _ => true
  | .fma _ _ _ _ => true
  | .fnma _ _ _ _ => true
  | .fms _ _ _ _ => true
  | .beq _ _ _ => true
  | .bne _ _ _ => true
  | .blt _ _ _ => true
  | .bge _ _ _ => true
  | .bltu _ _ _ => true
  | .bgeu _ _ _ => true
  | .jmp _ => true
  | .call _ => true
  | .jr _ => true
  | .callr _ => true
  | .csrr _ _ => true
  | .csrw _ _ _ => true
  | .csrs _ _ _ => true
  | .csrc _ _ _ => true
  | .csrwi _ _ _ => true
  | .setvl _ _ => true
  | .setvlmax _ => true
  | .settype _ _ => true
  | .settypei _ _ => true
  | .vfaddVv _ _ _ => true
  | .vfaddVx _ _ _ => true
  | .vfsubVv _ _ _ => true
  | .vfsubVx _ _ _ => true
  | .vfmulVv _ _ _ => true
  | .vfmulVx _ _ _ => true
  | .vfdivVv _ _ _ => true
  | .vfdivVx _ _ _ => true
  | .vfminVv _ _ _ => true
  | .vfminVx _ _ _ => true
  | .vfmaxVv _ _ _ => true
  | .vfmaxVx _ _ _ => true
  | .vfsqrt _ _ => true
  | .vfabs _ _ => true
  | .vfneg _ _ => true
  | .vfsgnjVv _ _ _ => true
  | .vfsgnjVx _ _ _ => true
  | .vfrsubVv _ _ _ => true
  | .vfrsubVx _ _ _ => true
  | .vfeqVv _ _ _ => true
  | .vfeqVx _ _ _ => true
  | .vfneVv _ _ _ => true
  | .vfneVx _ _ _ => true
  | .vfltVv _ _ _ => true
  | .vfltVx _ _ _ => true
  | .vfleVv _ _ _ => true
  | .vfleVx _ _ _ => true
  | .vfcvtFi _ _ => true
  | .vfcvtFiU _ _ => true
  | .vfcvtIf _ _ => true
  | .vfcvtIfU _ _ => true
  | .vfwiden _ _ => true
  | .vfnarrow _ _ => true
  | .vfma _ _ _ _ => true
  | .vfnma _ _ _ _ => true
  | .vfms _ _ _ _ => true
  | .vfmaVx _ _ _ _ => true
  | .vaddVv _ _ _ => true
  | .vaddVx _ _ _ => true
  | .vaddVi _ _ _ => true
  | .vaddSatVv _ _ _ => true
  | .vaddSatVx _ _ _ => true
  | .vaddSatVi _ _ _ => true
  | .vaddUsatVv _ _ _ => true
  | .vaddUsatVx _ _ _ => true
  | .vaddUsatVi _ _ _ => true
  | .vsubVv _ _ _ => true
  | .vsubVx _ _ _ => true
  | .vsubVi _ _ _ => true
  | .vsubSatVv _ _ _ => true
  | .vsubSatVx _ _ _ => true
  | .vsubSatVi _ _ _ => true
  | .vsubUsatVv _ _ _ => true
  | .vsubUsatVx _ _ _ => true
  | .vsubUsatVi _ _ _ => true
  | .vmulVv _ _ _ => true
  | .vmulVx _ _ _ => true
  | .vmulVi _ _ _ => true
  | .vmulhVv _ _ _ => true
  | .vmulhVx _ _ _ => true
  | .vmulhVi _ _ _ => true
  | .vmulhUVv _ _ _ => true
  | .vmulhUVx _ _ _ => true
  | .vmulhUVi _ _ _ => true
  | .vandVv _ _ _ => true
  | .vandVx _ _ _ => true
  | .vandVi _ _ _ => true
  | .vorVv _ _ _ => true
  | .vorVx _ _ _ => true
  | .vorVi _ _ _ => true
  | .vxorVv _ _ _ => true
  | .vxorVx _ _ _ => true
  | .vxorVi _ _ _ => true
  | .vsllVv _ _ _ => true
  | .vsllVx _ _ _ => true
  | .vsllVi _ _ _ => true
  | .vsrlVv _ _ _ => true
  | .vsrlVx _ _ _ => true
  | .vsrlVi _ _ _ => true
  | .vsraVv _ _ _ => true
  | .vsraVx _ _ _ => true
  | .vsraVi _ _ _ => true
  | .vminVv _ _ _ => true
  | .vminVx _ _ _ => true
  | .vminVi _ _ _ => true
  | .vmaxVv _ _ _ => true
  | .vmaxVx _ _ _ => true
  | .vmaxVi _ _ _ => true
  | .vminuVv _ _ _ => true
  | .vminuVx _ _ _ => true
  | .vminuVi _ _ _ => true
  | .vmaxuVv _ _ _ => true
  | .vmaxuVx _ _ _ => true
  | .vmaxuVi _ _ _ => true
  | .veqVv _ _ _ => true
  | .veqVx _ _ _ => true
  | .veqVi _ _ _ => true
  | .vneVv _ _ _ => true
  | .vneVx _ _ _ => true
  | .vneVi _ _ _ => true
  | .vltVv _ _ _ => true
  | .vltVx _ _ _ => true
  | .vltVi _ _ _ => true
  | .vltuVv _ _ _ => true
  | .vltuVx _ _ _ => true
  | .vltuVi _ _ _ => true
  | .vleVv _ _ _ => true
  | .vleVx _ _ _ => true
  | .vleVi _ _ _ => true
  | .vid _ => true
  | .vbcastVv _ _ => true
  | .vbcastVx _ _ => true
  | .vbcastVi _ _ => true
  | .vmergeVv _ _ _ => true
  | .vmergeVx _ _ _ => true
  | .vmergeVi _ _ _ => true
  | .vslideup _ _ _ _ => true
  | .vslidedn _ _ _ _ => true
  | .vgather _ _ _ _ => true
  | .vcompress _ _ => true
  | .vmvxs _ _ _ => true
  | .vmvsx _ _ _ => true
  | .vmand _ _ _ => true
  | .vmor _ _ _ => true
  | .vmxor _ _ _ => true
  | .vmnot _ _ => true
  | .vmcnt _ _ => true
  | .vmlead _ _ => true
  | .vmrank _ _ => true
  | .vfredsum _ _ => true
  | .vfredmax _ _ => true
  | .vfredmin _ _ => true
  | .vredsum _ _ => true
  | .vredmax _ _ => true
  | .vredmin _ _ => true
  | .vld _ _ _ _ => true
  | .vlds _ _ _ _ => true
  | .vldx _ _ _ _ => true
  | .vsegld2 _ _ _ _ => true
  | .vsegld3 _ _ _ _ => true
  | .vsegld4 _ _ _ _ => true
  | .vsegld5 _ _ _ _ => true
  | .vsegld6 _ _ _ _ => true
  | .vsegld7 _ _ _ _ => true
  | .vsegld8 _ _ _ _ => true
  | .vst _ _ _ _ => true
  | .vsts _ _ _ _ => true
  | .vstx _ _ _ _ => true
  | .vsegst2 _ _ _ _ => true
  | .vsegst3 _ _ _ _ => true
  | .vsegst4 _ _ _ _ => true
  | .vsegst5 _ _ _ _ => true
  | .vsegst6 _ _ _ _ => true
  | .vsegst7 _ _ _ _ => true
  | .vsegst8 _ _ _ _ => true
  | .plsta _ _ => true
  | .plstb _ _ => true
  | .plstbDpw8 _ _ => true
  | .vglk _ _ _ _ => true
  | .vscc _ _ _ _ => true
  | .vapnd _ _ _ => true
  | .sbind _ _ => true
  | .sunbind _ => true
  | .spos _ _ => true
  | .turn _ _ _ _ _ => true
  | .turnall _ _ _ => true
  | .fence _ _ _ => true
  | .publish _ _ => true
  | .copy _ _ _ => true
  | .copyb _ _ _ _ => true
  | .putq _ _ _ _ => true
  | .settile _ _ _ => true
  | .tzero _ => true
  | .tmac _ _ _ _ => true
  | .tmacw _ _ _ _ => true
  | .tmovr _ _ _ => true
  | .tmovc _ _ _ => true
  | .tld _ _ _ => true
  | .tst _ _ _ => true
  | .tadd _ _ => true
  | .sigcfg _ _ _ => true
  | .siginit => true
  | .sigupd _ => true
  | .sigjoin _ => true
  | .sigjoinl _ => true
  | .siglog => true
  | .sigld _ => true
  | .sigst _ => true
  | .waitc _ _ _ _ _ _ => true
  | .waitw _ _ _ _ => true
  | .barw _ _ _ _ => true
  | .bara _ _ _ => true
  | .baraw _ _ _ => true
  | .barexp _ _ _ _ => true
  | .qsend _ _ _ _ => true
  | .qrecv _ _ _ _ => true
  | .taskadd _ _ _ _ => true
  | .tasktake _ _ _ _ => true
  | .tasksteal _ _ _ _ => true
  | .apwait _ _ _ _ => true
  | .cwait _ _ _ => true
  | .launch _ _ _ _ => true
  | .lwait _ _ _ => true
  | .lcancel _ _ _ => true

end Sys2Proof
end

