-- ==== Sys2Proof/Decode.lean ====
section
/-! DEFINITION. Decoding (R150 to R163): one 32-bit little-endian word to an instruction or a named refusal, and the encoder written from the same tables (R151, R154 to R162). -/

namespace Sys2Proof

/-- Why a word is no instruction (R161, R163 step 1); each is cause 0x001 when a strand issues it. -/
inductive DecodeError where
  | truncated           -- fewer than four bytes
  | markerBitZero       -- a line marker with bit 0 set (R166)
  | unassignedMajor     -- R161
  | unassignedMinor     -- R159, R160, R161: minor, mode, kind or variant not listed
  | nonzeroField        -- a field the entry does not use (R153)
  | reservedLevel       -- R4, R154
  | reservedFormat      -- R157, R160, R220, R242
  | reservedRegister    -- R153 accumulator, R224 segment end, R229 stream register
deriving DecidableEq, Repr

/-! ### The fields of R151 -/

/-- [31:26], the major opcode. -/
def fMajor (w : InsnWord) : BitVec 6 := w.extractLsb' 26 6
/-- [25:21]. -/
def fD (w : InsnWord) : Reg := w.extractLsb' 21 5
/-- [20:16]. -/
def fA (w : InsnWord) : Reg := w.extractLsb' 16 5
/-- [15:11]. -/
def fB (w : InsnWord) : Reg := w.extractLsb' 11 5
/-- [10:6], Q format. -/
def fC (w : InsnWord) : Reg := w.extractLsb' 6 5
/-- [10:5], R format minor. -/
def fMinorR (w : InsnWord) : BitVec 6 := w.extractLsb' 5 6
/-- [4:0], R format mod. -/
def fMod (w : InsnWord) : BitVec 5 := w.extractLsb' 0 5
/-- [5:0], Q format minor. -/
def fMinorQ (w : InsnWord) : BitVec 6 := w.extractLsb' 0 6
/-- [15:0]. -/
def fImm16 (w : InsnWord) : BitVec 16 := w.extractLsb' 0 16
/-- [15:13], M format size and B format condition. -/
def fSize (w : InsnWord) : BitVec 3 := w.extractLsb' 13 3
/-- [12:0]. -/
def fOff13 (w : InsnWord) : BitVec 13 := w.extractLsb' 0 13
/-- [25:0]. -/
def fOff26 (w : InsnWord) : BitVec 26 := w.extractLsb' 0 26
/-- [20:0]. -/
def fImm21 (w : InsnWord) : BitVec 21 := w.extractLsb' 0 21
/-- [15:4], C format. -/
def fCsr (w : InsnWord) : BitVec 12 := w.extractLsb' 4 12
/-- [3:0], C format op and VM format minor. -/
def fOp4 (w : InsnWord) : BitVec 4 := w.extractLsb' 0 4
/-- [10:0], V format minor, kind and variant. -/
def fSelV (w : InsnWord) : BitVec 11 := w.extractLsb' 0 11
/-- [10:7], VM format fmt. -/
def fFmt (w : InsnWord) : BitVec 4 := w.extractLsb' 7 4
/-- [6:0], VM format mode and minor. -/
def fSelVM (w : InsnWord) : BitVec 7 := w.extractLsb' 0 7

/-! ### The formats of R151, assembled -/

def mkR (op : BitVec 6) (d a b : Reg) (minor : BitVec 6) (mod : BitVec 5) : InsnWord := op ++ d ++ a ++ b ++ minor ++ mod
def mkQ (op : BitVec 6) (d a b c : Reg) (minor : BitVec 6) : InsnWord := op ++ d ++ a ++ b ++ c ++ minor
def mkI (op : BitVec 6) (d a : Reg) (imm : BitVec 16) : InsnWord := op ++ d ++ a ++ imm
def mkM (op : BitVec 6) (d a : Reg) (size : BitVec 3) (off : BitVec 13) : InsnWord := op ++ d ++ a ++ size ++ off
def mkL (op : BitVec 6) (off : BitVec 26) : InsnWord := op ++ off
def mkU (op : BitVec 6) (d : Reg) (imm : BitVec 21) : InsnWord := op ++ d ++ imm
def mkC (d a : Reg) (csr : BitVec 12) (op : BitVec 4) : InsnWord := 0x14#6 ++ d ++ a ++ csr ++ op
def mkV (op : BitVec 6) (d a b : Reg) (sel : BitVec 11) : InsnWord := op ++ d ++ a ++ b ++ sel
def mkVM (op : BitVec 6) (v a b : Reg) (fmt : BitVec 4) (sel : BitVec 7) : InsnWord := op ++ v ++ a ++ b ++ fmt ++ sel

/-- An accumulator as a 5-bit register field (R153). -/
def accField (a : Acc) : Reg := 0#1 ++ a
/-- The accumulator a 5-bit register field names, when it names one (R153). -/
def fieldAcc (r : Reg) : Acc := r.extractLsb' 0 4

/-- `i` when every field that must be zero is zero (R153), else the named refusal. -/
def keepIf (c : Bool) (e : DecodeError) (i : Instr) : Except DecodeError Instr := if c then .ok i else .error e

/-- `i` when its operand fields hold no reserved value, else the named refusal. -/
def keepWf (e : DecodeError) (i : Instr) : Except DecodeError Instr := if i.wf then .ok i else .error e

/-- Major 0x00 (R159). -/
def decodeSys (w : InsnWord) : Except DecodeError Instr :=
  if fD w = 31 ∧ fA w = 0 then keepIf ((w.extractLsb' 0 1) == 0) .markerBitZero (.lineMarker (w.extractLsb' 1 15))
  else
  match (fMinorR w).toNat with
  | 1 => keepIf (fD w == 0 && fA w == 0 && fB w == 0 && fMod w == 0) .nonzeroField .nop
  | 2 => keepIf (fD w == 0 && fA w == 0) .nonzeroField (.trap (fB w ++ fMod w))
  | 3 => keepIf (fD w == 0 && fA w == 0) .nonzeroField (.brk (fB w ++ fMod w))
  | 4 => keepIf (fD w == 0 && fA w == 0 && fB w == 0 && fMod w == 0) .nonzeroField .eret
  | 5 => keepIf (fD w == 0 && fA w == 0 && fB w == 0 && fMod w == 0) .nonzeroField .yield
  | 6 => keepIf (fD w == 0 && fA w == 0 && fB w == 0 && fMod w == 0) .nonzeroField .halt
  | 8 => keepIf (fD w == 0 && fMod w == 0) .nonzeroField (.tlbinv (fA w) (fB w))
  | 9 => keepIf (fD w == 0 && fA w == 0 && fB w == 0 && fMod w == 0) .nonzeroField .tlbinvall
  | _ => .error .unassignedMinor

/-- Major 0x01 (R159). -/
def decodeAlu (w : InsnWord) : Except DecodeError Instr :=
  match (fMinorR w).toNat with
  | 0 => keepIf (fMod w == 0) .nonzeroField (.add (fD w) (fA w) (fB w))
  | 1 => keepIf (fMod w == 0) .nonzeroField (.sub (fD w) (fA w) (fB w))
  | 2 => keepIf (fMod w == 0) .nonzeroField (.and (fD w) (fA w) (fB w))
  | 3 => keepIf (fMod w == 0) .nonzeroField (.or (fD w) (fA w) (fB w))
  | 4 => keepIf (fMod w == 0) .nonzeroField (.xor (fD w) (fA w) (fB w))
  | 5 => keepIf (fMod w == 0) .nonzeroField (.andn (fD w) (fA w) (fB w))
  | 6 => keepIf (fMod w == 0) .nonzeroField (.sll (fD w) (fA w) (fB w))
  | 7 => keepIf (fMod w == 0) .nonzeroField (.srl (fD w) (fA w) (fB w))
  | 8 => keepIf (fMod w == 0) .nonzeroField (.sra (fD w) (fA w) (fB w))
  | 9 => keepIf (fMod w == 0) .nonzeroField (.slt (fD w) (fA w) (fB w))
  | 10 => keepIf (fMod w == 0) .nonzeroField (.sltu (fD w) (fA w) (fB w))
  | 11 => keepIf (fMod w == 0) .nonzeroField (.min (fD w) (fA w) (fB w))
  | 12 => keepIf (fMod w == 0) .nonzeroField (.max (fD w) (fA w) (fB w))
  | 13 => keepIf (fMod w == 0) .nonzeroField (.minu (fD w) (fA w) (fB w))
  | 14 => keepIf (fMod w == 0) .nonzeroField (.maxu (fD w) (fA w) (fB w))
  | 15 => keepIf (fB w == 0 && fMod w == 0) .nonzeroField (.clz (fD w) (fA w))
  | 16 => keepIf (fB w == 0 && fMod w == 0) .nonzeroField (.ctz (fD w) (fA w))
  | 17 => keepIf (fB w == 0 && fMod w == 0) .nonzeroField (.popc (fD w) (fA w))
  | 18 => keepIf (fMod w == 0) .nonzeroField (.rol (fD w) (fA w) (fB w))
  | 19 => keepIf (fMod w == 0) .nonzeroField (.ror (fD w) (fA w) (fB w))
  | 20 => keepIf (fB w == 0 && fMod w == 0) .nonzeroField (.sextw (fD w) (fA w))
  | 21 => keepIf (fB w == 0 && fMod w == 0) .nonzeroField (.zextw (fD w) (fA w))
  | 22 => keepIf (fMod w == 0) .nonzeroField (.cmov (fD w) (fA w) (fB w))
  | _ => .error .unassignedMinor

/-- Major 0x08 (R159). -/
def decodeShift (w : InsnWord) : Except DecodeError Instr :=
  match ((fImm16 w).extractLsb' 6 10).toNat with
  | 0 => .ok (.slli (fD w) (fA w) ((fImm16 w).extractLsb' 0 6))
  | 1 => .ok (.srli (fD w) (fA w) ((fImm16 w).extractLsb' 0 6))
  | 2 => .ok (.srai (fD w) (fA w) ((fImm16 w).extractLsb' 0 6))
  | _ => .error .unassignedMinor

/-- Major 0x0B (R159). -/
def decodeMulDiv (w : InsnWord) : Except DecodeError Instr :=
  match (fMinorR w).toNat with
  | 0 => keepIf (fMod w == 0) .nonzeroField (.mul (fD w) (fA w) (fB w))
  | 1 => keepIf (fMod w == 0) .nonzeroField (.mulh (fD w) (fA w) (fB w))
  | 2 => keepIf (fMod w == 0) .nonzeroField (.mulhu (fD w) (fA w) (fB w))
  | 3 => keepIf (fMod w == 0) .nonzeroField (.div (fD w) (fA w) (fB w))
  | 4 => keepIf (fMod w == 0) .nonzeroField (.divu (fD w) (fA w) (fB w))
  | 5 => keepIf (fMod w == 0) .nonzeroField (.rem (fD w) (fA w) (fB w))
  | 6 => keepIf (fMod w == 0) .nonzeroField (.remu (fD w) (fA w) (fB w))
  | _ => .error .unassignedMinor

/-- Major 0x0C (R159). -/
def decodeLoad (w : InsnWord) : Except DecodeError Instr :=
  match (fSize w).toNat with
  | 0 => .ok (.lb (fD w) (fA w) (fOff13 w))
  | 1 => .ok (.lh (fD w) (fA w) (fOff13 w))
  | 2 => .ok (.lw (fD w) (fA w) (fOff13 w))
  | 3 => .ok (.ld (fD w) (fA w) (fOff13 w))
  | 4 => .ok (.lbu (fD w) (fA w) (fOff13 w))
  | 5 => .ok (.lhu (fD w) (fA w) (fOff13 w))
  | 6 => .ok (.lwu (fD w) (fA w) (fOff13 w))
  | _ => .error .unassignedMinor

/-- Major 0x0D (R159). -/
def decodeStore (w : InsnWord) : Except DecodeError Instr :=
  match (fSize w).toNat with
  | 0 => .ok (.sb (fD w) (fA w) (fOff13 w))
  | 1 => .ok (.sh (fD w) (fA w) (fOff13 w))
  | 2 => .ok (.sw (fD w) (fA w) (fOff13 w))
  | 3 => .ok (.sd (fD w) (fA w) (fOff13 w))
  | _ => .error .unassignedMinor

/-- Major 0x0E (R159). -/
def decodeFps (w : InsnWord) : Except DecodeError Instr :=
  match (fMinorR w).toNat with
  | 0 => keepIf (fMod w == 0) .nonzeroField (.fadd (fD w) (fA w) (fB w))
  | 1 => keepIf (fMod w == 0) .nonzeroField (.fsub (fD w) (fA w) (fB w))
  | 2 => keepIf (fMod w == 0) .nonzeroField (.fmul (fD w) (fA w) (fB w))
  | 3 => keepIf (fMod w == 0) .nonzeroField (.fdiv (fD w) (fA w) (fB w))
  | 4 => keepIf (fB w == 0 && fMod w == 0) .nonzeroField (.fsqrt (fD w) (fA w))
  | 5 => keepIf (fMod w == 0) .nonzeroField (.fmin (fD w) (fA w) (fB w))
  | 6 => keepIf (fMod w == 0) .nonzeroField (.fmax (fD w) (fA w) (fB w))
  | 7 => keepIf (fMod w == 0) .nonzeroField (.feq (fD w) (fA w) (fB w))
  | 8 => keepIf (fMod w == 0) .nonzeroField (.flt (fD w) (fA w) (fB w))
  | 9 => keepIf (fMod w == 0) .nonzeroField (.fle (fD w) (fA w) (fB w))
  | 10 => keepIf (fB w == 0 && fMod w == 0) .nonzeroField (.fcvtfi (fD w) (fA w))
  | 11 => keepIf (fB w == 0 && fMod w == 0) .nonzeroField (.fcvtif (fD w) (fA w))
  | 12 => keepIf (fMod w == 0) .nonzeroField (.fsgnj (fD w) (fA w) (fB w))
  | 13 => keepIf (fB w == 0 && fMod w == 0) .nonzeroField (.fneg (fD w) (fA w))
  | 14 => keepIf (fB w == 0 && fMod w == 0) .nonzeroField (.fabs (fD w) (fA w))
  | 15 => keepIf (fB w == 0 && fMod w == 0) .nonzeroField (.fclass (fD w) (fA w))
  | _ => .error .unassignedMinor

/-- Major 0x0F (R159). -/
def decodeFmas (w : InsnWord) : Except DecodeError Instr :=
  match (fMinorQ w).toNat with
  | 0 => .ok (.fma (fD w) (fA w) (fB w) (fC w))
  | 1 => .ok (.fnma (fD w) (fA w) (fB w) (fC w))
  | 2 => .ok (.fms (fD w) (fA w) (fB w) (fC w))
  | _ => .error .unassignedMinor

/-- Major 0x10 (R159). -/
def decodeBranch (w : InsnWord) : Except DecodeError Instr :=
  match (fSize w).toNat with
  | 0 => .ok (.beq (fD w) (fA w) (fOff13 w))
  | 1 => .ok (.bne (fD w) (fA w) (fOff13 w))
  | 2 => .ok (.blt (fD w) (fA w) (fOff13 w))
  | 3 => .ok (.bge (fD w) (fA w) (fOff13 w))
  | 4 => .ok (.bltu (fD w) (fA w) (fOff13 w))
  | 5 => .ok (.bgeu (fD w) (fA w) (fOff13 w))
  | _ => .error .unassignedMinor

/-- Major 0x13 (R159). -/
def decodeJr (w : InsnWord) : Except DecodeError Instr :=
  match (fMinorR w).toNat with
  | 0 => keepIf (fD w == 0 && fB w == 0 && fMod w == 0) .nonzeroField (.jr (fA w))
  | 1 => keepIf (fD w == 0 && fB w == 0 && fMod w == 0) .nonzeroField (.callr (fA w))
  | _ => .error .unassignedMinor

/-- Major 0x14 (R159). -/
def decodeCsr (w : InsnWord) : Except DecodeError Instr :=
  match (fOp4 w).toNat with
  | 0 => keepIf (fA w == 0) .nonzeroField (.csrr (fD w) (fCsr w))
  | 1 => .ok (.csrw (fD w) (fA w) (fCsr w))
  | 2 => .ok (.csrs (fD w) (fA w) (fCsr w))
  | 3 => .ok (.csrc (fD w) (fA w) (fCsr w))
  | 4 => .ok (.csrwi (fD w) (fA w) (fCsr w))
  | _ => .error .unassignedMinor

/-- Major 0x18 (R159). -/
def decodeVcfg (w : InsnWord) : Except DecodeError Instr :=
  match (fMinorR w).toNat with
  | 0 => keepIf (fB w == 0 && fMod w == 0) .nonzeroField (.setvl (fD w) (fA w))
  | 1 => keepIf (fA w == 0 && fB w == 0 && fMod w == 0) .nonzeroField (.setvlmax (fD w))
  | 2 => keepIf (fB w == 0 && fMod w == 0) .nonzeroField (.settype (fD w) (fA w))
  | 3 => keepIf (fA w == 0 && (fB w).extractLsb' 3 2 == 0) .nonzeroField (.settypei (fD w) ((fB w).extractLsb' 0 3 ++ fMod w))
  | _ => .error .unassignedMinor

/-- Major 0x19 (R159). -/
def decodeVf (w : InsnWord) : Except DecodeError Instr :=
  match (fSelV w).toNat with
  | 0 => .ok (.vfaddVv (fD w) (fA w) (fB w))
  | 4 => .ok (.vfaddVx (fD w) (fA w) (fB w))
  | 16 => .ok (.vfsubVv (fD w) (fA w) (fB w))
  | 20 => .ok (.vfsubVx (fD w) (fA w) (fB w))
  | 32 => .ok (.vfmulVv (fD w) (fA w) (fB w))
  | 36 => .ok (.vfmulVx (fD w) (fA w) (fB w))
  | 48 => .ok (.vfdivVv (fD w) (fA w) (fB w))
  | 52 => .ok (.vfdivVx (fD w) (fA w) (fB w))
  | 64 => .ok (.vfminVv (fD w) (fA w) (fB w))
  | 68 => .ok (.vfminVx (fD w) (fA w) (fB w))
  | 80 => .ok (.vfmaxVv (fD w) (fA w) (fB w))
  | 84 => .ok (.vfmaxVx (fD w) (fA w) (fB w))
  | 96 => keepIf (fB w == 0) .nonzeroField (.vfsqrt (fD w) (fA w))
  | 112 => keepIf (fB w == 0) .nonzeroField (.vfabs (fD w) (fA w))
  | 128 => keepIf (fB w == 0) .nonzeroField (.vfneg (fD w) (fA w))
  | 144 => .ok (.vfsgnjVv (fD w) (fA w) (fB w))
  | 148 => .ok (.vfsgnjVx (fD w) (fA w) (fB w))
  | 160 => .ok (.vfrsubVv (fD w) (fA w) (fB w))
  | 164 => .ok (.vfrsubVx (fD w) (fA w) (fB w))
  | 256 => .ok (.vfeqVv (fD w) (fA w) (fB w))
  | 260 => .ok (.vfeqVx (fD w) (fA w) (fB w))
  | 272 => .ok (.vfneVv (fD w) (fA w) (fB w))
  | 276 => .ok (.vfneVx (fD w) (fA w) (fB w))
  | 288 => .ok (.vfltVv (fD w) (fA w) (fB w))
  | 292 => .ok (.vfltVx (fD w) (fA w) (fB w))
  | 304 => .ok (.vfleVv (fD w) (fA w) (fB w))
  | 308 => .ok (.vfleVx (fD w) (fA w) (fB w))
  | 384 => keepIf (fB w == 0) .nonzeroField (.vfcvtFi (fD w) (fA w))
  | 385 => keepIf (fB w == 0) .nonzeroField (.vfcvtFiU (fD w) (fA w))
  | 400 => keepIf (fB w == 0) .nonzeroField (.vfcvtIf (fD w) (fA w))
  | 401 => keepIf (fB w == 0) .nonzeroField (.vfcvtIfU (fD w) (fA w))
  | 416 => keepIf (fB w == 0) .nonzeroField (.vfwiden (fD w) (fA w))
  | 432 => keepIf (fB w == 0) .nonzeroField (.vfnarrow (fD w) (fA w))
  | _ => .error .unassignedMinor

/-- Major 0x1A (R159). -/
def decodeVfm (w : InsnWord) : Except DecodeError Instr :=
  match (fMinorQ w).toNat with
  | 0 => .ok (.vfma (fD w) (fA w) (fB w) (fC w))
  | 1 => .ok (.vfnma (fD w) (fA w) (fB w) (fC w))
  | 2 => .ok (.vfms (fD w) (fA w) (fB w) (fC w))
  | 3 => .ok (.vfmaVx (fD w) (fA w) (fB w) (fC w))
  | _ => .error .unassignedMinor

/-- Major 0x1B (R159). -/
noncomputable def decodeVint (w : InsnWord) : Except DecodeError Instr :=
  match (fSelV w).toNat with
  | 0 => .ok (.vaddVv (fD w) (fA w) (fB w))
  | 4 => .ok (.vaddVx (fD w) (fA w) (fB w))
  | 8 => .ok (.vaddVi (fD w) (fA w) (fB w))
  | 1 => .ok (.vaddSatVv (fD w) (fA w) (fB w))
  | 5 => .ok (.vaddSatVx (fD w) (fA w) (fB w))
  | 9 => .ok (.vaddSatVi (fD w) (fA w) (fB w))
  | 2 => .ok (.vaddUsatVv (fD w) (fA w) (fB w))
  | 6 => .ok (.vaddUsatVx (fD w) (fA w) (fB w))
  | 10 => .ok (.vaddUsatVi (fD w) (fA w) (fB w))
  | 16 => .ok (.vsubVv (fD w) (fA w) (fB w))
  | 20 => .ok (.vsubVx (fD w) (fA w) (fB w))
  | 24 => .ok (.vsubVi (fD w) (fA w) (fB w))
  | 17 => .ok (.vsubSatVv (fD w) (fA w) (fB w))
  | 21 => .ok (.vsubSatVx (fD w) (fA w) (fB w))
  | 25 => .ok (.vsubSatVi (fD w) (fA w) (fB w))
  | 18 => .ok (.vsubUsatVv (fD w) (fA w) (fB w))
  | 22 => .ok (.vsubUsatVx (fD w) (fA w) (fB w))
  | 26 => .ok (.vsubUsatVi (fD w) (fA w) (fB w))
  | 32 => .ok (.vmulVv (fD w) (fA w) (fB w))
  | 36 => .ok (.vmulVx (fD w) (fA w) (fB w))
  | 40 => .ok (.vmulVi (fD w) (fA w) (fB w))
  | 48 => .ok (.vmulhVv (fD w) (fA w) (fB w))
  | 52 => .ok (.vmulhVx (fD w) (fA w) (fB w))
  | 56 => .ok (.vmulhVi (fD w) (fA w) (fB w))
  | 49 => .ok (.vmulhUVv (fD w) (fA w) (fB w))
  | 53 => .ok (.vmulhUVx (fD w) (fA w) (fB w))
  | 57 => .ok (.vmulhUVi (fD w) (fA w) (fB w))
  | 64 => .ok (.vandVv (fD w) (fA w) (fB w))
  | 68 => .ok (.vandVx (fD w) (fA w) (fB w))
  | 72 => .ok (.vandVi (fD w) (fA w) (fB w))
  | 80 => .ok (.vorVv (fD w) (fA w) (fB w))
  | 84 => .ok (.vorVx (fD w) (fA w) (fB w))
  | 88 => .ok (.vorVi (fD w) (fA w) (fB w))
  | 96 => .ok (.vxorVv (fD w) (fA w) (fB w))
  | 100 => .ok (.vxorVx (fD w) (fA w) (fB w))
  | 104 => .ok (.vxorVi (fD w) (fA w) (fB w))
  | 112 => .ok (.vsllVv (fD w) (fA w) (fB w))
  | 116 => .ok (.vsllVx (fD w) (fA w) (fB w))
  | 120 => .ok (.vsllVi (fD w) (fA w) (fB w))
  | 128 => .ok (.vsrlVv (fD w) (fA w) (fB w))
  | 132 => .ok (.vsrlVx (fD w) (fA w) (fB w))
  | 136 => .ok (.vsrlVi (fD w) (fA w) (fB w))
  | 144 => .ok (.vsraVv (fD w) (fA w) (fB w))
  | 148 => .ok (.vsraVx (fD w) (fA w) (fB w))
  | 152 => .ok (.vsraVi (fD w) (fA w) (fB w))
  | 160 => .ok (.vminVv (fD w) (fA w) (fB w))
  | 164 => .ok (.vminVx (fD w) (fA w) (fB w))
  | 168 => .ok (.vminVi (fD w) (fA w) (fB w))
  | 176 => .ok (.vmaxVv (fD w) (fA w) (fB w))
  | 180 => .ok (.vmaxVx (fD w) (fA w) (fB w))
  | 184 => .ok (.vmaxVi (fD w) (fA w) (fB w))
  | 192 => .ok (.vminuVv (fD w) (fA w) (fB w))
  | 196 => .ok (.vminuVx (fD w) (fA w) (fB w))
  | 200 => .ok (.vminuVi (fD w) (fA w) (fB w))
  | 208 => .ok (.vmaxuVv (fD w) (fA w) (fB w))
  | 212 => .ok (.vmaxuVx (fD w) (fA w) (fB w))
  | 216 => .ok (.vmaxuVi (fD w) (fA w) (fB w))
  | 256 => .ok (.veqVv (fD w) (fA w) (fB w))
  | 260 => .ok (.veqVx (fD w) (fA w) (fB w))
  | 264 => .ok (.veqVi (fD w) (fA w) (fB w))
  | 272 => .ok (.vneVv (fD w) (fA w) (fB w))
  | 276 => .ok (.vneVx (fD w) (fA w) (fB w))
  | 280 => .ok (.vneVi (fD w) (fA w) (fB w))
  | 288 => .ok (.vltVv (fD w) (fA w) (fB w))
  | 292 => .ok (.vltVx (fD w) (fA w) (fB w))
  | 296 => .ok (.vltVi (fD w) (fA w) (fB w))
  | 304 => .ok (.vltuVv (fD w) (fA w) (fB w))
  | 308 => .ok (.vltuVx (fD w) (fA w) (fB w))
  | 312 => .ok (.vltuVi (fD w) (fA w) (fB w))
  | 320 => .ok (.vleVv (fD w) (fA w) (fB w))
  | 324 => .ok (.vleVx (fD w) (fA w) (fB w))
  | 328 => .ok (.vleVi (fD w) (fA w) (fB w))
  | 384 => keepIf (fA w == 0 && fB w == 0) .nonzeroField (.vid (fD w))
  | 400 => keepIf (fA w == 0) .nonzeroField (.vbcastVv (fD w) (fB w))
  | 404 => keepIf (fA w == 0) .nonzeroField (.vbcastVx (fD w) (fB w))
  | 408 => keepIf (fA w == 0) .nonzeroField (.vbcastVi (fD w) (fB w))
  | 416 => .ok (.vmergeVv (fD w) (fA w) (fB w))
  | 420 => .ok (.vmergeVx (fD w) (fA w) (fB w))
  | 424 => .ok (.vmergeVi (fD w) (fA w) (fB w))
  | _ => .error .unassignedMinor

/-- Major 0x1C (R159). -/
noncomputable def decodeVperm (w : InsnWord) : Except DecodeError Instr :=
  match (fMinorQ w).toNat with
  | 0 => .ok (.vslideup (fD w) (fA w) (fB w) (fC w))
  | 1 => .ok (.vslidedn (fD w) (fA w) (fB w) (fC w))
  | 2 => .ok (.vgather (fD w) (fA w) (fB w) (fC w))
  | 3 => keepIf (fB w == 0 && fC w == 0) .nonzeroField (.vcompress (fD w) (fA w))
  | 4 => keepIf (fC w == 0) .nonzeroField (.vmvxs (fD w) (fA w) (fB w))
  | 5 => keepIf (fC w == 0) .nonzeroField (.vmvsx (fD w) (fA w) (fB w))
  | _ => .error .unassignedMinor

/-- Major 0x1D (R159). -/
noncomputable def decodeVmask (w : InsnWord) : Except DecodeError Instr :=
  match (fSelV w).toNat with
  | 0 => .ok (.vmand (fD w) (fA w) (fB w))
  | 16 => .ok (.vmor (fD w) (fA w) (fB w))
  | 32 => .ok (.vmxor (fD w) (fA w) (fB w))
  | 48 => keepIf (fB w == 0) .nonzeroField (.vmnot (fD w) (fA w))
  | 64 => keepIf (fB w == 0) .nonzeroField (.vmcnt (fD w) (fA w))
  | 80 => keepIf (fB w == 0) .nonzeroField (.vmlead (fD w) (fA w))
  | 96 => keepIf (fB w == 0) .nonzeroField (.vmrank (fD w) (fA w))
  | _ => .error .unassignedMinor

/-- Major 0x1E (R159). -/
noncomputable def decodeVred (w : InsnWord) : Except DecodeError Instr :=
  match (fSelV w).toNat with
  | 0 => keepIf (fB w == 0) .nonzeroField (.vfredsum (fD w) (fA w))
  | 16 => keepIf (fB w == 0) .nonzeroField (.vfredmax (fD w) (fA w))
  | 32 => keepIf (fB w == 0) .nonzeroField (.vfredmin (fD w) (fA w))
  | 48 => keepIf (fB w == 0) .nonzeroField (.vredsum (fD w) (fA w))
  | 64 => keepIf (fB w == 0) .nonzeroField (.vredmax (fD w) (fA w))
  | 80 => keepIf (fB w == 0) .nonzeroField (.vredmin (fD w) (fA w))
  | _ => .error .unassignedMinor

/-- Major 0x20 (R159). -/
noncomputable def decodeVload (w : InsnWord) : Except DecodeError Instr :=
  match (fSelVM w).toNat with
  | 0 => keepWf .reservedFormat (.vld (fD w) (fA w) (fB w) (fFmt w))
  | 16 => keepWf .reservedFormat (.vlds (fD w) (fA w) (fB w) (fFmt w))
  | 32 => keepWf .reservedFormat (.vldx (fD w) (fA w) (fB w) (fFmt w))
  | 48 => keepWf .reservedFormat (.vsegld2 (fD w) (fA w) (fB w) (fFmt w))
  | 49 => keepWf .reservedFormat (.vsegld3 (fD w) (fA w) (fB w) (fFmt w))
  | 50 => keepWf .reservedFormat (.vsegld4 (fD w) (fA w) (fB w) (fFmt w))
  | 51 => keepWf .reservedFormat (.vsegld5 (fD w) (fA w) (fB w) (fFmt w))
  | 52 => keepWf .reservedFormat (.vsegld6 (fD w) (fA w) (fB w) (fFmt w))
  | 53 => keepWf .reservedFormat (.vsegld7 (fD w) (fA w) (fB w) (fFmt w))
  | 54 => keepWf .reservedFormat (.vsegld8 (fD w) (fA w) (fB w) (fFmt w))
  | _ => .error .unassignedMinor

/-- Major 0x21 (R159). -/
noncomputable def decodeVstore (w : InsnWord) : Except DecodeError Instr :=
  match (fSelVM w).toNat with
  | 0 => keepWf .reservedFormat (.vst (fD w) (fA w) (fB w) (fFmt w))
  | 16 => keepWf .reservedFormat (.vsts (fD w) (fA w) (fB w) (fFmt w))
  | 32 => keepWf .reservedFormat (.vstx (fD w) (fA w) (fB w) (fFmt w))
  | 48 => keepWf .reservedFormat (.vsegst2 (fD w) (fA w) (fB w) (fFmt w))
  | 49 => keepWf .reservedFormat (.vsegst3 (fD w) (fA w) (fB w) (fFmt w))
  | 50 => keepWf .reservedFormat (.vsegst4 (fD w) (fA w) (fB w) (fFmt w))
  | 51 => keepWf .reservedFormat (.vsegst5 (fD w) (fA w) (fB w) (fFmt w))
  | 52 => keepWf .reservedFormat (.vsegst6 (fD w) (fA w) (fB w) (fFmt w))
  | 53 => keepWf .reservedFormat (.vsegst7 (fD w) (fA w) (fB w) (fFmt w))
  | 54 => keepWf .reservedFormat (.vsegst8 (fD w) (fA w) (fB w) (fFmt w))
  | 64 => keepIf (fFmt w == 0 && fB w == 0) .reservedFormat (.plsta (fD w) (fA w))
  | 80 => if fFmt w == 9 then keepIf (fFmt w == 9 && fB w == 0) .reservedFormat (.plstbDpw8 (fD w) (fA w)) else keepIf (fFmt w == 0 && fB w == 0) .reservedFormat (.plstb (fD w) (fA w))
  | _ => .error .unassignedMinor

/-- Major 0x22 (R159). -/
noncomputable def decodeVatom (w : InsnWord) : Except DecodeError Instr :=
  match (fSelVM w).toNat with
  | 32 => keepWf .reservedFormat (.vglk (fD w) (fA w) (fB w) (fFmt w))
  | 33 => keepWf .reservedFormat (.vscc (fD w) (fA w) (fB w) (fFmt w))
  | 2 => keepIf (fFmt w == 11) .reservedFormat (.vapnd (fD w) (fA w) (fB w))
  | _ => .error .unassignedMinor

/-- Major 0x23 (R159). -/
noncomputable def decodeStream (w : InsnWord) : Except DecodeError Instr :=
  match (fMinorR w).toNat with
  | 0 => if fB w == 0 && fMod w == 0 then keepWf .reservedRegister (.sbind (fD w) (fA w)) else .error .nonzeroField
  | 1 => if fA w == 0 && fB w == 0 && fMod w == 0 then keepWf .reservedRegister (.sunbind (fD w)) else .error .nonzeroField
  | 2 => if fB w == 0 && fMod w == 0 then keepWf .reservedRegister (.spos (fD w) (fA w)) else .error .nonzeroField
  | _ => .error .unassignedMinor

/-- Major 0x24 (R159). -/
noncomputable def decodeMemord (w : InsnWord) : Except DecodeError Instr :=
  match ((fMinorQ w).extractLsb' 3 3).toNat with
  | 0 => keepWf .reservedLevel (.turn (fD w) (fA w) (fB w) (fC w) ((fMinorQ w).extractLsb' 0 3))
  | 1 => if fA w == 0 && fB w == 0 then keepWf .reservedLevel (.turnall (fD w) (fC w) ((fMinorQ w).extractLsb' 0 3)) else .error .nonzeroField
  | 2 => keepIf (fB w == 0 && (fMinorQ w).extractLsb' 0 3 == 0) .nonzeroField (.fence (fD w) (fA w) (fC w))
  | 3 => keepIf (fA w == 0 && fB w == 0 && (fMinorQ w).extractLsb' 0 3 == 0) .nonzeroField (.publish (fD w) (fC w))
  | _ => .error .unassignedMinor

/-- Major 0x25 (R159). -/
noncomputable def decodeAsync (w : InsnWord) : Except DecodeError Instr :=
  match (fMinorQ w).toNat with
  | 0 => keepIf (fC w == 0) .nonzeroField (.copy (fD w) (fA w) (fB w))
  | 1 => .ok (.copyb (fD w) (fA w) (fB w) (fC w))
  | 2 => .ok (.putq (fD w) (fA w) (fB w) (fC w))
  | _ => .error .unassignedMinor

/-- Major 0x28 (R159). -/
noncomputable def decodeTile (w : InsnWord) : Except DecodeError Instr :=
  match (fMinorQ w).toNat with
  | 0 => keepIf (fD w == 0) .nonzeroField (.settile (fA w) (fB w) (fC w))
  | 1 => keepIf (fA w == 0 && fB w == 0 && fC w == 0 && (fD w).extractLsb' 4 1 == 0) .nonzeroField (.tzero (fieldAcc (fD w)))
  | 2 => keepIf ((fD w).extractLsb' 4 1 == 0) .nonzeroField (.tmac (fieldAcc (fD w)) (fA w) (fB w) (fC w))
  | 3 => keepIf ((fD w).extractLsb' 4 1 == 0) .nonzeroField (.tmacw (fieldAcc (fD w)) (fA w) (fB w) (fC w))
  | 4 => keepIf (fC w == 0 && (fD w).extractLsb' 4 1 == 0) .nonzeroField (.tmovr (fieldAcc (fD w)) (fA w) (fB w))
  | 5 => keepIf (fC w == 0 && (fD w).extractLsb' 4 1 == 0) .nonzeroField (.tmovc (fieldAcc (fD w)) (fA w) (fB w))
  | 6 => keepIf (fC w == 0 && (fD w).extractLsb' 4 1 == 0) .nonzeroField (.tld (fieldAcc (fD w)) (fA w) (fB w))
  | 7 => keepIf (fC w == 0 && (fD w).extractLsb' 4 1 == 0) .nonzeroField (.tst (fieldAcc (fD w)) (fA w) (fB w))
  | 8 => keepIf (fB w == 0 && fC w == 0 && (fA w).extractLsb' 4 1 == 0 && (fD w).extractLsb' 4 1 == 0) .nonzeroField (.tadd (fieldAcc (fD w)) (fieldAcc (fA w)))
  | _ => .error .unassignedMinor

/-- Major 0x29 (R159). -/
noncomputable def decodeSig (w : InsnWord) : Except DecodeError Instr :=
  match (fMinorQ w).toNat with
  | 0 => keepIf (fC w == 0) .nonzeroField (.sigcfg (fD w) (fA w) (fB w))
  | 1 => keepIf (fD w == 0 && fA w == 0 && fB w == 0 && fC w == 0) .nonzeroField .siginit
  | 2 => keepIf (fD w == 0 && fB w == 0 && fC w == 0) .nonzeroField (.sigupd (fA w))
  | 3 => keepIf (fD w == 0 && fB w == 0 && fC w == 0) .nonzeroField (.sigjoin (fA w))
  | 4 => keepIf (fD w == 0 && fB w == 0 && fC w == 0) .nonzeroField (.sigjoinl (fA w))
  | 5 => keepIf (fD w == 0 && fA w == 0 && fB w == 0 && fC w == 0) .nonzeroField .siglog
  | 6 => keepIf (fD w == 0 && fB w == 0 && fC w == 0) .nonzeroField (.sigld (fA w))
  | 7 => keepIf (fD w == 0 && fB w == 0 && fC w == 0) .nonzeroField (.sigst (fA w))
  | _ => .error .unassignedMinor

/-- Major 0x2D (R159). -/
noncomputable def decodeWaito (w : InsnWord) : Except DecodeError Instr :=
  match (fMinorQ w).toNat with
  | 0 => .ok (.waitw (fD w) (fA w) (fB w) (fC w))
  | 1 => .ok (.barw (fD w) (fA w) (fB w) (fC w))
  | 2 => keepIf (fC w == 0) .nonzeroField (.bara (fD w) (fA w) (fB w))
  | 3 => keepIf (fC w == 0) .nonzeroField (.baraw (fD w) (fA w) (fB w))
  | 4 => .ok (.barexp (fD w) (fA w) (fB w) (fC w))
  | 5 => .ok (.qsend (fD w) (fA w) (fB w) (fC w))
  | 6 => .ok (.qrecv (fD w) (fA w) (fB w) (fC w))
  | 7 => .ok (.taskadd (fD w) (fA w) (fB w) (fC w))
  | 8 => .ok (.tasktake (fD w) (fA w) (fB w) (fC w))
  | 9 => .ok (.tasksteal (fD w) (fA w) (fB w) (fC w))
  | 10 => .ok (.apwait (fD w) (fA w) (fB w) (fC w))
  | 11 => keepIf (fB w == 0) .nonzeroField (.cwait (fD w) (fA w) (fC w))
  | _ => .error .unassignedMinor

/-- Major 0x2E (R159). -/
noncomputable def decodeLaunch (w : InsnWord) : Except DecodeError Instr :=
  match (fMinorQ w).toNat with
  | 0 => .ok (.launch (fD w) (fA w) (fB w) (fC w))
  | 1 => keepIf (fC w == 0) .nonzeroField (.lwait (fD w) (fA w) (fB w))
  | 2 => keepIf (fC w == 0) .nonzeroField (.lcancel (fD w) (fA w) (fB w))
  | _ => .error .unassignedMinor

/-- The decoder of a whole word: decode checks of R163 step 1. -/
noncomputable def decodeWord (w : InsnWord) : Except DecodeError Instr :=
  match (fMajor w).toNat with
  | 0x00 => decodeSys w
  | 0x01 => decodeAlu w
  | 0x02 => .ok (.addi (fD w) (fA w) (fImm16 w))
  | 0x03 => .ok (.andi (fD w) (fA w) (fImm16 w))
  | 0x04 => .ok (.ori (fD w) (fA w) (fImm16 w))
  | 0x05 => .ok (.xori (fD w) (fA w) (fImm16 w))
  | 0x06 => .ok (.slti (fD w) (fA w) (fImm16 w))
  | 0x07 => .ok (.sltiu (fD w) (fA w) (fImm16 w))
  | 0x08 => decodeShift w
  | 0x09 => .ok (.lui (fD w) (fImm21 w))
  | 0x0A => .ok (.addpc (fD w) (fImm21 w))
  | 0x0B => decodeMulDiv w
  | 0x0C => decodeLoad w
  | 0x0D => decodeStore w
  | 0x0E => decodeFps w
  | 0x0F => decodeFmas w
  | 0x10 => decodeBranch w
  | 0x11 => .ok (.jmp (fOff26 w))
  | 0x12 => .ok (.call (fOff26 w))
  | 0x13 => decodeJr w
  | 0x14 => decodeCsr w
  | 0x18 => decodeVcfg w
  | 0x19 => decodeVf w
  | 0x1A => decodeVfm w
  | 0x1B => decodeVint w
  | 0x1C => decodeVperm w
  | 0x1D => decodeVmask w
  | 0x1E => decodeVred w
  | 0x20 => decodeVload w
  | 0x21 => decodeVstore w
  | 0x22 => decodeVatom w
  | 0x23 => decodeStream w
  | 0x24 => decodeMemord w
  | 0x25 => decodeAsync w
  | 0x28 => decodeTile w
  | 0x29 => decodeSig w
  | 0x2C => .ok (.waitc (fD w) (fA w) ((fImm16 w).extractLsb' 12 4) ((fImm16 w).extractLsb' 8 4) ((fImm16 w).extractLsb' 4 4) ((fImm16 w).extractLsb' 0 4))
  | 0x2D => decodeWaito w
  | 0x2E => decodeLaunch w
  | _ => .error .unassignedMajor

/-- A word from its four bytes, the first at the lowest address (R5). -/
def wordOfBytes (b0 b1 b2 b3 : Byte) : InsnWord := b3 ++ b2 ++ b1 ++ b0

/-- The four bytes of a word, the first at the lowest address (R5). -/
def bytesOfWord (w : InsnWord) : List Byte :=
  [w.extractLsb' 0 8, w.extractLsb' 8 8, w.extractLsb' 16 8, w.extractLsb' 24 8]

/-- The decoder over bytes: one instruction and the bytes after it, or a named refusal. -/
noncomputable def decode : List Byte → Except DecodeError (Instr × List Byte)
  | b0 :: b1 :: b2 :: b3 :: rest =>
    match decodeWord (wordOfBytes b0 b1 b2 b3) with
    | .ok i => .ok (i, rest)
    | .error e => .error e
  | _ => .error .truncated

/-- The word of an instruction (R151 to R162); 0, which is no instruction (R161), for an event. -/
def encode : Instr → InsnWord
  | .lineMarker m => 0x03E0#16 ++ m ++ 0#1
  | .nop => mkR 0x00 0 0 0 1 0
  | .trap code => mkR 0x00 0 0 (code.extractLsb' 5 5) 2 (code.extractLsb' 0 5)
  | .brk code => mkR 0x00 0 0 (code.extractLsb' 5 5) 3 (code.extractLsb' 0 5)
  | .eret => mkR 0x00 0 0 0 4 0
  | .yield => mkR 0x00 0 0 0 5 0
  | .halt => mkR 0x00 0 0 0 6 0
  | .tlbinv a b => mkR 0x00 0 a b 8 0
  | .tlbinvall => mkR 0x00 0 0 0 9 0
  | .add d a b => mkR 0x01 d a b 0 0
  | .sub d a b => mkR 0x01 d a b 1 0
  | .and d a b => mkR 0x01 d a b 2 0
  | .or d a b => mkR 0x01 d a b 3 0
  | .xor d a b => mkR 0x01 d a b 4 0
  | .andn d a b => mkR 0x01 d a b 5 0
  | .sll d a b => mkR 0x01 d a b 6 0
  | .srl d a b => mkR 0x01 d a b 7 0
  | .sra d a b => mkR 0x01 d a b 8 0
  | .slt d a b => mkR 0x01 d a b 9 0
  | .sltu d a b => mkR 0x01 d a b 10 0
  | .min d a b => mkR 0x01 d a b 11 0
  | .max d a b => mkR 0x01 d a b 12 0
  | .minu d a b => mkR 0x01 d a b 13 0
  | .maxu d a b => mkR 0x01 d a b 14 0
  | .clz d a => mkR 0x01 d a 0 15 0
  | .ctz d a => mkR 0x01 d a 0 16 0
  | .popc d a => mkR 0x01 d a 0 17 0
  | .rol d a b => mkR 0x01 d a b 18 0
  | .ror d a b => mkR 0x01 d a b 19 0
  | .sextw d a => mkR 0x01 d a 0 20 0
  | .zextw d a => mkR 0x01 d a 0 21 0
  | .cmov d a b => mkR 0x01 d a b 22 0
  | .addi d a i => mkI 0x02 d a i
  | .andi d a i => mkI 0x03 d a i
  | .ori d a i => mkI 0x04 d a i
  | .xori d a i => mkI 0x05 d a i
  | .slti d a i => mkI 0x06 d a i
  | .sltiu d a i => mkI 0x07 d a i
  | .slli d a s => mkI 0x08 d a (0#10 ++ s)
  | .srli d a s => mkI 0x08 d a (1#10 ++ s)
  | .srai d a s => mkI 0x08 d a (2#10 ++ s)
  | .lui d i => mkU 0x09 d i
  | .addpc d i => mkU 0x0A d i
  | .mul d a b => mkR 0x0B d a b 0 0
  | .mulh d a b => mkR 0x0B d a b 1 0
  | .mulhu d a b => mkR 0x0B d a b 2 0
  | .div d a b => mkR 0x0B d a b 3 0
  | .divu d a b => mkR 0x0B d a b 4 0
  | .rem d a b => mkR 0x0B d a b 5 0
  | .remu d a b => mkR 0x0B d a b 6 0
  | .lb d a o => mkM 0x0C d a 0 o
  | .lh d a o => mkM 0x0C d a 1 o
  | .lw d a o => mkM 0x0C d a 2 o
  | .ld d a o => mkM 0x0C d a 3 o
  | .lbu d a o => mkM 0x0C d a 4 o
  | .lhu d a o => mkM 0x0C d a 5 o
  | .lwu d a o => mkM 0x0C d a 6 o
  | .sb t a o => mkM 0x0D t a 0 o
  | .sh t a o => mkM 0x0D t a 1 o
  | .sw t a o => mkM 0x0D t a 2 o
  | .sd t a o => mkM 0x0D t a 3 o
  | .fadd d a b => mkR 0x0E d a b 0 0
  | .fsub d a b => mkR 0x0E d a b 1 0
  | .fmul d a b => mkR 0x0E d a b 2 0
  | .fdiv d a b => mkR 0x0E d a b 3 0
  | .fsqrt d a => mkR 0x0E d a 0 4 0
  | .fmin d a b => mkR 0x0E d a b 5 0
  | .fmax d a b => mkR 0x0E d a b 6 0
  | .feq d a b => mkR 0x0E d a b 7 0
  | .flt d a b => mkR 0x0E d a b 8 0
  | .fle d a b => mkR 0x0E d a b 9 0
  | .fcvtfi d a => mkR 0x0E d a 0 10 0
  | .fcvtif d a => mkR 0x0E d a 0 11 0
  | .fsgnj d a b => mkR 0x0E d a b 12 0
  | .fneg d a => mkR 0x0E d a 0 13 0
  | .fabs d a => mkR 0x0E d a 0 14 0
  | .fclass d a => mkR 0x0E d a 0 15 0
  | .fma d a b c => mkQ 0x0F d a b c 0
  | .fnma d a b c => mkQ 0x0F d a b c 1
  | .fms d a b c => mkQ 0x0F d a b c 2
  | .beq a b o => mkM 0x10 a b 0 o
  | .bne a b o => mkM 0x10 a b 1 o
  | .blt a b o => mkM 0x10 a b 2 o
  | .bge a b o => mkM 0x10 a b 3 o
  | .bltu a b o => mkM 0x10 a b 4 o
  | .bgeu a b o => mkM 0x10 a b 5 o
  | .jmp o => mkL 0x11 o
  | .call o => mkL 0x12 o
  | .jr a => mkR 0x13 0 a 0 0 0
  | .callr a => mkR 0x13 0 a 0 1 0
  | .csrr d c => mkC d 0 c 0
  | .csrw d a c => mkC d a c 1
  | .csrs d a c => mkC d a c 2
  | .csrc d a c => mkC d a c 3
  | .csrwi d i c => mkC d i c 4
  | .setvl d a => mkR 0x18 d a 0 0 0
  | .setvlmax d => mkR 0x18 d 0 0 1 0
  | .settype d a => mkR 0x18 d a 0 2 0
  | .settypei d imm => mkR 0x18 d 0 (0#2 ++ imm.extractLsb' 5 3) 3 (imm.extractLsb' 0 5)
  | .vfaddVv d a b => mkV 0x19 d a b 0x0
  | .vfaddVx d a x => mkV 0x19 d a x 0x4
  | .vfsubVv d a b => mkV 0x19 d a b 0x10
  | .vfsubVx d a x => mkV 0x19 d a x 0x14
  | .vfmulVv d a b => mkV 0x19 d a b 0x20
  | .vfmulVx d a x => mkV 0x19 d a x 0x24
  | .vfdivVv d a b => mkV 0x19 d a b 0x30
  | .vfdivVx d a x => mkV 0x19 d a x 0x34
  | .vfminVv d a b => mkV 0x19 d a b 0x40
  | .vfminVx d a x => mkV 0x19 d a x 0x44
  | .vfmaxVv d a b => mkV 0x19 d a b 0x50
  | .vfmaxVx d a x => mkV 0x19 d a x 0x54
  | .vfsqrt d a => mkV 0x19 d a 0 0x60
  | .vfabs d a => mkV 0x19 d a 0 0x70
  | .vfneg d a => mkV 0x19 d a 0 0x80
  | .vfsgnjVv d a b => mkV 0x19 d a b 0x90
  | .vfsgnjVx d a x => mkV 0x19 d a x 0x94
  | .vfrsubVv d a b => mkV 0x19 d a b 0xA0
  | .vfrsubVx d a x => mkV 0x19 d a x 0xA4
  | .vfeqVv d a b => mkV 0x19 d a b 0x100
  | .vfeqVx d a x => mkV 0x19 d a x 0x104
  | .vfneVv d a b => mkV 0x19 d a b 0x110
  | .vfneVx d a x => mkV 0x19 d a x 0x114
  | .vfltVv d a b => mkV 0x19 d a b 0x120
  | .vfltVx d a x => mkV 0x19 d a x 0x124
  | .vfleVv d a b => mkV 0x19 d a b 0x130
  | .vfleVx d a x => mkV 0x19 d a x 0x134
  | .vfcvtFi d a => mkV 0x19 d a 0 0x180
  | .vfcvtFiU d a => mkV 0x19 d a 0 0x181
  | .vfcvtIf d a => mkV 0x19 d a 0 0x190
  | .vfcvtIfU d a => mkV 0x19 d a 0 0x191
  | .vfwiden d a => mkV 0x19 d a 0 0x1A0
  | .vfnarrow d a => mkV 0x19 d a 0 0x1B0
  | .vfma d a b c => mkQ 0x1A d a b c 0
  | .vfnma d a b c => mkQ 0x1A d a b c 1
  | .vfms d a b c => mkQ 0x1A d a b c 2
  | .vfmaVx d a x c => mkQ 0x1A d a x c 3
  | .vaddVv d a b => mkV 0x1B d a b 0x0
  | .vaddVx d a x => mkV 0x1B d a x 0x4
  | .vaddVi d a i => mkV 0x1B d a i 0x8
  | .vaddSatVv d a b => mkV 0x1B d a b 0x1
  | .vaddSatVx d a x => mkV 0x1B d a x 0x5
  | .vaddSatVi d a i => mkV 0x1B d a i 0x9
  | .vaddUsatVv d a b => mkV 0x1B d a b 0x2
  | .vaddUsatVx d a x => mkV 0x1B d a x 0x6
  | .vaddUsatVi d a i => mkV 0x1B d a i 0xA
  | .vsubVv d a b => mkV 0x1B d a b 0x10
  | .vsubVx d a x => mkV 0x1B d a x 0x14
  | .vsubVi d a i => mkV 0x1B d a i 0x18
  | .vsubSatVv d a b => mkV 0x1B d a b 0x11
  | .vsubSatVx d a x => mkV 0x1B d a x 0x15
  | .vsubSatVi d a i => mkV 0x1B d a i 0x19
  | .vsubUsatVv d a b => mkV 0x1B d a b 0x12
  | .vsubUsatVx d a x => mkV 0x1B d a x 0x16
  | .vsubUsatVi d a i => mkV 0x1B d a i 0x1A
  | .vmulVv d a b => mkV 0x1B d a b 0x20
  | .vmulVx d a x => mkV 0x1B d a x 0x24
  | .vmulVi d a i => mkV 0x1B d a i 0x28
  | .vmulhVv d a b => mkV 0x1B d a b 0x30
  | .vmulhVx d a x => mkV 0x1B d a x 0x34
  | .vmulhVi d a i => mkV 0x1B d a i 0x38
  | .vmulhUVv d a b => mkV 0x1B d a b 0x31
  | .vmulhUVx d a x => mkV 0x1B d a x 0x35
  | .vmulhUVi d a i => mkV 0x1B d a i 0x39
  | .vandVv d a b => mkV 0x1B d a b 0x40
  | .vandVx d a x => mkV 0x1B d a x 0x44
  | .vandVi d a i => mkV 0x1B d a i 0x48
  | .vorVv d a b => mkV 0x1B d a b 0x50
  | .vorVx d a x => mkV 0x1B d a x 0x54
  | .vorVi d a i => mkV 0x1B d a i 0x58
  | .vxorVv d a b => mkV 0x1B d a b 0x60
  | .vxorVx d a x => mkV 0x1B d a x 0x64
  | .vxorVi d a i => mkV 0x1B d a i 0x68
  | .vsllVv d a b => mkV 0x1B d a b 0x70
  | .vsllVx d a x => mkV 0x1B d a x 0x74
  | .vsllVi d a i => mkV 0x1B d a i 0x78
  | .vsrlVv d a b => mkV 0x1B d a b 0x80
  | .vsrlVx d a x => mkV 0x1B d a x 0x84
  | .vsrlVi d a i => mkV 0x1B d a i 0x88
  | .vsraVv d a b => mkV 0x1B d a b 0x90
  | .vsraVx d a x => mkV 0x1B d a x 0x94
  | .vsraVi d a i => mkV 0x1B d a i 0x98
  | .vminVv d a b => mkV 0x1B d a b 0xA0
  | .vminVx d a x => mkV 0x1B d a x 0xA4
  | .vminVi d a i => mkV 0x1B d a i 0xA8
  | .vmaxVv d a b => mkV 0x1B d a b 0xB0
  | .vmaxVx d a x => mkV 0x1B d a x 0xB4
  | .vmaxVi d a i => mkV 0x1B d a i 0xB8
  | .vminuVv d a b => mkV 0x1B d a b 0xC0
  | .vminuVx d a x => mkV 0x1B d a x 0xC4
  | .vminuVi d a i => mkV 0x1B d a i 0xC8
  | .vmaxuVv d a b => mkV 0x1B d a b 0xD0
  | .vmaxuVx d a x => mkV 0x1B d a x 0xD4
  | .vmaxuVi d a i => mkV 0x1B d a i 0xD8
  | .veqVv d a b => mkV 0x1B d a b 0x100
  | .veqVx d a x => mkV 0x1B d a x 0x104
  | .veqVi d a i => mkV 0x1B d a i 0x108
  | .vneVv d a b => mkV 0x1B d a b 0x110
  | .vneVx d a x => mkV 0x1B d a x 0x114
  | .vneVi d a i => mkV 0x1B d a i 0x118
  | .vltVv d a b => mkV 0x1B d a b 0x120
  | .vltVx d a x => mkV 0x1B d a x 0x124
  | .vltVi d a i => mkV 0x1B d a i 0x128
  | .vltuVv d a b => mkV 0x1B d a b 0x130
  | .vltuVx d a x => mkV 0x1B d a x 0x134
  | .vltuVi d a i => mkV 0x1B d a i 0x138
  | .vleVv d a b => mkV 0x1B d a b 0x140
  | .vleVx d a x => mkV 0x1B d a x 0x144
  | .vleVi d a i => mkV 0x1B d a i 0x148
  | .vid d => mkV 0x1B d 0 0 0x180
  | .vbcastVv d b => mkV 0x1B d 0 b 0x190
  | .vbcastVx d x => mkV 0x1B d 0 x 0x194
  | .vbcastVi d i => mkV 0x1B d 0 i 0x198
  | .vmergeVv d a b => mkV 0x1B d a b 0x1A0
  | .vmergeVx d a x => mkV 0x1B d a x 0x1A4
  | .vmergeVi d a i => mkV 0x1B d a i 0x1A8
  | .vslideup d a b c => mkQ 0x1C d a b c 0
  | .vslidedn d a b c => mkQ 0x1C d a b c 1
  | .vgather d a b c => mkQ 0x1C d a b c 2
  | .vcompress d a => mkQ 0x1C d a 0 0 3
  | .vmvxs d a b => mkQ 0x1C d a b 0 4
  | .vmvsx d a b => mkQ 0x1C d a b 0 5
  | .vmand d a b => mkV 0x1D d a b 0x0
  | .vmor d a b => mkV 0x1D d a b 0x10
  | .vmxor d a b => mkV 0x1D d a b 0x20
  | .vmnot d a => mkV 0x1D d a 0 0x30
  | .vmcnt d a => mkV 0x1D d a 0 0x40
  | .vmlead d a => mkV 0x1D d a 0 0x50
  | .vmrank d a => mkV 0x1D d a 0 0x60
  | .vfredsum d a => mkV 0x1E d a 0 0x0
  | .vfredmax d a => mkV 0x1E d a 0 0x10
  | .vfredmin d a => mkV 0x1E d a 0 0x20
  | .vredsum d a => mkV 0x1E d a 0 0x30
  | .vredmax d a => mkV 0x1E d a 0 0x40
  | .vredmin d a => mkV 0x1E d a 0 0x50
  | .vld v a b f => mkVM 0x20 v a b f 0x00
  | .vlds v a b f => mkVM 0x20 v a b f 0x10
  | .vldx v a b f => mkVM 0x20 v a b f 0x20
  | .vsegld2 v a b f => mkVM 0x20 v a b f 0x30
  | .vsegld3 v a b f => mkVM 0x20 v a b f 0x31
  | .vsegld4 v a b f => mkVM 0x20 v a b f 0x32
  | .vsegld5 v a b f => mkVM 0x20 v a b f 0x33
  | .vsegld6 v a b f => mkVM 0x20 v a b f 0x34
  | .vsegld7 v a b f => mkVM 0x20 v a b f 0x35
  | .vsegld8 v a b f => mkVM 0x20 v a b f 0x36
  | .vst v a b f => mkVM 0x21 v a b f 0x00
  | .vsts v a b f => mkVM 0x21 v a b f 0x10
  | .vstx v a b f => mkVM 0x21 v a b f 0x20
  | .vsegst2 v a b f => mkVM 0x21 v a b f 0x30
  | .vsegst3 v a b f => mkVM 0x21 v a b f 0x31
  | .vsegst4 v a b f => mkVM 0x21 v a b f 0x32
  | .vsegst5 v a b f => mkVM 0x21 v a b f 0x33
  | .vsegst6 v a b f => mkVM 0x21 v a b f 0x34
  | .vsegst7 v a b f => mkVM 0x21 v a b f 0x35
  | .vsegst8 v a b f => mkVM 0x21 v a b f 0x36
  | .plsta v a => mkVM 0x21 v a 0 0 0x40
  | .plstb v a => mkVM 0x21 v a 0 0 0x50
  | .plstbDpw8 v a => mkVM 0x21 v a 0 9 0x50
  | .vglk v a b f => mkVM 0x22 v a b f 0x20
  | .vscc v a b f => mkVM 0x22 v a b f 0x21
  | .vapnd d a b => mkVM 0x22 d a b 11 0x02
  | .sbind v a => mkR 0x23 v a 0 0 0
  | .sunbind v => mkR 0x23 v 0 0 1 0
  | .spos d v => mkR 0x23 d v 0 2 0
  | .turn d a b c l => mkQ 0x24 d a b c ((0 : BitVec 3) ++ l)
  | .turnall d c l => mkQ 0x24 d 0 0 c ((1 : BitVec 3) ++ l)
  | .fence d a c => mkQ 0x24 d a 0 c 16
  | .publish d c => mkQ 0x24 d 0 0 c 24
  | .copy d a b => mkQ 0x25 d a b 0 0
  | .copyb d a b c => mkQ 0x25 d a b c 1
  | .putq d a b c => mkQ 0x25 d a b c 2
  | .settile a b c => mkQ 0x28 0 a b c 0
  | .tzero d => mkQ 0x28 (accField d) 0 0 0 1
  | .tmac d a b c => mkQ 0x28 (accField d) a b c 2
  | .tmacw d a b c => mkQ 0x28 (accField d) a b c 3
  | .tmovr s v b => mkQ 0x28 (accField s) v b 0 4
  | .tmovc s v b => mkQ 0x28 (accField s) v b 0 5
  | .tld d a b => mkQ 0x28 (accField d) a b 0 6
  | .tst s a b => mkQ 0x28 (accField s) a b 0 7
  | .tadd d a => mkQ 0x28 (accField d) (accField a) 0 0 8
  | .sigcfg d a b => mkQ 0x29 d a b 0 0
  | .siginit => mkQ 0x29 0 0 0 0 1
  | .sigupd v => mkQ 0x29 0 v 0 0 2
  | .sigjoin a => mkQ 0x29 0 a 0 0 3
  | .sigjoinl a => mkQ 0x29 0 a 0 0 4
  | .siglog => mkQ 0x29 0 0 0 0 5
  | .sigld a => mkQ 0x29 0 a 0 0 6
  | .sigst a => mkQ 0x29 0 a 0 0 7
  | .waitc d a l s c t => mkI 0x2C d a (l ++ s ++ c ++ t)
  | .waitw d a b c => mkQ 0x2D d a b c 0
  | .barw d a b c => mkQ 0x2D d a b c 1
  | .bara d a b => mkQ 0x2D d a b 0 2
  | .baraw d a b => mkQ 0x2D d a b 0 3
  | .barexp d a b c => mkQ 0x2D d a b c 4
  | .qsend d a b c => mkQ 0x2D d a b c 5
  | .qrecv d a b c => mkQ 0x2D d a b c 6
  | .taskadd d a b c => mkQ 0x2D d a b c 7
  | .tasktake d a b c => mkQ 0x2D d a b c 8
  | .tasksteal d a b c => mkQ 0x2D d a b c 9
  | .apwait d a b c => mkQ 0x2D d a b c 10
  | .cwait d a c => mkQ 0x2D d a 0 c 11
  | .launch d a b c => mkQ 0x2E d a b c 0
  | .lwait d a b => mkQ 0x2E d a b 0 1
  | .lcancel d a b => mkQ 0x2E d a b 0 2
  | .doorbellWrite _ _ => 0
  | .modnumWrite _ => 0
  | .modctlReset _ _ => 0
  | .modctlFullstart _ _ => 0
  | .lattolWrite _ => 0
  | .pwrcapWrite _ => 0
  | .rtctlFlush => 0
  | .hosterrWrite => 0
  | .registerWrite _ _ _ => 0
  | .bar2HostWrite _ _ _ => 0
  | .bar2HostRead _ _ _ => 0
  | .configurationRequest _ => 0
  | .powerOnReset _ _ => 0
  | .hostLinkReset _ _ => 0
  | .startTimeout => 0
  | .startRetry _ _ => 0
  | .powerAverageTick _ => 0
  | .capIssueHold => 0
  | .dieIdleEntry _ => 0
  | .dieWake _ => 0
  | .dieExitComplete _ => 0
  | .dieEntryFailure _ => 0
  | .dieExitFailure _ => 0
  | .hostLinkDown _ => 0
  | .flitCheckFail _ => 0
  | .fabricPortRetrain _ => 0
  | .fabricRetrainEnd _ _ => 0
  | .lossNotice _ => 0
  | .fabricReplyTimeout _ => 0
  | .localCompletion _ => 0
  | .routeEntryRead _ _ => 0
  | .dclkwSynchronisation _ => 0
  | .homeWrite _ _ => 0
  | .homeRead _ _ _ _ => 0
  | .loadReply _ => 0
  | .outboundDrainTimeout _ => 0
  | .turnInvalidation _ => 0
  | .invalidationAck _ => 0
  | .tableWalkComplete _ _ _ => 0
  | .patrolScrub _ _ => 0
  | .harrierFill _ _ _ => 0
  | .copyRetire _ _ => 0
  | .barrierCredit _ => 0
  | .putqEnqueue _ => 0
  | .putqEnqueueExpiry _ => 0
  | .parkedCopyRetry _ _ => 0
  | .parkedCopyDiscard _ _ => 0
  | .streamFill _ _ => 0
  | .remoteGroupDelivery _ _ => 0
  | .streamBudgetExpiry _ => 0
  | .engineCommandRetire _ => 0
  | .tileStoreClearEnd _ => 0
  | .waitExpiry _ => 0
  | .homeObjectOperation _ _ _ _ => 0
  | .waiterWake _ => 0
  | .waitCancellation _ => 0
  | .barawWithdrawal _ => 0
  | .waiterRefusalResend _ => 0
  | .watermarkDeclaration _ => 0
  | .watermarkRise _ => 0
  | .dependenceHoldExpiry _ => 0
  | .launchTake => 0
  | .strandStart _ => 0
  | .launchRetire _ => 0
  | .preemptionRequest _ => 0
  | .preemptionRequestArrival _ => 0
  | .forcedPreemption _ => 0
  | .saveComplete _ => 0
  | .issueAging _ => 0
  | .impreciseDelivery _ => 0
  | .handlerWatchdog _ => 0
  | .saveRestoreWatchdog _ => 0
  | .trapRepeatWatchdog _ => 0
  | .heartbeatWatchdog _ _ => 0
  | .relayRoundComplete _ _ => 0
  | .parkedArrivalRetry _ => 0
  | .dbgctlHalt _ _ => 0
  | .dbgctlStep _ _ => 0
  | .dbgctlFreeze _ _ => 0
  | .tenSet => 0
  | .tenClear => 0
  | .reservedEncoding _ => 0
  | .instructionFetchFault _ _ => 0
  | .hostLinkUp _ => 0
  | .dieStateEntryComplete _ => 0
  | .routeUpdate _ _ => 0

/-- The instruction the decoder reads from the word whose bits the opcode table numbers from bit 0 of the word: the bits above `nbits` are zero, and the word is laid out little-endian (R5, R150). -/
noncomputable def decodeTableWord (nbits w : Nat) : Option Instr :=
  match decode (bytesOfWord (BitVec.ofNat 32 (w % 2 ^ nbits))) with
  | .ok (i, _) => some i
  | .error _ => none

end Sys2Proof
end

