-- ==== Sys2Proof/Machine/Bits.lean ====
section
/-! DEFINITION. Bit fields, byte order (R5) and the integer helpers that the other files share. -/

namespace Sys2Proof.Machine

/-- The word with `len` bits from bit `lo` replaced by the low bits of `v`. -/
def setField (w : Word) (lo len : Nat) (v : Nat) : Word :=
  let m : Word := BitVec.ofNat 64 (2 ^ len - 1) <<< lo
  (w &&& ~~~m) ||| ((BitVec.ofNat 64 v <<< lo) &&& m)

/-- The number in `len` bits of a word from bit `lo`. -/
def field (w : Word) (lo len : Nat) : Nat := (w.toNat / 2 ^ lo) % 2 ^ len

/-- A 64-bit register sign-extended from a field of `n` bits. -/
def sext64 {n : Nat} (v : BitVec n) : Word := v.signExtend 64

/-- A number of `n` bits read as a two's complement integer. -/
def toInt (n v : Nat) : Int := if v < 2 ^ (n - 1) then (v : Int) else (v : Int) - (2 ^ n : Nat)

/-- An integer wrapped to `n` bits. -/
def ofInt (n : Nat) (z : Int) : Nat := (z % ((2 ^ n : Nat) : Int)).toNat

/-- The number whose little-endian bytes are given (R5). -/
def ofBytes : List Byte → Nat
  | [] => 0
  | b :: r => b.toNat + 256 * ofBytes r

/-- The `n` little-endian bytes of a number (R5). -/
def toBytes : Nat → Nat → List Byte
  | 0, _ => []
  | n + 1, v => BitVec.ofNat 8 v :: toBytes n (v / 256)

/-- The low `n` numbers from `a`. -/
def upto (a : Nat) : Nat → List Nat
  | 0 => []
  | n + 1 => a :: upto (a + 1) n

/-- `f` applied to the first element that satisfies `p`, the others unchanged. -/
def updFirst {α : Type} (p : α → Bool) (f : α → α) : List α → List α
  | [] => []
  | a :: r => if p a then f a :: r else a :: updFirst p f r

/-- The position-`n` element removed. -/
def dropAt {α : Type} : Nat → List α → List α
  | _, [] => []
  | 0, _ :: r => r
  | n + 1, a :: r => a :: dropAt n r

/-- Insertion before the first element that `lt` places after it. -/
def insertBy {α : Type} (lt : α → α → Bool) (a : α) : List α → List α
  | [] => [a]
  | b :: r => if lt a b then a :: b :: r else b :: insertBy lt a r

/-- A list in the order of `lt`, equal elements as they stood. -/
def sortBy {α : Type} (lt : α → α → Bool) : List α → List α
  | [] => []
  | a :: r => insertBy (fun x y => !lt y x) a (sortBy lt r)

/-- A list without repetition. -/
def distinctNat : List Nat → List Nat
  | [] => []
  | n :: r => n :: (distinctNat r).filter (fun m => m != n)

/-- The number of bits of a number. -/
def bitLen (n : Nat) : Nat := if n = 0 then 0 else n.log2 + 1

/-- Trailing zero bits among the low `n`. -/
def ctzAux (v : Nat) : Nat → Nat
  | 0 => 0
  | n + 1 => if v % 2 = 1 then 0 else 1 + ctzAux (v / 2) n

/-- One bits among the low `n`. -/
def popAux (v : Nat) : Nat → Nat
  | 0 => 0
  | n + 1 => v % 2 + popAux (v / 2) n

/-- 1 or 0 as a register value. -/
def flagWord (b : Bool) : Word := if b then 1 else 0

end Sys2Proof.Machine
end

