-- ==== Sys2Proof/Machine/Flags.lean ====
section
/-! DEFINITION. Number formats, exact arithmetic with one rounding, and every floating-point flag (R106 to R119, R189 to R191). A finite value is a sign, a natural number and a power of two; a quotient or root carries a sticky bit for what lies below its last bit. -/

namespace Sys2Proof.Machine

/-- The five flags of FCSR: NV, DZ, OF, UF, NX in bits 4 to 0 (R113). -/
abbrev FFlags := BitVec 5

def fNV : FFlags := 16
def fDZ : FFlags := 8
def fOF : FFlags := 4
def fUF : FFlags := 2
def fNX : FFlags := 1

/-- Which codes with the all-ones exponent are special (R107). -/
inductive Special where
  | ieee    -- infinities and NaNs
  | e4m3    -- only the all-ones code is NaN
  | none    -- no special code
deriving DecidableEq, Repr

/-- A floating-point format (R106). -/
structure FFmt where
  ew   : Nat
  fw   : Nat
  bias : Nat
  spec : Special
deriving DecidableEq, Repr

def FP32 : FFmt := ⟨8, 23, 127, .ieee⟩
def BF16 : FFmt := ⟨8, 7, 127, .ieee⟩
def FP16 : FFmt := ⟨5, 10, 15, .ieee⟩
def E4M3 : FFmt := ⟨4, 3, 7, .e4m3⟩
def E5M2 : FFmt := ⟨5, 2, 15, .ieee⟩
def E2M1 : FFmt := ⟨2, 1, 1, .none⟩
def B128 : FFmt := ⟨15, 112, 16383, .ieee⟩

def FFmt.width (f : FFmt) : Nat := 1 + f.ew + f.fw

/-- A decoded value: `fin neg num exp` is (−1)^neg · num · 2^exp. -/
inductive Fp where
  | nan (signalling : Bool) (neg : Bool)
  | inf (neg : Bool)
  | fin (neg : Bool) (num : Nat) (exp : Int)
deriving DecidableEq, Repr

/-- The value of a code (R106, R107). -/
def FFmt.decode (f : FFmt) (v : Nat) : Fp :=
  let frac := v % 2 ^ f.fw
  let e := v / 2 ^ f.fw % 2 ^ f.ew
  let neg := decide (v / 2 ^ (f.fw + f.ew) % 2 = 1)
  let finite : Fp :=
    if e = 0 then .fin neg frac (1 - (f.bias : Int) - f.fw)
    else .fin neg (2 ^ f.fw + frac) ((e : Int) - f.bias - f.fw)
  match f.spec with
  | .none => finite
  | .e4m3 => if e = 2 ^ f.ew - 1 ∧ frac = 2 ^ f.fw - 1 then .nan false neg else finite
  | .ieee =>
    if e = 2 ^ f.ew - 1 then
      (if frac = 0 then .inf neg else .nan (decide (frac < 2 ^ (f.fw - 1))) neg)
    else finite

def FFmt.signBit (f : FFmt) (neg : Bool) : Nat := if neg then 2 ^ (f.ew + f.fw) else 0

/-- The canonical NaN (R107). -/
def FFmt.nan (f : FFmt) : Nat :=
  match f.spec with
  | .ieee => (2 ^ f.ew - 1) * 2 ^ f.fw + 2 ^ (f.fw - 1)
  | _ => 2 ^ (f.ew + f.fw) - 1

def FFmt.inf (f : FFmt) (neg : Bool) : Nat := f.signBit neg + (2 ^ f.ew - 1) * 2 ^ f.fw

/-- The code of the largest finite magnitude (R107). -/
def FFmt.maxCode (f : FFmt) : Nat :=
  match f.spec with
  | .ieee => (2 ^ f.ew - 1) * 2 ^ f.fw - 1
  | .e4m3 => 2 ^ (f.ew + f.fw) - 2
  | .none => 2 ^ (f.ew + f.fw) - 1

def FFmt.zero (f : FFmt) (neg : Bool) : Nat := f.signBit neg

/-- The rounding modes of FCSR.RM (R113). -/
inductive RMode where
  | rne | rtz | rdn | rup | rmm
deriving DecidableEq, Repr

/-- The rounding mode that FCSR holds (R113). -/
def rmOf (fcsr : Word) : RMode :=
  match field fcsr 5 3 with
  | 1 => .rtz
  | 2 => .rdn
  | 3 => .rup
  | 4 => .rmm
  | _ => .rne

/-- num · 2^exp (with a sticky bit below) as a multiple of 2^q, rounded: the multiple and whether it is inexact. -/
def roundAt (rm : RMode) (neg : Bool) (num : Nat) (exp : Int) (sticky : Bool) (q : Int) : Nat × Bool :=
  if q ≤ exp then (num * 2 ^ (exp - q).toNat, sticky)
  else
    let sh := (q - exp).toNat
    let m := num / 2 ^ sh
    let r := num % 2 ^ sh
    let half := 2 ^ (sh - 1)
    let inexact := decide (r ≠ 0) || sticky
    let up :=
      match rm with
      | .rne => decide (half < r) || (decide (r = half) && (sticky || decide (m % 2 = 1)))
      | .rtz => false
      | .rdn => neg && inexact
      | .rup => !neg && inexact
      | .rmm => decide (half ≤ r)
    (if up then m + 1 else m, inexact)

/-- The code of an overflowing result under a mode (R119, R189). -/
def FFmt.overflow (f : FFmt) (rm : RMode) (neg : Bool) : Nat :=
  let toInf :=
    match rm with
    | .rne => true
    | .rmm => true
    | .rtz => false
    | .rdn => neg
    | .rup => !neg
  if toInf then f.inf neg else f.signBit neg + f.maxCode

/-- The code, without sign, of m · 2^q when q is the quantum that rounding chose. -/
def FFmt.pack (f : FFmt) (m : Nat) (q : Int) : Nat :=
  if m < 2 ^ f.fw then m
  else
    let (m, q) := if m = 2 ^ (f.fw + 1) then (2 ^ f.fw, q + 1) else (m, q)
    (q + f.fw + f.bias).toNat * 2 ^ f.fw + (m - 2 ^ f.fw)

/-- The result of rounding, before overflow is decided: magnitude code, inexact, tiny after rounding (R115). -/
def FFmt.roundMag (f : FFmt) (rm : RMode) (neg : Bool) (num : Nat) (exp : Int) (sticky : Bool) : Nat × Bool × Bool :=
  let e := exp + (bitLen num : Int) - 1
  let emin : Int := 1 - (f.bias : Int)
  let q := (if e < emin then emin else e) - f.fw
  let (m, inexact) := roundAt rm neg num exp sticky q
  let tiny := decide (e < emin - 1) ||
    (decide (e = emin - 1) && decide ((roundAt rm neg num exp sticky (e - f.fw)).1 < 2 ^ (f.fw + 1)))
  (f.pack m q, inexact, tiny)

/-- One rounding of (−1)^neg · num · 2^exp to a format: the code and the flags (R114, R115). -/
def FFmt.round (f : FFmt) (rm : RMode) (neg : Bool) (num : Nat) (exp : Int) (sticky : Bool) : Nat × FFlags :=
  if num = 0 ∧ !sticky then (f.zero neg, 0)
  else
    let (c, inexact, tiny) := f.roundMag rm neg num exp sticky
    if f.maxCode < c then (f.overflow rm neg, fOF ||| fNX)
    else (f.signBit neg + c, (if inexact then fNX else 0) ||| (if inexact && tiny then fUF else 0))

/-! ### Arithmetic (R114 to R117, R189, R191) -/

def Fp.isNan : Fp → Bool
  | .nan _ _ => true
  | _ => false

def Fp.isSnan : Fp → Bool
  | .nan s _ => s
  | _ => false

/-- The canonical NaN, with NV when an operand signals (R116). -/
def FFmt.nanOf (f : FFmt) (ops : List Fp) : Nat × FFlags := (f.nan, if ops.any Fp.isSnan then fNV else 0)

/-- An exact sum of two finite terms: sign, number, exponent; the sign of an exact zero by R189. -/
def sumFin (rm : RMode) (n1 : Bool) (a : Nat) (e1 : Int) (n2 : Bool) (b : Nat) (e2 : Int) : Bool × Nat × Int :=
  let e := if e1 ≤ e2 then e1 else e2
  let x := a * 2 ^ (e1 - e).toNat
  let y := b * 2 ^ (e2 - e).toNat
  if n1 = n2 then (n1, x + y, e)
  else if x = y then (rm == .rdn, 0, e)
  else if y < x then (n1, x - y, e)
  else (n2, y - x, e)

def FFmt.add (f : FFmt) (rm : RMode) (x y : Fp) : Nat × FFlags :=
  match x, y with
  | .fin n1 a e1, .fin n2 b e2 =>
    let (n, c, e) := sumFin rm n1 a e1 n2 b e2
    f.round rm n c e false
  | .inf n1, .inf n2 => if n1 = n2 then (f.inf n1, 0) else (f.nan, fNV)
  | .inf n, .fin _ _ _ => (f.inf n, 0)
  | .fin _ _ _, .inf n => (f.inf n, 0)
  | x, y => f.nanOf [x, y]

def Fp.neg : Fp → Fp
  | .nan s n => .nan s n
  | .inf n => .inf (!n)
  | .fin n a e => .fin (!n) a e

def FFmt.sub (f : FFmt) (rm : RMode) (x y : Fp) : Nat × FFlags := f.add rm x y.neg

def FFmt.mul (f : FFmt) (rm : RMode) (x y : Fp) : Nat × FFlags :=
  match x, y with
  | .fin n1 a e1, .fin n2 b e2 => f.round rm (n1 != n2) (a * b) (e1 + e2) false
  | .inf n1, .inf n2 => (f.inf (n1 != n2), 0)
  | .inf n1, .fin n2 b _ => if b = 0 then (f.nan, fNV) else (f.inf (n1 != n2), 0)
  | .fin n1 a _, .inf n2 => if a = 0 then (f.nan, fNV) else (f.inf (n1 != n2), 0)
  | x, y => f.nanOf [x, y]

def FFmt.div (f : FFmt) (rm : RMode) (x y : Fp) : Nat × FFlags :=
  match x, y with
  | .fin n1 a e1, .fin n2 b e2 =>
    if b = 0 then (if a = 0 then (f.nan, fNV) else (f.inf (n1 != n2), fDZ))
    else
      let k := f.fw + 5 + bitLen b
      f.round rm (n1 != n2) (a * 2 ^ k / b) (e1 - e2 - k) (decide (a * 2 ^ k % b ≠ 0))
  | .inf _, .inf _ => (f.nan, fNV)
  | .inf n1, .fin n2 _ _ => (f.inf (n1 != n2), 0)
  | .fin n1 _ _, .inf n2 => (f.zero (n1 != n2), 0)
  | x, y => f.nanOf [x, y]

/-- The integer square root, bit by bit from bit `i - 1` down. -/
def isqrtAux (n : Nat) : Nat → Nat → Nat
  | 0, r => r
  | i + 1, r => isqrtAux n i (if (r + 2 ^ i) * (r + 2 ^ i) ≤ n then r + 2 ^ i else r)

def isqrt (n : Nat) : Nat := isqrtAux n ((bitLen n + 1) / 2) 0

def FFmt.sqrt (f : FFmt) (rm : RMode) (x : Fp) : Nat × FFlags :=
  match x with
  | .fin n a e =>
    if a = 0 then (f.zero n, 0)
    else if n then (f.nan, fNV)
    else
      let k0 := 2 * (f.fw + 4)
      let k := if (e - k0) % 2 = 0 then k0 else k0 + 1
      let m := a * 2 ^ k
      let r := isqrt m
      f.round rm false r ((e - k) / 2) (decide (r * r ≠ m))
  | .inf n => if n then (f.nan, fNV) else (f.inf false, 0)
  | x => f.nanOf [x]

/-- The sum of the terms ±(x · y) and z with one rounding (R191): `negProd` negates the product. -/
def FFmt.fma (f : FFmt) (rm : RMode) (negProd : Bool) (x y z : Fp) : Nat × FFlags :=
  let zeroInf :=
    match x, y with
    | .inf _, .fin _ b _ => b == 0
    | .fin _ a _, .inf _ => a == 0
    | _, _ => false
  if zeroInf then (f.nan, fNV)
  else
    match x, y with
    | .fin n1 a e1, .fin n2 b e2 =>
      match z with
      | .fin n3 c e3 =>
        let (n, m, e) := sumFin rm ((n1 != n2) != negProd) (a * b) (e1 + e2) n3 c e3
        f.round rm n m e false
      | .inf n => (f.inf n, 0)
      | z => f.nanOf [z]
    | x, y =>
      if x.isNan || y.isNan || z.isNan then f.nanOf [x, y, z]
      else
        let n1 := match x with | .inf n => n | .fin n _ _ => n | .nan _ n => n
        let n2 := match y with | .inf n => n | .fin n _ _ => n | .nan _ n => n
        let p := (n1 != n2) != negProd
        match z with
        | .inf n3 => if n3 = p then (f.inf p, 0) else (f.nan, fNV)
        | _ => (f.inf p, 0)

/-- Exact comparison of two values that are no NaN: −1, 0 or 1. -/
def Fp.cmp (x y : Fp) : Int :=
  match x, y with
  | .fin n1 a e1, .fin n2 b e2 =>
    let (n, c, _) := sumFin .rne n1 a e1 (!n2) b e2
    if c = 0 then 0 else if n then -1 else 1
  | .inf n1, .inf n2 => if n1 = n2 then 0 else if n1 then -1 else 1
  | .inf n, _ => if n then -1 else 1
  | _, .inf n => if n then 1 else -1
  | _, _ => 0

/-- Quiet equality (R117). -/
def fpEq (x y : Fp) : Bool × FFlags :=
  if x.isNan || y.isNan then (false, if x.isSnan || y.isSnan then fNV else 0) else (x.cmp y == 0, 0)

/-- Signalling less-than and less-or-equal (R117). -/
def fpLt (x y : Fp) : Bool × FFlags :=
  if x.isNan || y.isNan then (false, fNV) else (decide (x.cmp y < 0), 0)
def fpLe (x y : Fp) : Bool × FFlags :=
  if x.isNan || y.isNan then (false, fNV) else (decide (x.cmp y ≤ 0), 0)

def Fp.signed : Fp → Bool
  | .nan _ n => n
  | .inf n => n
  | .fin n _ _ => n

/-- minimumNumber and maximumNumber of two codes (R117): −0 below +0, a NaN gives way to a number. -/
def FFmt.minmax (f : FFmt) (isMax : Bool) (a b : Nat) : Nat × FFlags :=
  let x := f.decode a
  let y := f.decode b
  let fl : FFlags := if x.isSnan || y.isSnan then fNV else 0
  if x.isNan && y.isNan then (f.nan, fl)
  else if x.isNan then (b, fl)
  else if y.isNan then (a, fl)
  else
    let c := x.cmp y
    let aLess := decide (c < 0) || (decide (c = 0) && x.signed && !y.signed)
    (if aLess != isMax then a else b, fl)

/-! ### Conversions (R119) -/

/-- A value in a wider or equal format, or in FP32, BF16, FP16 under a mode (R119 rows 1 and 2). -/
def FFmt.convert (f : FFmt) (rm : RMode) (x : Fp) : Nat × FFlags :=
  match x with
  | .fin n a e => f.round rm n a e false
  | .inf n => (f.inf n, 0)
  | x => f.nanOf [x]

/-- A value in a storage format that saturates: E4M3, E5M2, E2M1 (R119): any value beyond the largest finite one saturates, with OF and NX. R119's table of E2M1 results sets no UF at 0.75, which rounds to the least normal 1.0: in E2M1 a result is tiny when its code stands below 1.0 (DEDUCED, log entry 18). -/
def FFmt.convertSat (f : FFmt) (x : Fp) : Nat × FFlags :=
  match x with
  | .fin n a e =>
    if a = 0 then (f.zero n, 0)
    else
      let (c, inexact, tiny) := f.roundMag .rne n a e false
      let tiny := if f.spec = .none then decide (c < 2 ^ f.fw) else tiny
      if (Fp.fin false a e).cmp (f.decode f.maxCode) > 0 then (f.signBit n + f.maxCode, fOF ||| fNX)
      else (f.signBit n + c, (if inexact then fNX else 0) ||| (if inexact && tiny then fUF else 0))
  | .inf n => if f.spec = .ieee then (f.inf n, 0) else (f.signBit n + f.maxCode, fOF ||| fNX)
  | .nan s n =>
    match f.spec with
    | .none => (f.signBit n + f.maxCode, fNV)
    | _ => (f.nan, if s then fNV else 0)

/-- An integer of `n` bits, signed or not, as a value. -/
def intFp (z : Int) : Fp := .fin (decide (z < 0)) z.natAbs 0

/-- A value as an integer between `lo` and `hi`, saturating with NV (R119): the integer and the flags. -/
def fpToInt (rm : RMode) (lo hi : Int) (x : Fp) : Int × FFlags :=
  match x with
  | .nan _ _ => (0, fNV)
  | .inf n => (if n then lo else hi, fNV)
  | .fin n a e =>
    let (m, inexact) := roundAt rm n a e false 0
    let z : Int := if n then -(m : Int) else m
    if z < lo then (lo, fNV) else if hi < z then (hi, fNV) else (z, if inexact then fNX else 0)

/-! ### DPW8 and E8M0 (R110 to R112) -/

/-- A term of a DPW8 code (R111). -/
def dpTerm (t : Nat) : Int :=
  let m := t % 8
  if m = 0 then 0 else if t / 8 % 2 = 1 then -((2 ^ (m - 1) : Nat) : Int) else ((2 ^ (m - 1) : Nat) : Int)

/-- The value of a DPW8 code (R111). -/
def dpValue (c : Nat) : Int := dpTerm (c / 16 % 16) + dpTerm (c % 16)

/-- The first pair i > j with 2^i + 2^j = v, or 2^i − 2^j = v (`minus`, i > j + 1). -/
def dpPair (minus : Bool) (v : Nat) : Option (Nat × Nat) :=
  ((upto 0 7).flatMap (fun i => (upto 0 i).map (fun j => (i, j)))).find?
    (fun p => if minus then decide (p.2 + 1 < p.1) && decide (2 ^ p.1 - 2 ^ p.2 = v) else decide (2 ^ p.1 + 2 ^ p.2 = v))

/-- The canonical code of a magnitude and sign (R112); none when no code has the value. -/
def dpCanon (neg : Bool) (v : Nat) : Option Nat :=
  let s := if neg then 8 else 0
  let o := if neg then 0 else 8
  if v = 0 then some 0
  else if v = 128 then some (if neg then 0xFF else 0x77)
  else
    match (upto 0 7).find? (fun i => 2 ^ i == v) with
    | some i => some ((s + i + 1) * 16)
    | none =>
      match dpPair false v with
      | some p => some ((s + p.1 + 1) * 16 + (s + p.2 + 1))
      | none =>
        match dpPair true v with
        | some p => some ((s + p.1 + 1) * 16 + (o + p.2 + 1))
        | none => none

/-- The magnitudes that DPW8 represents, rising. -/
def dpMags : List Nat := (upto 0 129).filter (fun v => (dpCanon false v).isSome)

/-- A finite magnitude num · 2^exp against an integer: −1, 0, 1. -/
def magCmp (num : Nat) (exp : Int) (v : Nat) : Int := (Fp.fin false num exp).cmp (.fin false v 0)

/-- A value as a canonical DPW8 code: nearest, ties to the smaller magnitude, saturating (R119). -/
def dpConvert (x : Fp) : Nat × FFlags :=
  match x with
  | .nan _ _ => (0, fNV)
  | .inf n => (if n then 0xFF else 0x77, fOF ||| fNX)
  | .fin n a e =>
    if magCmp a e 128 > 0 then (if n then 0xFF else 0x77, fOF ||| fNX)
    else
      let lo := (dpMags.filter (fun v => decide (magCmp a e v ≥ 0))).getLastD 0
      let hi := (dpMags.find? (fun v => decide (magCmp a e v ≤ 0))).getD 128
      -- nearest: twice the magnitude against lo + hi
      let v := if magCmp a (e + 1) (lo + hi) > 0 then hi else lo
      let exact := decide (magCmp a e v = 0)
      ((dpCanon n v).getD 0, if exact then 0 else fNX)

/-- FCSR with flags set (R115). -/
def orFlags (fcsr : Word) (fl : FFlags) : Word := fcsr ||| fl.setWidth 64

end Sys2Proof.Machine
end

