-- ==== Sys2Proof/Config.lean ====
section
/-! DEFINITION. What the specification leaves open and the model leaves open with it: constants without a body, so that no proof can learn their value. The counters that index them stand in State (log entries 4, 5, 6). -/

namespace Sys2Proof.Config

/-- The silicon stepping in MODID is this value and 1 (R19: from 0x01, no value given). DESIGN CHOICE, log entry 5. -/
opaque stepping : Fin 255

/-- BAR2 of a link has 2 ^ (28 + bar2Extra) bytes until the host resizes it, 256 MiB to 4 TiB (R17, R20: a power of two, not said which). DESIGN CHOICE, log entry 5. -/
opaque bar2Extra : Fin 2 → Fin 15

/-- Whether a fabric port has a partner, so that a start trains it (R28 step 6). DESIGN CHOICE, log entry 22. -/
opaque partner : Nat → Bool

/-- The way that the n-th replacement in an inbound cache set or in a translation buffer evicts (R78, R83 give no policy). DESIGN CHOICE, log entry 4. -/
opaque victim : Nat → Nat

/-- The bits of an element that a permutation or segment register names beyond the elements that the grant holds, for the n-th such read (R224 gives it no value). DESIGN CHOICE, log entry 4. -/
opaque beyondElement : Nat → BitVec 64

/-- What TCAUSE, TPC, TVAL, TREC and EPC hold after a resumption outside a handler, whose save does not keep them, for the n-th such register (R393, R402 give them no value). DESIGN CHOICE, log entry 20. -/
opaque unsaved : Nat → BitVec 64

end Sys2Proof.Config
end

