-- ==== Sys2Proof/Machine/State.lean ====
section
/-! DEFINITION. The machine's state as plain data: strands, cores, dies, memory with its line tags, the front end, the Starter, the homes' messages, the Relay and the clock (INVENTORY.md lists each piece with its rule). -/

namespace Sys2Proof.Machine

/-- Why the model stops. -/
inductive Fault where
  /-- Raised by the event meanings when an event names a core, die, link, port or window that the module does not have (R7, R13, R17, R23). Safe: no such event exists. -/
  | noSuchUnit
deriving DecidableEq, Repr

/-- Why the model gives no meaning. -/
inductive Refusal where
  /-- Raised by the arms of exec that have no meaning yet. Safe: nothing is claimed. -/
  | notModelled (mnemonic : String)
deriving DecidableEq, Repr

/-- A 64-byte line or block, byte k in bits [8k+7:8k] (R5). -/
abbrev Line := BitVec 512

/-- The tag of a line or block (R87), with the writer's module WMOD. -/
structure Tag where
  state  : BitVec 3
  writer : BitVec 12
  gen    : BitVec 9
  wmod   : BitVec 18
deriving DecidableEq, Repr

/-- The tag of a line that nothing has touched since the start (R28 step 5, R87). DEDUCED, log entry 14. -/
def Tag.clear : Tag := ⟨5, 0, 0, 0⟩

/-! ### Launches -/

/-- The copy of a queue context that a launch keeps (R328, R330). -/
structure Context where
  sup      : Bool
  deq      : Bool
  asid     : BitVec 16
  areas    : Nat
  ptroot   : Word
  tvec     : Word
  locbase  : Word
  locsize  : Word
  stkbase  : Word
  stksize  : Word
  savebase : Word
  diemask  : BitVec 32
  coremask : BitVec 16
  modbase  : Nat
  modcnt   : Nat
  repcnt   : Nat
deriving DecidableEq, Repr

/-- A launch packet (R46); CTRL is read through the fields of R47. -/
structure Packet where
  entry    : Word
  count    : Word
  ctrl     : Word
  producer : Word
  depdl    : Word
  args     : Vector Word 8
deriving DecidableEq, Repr

/-- An accepted launch that has not retired (R49, R326, R333, R59). -/
structure Launch where
  id        : Word
  queue     : Nat
  order     : Nat                 -- acceptance order, from 0
  packet    : Packet
  ctx       : Context
  link      : Option Nat          -- the host link that submitted it (R25, R27)
  taken     : Bool                -- it holds a live record (R326, R333)
  placed    : List (Nat × Nat)    -- (core, k): the last strand k started on that core
  left      : Nat                 -- strands mapped to this module that have not ended
  started   : Nat
  watermark : Nat                 -- W (R59)
  declared  : List (Nat × Nat)    -- declared ranges [first, last) above W
  stop      : Option (Bool × BitVec 10)  -- cancelled (true) or failed with a cause (false)
  rises     : List (Nat × Nat)    -- while live: (bound, tick) each time that strands with a first element below a higher bound became eligible (R334, R338)
deriving DecidableEq, Repr

/-- What the Starter keeps of a retired launch (R48, R68, R306). -/
structure Retired where
  id     : Word
  asid   : BitVec 16
  status : Word
  watermark : Nat         -- W as it stood, or 2^64 − 1 (R67)
deriving DecidableEq, Repr

/-! ### Waits -/

/-- An effective deadline (R281): a tick of DCLKR when `onRun`, else of DCLKW. -/
structure Deadline where
  onRun : Bool
  tick  : Nat
deriving DecidableEq, Repr

/-- What a wait waits for. Objects are named by the log address of their line (R238). -/
inductive WaitFor where
  | counts (nl ns nc nt : Nat)                    -- WAITC (R287)
  | fence (mask : BitVec 5)                       -- FENCE (R240)
  | channel (ch : Nat) (off : Nat)                -- WAITW (R293)
  | phase (obj : Nat) (q : BitVec 32)             -- BARW (R296)
  | arrival (obj : Nat) (p : BitVec 32)           -- BARAW after its arrival (R296, R297)
  | room (obj : Nat) (type : Nat) (value : Word)  -- QSEND, TASKADD (R299, R300)
  | entry (obj : Nat) (c : Reg)                   -- QRECV (R299)
  | batch (obj : Nat) (v : Reg) (n : Nat)         -- APWAIT (R299)
  | append (obj : Nat) (elems : List Nat) (total : Nat)  -- VAPND: elements still to append (R247)
  | round (slot : Nat)                            -- CWAIT (R303)
  | retire (id : Word) (cancel : Bool)            -- LWAIT, LCANCEL (R306)
  | queueRoom (queue : Nat) (packet : Packet)     -- LAUNCH (R305)
  | lost                                          -- an object operation on a failed die, which nothing answers (R458)
deriving DecidableEq, Repr

/-- A wait in progress (R286): the instruction word, the status register, the deadline, the condition, whether the home refused to register it (R290), and whether its expiry has been sent to the home (R432). -/
structure WaitRec where
  word     : InsnWord
  d        : Reg
  deadline : Deadline
  what     : WaitFor
  refused  : Option Nat   -- the tick of the last refusal
  expired  : Bool
deriving DecidableEq, Repr

/-- The kinds of save (R394, R396). -/
inductive SaveKind where
  | setvl | wait | yield | forced
deriving DecidableEq, Repr

/-- Where a strand stands between its instructions. -/
inductive Run where
  | absent                                         -- no strand
  | running
  | waiting (w : WaitRec)                          -- in a wait (R286)
  | holding                                        -- in a SETVL hold (R60)
  | saving (kind : SaveKind) (w : Option WaitRec)  -- its save is being written (R395)
  | away (kind : SaveKind) (w : Option WaitRec)    -- in its save area (R41)
  | restoring (kind : SaveKind) (w : Option WaitRec)  -- back in its slot, its save area being read (R395, R440)
  | lost (cause : BitVec 10)                       -- R386, R441, R458
  | ended                                          -- HALT completed or stopped with its launch (R66, R69)
deriving DecidableEq, Repr

/-! ### A strand -/

/-- What a strand is to the Starter and its core (R51, R54, R331, R335, R336). -/
structure Ident where
  sid      : Nat       -- the model's own name for the strand
  lid      : Word
  index    : Nat       -- k (R51)
  first    : Word
  count    : Word
  queue    : Nat
  order    : Nat       -- acceptance order of the launch
  core     : Nat       -- module core number (R7)
  slot     : Nat
  area     : Nat       -- area index (R331)
  save     : Word      -- supervisor physical address of the save area (R393)
  local0   : Word      -- x29 at start (R344)
  cls      : Nat
  prio     : Nat
  publvl   : Nat
  request  : Nat       -- lane request in lanes
  producer : Word
  depdl    : Word
  asid     : BitVec 16 -- of the queue context (R306)
  deq      : Bool
  lanes    : BitVec 32 -- the four-lane units of the core that it holds (R42)
  since    : Nat       -- tick of its latest residence; of an away strand, the tick since which it is ready to resume (R338)
deriving DecidableEq, Repr

/-- The strand's control and status registers (R40, R170, R388). -/
structure Csrs where
  vl       : Word
  vtype    : Word
  vm       : Word
  vstr     : Word
  vstart   : Word
  fcsr     : Word
  tshape   : Word
  ten      : Word
  tpitch   : Word
  tprec    : Word
  sigcfg   : Word
  cgroup   : Word
  cop      : Word
  cstride  : Word
  widbase  : Word
  widcnt   : Word
  launchid : Word
  tocnt    : Word
  dclkr    : BitVec 63
  sstatus  : Word
  tcause   : Word
  tpc      : Word
  tval     : Word
  trec     : Word
  epc      : Word
  tvec     : Word
  ptroot   : Word
  asid     : Word
  tlg      : Vector Word 8
deriving DecidableEq, Repr

/-- An element that an affine output has produced and not yet placed: the position of its instruction, its scratchpad offset, its bytes and its code (R232, R312). -/
structure PendElem where
  pos  : Nat
  off  : Nat
  size : Nat
  code : BitVec 64
deriving DecidableEq, Repr

/-- A stream binding (R229 to R234): the descriptor's four doublewords, the SPOS count, the affine input elements read ahead (each with its refusal cause where the read failed), the remote group received, and the affine output elements produced and not yet in the outbound path. -/
structure Stream where
  desc    : Vector Word 4
  count   : Nat
  ahead   : List (BitVec 64 × Option (BitVec 10))
  group   : Option (Nat × List (BitVec 64))   -- element width in bits, elements
  partner : Option Nat                        -- sid of the paired strand once a group passed
  closed  : Bool                              -- the producer has unbound (R233)
  pend    : List PendElem
deriving DecidableEq, Repr

/-- Written lines [first, last) of a span and the level at which they have been turned since (R237). -/
structure SpanPart where
  first : Nat
  last  : Nat
  level : Option Nat
deriving DecidableEq, Repr

/-- One span of the write log (R237): its first log address, its size, the level at which it is turned (none: not yet), and the written lines in it. -/
structure Span where
  base  : Nat
  size  : Nat
  level : Option Nat
  parts : List SpanPart
deriving DecidableEq, Repr

/-- One entry of the link record (R244, R429). -/
structure LinkEntry where
  elem  : Nat
  line  : Nat         -- log address of the line
  gen   : BitVec 9
  epoch : BitVec 15
  tick  : BitVec 48
deriving DecidableEq, Repr

/-- An operand record of a faulted command (R389), with the cause and TVAL it delivers, the strand's position at issue, the DCLKR tick of writing, and its entry of the record ring once it has one. -/
structure Record where
  cause  : BitVec 10
  tval   : Word
  pc     : Word
  word   : InsnWord
  unit   : BitVec 8
  chan   : BitVec 8
  seq    : BitVec 16
  opa    : Word
  opb    : Word
  opc    : Word
  opd    : Word
  vl     : BitVec 16
  vtype  : BitVec 8
  tshape : BitVec 32
  extra  : Word
  pos    : Nat
  at_    : Nat
  ring   : Nat            -- 16: all entries were in use, the unit holds it
  given  : Bool           -- delivered; ERET frees it
deriving DecidableEq, Repr

/-- A strand's standing in one collective slot (R302, R357, R358): completed rounds, the bytes it has given to the current round, and whether its result is staged. -/
structure SlotUse where
  group  : Nat
  slot   : Nat
  rounds : Nat
  given  : List Nat          -- offsets of the 64-byte pieces and their bytes, as byte offsets
  staged : Bool              -- the round that it contributed to has completed for it
deriving DecidableEq, Repr

/-- A group table entry (R355). -/
structure Group where
  ranks   : Nat
  membase : Word
  stgbase : Word
  slotlen : Nat
  slots   : Nat
  sign    : Nat
  sigd    : Nat
deriving DecidableEq, Repr

/-- A dependence hold and its saved deadline (R60, R63): the WIDBASE it holds for, the bound WIDBASE + g, and the SETVL's destination and grant. -/
structure Hold where
  widbase  : Word
  deadline : Deadline
  need     : Nat
  d        : Reg
  g        : Nat
deriving DecidableEq, Repr

/-- A strand: its architectural state (R40) and what its core keeps about it. -/
structure Strand where
  id      : Ident
  pc      : Word
  x       : Vector Word 32
  v       : Vector VReg 32
  grant   : Nat
  c       : Csrs
  streams : Vector (Option Stream) 4
  wlog    : List Span
  link    : List LinkEntry
  records : List Record
  slots   : List SlotUse
  group   : Option Group       -- the entry of its group, once read and checked since the last write of CGROUP (R356)
  hold    : Option Hold
  run     : Run
  stall   : Option Nat         -- the tick at which a wait at issue began (R257, R307, R436)
  due     : Option (Deadline × Bool)  -- the deadline formed at issue, and whether it was a poll, of an instruction that waits at issue (R281)
  entry   : Bool               -- it has transferred into a supervisor line whose marker could not be read (R167, R194)
  blockedOn : Option Reg       -- the stream register that a wait at issue waits for (R436)
  request : Option Nat         -- the tick at which a pre-emption request arrived (R339)
  sent    : Bool               -- a request is on its way (R338)
  aged    : Option Nat         -- the tick since which it is aged (R337)
  dbg     : Bool               -- halted by DBGCTL (R444)
  escal   : Option Word        -- an escalation trap is due on resumption: the address of the instruction that met its deadline (R285, R388)
  stay    : Nat                -- nanoseconds for which it has been resident (R440)
  nestAt  : Nat                -- what `stay` was when SSTATUS.NEST became 1 (R440)
  repeats : Nat                -- traps in a row at one EPC with one cause (R440)
  again   : Bool               -- a save or restore watchdog has expired once (R441)
  pos     : Nat                -- program-order position of the latest store or command (R385)
  stepping : Bool              -- one instruction of a debug step is to run (R445)
  saveAt  : Nat                -- the tick at which its save or restore began (R440)
  repEpc  : Word               -- EPC and cause of the trap that `repeats` counts (R440)
  repCode : BitVec 10
  haltTurned : Nat         -- bytes that the HALT at issue has turned (R307)
  search  : Option (Ident × Bool)  -- a TASKSTEAL's search under way: the strand whose deque it has probed last, and whether a probe lost a race (R344)
  progress : Nat           -- bytes of the save sequence in progress that are written (R394, R395)
deriving DecidableEq, Repr

/-! ### A core -/

/-- One entry of a translation buffer or cache (R78): the leaf's bits, its first virtual address, its page size, and the ASID it was walked under. -/
structure TlbEntry where
  va   : Nat
  size : Nat
  asid : BitVec 16
  leaf : Word
deriving DecidableEq, Repr

/-- One outbound buffer entry (R83, R389). -/
structure OutEntry where
  sid    : Nat
  writer : BitVec 12
  line   : Nat            -- log address of the line or block
  mask   : BitVec 64
  data   : Line
  pc     : Word
  word   : InsnWord
  last   : Nat            -- tick of the last write
  pos    : Nat             -- the greatest of their positions
  ops    : List (Nat × BitVec 64)  -- positions of the store instructions whose bytes it holds, with those bytes (R287)
deriving DecidableEq, Repr

/-- A command of a copy channel (R248 to R252): kind 0 COPY, 1 COPYB, 2 PUTQ. -/
structure CopyCmd where
  sid    : Nat
  writer : BitVec 12
  sup    : Bool
  kind   : Nat
  dst    : Word
  src    : Word
  obj    : Word
  opd    : Word
  bytes  : Nat
  lvl    : Nat
  pc     : Word
  word   : InsnWord
  vl     : BitVec 16
  vtype  : BitVec 8
  dlcap  : Nat
  asid   : BitVec 16      -- ASID and PTROOT as they stood at issue (R75, R172)
  ptroot : Word
  seq    : Nat
  pos    : Nat
  done   : List Nat       -- first byte of each block that has landed
  sent   : List Nat       -- first byte of each block whose packet is on its way (R349)
  park   : Option (Nat × Word)   -- tick of the fault and the page's first address (R424)
  tried  : Nat            -- tick of its latest try of that page (R424)
  full   : Nat            -- tick at which its last block landed (R252)
  dead   : Bool           -- stopped by a fault whose record waits for delivery (R389)
  step   : Nat            -- 0 filling, 1 its credit or enqueue is on its way, 2 acknowledged
  turns  : List Nat       -- its destination lines, once the turn of the landed payload has begun (R101, R424)
deriving DecidableEq, Repr

/-- A copy channel (R98, R102, R250): the head of the queue runs when `busy`. DEDUCED, log entry 45. -/
structure Chan where
  rng   : Word
  wm    : Word
  queue : List CopyCmd
  busy  : Bool
deriving DecidableEq, Repr

/-- The engine commands (R257). -/
inductive EngOp where
  | tzero | tmac | tmacw | tld | tst | tadd | siginit | sigupd | sigjoin | sigjoinl | siglog | sigld | sigst
deriving DecidableEq, Repr

/-- A captured engine command (R257). -/
structure EngCmd where
  op     : EngOp
  sid    : Nat
  writer : BitVec 12
  acc    : Nat            -- the accumulator it writes or reads
  acc2   : Nat
  opa    : Word
  opb    : Word
  opc    : Word
  opd    : Word
  vecs   : List (List (BitVec 64))   -- captured vector operands, element by element
  tshape : Word
  tpitch : Word
  tprec  : Word
  sigcfg : Word
  vl     : BitVec 16
  vtype  : BitVec 8
  pc     : Word
  word   : InsnWord
  seq    : Nat
  pos    : Nat
deriving DecidableEq, Repr

/-- A core (R11, R40, R102, R254 to R257, R280, R443). -/
structure Core where
  id       : Nat
  dlcap    : Word
  escal    : Word
  vlbase   : Word
  vlsize   : Word
  dbgctl   : Word
  chans    : Vector Chan 8
  copySeq  : Nat                     -- the number of Harrier's latest command, modulo 2^16 (R389)
  inb      : List (Nat × Line)       -- inbound cache, latest fill first
  icb      : List (Nat × Line)       -- instruction cache, latest fill first (R11)
  outb     : List OutEntry           -- outbound buffer, oldest first
  tlb      : List TlbEntry
  cells    : List (Nat × BitVec 128) -- tile store cells that are not +0
  l0       : BitVec 128
  holder   : Option Nat              -- sid of the strand with TEN.EN = 1
  clearing : Bool
  eng      : List EngCmd             -- engine queue, oldest first
  engSeq   : Nat
  poison   : BitVec 15
  patrol   : Nat
  lastIss  : List (Nat × Nat)        -- (class, slot) that issued last (R337)
  cycle    : List Nat                -- slots that have issued in this cycle (R337)
deriving DecidableEq, Repr

/-- What a die is doing about its power state (R35, R37, R457, R458). -/
inductive DiePhase where
  | steady
  | entering (target : Nat) (at_ : Nat)
  | exiting (at_ : Nat)
  | failed
deriving DecidableEq, Repr

/-- A Relay arrival parked at a die (R362). -/
structure Parked where
  sid   : Nat
  group : Nat
  slot  : Nat
  off   : Nat            -- offset of its first byte in the slot
  bytes : List Byte
  at_   : Nat            -- the tick at which it was parked or last tried
  rest  : Bool           -- it still waits on channel 6 for a parking entry
  width : Nat            -- bytes of an element of its result (R359)
  record : Record        -- the operand record of its strand's contribution (R389)
deriving DecidableEq, Repr

/-- A die (R78, R351, R34). -/
structure Die where
  id      : Nat
  tlb     : List TlbEntry
  routes  : List (Nat × Word)
  phase   : DiePhase
  noEntry : Nat              -- no entry attempt before this tick (R457)
  idleAt  : Nat              -- the tick since which it is idle (R35)
  parked  : List Parked
deriving DecidableEq, Repr

/-! ### The front end, the homes, the Relay -/

/-- A launch window as one link sees it (R23, R25, R26). -/
structure Window where
  link    : Nat
  queue   : Nat
  pkt     : Vector Word 16
  lastId  : BitVec 32
  last    : BitVec 3
  cmpaddr : Word
deriving DecidableEq, Repr

/-- What the module has sent to the host (R22, R27, R29). -/
inductive ToHost where
  | config (link : Nat) (retry : Bool)
  | data (link : Nat) (bytes : List Byte) (poisoned : Bool)
  | completion (link : Nat) (address : Word) (id : Word) (status : Word)
  | msix (link : Nat) (vector : Nat)
deriving DecidableEq, Repr

/-- Where the start stands (R28, R454, R455). -/
inductive StartPhase where
  | resetReleased
  | failed (at_ : Nat)   -- waits 100 ms from that tick and starts again
  | terminal        -- a failed start in minimal mode
  | done
deriving DecidableEq, Repr

/-- A fabric packet in the retry buffer of its port (R349, R350, R352): the modules that its header names, its channel, the lane of a Relay packet, its bytes of payload, and its flits without acknowledgement. -/
structure FabricPacket where
  target  : Nat
  source  : BitVec 18
  channel : Nat
  lane    : Option Nat
  payload : Nat
  flits   : Nat
deriving DecidableEq, Repr

/-- A fabric port (R353, R462): 0 down, 1 up, 2 retraining; the replays of its oldest flit without acknowledgement; its retry buffer, oldest packet first; the tick at which it began to retrain, 0 when it does not. -/
structure Port where
  id      : Nat
  status  : Nat
  replays : Nat
  retry   : List FabricPacket
  since   : Nat
deriving DecidableEq, Repr

/-- A line that a host link has written and no doorbell has turned yet, with the module number under which it was written (R24). -/
structure HostWrite where
  link : Nat
  line : Nat
  wmod : BitVec 18
deriving DecidableEq, Repr

/-- The module front end (R12, R18 to R39, R454 to R462). -/
structure Front where
  assigned  : Bool
  modnum    : BitVec 18
  modstat   : Word
  bootcause : Word
  failed    : Nat
  phase     : StartPhase
  lattol    : Word
  pwrcap    : Word
  pwrstat   : Word
  diestate  : Word
  bar2base  : Word
  bar2      : Vector (Option Nat) 2  -- n of a BAR2 that the host has resized to 2 ^ (28 + n) bytes (R17, R20)
  hosterr   : Word
  capHold   : Bool
  avgAt     : Option Nat      -- tick of the latest average of module power (R16)
  overSince : Option Nat      -- the tick since which the average exceeds CAP at CLKSTEP 6 (R459)
  windows   : List Window
  linkUp    : Vector Bool 2
  linkWas   : Vector Bool 2   -- it was up before (a retrain, R460)
  ports     : List Port       -- ports that are not down
  wrote     : List HostWrite  -- host writes not yet turned (R24)
  logSeq    : Nat
  frames    : List (Nat × Word) -- route updates that arrived on channel 7 (R352)
  toHost    : List ToHost
deriving DecidableEq, Repr

/-- The Starter (R12, R326, R333). -/
structure Starter where
  queued  : List Launch
  live    : List Launch
  retired : List Retired     -- latest first
  seqs    : List (Nat × Nat) -- (queue, packets accepted since the start)
  order   : Nat
  frozen  : List (Word × Nat) -- cancelled or failed producers of launches here, with the W at which they stand (R64)
deriving DecidableEq, Repr

/-- The block of a copy command that a packet carries: channel, the command's SEQ, and the block's first byte (R349, R353). -/
structure Block where
  chan : Nat
  seq  : Nat
  off  : Nat
deriving DecidableEq, Repr

/-- A write on its way to its home (R84), over a fabric port when `port` is given (R350, R353). DESIGN CHOICE, log entry 9. -/
structure Flight where
  entry   : OutEntry
  core    : Nat
  port    : Option Nat
  channel : Nat               -- its virtual channel (R352)
  local_  : Option Nat        -- the tick of its local completion (R353)
  block   : Option Block      -- of a copy, when it is no store
deriving DecidableEq, Repr

/-- A read reply on its way (R84, R187). -/
structure Reply where
  sid  : Nat
  d    : Reg
  data : Word
  line : Nat
  fill : Option Line
deriving DecidableEq, Repr

/-- A declaration on its way from a core to the Starter (R59). -/
structure Declaration where
  core  : Nat
  lid   : Word
  first : Nat
  last  : Nat
deriving DecidableEq, Repr

/-- A credit or an enqueue on its way to, or waiting at, an object's home (R252, R295): the line that its address named as it was sent, and whether it has been at the home, which registered or refused it (R290, R346). -/
structure Credit where
  core  : Nat
  chan  : Nat
  cmd   : CopyCmd
  at_   : Nat
  line  : Option Nat
  there : Bool
deriving DecidableEq, Repr

/-- A wake-up or status on its way from a home to a Pacer (R290). -/
structure Wake where
  sid    : Nat
  status : Word
  datum  : Option (Reg × Word)
  elems  : Option (Reg × List Word)
deriving DecidableEq, Repr

/-- A turn invalidation on its way or acknowledged: its core, the line, the strand whose turn it belongs to, and the position of the VSCC whose successful element made it (R245, R246), 0 for that of a TURN (R89, R92). -/
structure Inval where
  core : Nat
  line : Nat
  sid  : Nat
  pos  : Nat
deriving DecidableEq, Repr

/-- A waiter registered at an object's home: a strand, or the enqueue of a PUTQ, by its core and channel (R252, R290). -/
structure Waiter where
  sid : Nat                   -- 0: an enqueue
  obj : Nat
  put : Option (Nat × Nat)
deriving DecidableEq, Repr

/-- What the homes and the networks hold. -/
structure Homes where
  waiters : List Waiter            -- first registered first (R290)
  wnet    : List Flight
  loads   : List Reply
  invals  : List Inval             -- on their way to their cores
  acks    : List Inval             -- acknowledgements on their way back
  decls   : List Declaration
  credits : List Credit
  enqs    : List Credit
  wakes   : List Wake
  poisons : List (Nat × BitVec 15) -- by vault of another module: the lines that this module has poisoned there (R428, R429)
deriving DecidableEq, Repr

/-- One rank's contribution to a round (R357). -/
structure Contribution where
  sid    : Nat               -- 0: a strand of another module
  rank   : Nat
  bytes  : List (Nat × Byte)
  op     : Word
  chunk  : Word
  narrow : Bool              -- its elements are B16, else F32
  clash  : Bool              -- a later store of the round found another COP or CSTRIDE (R358)
  sent   : Nat               -- how many of its bytes, the earliest, the Relay has sent (R446)
  record : Record            -- the operand record of its latest store (R389)
deriving DecidableEq, Repr

/-- A round of a collective slot in progress (R357 to R360). -/
structure Round where
  group : Nat
  slot  : Nat
  parts : List Contribution
deriving DecidableEq, Repr

/-- The protected stores of R428, with the unit that an error is found in. -/
inductive SramStore where
  | scratchpad | scratchpadTag | inbound | outbound | cell | code | register | translation
deriving DecidableEq, Repr

/-- What reaches the module from outside and has no row in the opcode table. DESIGN CHOICE, log entry 60. -/
inductive Outside where
  | registerRead (link : Nat) (off : BitVec 26)       -- a host read of BAR0 (R18)
  | mirrorRead (link off : Nat)                       -- a host read of the mirror in configuration space (R455)
  | bar2Resize (link n : Nat)                         -- the host resizes BAR2 of a link (R17)
  | fatal (sid : Nat) (cause : BitVec 10)             -- a supervisor marks a strand's trap fatal to its launch (R67)
  | fabricWrite (p : Party) (line : Nat) (mask : BitVec 64) (data : Line)  -- a write of another module arrives (R87)
  | fabricTurn (p : Party) (lvl : Nat) (all : Bool) (line n : Nat)  -- a turn of another module's strand reaches lines homed here (R89, R464)
  | flitAck (port : Nat)                              -- the partner port acknowledges a flit (R462)
  | softError (line bytes : Nat)                      -- bytes of the codeword of a vault line go bad (R426)
  | saveProgress (sid n : Nat)                        -- the save of a strand writes its next regions (R395)
  | turnProgress (sid n : Nat)                        -- the turning instruction at a strand's program counter has done part of its first lines (R92, R318)
  | copyProgress (core channel n : Nat)               -- Harrier has turned the first lines of the destination of its channel's running command (R101, R318)
  | sram (store : SramStore) (core at_ : Nat) (hard : Bool) (source : Nat) (finder : Option (BitVec 12))  -- an error in a protected store, found as R427's SOURCE says, by the access of the strand in a slot of the module, given as a writer id (R428)
  | contribution (c : Contribution) (group slot : Nat)       -- a rank on another module contributes (R357)
  | chunkSent (group slot rank : Nat)                 -- the Relay sends what a rank has contributed so far (R446)
deriving DecidableEq, Repr

/-- One entry of the agenda: an event of the opcode table, or something from outside it. DESIGN CHOICE, log entry 1. -/
inductive Move where
  | event (i : Instr)
  | outside (o : Outside)
deriving DecidableEq, Repr

/-- Schedule data, the model's own: which move comes next and how long it takes (log entries 1 to 3). -/
structure Sched where
  agenda : List Move          -- moves to make before the issuing strand goes on
  cut    : Option Nat         -- the next turn meets its deadline after that many lines, a search after that many probes
  slip   : List Nat           -- the order in which lane groups attempt their elements
  elapse : List Nat           -- nanoseconds that each coming step takes
  lost   : List Bool          -- whether each coming request or Relay hop to another module is lost; of a packet that is lost, whether its bytes had landed (R353, R462, R463)
  races  : List Bool          -- whether each coming TASKSTEAL that finds a deque empty lost its last entry to another remover (R300)
  part   : Option Nat         -- a forced pre-emption that falls within the coming vector instruction stops it after that many elements (R339, R391)
  pause  : Option Nat         -- the coming search goes on in a later step after that many probes (R344)
  soft   : List (Nat × Nat)   -- vault lines with bytes of their codewords in error, and how many (R426)
deriving DecidableEq, Repr

/-- What keeps the move that is being made from happening now, the model's own: the dies whose homes it needs and that sleep (R37), and whether it would overtake an earlier write of its own strand (R85); whether the instruction of the move waits at issue (R337); the dies whose networks or homes it uses (R35); and the vault lines with codewords in error that it decodes, with the SOURCE and WRITER of R427 (R426). DEDUCED, log entry 26; DESIGN CHOICE, log entry 61. -/
structure Mark where
  dies : List Nat
  used : List Nat
  soft : List (Nat × Nat × BitVec 12)
  net  : Bool
  idle : Bool
deriving DecidableEq, Repr

/-- The whole machine. The issuing strand is `cur` and its core is `core`; the other strands and cores stand in the lists. -/
structure State where
  cur     : Strand
  core    : Core
  strands : List Strand
  cores   : List Core
  dies    : List Die
  mem     : List Host.Cell
  tags    : List (Nat × Tag)   -- by line number (log address / 64), lines whose tag is not clear
  front   : Front
  starter : Starter
  homes   : Homes
  rounds  : List Round
  relaySeq : Nat               -- chunks that the Relay has taken (R389)
  dclkw   : BitVec 63
  sched   : Sched
  fresh   : Nat
  nextSid : Nat
  mark    : Mark
deriving DecidableEq, Repr

/-! ### Reset -/

def Ident.reset : Ident := ⟨0, 0, 0, 0, 0, 0, 0, 0, 0, 0, 0, 0, 0, 0, 0, 4, 0, 0, 0, false, 0, 0⟩

/-- The strand CSRs at reset (R113, R173, R226, R254, R262, R271, R280, R301, R388). DESIGN CHOICE, log entry 17. -/
def Csrs.reset : Csrs where
  vl := 0
  vtype := 0
  vm := 0
  vstr := 0
  vstart := 0
  fcsr := 0
  tshape := 0
  ten := 0
  tpitch := 0
  tprec := 0
  sigcfg := 0
  cgroup := 0
  cop := 0
  cstride := 0
  widbase := 0
  widcnt := 0
  launchid := 0
  tocnt := 0
  dclkr := 0
  sstatus := 0
  tcause := 0
  tpc := 0
  tval := 0
  trec := 0
  epc := 0
  tvec := 0
  ptroot := 0
  asid := 0
  tlg := Vector.replicate 8 0

/-- No strand: every register 0 (R54) and the grant of log entry 10. DESIGN CHOICE, log entries 10, 17. -/
def Strand.reset : Strand where
  id := Ident.reset
  pc := 0
  x := Vector.replicate 32 0
  v := Vector.replicate 32 0
  grant := 4
  c := Csrs.reset
  streams := Vector.replicate 4 none
  wlog := []
  link := []
  records := []
  slots := []
  group := none
  hold := none
  run := .absent
  stall := none
  due := none
  entry := false
  blockedOn := none
  request := none
  sent := false
  aged := none
  dbg := false
  escal := none
  stay := 0
  nestAt := 0
  repeats := 0
  again := false
  pos := 0
  stepping := false
  saveAt := 0
  repEpc := 0
  repCode := 0
  haltTurned := 0
  search := none
  progress := 0

def Chan.reset : Chan := ⟨0, 0, [], false⟩

/-- Core `n` at reset (R73, R102, R280, R443; log entries 11 to 13). DEDUCED, log entry 11; PRESUMED, log entry 12; DESIGN CHOICE, log entry 13. -/
def Core.reset (n : Nat) : Core where
  id := n
  dlcap := 1000000000
  escal := 16
  vlbase := 0
  vlsize := 0
  dbgctl := 0
  chans := Vector.replicate 8 Chan.reset
  copySeq := 0
  inb := []
  icb := []
  outb := []
  tlb := []
  cells := []
  l0 := 0
  holder := none
  clearing := false
  eng := []
  engSeq := 0
  poison := 0
  patrol := 0
  lastIss := []
  cycle := []

/-- DEDUCED, log entry 11. -/
def Die.reset (n : Nat) : Die := ⟨n, [], [], .steady, 0, 0, []⟩

/-- The front end at reset (R19 to R39, R460; log entries 15, 16). -/
def Front.reset : Front where
  assigned := false
  modnum := 0
  modstat := 0
  bootcause := 0
  failed := 0
  phase := .resetReleased
  lattol := 0
  pwrcap := 16000
  pwrstat := 0
  diestate := 0
  bar2base := 0
  bar2 := Vector.replicate 2 none
  hosterr := 0
  capHold := false
  avgAt := none
  overSince := none
  windows := []
  linkUp := Vector.replicate 2 false
  linkWas := Vector.replicate 2 false
  ports := []
  wrote := []
  logSeq := 1
  frames := []
  toHost := []

def Starter.reset : Starter := ⟨[], [], [], [], 0, []⟩
def Homes.reset : Homes := ⟨[], [], [], [], [], [], [], [], [], []⟩
def Sched.reset : Sched := ⟨[], none, [], [], [], [], none, none, []⟩

/-- Nothing keeps the move from happening, and no instruction waits at issue. -/
def Mark.clear : Mark := ⟨[], [], [], false, false⟩

/-- The machine as reset is released (R28): READY is 0 and no strand is resident. DESIGN CHOICE, log entry 17. -/
def State.reset : State where
  cur := Strand.reset
  core := Core.reset 0
  strands := []
  cores := []
  dies := []
  mem := []
  tags := []
  front := Front.reset
  starter := Starter.reset
  homes := Homes.reset
  rounds := []
  relaySeq := 0
  dclkw := 0
  sched := Sched.reset
  fresh := 0
  nextSid := 1
  mark := Mark.clear

end Sys2Proof.Machine
end

