-- ==== Sys2Proof/Machine/Memory.lean ====
section
/-! DEFINITION. Memory and line tags as sparse lists in one canonical form, keyed by the log address of R238 with the own module's number taken out of its module field: the own module's vault lines stand at their module physical addresses, its scratchpad blocks above bit 60. -/

namespace Sys2Proof.Machine

/-- What an unlisted address reads as: every byte is zero after a start (R28 step 5). DESIGN CHOICE, log entry 6. -/
def Memory.unlisted : Byte := 0

/-- The byte at an address. DESIGN CHOICE, log entry 6. -/
def Memory.get : List Host.Cell → Nat → Byte
  | [], _ => Memory.unlisted
  | (a, b) :: r, x => if x < a then Memory.unlisted else if x = a then b else Memory.get r x

/-- The memory with one byte replaced, in canonical form. DESIGN CHOICE, log entry 6. -/
def Memory.set : List Host.Cell → Nat → Byte → List Host.Cell
  | [], x, b => if b = Memory.unlisted then [] else [(x, b)]
  | (a, c) :: r, x, b =>
    if x < a then (if b = Memory.unlisted then (a, c) :: r else (x, b) :: (a, c) :: r)
    else if x = a then (if b = Memory.unlisted then r else (x, b) :: r)
    else (a, c) :: Memory.set r x b

/-- Addresses rise strictly above `lo` and no entry equals what an unlisted address reads as. -/
def Memory.above : Nat → List Host.Cell → Bool
  | _, [] => true
  | lo, (a, b) :: r => decide (lo ≤ a) && (b != Memory.unlisted) && Memory.above (a + 1) r

/-- The canonical form of memory. DESIGN CHOICE, log entry 6. -/
def Memory.wf (m : List Host.Cell) : Bool := Memory.above 0 m

/-- Successive bytes from an address. -/
def Memory.bytes (m : List Host.Cell) (a : Nat) : Nat → List Byte
  | 0 => []
  | n + 1 => Memory.get m a :: Memory.bytes m (a + 1) n

/-- The memory with successive bytes replaced from an address. -/
def Memory.setBytes (m : List Host.Cell) (a : Nat) : List Byte → List Host.Cell
  | [] => m
  | b :: r => Memory.setBytes (Memory.set m a b) (a + 1) r

/-- The 64 bytes of a line. -/
def Memory.line (m : List Host.Cell) (l : Nat) : Line := BitVec.ofNat 512 (ofBytes (Memory.bytes m (64 * l) 64))

/-- The masked bytes of a line replaced, from byte `k` on. -/
def Memory.setMasked (m : List Host.Cell) (a : Nat) (mask : Nat) (data : Nat) : Nat → List Host.Cell
  | 0 => m
  | n + 1 =>
    Memory.setMasked (if mask % 2 = 1 then Memory.set m a (BitVec.ofNat 8 data) else m)
      (a + 1) (mask / 2) (data / 256) n

/-- The tag of a line. -/
def Tags.get : List (Nat × Tag) → Nat → Tag
  | [], _ => Tag.clear
  | (a, t) :: r, x => if x < a then Tag.clear else if x = a then t else Tags.get r x

/-- The tags with one line's tag replaced; a clear tag is not listed. -/
def Tags.set : List (Nat × Tag) → Nat → Tag → List (Nat × Tag)
  | [], x, t => if t = Tag.clear then [] else [(x, t)]
  | (a, u) :: r, x, t =>
    if x < a then (if t = Tag.clear then (a, u) :: r else (x, t) :: (a, u) :: r)
    else if x = a then (if t = Tag.clear then r else (x, t) :: r)
    else (a, u) :: Tags.set r x t

/-! ### Names of lines -/

/-- Bit 60 of a log address: a scratchpad block (R238). -/
def spadBit : Nat := 2 ^ 60

/-- A vault line or byte has bit 60 clear (R238). -/
def isSpad (key : Nat) : Bool := decide (spadBit ≤ key)

/-- The key of a scratchpad byte of the own module (R238): core number and offset. -/
def spadKey (core off : Nat) : Nat := spadBit + core * 2 ^ 33 + off

/-- The module field of a key, 0 for the own module. -/
def keyModule (key : Nat) : Nat := (key / 2 ^ 42) % 2 ^ 18

/-- The module core number that owns a key's vault or scratchpad. -/
def keyCore (key : Nat) : Nat := (key / 2 ^ 33) % 2 ^ 9

/-- The die of a key. -/
def keyDie (key : Nat) : Nat := (key / 2 ^ 37) % 32

/-- The key of a global physical address: the own module's number is taken out. DESIGN CHOICE, log entry 9. -/
def keyOf (own : BitVec 18) (global : Nat) : Nat := (global % 2 ^ 60) ^^^ (own.toNat * 2 ^ 42)

/-- The global physical address of a vault key. DESIGN CHOICE, log entry 9. -/
def globalOf (own : BitVec 18) (key : Nat) : Nat := (key % 2 ^ 60) ^^^ (own.toNat * 2 ^ 42)

/-! ### Memory in the state -/

def State.byte (s : State) (key : Nat) : Byte := Memory.get s.mem key
def State.line (s : State) (l : Nat) : Line := Memory.line s.mem l
def State.tag (s : State) (l : Nat) : Tag := Tags.get s.tags l
def State.setTag (s : State) (l : Nat) (t : Tag) : State := { s with tags := Tags.set s.tags l t }
def State.setBytes (s : State) (key : Nat) (bs : List Byte) : State := { s with mem := Memory.setBytes s.mem key bs }

end Sys2Proof.Machine
end

