-- ==== Sys2Proof/Machine/Units.lean ====
section
/-! DEFINITION. Finding and replacing the units of the state: strands by name, cores and dies by number; levels and distances (R2, R3). -/

namespace Sys2Proof.Machine

/-- The outcome of a meaning. -/
abbrev Out := Host.Outcome State Fault Refusal

/-- The wall clock as a number of nanoseconds. -/
def State.now (s : State) : Nat := s.dclkw.toNat

/-- A strand that is there and has not ended. -/
def Strand.live (t : Strand) : Bool :=
  match t.run with
  | .absent => false
  | .lost _ => false
  | .ended => false
  | _ => true

/-- A strand that occupies its slot (R41, R444: a strand halted by debug keeps its slot). -/
def Strand.resident (t : Strand) : Bool :=
  match t.run with
  | .away _ _ => t.dbg
  | .running => true
  | .waiting _ => true
  | .holding => true
  | .saving _ _ => true
  | .restoring _ _ => true
  | _ => false

/-- The strand's current privilege (R388). -/
def Strand.sup (t : Strand) : Bool := t.c.sstatus.getLsbD 0

/-- SSTATUS.NEST (R388). -/
def Strand.nest (t : Strand) : Bool := t.c.sstatus.getLsbD 2

/-- SSTATUS.TLGV (R388). -/
def Strand.tlgv (t : Strand) : Bool := t.c.sstatus.getLsbD 3

/-- The writer id of a strand slot: die, core, slot (R87, R7). -/
def writerId (core slot : Nat) : BitVec 12 := BitVec.ofNat 12 (8 * core + slot)

/-- The writer id of a strand (R87). -/
def Strand.writer (t : Strand) : BitVec 12 := writerId t.id.core t.id.slot

/-- Every strand the module holds. DESIGN CHOICE, log entry 8. -/
def State.all (s : State) : List Strand := s.cur :: s.strands

/-- The strand of a name. DESIGN CHOICE, log entries 8, 59. -/
def State.strand (s : State) (sid : Nat) : Option Strand :=
  if s.cur.id.sid = sid ∧ sid ≠ 0 then some s.cur else s.strands.find? (fun t => t.id.sid == sid)

/-- One strand replaced by name. -/
def State.setStrand (s : State) (t : Strand) : State :=
  if s.cur.id.sid = t.id.sid then { s with cur := t }
  else { s with strands := updFirst (fun u => u.id.sid == t.id.sid) (fun _ => t) s.strands }

/-- The state with `f` applied to the strand of a name, when there is one. -/
def State.onStrand (s : State) (sid : Nat) (f : Strand → Strand) : State :=
  match s.strand sid with
  | some t => s.setStrand (f t)
  | none => s

/-- A core by module core number; one that nothing has touched is as at reset. -/
def State.coreAt (s : State) (n : Nat) : Core :=
  if s.core.id = n then s.core else (s.cores.find? (fun k => k.id == n)).getD (Core.reset n)

/-- One core replaced by number. -/
def State.setCore (s : State) (k : Core) : State :=
  if s.core.id = k.id then { s with core := k }
  else if s.cores.any (fun q => q.id == k.id) then
    { s with cores := updFirst (fun q => q.id == k.id) (fun _ => k) s.cores }
  else { s with cores := insertBy (fun a b => decide (a.id < b.id)) k s.cores }

/-- The state with `f` applied to one core. -/
def State.onCore (s : State) (n : Nat) (f : Core → Core) : State := s.setCore (f (s.coreAt n))

/-- The state with `f` applied to every core that anything has touched. -/
def State.onCores (s : State) (f : Core → Core) : State :=
  { s with core := f s.core, cores := s.cores.map f }

/-- A die by number; one that nothing has touched is as at reset. -/
def State.dieAt (s : State) (n : Nat) : Die := (s.dies.find? (fun d => d.id == n)).getD (Die.reset n)

/-- One die replaced by number. -/
def State.setDie (s : State) (d : Die) : State :=
  if s.dies.any (fun q => q.id == d.id) then
    { s with dies := updFirst (fun q => q.id == d.id) (fun _ => d) s.dies }
  else { s with dies := insertBy (fun a b => decide (a.id < b.id)) d s.dies }

def State.onDie (s : State) (n : Nat) (f : Die → Die) : State := s.setDie (f (s.dieAt n))

/-- The die of a module core number (R7). -/
def dieOf (core : Nat) : Nat := core / 16

/-- The die that holds a key's home: a scratchpad block's is its core's (R37). -/
def homeDie (key : Nat) : Nat := if isSpad key then keyCore key / 16 else keyDie key

/-- DIESTATE of a die (R34). -/
def State.dieState (s : State) (die : Nat) : Nat := field s.front.diestate (2 * die) 2

/-- A die answers requests: in A0 with no entry or exit under way; a failed one answers with a fault (R37, R458). -/
def State.dieAnswers (s : State) (die : Nat) : Bool :=
  match (s.dieAt die).phase with
  | .failed => true
  | .steady => decide (s.dieState die = 0)
  | _ => false

/-- The move uses the networks of some dies (R8, R35). DEDUCED, log entry 26. -/
def State.passes (s : State) (dies : List Nat) : State := { s with mark := { s.mark with used := dies ++ s.mark.used } }

/-- A request to a home of the own module, whose die is busy with it (R35): one whose die sleeps waits for its wake (R37). DESIGN CHOICE, log entry 61. -/
def State.touch (s : State) (key : Nat) : State :=
  if keyModule key ≠ 0 then s
  else if s.dieAnswers (homeDie key) then s.passes [homeDie key]
  else { s with mark := { s.mark with dies := homeDie key :: s.mark.dies } }

/-- Column and row distance of two dies: bridges on the shortest path (R7, R344). -/
def dieHops (a b : Nat) : Nat :=
  let dx (x y : Nat) : Nat := if x < y then y - x else x - y
  dx (a % 6) (b % 6) + dx (a / 6) (b / 6)

/-- The selector of an address (R70). -/
def selector (va : Word) : Nat := field va 56 8

/-- The perimeter dies in ascending order (R13). -/
def perimeter : List Nat := [0, 1, 2, 3, 4, 5, 6, 11, 12, 17, 18, 19, 20, 21, 22, 23]

/-- The die that carries a fabric port (R13). -/
def portDie (p : Nat) : Nat := perimeter.getD (p / 3) 0

/-- The perimeter die through which a die sends: itself, or the nearest, the lowest of several. DESIGN CHOICE, log entry 62. -/
def sendDie (die : Nat) : Nat :=
  (sortBy (fun a b => decide (dieHops die a < dieHops die b)) perimeter).headD 0

/-- The die of a host link (R13). -/
def linkDie (link : Nat) : Nat := if link = 0 then 0 else 5

/-- The dies that a message crosses on its way, both ends included: columns first, or rows first (R8, R85, R345). -/
def diePath (a b : Nat) (rowFirst : Bool) : List Nat :=
  let between (x y : Nat) : List Nat := upto (Nat.min x y) (Nat.max x y - Nat.min x y + 1)
  let (rowAt, colAt) := if rowFirst then (b / 6, a % 6) else (a / 6, b % 6)
  (between (a % 6) (b % 6)).map (fun c => rowAt * 6 + c) ++ (between (a / 6) (b / 6)).map (fun r => r * 6 + colAt)

/-- The issuing strand moved aside and the named strand, with its core, made the issuing one. -/
def State.focus (s : State) (sid : Nat) : State :=
  if s.cur.id.sid = sid then s
  else
    match s.strands.find? (fun t => t.id.sid == sid) with
    | none => s
    | some t =>
      let rest := s.strands.filter (fun u => u.id.sid != sid)
      let others := match s.cur.run with
        | .absent => rest
        | _ => s.cur :: rest
      let k := s.coreAt t.id.core
      if s.core.id = k.id then { s with cur := t, strands := others }
      else { s with
        cur := t, strands := others, core := k,
        cores := insertBy (fun a b => decide (a.id < b.id)) s.core (s.cores.filter (fun q => q.id != k.id)) }

/-- `f` performed with the named strand as the issuing one, the issuing strand restored after it. -/
def State.asStrand (s : State) (sid : Nat) (f : State → State) : State :=
  match s.strand sid with
  | none => s
  | some _ => (f (s.focus sid)).focus s.cur.id.sid

/-- The smallest level that contains a reader and a writer (R3, R87): 0 S, 1 C, 2 D, 3 M, 4 G. -/
def distance (reader writer : BitVec 12) (sameModule : Bool) : Nat :=
  if !sameModule || decide (30 ≤ writer.toNat / 128) then 4
  else if reader = writer then 0
  else if reader.toNat / 8 = writer.toNat / 8 then 1
  else if reader.toNat / 128 = writer.toNat / 128 then 2
  else 3

/-- A counter for free values, and the state with it advanced. DESIGN CHOICE, log entry 4. -/
def State.draw (s : State) : Nat × State := (s.fresh, { s with fresh := s.fresh + 1 })

/-- A party that reads and writes memory: a strand, or a unit on its behalf. -/
structure Agent where
  sid    : Nat
  core   : Nat
  writer : BitVec 12
  sup    : Bool
  ptroot : Word
  asid   : BitVec 16
deriving DecidableEq, Repr

/-- The strand as a reader and writer of memory. -/
def Strand.agent (t : Strand) : Agent :=
  ⟨t.id.sid, t.id.core, t.writer, t.sup, t.c.ptroot, t.c.asid.extractLsb' 0 16⟩

def State.me (s : State) : Agent := s.cur.agent

end Sys2Proof.Machine
end

