-- ==== Sys2Proof/Machine/Home.lean ====
section
/-! DEFINITION. What happens at a line's home and in the caches before it: reads by tag and distance (R95), writes and their tags (R88), invalidations (R89, R465), routes to other modules (R350, R351), operand records (R389) and the save area (R393). -/

namespace Sys2Proof.Machine

/-! ### The inbound cache (R83) -/

def Core.cached (k : Core) (l : Nat) : Option Line := (k.inb.find? (fun e => e.1 == l)).map (·.2)

/-- A fill: the set of the line holds at most 16 lines, and the way that leaves is a free value. DESIGN CHOICE, log entry 4. -/
def Core.fill (k : Core) (n : Nat) (l : Nat) (d : Line) : Core :=
  let set := k.inb.filter (fun e => e.1 % 2048 == l % 2048)
  if set.length < 16 then { k with inb := (l, d) :: k.inb }
  else
    match set[Config.victim n % 16]? with
    | some v => { k with inb := (l, d) :: k.inb.filter (fun e => e.1 != v.1) }
    | none => { k with inb := (l, d) :: k.inb }

/-- A fill of the instruction cache, 4,096 lines; the line that leaves a full one is a free value (R11). DESIGN CHOICE, log entry 4; DEDUCED, log entry 51. -/
def Core.fillCode (k : Core) (n : Nat) (l : Nat) (d : Line) : Core :=
  { k with icb := if k.icb.length < 4096 then (l, d) :: k.icb else (l, d) :: dropAt (Config.victim n % 4096) k.icb }

/-- A line stands in one of the core's caches of inbound lines. -/
def Core.holds (k : Core) (l : Nat) : Bool := (k.cached l).isSome || k.icb.any (fun e => e.1 == l)

/-- Lines [first, last) leave the caches of inbound lines, data and code. DEDUCED, log entry 51. -/
def Core.drop (k : Core) (first last : Nat) : Core :=
  { k with
    inb := k.inb.filter (fun e => decide (e.1 < first) || decide (last ≤ e.1))
    icb := k.icb.filter (fun e => decide (e.1 < first) || decide (last ≤ e.1)) }

/-! ### Ways on the meshes (R8, R85, R345, R346) -/

/-- The line hash of R345 over the module physical address, or over the address within a scratchpad (R347). -/
def lineHash (key : Nat) : Nat :=
  let n := (if isSpad key then key % 2 ^ 23 else key) / 64 % 2 ^ 36
  (upto 0 12).foldl (fun h i => h ^^^ ((n / 8 ^ i) % 8)) 0

/-- The dimension order of a message about a line: rows first when h[2] is 1 (R345). -/
def rowFirst (key : Nat) : Bool := decide (lineHash key / 4 % 2 = 1)

/-- The dies that a message about a line crosses from one die to another, in the dimension order of h[2] (R8, R85, R345). -/
def pathFor (a b key : Nat) : List Nat := diePath a b (rowFirst key)

/-- The dies that a message from a core to a home crosses (R8). -/
def crossed (core key : Nat) : List Nat := pathFor (dieOf core) (homeDie key) key

/-- The dies that a message from a home to a core crosses: a reply, an invalidation, a wake-up (R8, R345). DEDUCED, log entry 26. -/
def returned (core key : Nat) : List Nat := pathFor (homeDie key) (dieOf core) key

/-- The dies that a request and its reply cross (R8). DEDUCED, log entry 26. -/
def roundTrip (core key : Nat) : List Nat := crossed core key ++ returned core key

/-- The virtual channel of a message about a line on a mesh and on the die bridges, by class: h[1:0] of the four general ones, or h[0] of the two of class 0, numbered after them (R345). DESIGN CHOICE, log entry 62. -/
def meshChannel (cls key : Nat) : Nat := if cls = 0 then 4 + lineHash key % 2 else lineHash key % 4

/-- The way of the messages of a class between a core and a line's home on one network: they stay in order on it (R345, R346). -/
def wayOf (core cls key : Nat) : Nat × Nat × Nat × Bool := (core, key / 2 ^ 33, meshChannel cls key, rowFirst key)

/-- The dimension orders of lines [first, last): 16 lines in a row have both (R345). -/
def ordersIn (first last : Nat) : List Bool :=
  [false, true].filter (fun b => (upto first (Nat.min 16 (last - first))).any (fun l => rowFirst (64 * l) == b))

/-- Where an invalidation for the caches of a die is acknowledged: there, or by die 0 for a die that is out of A0 (R36, R458). -/
def State.inbox (s : State) (die : Nat) : Nat := if s.dieState die = 0 ∧ (s.dieAt die).phase ≠ .failed then die else 0

/-- The dies of the module that run: die 0 alone in minimal mode (R30). DESIGN CHOICE, log entry 24. -/
def State.allDies (s : State) : List Nat := if s.front.modstat.getLsbD 1 then [0] else upto 0 24

/-- The dies that the invalidations of lines [first, last) of one die and their acknowledgements cross, to and from the caches of some dies: none for scratchpad blocks and lines of another module, which no cache here holds (R89, R238, R345). DEDUCED, log entry 26. -/
def State.invalPaths (s : State) (dies : List Nat) (first last : Nat) : List Nat :=
  if isSpad (64 * first) ∨ keyModule (64 * first) ≠ 0 then []
  else
    let h := homeDie (64 * first)
    distinctNat ((ordersIn first last).flatMap (fun b => dies.flatMap (fun d => diePath h (s.inbox d) b ++ diePath (s.inbox d) h b)))

/-- The home invalidates lines of one die in every inbound cache of its module (R465). -/
def State.invalidateAll (s : State) (first last : Nat) : State :=
  (s.passes (s.invalPaths s.allDies first last)).onCores (fun k => k.drop first last)

/-! ### Codewords (R426) -/

/-- The slice decodes the codeword of a line: one with bytes in error is corrected or poisoned before the access goes on. DESIGN CHOICE, log entry 27. -/
def State.decodes (s : State) (l source : Nat) (writer : BitVec 12) : State :=
  if s.sched.soft.any (fun e => e.1 == l) then { s with mark := { s.mark with soft := (l, source, writer) :: s.mark.soft } } else s

/-- The slice decodes the codewords of lines [first, last). DESIGN CHOICE, log entry 27. -/
def State.decodesIn (s : State) (first last source : Nat) (writer : BitVec 12) : State :=
  match s.sched.soft.find? (fun e => decide (first ≤ e.1) && decide (e.1 < last)) with
  | some e => s.decodes e.1 source writer
  | none => s

/-! ### Routes (R350, R351) -/

/-- Ports 0 to 47 that are not down (R462). -/
def State.portOk (s : State) (p : Nat) : Bool :=
  decide (p < 48) && s.front.ports.any (fun q => q.id == p && q.status != 0)

/-- The candidate ports of a route entry that are left (R351); none when the entry counts as no route. -/
def State.candidates (s : State) (e : Word) : List Nat :=
  let n := field e 24 3
  if field e 40 24 ≠ 0 ∨ field e 27 5 ≠ 0 ∨ field e 32 8 = 0 ∨ n > 4 then []
  else (([field e 0 6, field e 6 6, field e 12 6, field e 18 6]).take n).filter s.portOk

/-- The virtual channel of a request or a write to a line, by class (R352). -/
def requestChannel (cls key : Nat) : Nat := if cls = 0 then 0 else 2 + lineHash key % 2

/-- The virtual channel of its reply or acknowledgement (R352). -/
def replyChannel (cls key : Nat) : Nat := if cls = 0 then 1 else 4 + lineHash key % 2

/-- The fabric carries ordinary traffic: trained, numbered, and not in minimal mode (R19, R30, R31). -/
def State.fabricUp (s : State) : Bool :=
  s.front.assigned && s.front.modstat.getLsbD 2 && decide (s.front.modnum.toNat < 200000)

/-- The route entry of a module as perimeter die `die` sends toward it: held, or read at the home at distance G, whose slice decodes the line, and then held (R351, R426); a die that holds 4,096 drops the one it has held longest. DESIGN CHOICE, log entries 27, 81. -/
def State.routeEntry (s : State) (die target : Nat) : Word × State :=
  match (s.dieAt die).routes.find? (fun e => e.1 == target) with
  | some e => (e.2, s)
  | none =>
    let a := 0x400000 + 8 * target
    let s := ((s.touch a).passes (pathFor die 0 a ++ pathFor 0 die a)).decodes (a / 64) 0 0xFFF
    let t := s.tag (a / 64)
    let e : Word := if t.state = 5 ∨ t.state = 4 then BitVec.ofNat 64 (ofBytes (Memory.bytes s.mem a 8)) else 0
    (e, s.onDie die (fun d => { d with routes := ((target, e) :: d.routes).take 4096 }))

/-- The port that a packet takes from a core toward a key's home on another module; none where no route leads (R350, R351). -/
def State.portFor (s : State) (core key : Nat) : Option Nat × State :=
  let target := keyModule key ^^^ s.front.modnum.toNat
  if !s.fabricUp || decide (200000 ≤ target) then (none, s)
  else
    let (e, s) := s.routeEntry (sendDie (dieOf core)) target
    let ports := s.candidates e
    (ports[lineHash key % ports.length]?, s)

/-- The flits of a packet: a header of 32 bytes and its payload, 256 bytes a flit (R349). -/
def packetFlits (payload : Nat) : Nat := (32 + payload + 255) / 256

/-- The payload of a packet that carries `n` bytes: 64 to 4,096 in a multiple of 64 (R349). -/
def packetPayload (n : Nat) : Nat := Nat.min 4096 (Nat.max 64 ((n + 63) / 64 * 64))

/-- The bytes of each of the packets that carry `n` bytes: 4,096, and in the last the rest (R349). -/
def packetCuts : (fuel : Nat) → (n : Nat) → List Nat
  | 0, n => [n]
  | f + 1, n => if n ≤ 4096 then [n] else 4096 :: packetCuts f (n - 4096)

/-- The packets that carry `n` bytes to module `target` join the retry buffer of their port (R349, R350, R353). -/
def State.emit (s : State) (p target channel : Nat) (lane : Option Nat) (n : Nat) : State :=
  let ks : List FabricPacket := (packetCuts (n / 4096) n).map (fun m => ⟨target, s.front.modnum, channel, lane, packetPayload m, packetFlits (packetPayload m)⟩)
  { s with front := { s.front with ports := s.front.ports.map (fun q => if q.id = p then { q with retry := q.retry ++ ks } else q) } }

/-- The class of the strand of the own module that holds a writer id, 1 when there is none (R352). -/
def State.writerClass (s : State) (w : BitVec 12) : Nat :=
  ((s.all.find? (fun t => t.live && t.writer == w)).map (fun t => t.id.cls)).getD 1

/-- The reply or acknowledgement to another module for a line homed here, on the channel of its request's class, sent from the perimeter die of the line's die under the line's hash; with no route nothing is sent (R349, R350, R352, R464). DESIGN CHOICE, log entry 29. -/
def State.answer (s : State) (a : Party) (key n : Nat) : State :=
  if !s.fabricUp || decide (200000 ≤ a.module.toNat) then s
  else
    let die := sendDie (homeDie key)
    let (e, s) := s.routeEntry die a.module.toNat
    let ports := s.candidates e
    match ports[lineHash key % ports.length]? with
    | none => s
    | some p => (s.passes (pathFor (homeDie key) (portDie p) key)).emit p a.module.toNat (replyChannel (if a.urgent then 0 else 1) key) none n

/-- Whether a key's home can be reached from a core (R466); the own module always can. -/
def State.reachable (s : State) (core key : Nat) : Bool × State :=
  if keyModule key = 0 then (true, s)
  else
    let (p, s) := s.portFor core key
    (p.isSome, s)

/-- The move waits for an earlier write of its own strand, or for a port that retrains. DESIGN CHOICE, log entry 61. -/
def State.waitNet (s : State) : State := { s with mark := { s.mark with net := true } }

/-- A port retrains, so the packets for it wait (R462). -/
def State.retrains (s : State) (p : Nat) : Bool := s.front.ports.any (fun q => q.id == p && q.status == 2)

/-- The core holds a record of a lost store of a strand: its stores stand still until an entry of its record ring comes free, but for those that its save needs (R389, R395). DESIGN CHOICE, log entry 79. -/
def State.outHeld (s : State) (sid : Nat) : Bool :=
  match s.strand sid with
  | some t => t.live && (match t.run with | .saving _ _ => false | _ => true) && t.records.any (fun r => r.ring == 16 && r.unit == 0)
  | none => false

/-- A write on its way waits: the port of its packet retrains, or its strand's stores stand still (R389, R462). DESIGN CHOICE, log entry 79. -/
def State.held (s : State) (f : Flight) : Bool :=
  (match f.port with | none => false | some p => s.retrains p) || (f.block.isNone && s.outHeld f.entry.sid)

/-- Whether the coming request or hop to another module is lost on its way (R353, R462). DESIGN CHOICE, log entry 63. -/
def State.loss (s : State) : Bool × State :=
  (s.sched.lost.headD false, { s with sched := { s.sched with lost := s.sched.lost.drop 1 } })

/-- A request of `n` bytes for a writer id and its reply cross the fabric to a home on another module: `false` where no route leads or one of the two is lost (R349, R350, R352, R353, R466). -/
def State.crosses (s : State) (core : Nat) (writer : BitVec 12) (key n : Nat) : Bool × State :=
  if keyModule key = 0 then (true, s.passes (roundTrip core key))
  else
    match s.portFor core key with
    | (none, s) => (false, s)
    | (some p, s) =>
      let s := s.passes (pathFor (dieOf core) (portDie p) key ++ pathFor (portDie p) (dieOf core) key)
      let s := s.emit p (keyModule key ^^^ s.front.modnum.toNat) (requestChannel (s.writerClass writer) key) none n
      let (x, s) := (if s.retrains p then s.waitNet else s).loss
      (!x, s)

/-! ### The save area (R393) -/

/-- The key of a supervisor physical address of the own module (R71). -/
def physKey (a : Word) : Nat := a.toNat % 2 ^ 42

/-- Bytes written from a die at the home with STATE 4 and a writer id, each line of them invalidated (R393, R465). DEDUCED, log entry 14. -/
def State.writeTurned (s : State) (die : Nat) (writer : BitVec 12) (key : Nat) (bs : List Byte) : State :=
  let first := key / 64
  let last := (key + bs.length + 63) / 64
  let s := (((s.touch key).passes (pathFor die (homeDie key) key)).decodesIn first last 2 writer).setBytes key bs
  let s := (upto first (last - first)).foldl
    (fun s l => s.setTag l ⟨4, writer, (s.tag l).gen + 1, s.front.modnum⟩) s
  s.invalidateAll first last

def State.saveWrite (s : State) (t : Strand) (off : Nat) (bs : List Byte) : State :=
  s.writeTurned (dieOf t.id.core) t.writer (physKey t.id.save + off) bs

/-! ### Operand records (R389) -/

/-- The 64 bytes of a record. -/
def Record.bytes (r : Record) : List Byte :=
  toBytes 8 r.pc.toNat ++ toBytes 4 r.word.toNat ++ toBytes 1 r.unit.toNat ++ toBytes 1 r.chan.toNat ++
  toBytes 2 r.seq.toNat ++ toBytes 8 r.opa.toNat ++ toBytes 8 r.opb.toNat ++ toBytes 8 r.opc.toNat ++
  toBytes 8 r.opd.toNat ++ toBytes 2 r.vl.toNat ++ toBytes 1 r.vtype.toNat ++ [0] ++
  toBytes 4 r.tshape.toNat ++ toBytes 8 r.extra.toNat

/-- The lowest entry of the record ring that no record holds, 16 when all are in use. -/
def freeRing (rs : List Record) : Nat :=
  ((upto 0 16).find? (fun i => rs.all (fun r => r.ring != i))).getD 16

/-- The supervisor physical address of a record ring entry, the form of TREC (R388). -/
def Strand.ringAddr (t : Strand) (i : Nat) : Word := t.id.save + BitVec.ofNat 64 (0x800 + 64 * i)

/-- A faulted command's record joins the strand's pending records and is written to its ring entry (R389). -/
def State.addRecord (s : State) (sid : Nat) (r : Record) : State :=
  match s.strand sid with
  | none => s
  | some t =>
    let r := { r with ring := freeRing t.records, at_ := t.c.dclkr.toNat, given := false }
    let s := s.setStrand { t with records := t.records ++ [r] }
    if r.ring < 16 then s.saveWrite t (0x800 + 64 * r.ring) r.bytes else s

/-- SSTATUS.PEND: the records in the ring, 0 to 16 (R388). -/
def Strand.pend (t : Strand) : Nat := (t.records.filter (fun r => decide (r.ring < 16))).length

/-- The record of a store that was lost after it left the outbound buffer (R389). -/
def OutEntry.record (e : OutEntry) (cause : BitVec 10) (global : Nat) : Record where
  cause := cause
  tval := BitVec.ofNat 64 global
  pc := e.pc
  word := e.word
  unit := 0
  chan := 0
  seq := 0
  opa := BitVec.ofNat 64 global
  opb := 0
  opc := 0
  opd := 0
  vl := 0
  vtype := 0
  tshape := 0
  extra := 0
  pos := e.pos
  at_ := 0
  ring := 16
  given := false

/-! ### Reads at the home (R95) -/

/-- A failed access: the cause, TVAL, and the first address of the untranslated region or of the leaf's page, for the rules that name it (R77, R236). -/
structure XFault where
  cause : BitVec 10
  tval  : Word
  base  : Word
deriving DecidableEq, Repr

/-- The table of R95 for a miss: the data, and whether the line is filled, or the cause. DEDUCED, log entry 46. -/
def resolve (t : Tag) (d : Nat) : Except (BitVec 10) Bool :=
  match t.state.toNat with
  | 5 => .ok true
  | 6 => .error (if t.writer = 0xFFF then 0x092 else 0x090)
  | 7 => .error 0x380
  | l => if d ≤ l then .ok (l != 0) else .error 0x091

/-- The distance from a reader to a line's writer (R3, R87); a reader whose id names no die of this module is at distance G. DEDUCED, log entry 46. -/
def State.distTo (s : State) (reader : BitVec 12) (l : Nat) (t : Tag) : Nat :=
  if 24 ≤ reader.toNat / 128 then 4
  else distance reader t.writer (isSpad (64 * l) || t.wmod == s.front.modnum)

/-- A credit or an enqueue of a writer is on its way to an object's line (R252, R346). -/
def State.messageTo (s : State) (writer : BitVec 12) (l : Nat) : Bool :=
  (s.homes.credits ++ s.homes.enqs).any (fun m => !m.there && m.line == some l && m.cmd.writer == writer)

/-- A read of a line that has to come from its home: the home must be awake, its slice decodes the line, and an earlier write, credit or enqueue of the reader to the line, already on its way, arrives first (R37, R85, R346, R426). -/
def State.reads (s : State) (writer : BitVec 12) (l : Nat) : State :=
  let s := (s.touch (64 * l)).decodes l 0 writer
  if s.homes.wnet.any (fun f => f.entry.writer == writer && f.entry.line == l) || s.messageTo writer l then s.waitNet else s

/-- What the home answers to a read of a line at a distance of at least `least`: the data and whether a cache may hold it (R95): 0x301 of a failed die, 0x300 where no packet comes through (R458, R466). DESIGN CHOICE, log entry 24. -/
def State.atHome (s : State) (core : Nat) (writer : BitVec 12) (least l : Nat) : Except (BitVec 10) (Line × Bool) × State :=
  let s := s.reads writer l
  if keyModule (64 * l) = 0 ∧ (s.dieAt (homeDie (64 * l))).phase = .failed then (.error 0x301, s)
  else
    match s.crosses core writer (64 * l) 64 with
    | (false, s) => (.error 0x300, s)
    | (true, s) =>
      match resolve (s.tag l) (Nat.max least (s.distTo writer l (s.tag l))) with
      | .error c => (.error c, s)
      | .ok f => (.ok (s.line l, f && !isSpad (64 * l) && decide (keyModule (64 * l) = 0)), s)

/-- A line read at a distance of at least `least`: from the core's inbound cache when there, else at the home (R95, R96). DEDUCED, log entry 51. -/
def State.readLineAs (s : State) (core : Nat) (writer : BitVec 12) (least l : Nat) : Except (BitVec 10) Line × State :=
  match (if isSpad (64 * l) then none else (s.coreAt core).cached l) with
  | some d => (.ok d, s)
  | none =>
    match s.atHome core writer least l with
    | (.error c, s) => (.error c, s)
    | (.ok (d, true), s) =>
      let (n, s) := s.draw
      (.ok d, s.onCore core (fun k => k.fill n l d))
    | (.ok (d, false), s) => (.ok d, s)

/-- A line read by a strand, or by a unit on its behalf (R95, R96). -/
def State.readLine (s : State) (core : Nat) (writer : BitVec 12) (l : Nat) : Except (BitVec 10) Line × State :=
  s.readLineAs core writer 0 l

/-- A line of a translation table, which the core itself reads: no line turned only at S (R78). -/
def State.coreLine (s : State) (core : Nat) (writer : BitVec 12) (l : Nat) : Except (BitVec 10) Line × State :=
  s.readLineAs core writer 1 l

/-- A line of code: from the instruction cache, else an inbound read by the fetching core at the home, kept in the instruction cache where R95 lets a cache hold the line; the inbound cache takes no part (R11, R79). DEDUCED, log entry 51. -/
def State.codeLine (s : State) (core : Nat) (writer : BitVec 12) (l : Nat) : Except (BitVec 10) Line × State :=
  match (s.coreAt core).icb.find? (fun e => e.1 == l) with
  | some e => (.ok e.2, s)
  | none =>
    match s.atHome core writer 1 l with
    | (.error c, s) => (.error c, s)
    | (.ok (d, true), s) =>
      let (n, s) := s.draw
      (.ok d, s.onCore core (fun k => k.fillCode n l d))
    | (.ok (d, false), s) => (.ok d, s)

/-- An older copy of a line leaves a core's inbound cache, as by replacement, once the core has read the line as it stands at its home: its strands' later loads may not go back (R83, R315). -/
def Core.forget (k : Core) (l : Nat) (d : Line) : Core :=
  { k with inb := k.inb.filter (fun e => e.1 != l || e.2 == d) }

/-- A line read at its home without any cache (R244, R289, R327): the miss column of R95. -/
def State.readHome (s : State) (core : Nat) (writer : BitVec 12) (l : Nat) : Except (BitVec 10) Line × State :=
  match s.atHome core writer 0 l with
  | (.error c, s) => (.error c, s)
  | (.ok (d, _), s) => (.ok d, if (s.coreAt core).cached l = some d ∨ (s.coreAt core).cached l = none then s else s.onCore core (fun k => k.forget l d))

/-- A read at the home at distance G, for core `core` or the front end beside core 0: data only from a line that is clear or turned at G; none from any other, or the cause where a die has failed or no packet comes through (R37, R327, R350, R356, R458). -/
def State.readG (s : State) (core key n : Nat) : Except (BitVec 10) (Option (List Byte)) × State :=
  let s := (s.touch key).decodesIn (key / 64) ((key + n + 63) / 64) 0 0xFFF
  if keyModule key = 0 ∧ (s.dieAt (homeDie key)).phase = .failed then (.error 0x301, s)
  else
    match s.crosses core (writerId core 0) key 64 with
    | (false, s) => (.error 0x300, s)
    | (true, s) =>
      if (upto (key / 64) ((key + n + 63) / 64 - key / 64)).all
          (fun l => (s.tag l).state = 5 || (s.tag l).state = 4) then
        (.ok (some (Memory.bytes s.mem key n)), s)
      else (.ok none, s)

/-- How often this module has poisoned a line of a vault of another module (R428, R429). DEDUCED, log entry 50. -/
def State.farPoisons (s : State) (key : Nat) : BitVec 15 := ((s.homes.poisons.find? (fun e => e.1 == key / 2 ^ 33)).map (·.2)).getD 0

/-! ### Writes at the home (R88) -/

/-- The tag after a write by `w` of module `m`; none when the write is discarded on a poisoned line. DEDUCED, log entry 14. -/
def tagAfter (t : Tag) (w : BitVec 12) (m : BitVec 18) (whole : Bool) : Option Tag :=
  let g := t.gen + 1
  if t.state = 7 then (if whole then some ⟨6, w, g, m⟩ else none)
  else if t.state = 6 then
    if whole || (t.writer = w && t.wmod = m) then some ⟨6, w, g, m⟩ else some ⟨6, 0xFFF, g, m⟩
  else some ⟨6, w, g, m⟩

/-- Data and tag written together by a writer of module `m`; `false` when the write was discarded. DEDUCED, log entry 47. -/
def State.landFrom (s : State) (m : BitVec 18) (l : Nat) (w : BitVec 12) (mask : BitVec 64) (data : Line) : Bool × State :=
  let s := (s.touch (64 * l)).decodes l 2 w
  let m := if isSpad (64 * l) then (s.tag l).wmod else m
  match tagAfter (s.tag l) w m (mask == BitVec.allOnes 64) with
  | none => (false, s)
  | some t =>
    (true, { s with
      mem := Memory.setMasked s.mem (64 * l) mask.toNat data.toNat 64
      tags := Tags.set s.tags l t })

/-- A write of the own module lands (R87, R88). -/
def State.landAt (s : State) (l : Nat) (w : BitVec 12) (mask : BitVec 64) (data : Line) : Bool × State :=
  s.landFrom s.front.modnum l w mask data

/-- A write that is past its routes reaches its home: it lands, or it is discarded on a poisoned line or on a failed die (R88, R426, R458). -/
def State.landSent (s : State) (e : OutEntry) : State :=
  let g := globalOf s.front.modnum (64 * e.line)
  if keyModule (64 * e.line) = 0 ∧ (s.dieAt (homeDie (64 * e.line))).phase = .failed then
    s.addRecord e.sid (e.record 0x301 g)
  else
    match s.landAt e.line e.writer e.mask e.data with
    | (true, s) => s
    | (false, s) => s.addRecord e.sid (e.record 0x380 g)

/-- A write that is lost on its way: its bytes never land, or have landed whole before its acknowledgement was lost; its strand has a record (R462, R463). DESIGN CHOICE, log entry 63. -/
def State.loseStore (s : State) (e : OutEntry) (landed : Bool) : State :=
  let s := if landed then (s.landAt e.line e.writer e.mask e.data).2 else s
  s.addRecord e.sid (e.record 0x300 (globalOf s.front.modnum (64 * e.line)))

/-- A packet that has had no acknowledgement for 1 ms since its local completion is lost (R462). DESIGN CHOICE, log entry 63. -/
def Flight.overdue (f : Flight) (now : Nat) : Bool :=
  f.port.isSome && (match f.local_ with | some t => decide (t + 1000000 < now) | none => false)

/-- The dies that the acknowledgement of a write crosses to its core, here or from the port that brings it (R8, R464). -/
def Flight.returns (f : Flight) : List Nat :=
  match f.port with
  | none => returned f.core (64 * f.entry.line)
  | some p => pathFor (portDie p) (dieOf f.core) (64 * f.entry.line)

/-- A store that is on the networks comes to its home, or is lost when its time is over (R346, R462). -/
def State.arriveStore (s : State) (f : Flight) : State :=
  let s := s.passes f.returns
  if f.overdue s.now then
    let (landed, s) := s.loss
    s.loseStore f.entry landed
  else s.landSent f.entry

/-- An outbound entry goes to its home at once; it is lost where no route leads or on the way (R350, R466). -/
def State.landEntry (s : State) (core : Nat) (e : OutEntry) : State :=
  match s.crosses core e.writer (64 * e.line) 64 with
  | (false, s) => s.addRecord e.sid (e.record 0x300 (globalOf s.front.modnum (64 * e.line)))
  | (true, s) => s.landSent e


end Sys2Proof.Machine
end

