-- ==== Sys2Proof/Machine/Xlate.lean ====
section
/-! DEFINITION. Address spaces (R70 to R73) and translation (R74 to R78, R418): from a 64-bit address to the key of a byte, or the fault. -/

namespace Sys2Proof.Machine

/-- What an access needs of its page (R76). -/
inductive Need where
  | read | write | exec
  | either      -- TURN: RD or W (R236)
  | object      -- a home object: RD and W (R289)
deriving DecidableEq, Repr

/-- Whether a leaf permits an access (R76, R77). -/
def leafPermits (leaf : Word) (n : Need) (sup : Bool) : Bool :=
  let rd := leaf.getLsbD 3
  let w := leaf.getLsbD 4
  let x := leaf.getLsbD 5
  (sup || leaf.getLsbD 6) &&
  match n with
  | .read => rd
  | .write => w
  | .exec => x
  | .either => rd || w
  | .object => rd && w

/-- An entry covers an address under an ASID (R75, R76). -/
def TlbEntry.hits (e : TlbEntry) (va : Nat) (asid : BitVec 16) : Bool :=
  decide (e.va ≤ va) && decide (va < e.va + e.size) && (e.asid == asid || e.leaf.getLsbD 7)

/-- The geometry of a table level (R74): index shift, index bits, leaf page size, region of an invalid entry. -/
def levelShift : Nat → Nat
  | 1 => 43
  | 2 => 30
  | 3 => 21
  | _ => 16

def levelBits : Nat → Nat
  | 1 => 13
  | 2 => 13
  | 3 => 9
  | _ => 5

/-- The walk's verdict on an entry at a level (R76). -/
inductive Entry where
  | invalid
  | leaf
  | table
deriving DecidableEq, Repr

def entryKind (level : Nat) (e : Word) : Entry :=
  let reserved := field e 60 4 ≠ 0 ∨ field e 8 8 ≠ 0 ∨ field e 1 2 ≠ 0
  if !e.getLsbD 0 ∨ reserved then .invalid
  else if field e 3 3 = 0 then (if level = 4 then .invalid else .table)
  else if level = 1 then .invalid
  else if (field e 16 44 * 2 ^ 16) % 2 ^ levelShift level ≠ 0 then .invalid
  else .leaf

/-- The walk from a table at global address `table`, read as the walking core (R74, R78): the leaf with its page, or the fault. `fuel` counts the levels left. A table on a reserved die is read as any other line. DESIGN CHOICE, log entry 72. -/
def State.walk (s : State) (a : Agent) (va : Nat) : (fuel : Nat) → (level : Nat) → (table : Nat) →
    Except XFault (TlbEntry) × State
  | 0, _, _ => (.error ⟨0x080, BitVec.ofNat 64 va, BitVec.ofNat 64 va⟩, s)
  | fuel + 1, level, table =>
    let global := table + 8 * ((va / 2 ^ levelShift level) % 2 ^ levelBits level)
    let key := keyOf s.front.modnum global
    match s.coreLine a.core a.writer (key / 64) with
    | (.error c, s) => (.error ⟨c, BitVec.ofNat 64 global, BitVec.ofNat 64 va⟩, s)
    | (.ok d, s) =>
      let e : Word := d.extractLsb' (8 * (key % 64)) 64
      let region := va / 2 ^ levelShift level * 2 ^ levelShift level
      match entryKind level e with
      | .invalid => (.error ⟨0x080, BitVec.ofNat 64 va, BitVec.ofNat 64 region⟩, s)
      | .table => s.walk a va fuel (level + 1) (field e 16 44 * 2 ^ 16)
      | .leaf => (.ok ⟨region, 2 ^ levelShift level, a.asid, e⟩, s)

/-- An entry joins a buffer of `cap` entries; a full buffer loses one of its own choosing (R78). DESIGN CHOICE, log entry 4. -/
def tlbAdd (cap n : Nat) (e : TlbEntry) (l : List TlbEntry) : List TlbEntry :=
  if l.length < cap then e :: l else e :: dropAt (Config.victim n % cap) l

/-- The translation entry for an address: from the core's buffer, the die's cache, or a walk (R78). -/
def State.lookup (s : State) (a : Agent) (va : Nat) : Except XFault TlbEntry × State :=
  match (s.coreAt a.core).tlb.find? (fun e => e.hits va a.asid) with
  | some e => (.ok e, s)
  | none =>
    match (s.dieAt (dieOf a.core)).tlb.find? (fun e => e.hits va a.asid) with
    | some e =>
      let (n, s) := s.draw
      (.ok e, s.onCore a.core (fun k => { k with tlb := tlbAdd 1024 n e k.tlb }))
    | none =>
      match s.walk a va 4 1 (field a.ptroot 16 44 * 2 ^ 16) with
      | (.error f, s) => (.error f, s)
      | (.ok e, s) =>
        let (n, s) := s.draw
        let s := s.onCore a.core (fun k => { k with tlb := tlbAdd 1024 n e k.tlb })
        (.ok e, s.onDie (dieOf a.core) (fun d => { d with tlb := tlbAdd 32768 n e d.tlb }))

/-- Whether an address lies in a scratchpad space but outside the 8 MiB (R81): a bit that must be zero is set. -/
def spadOutside (va : Word) : Bool :=
  if selector va = 0xE0 then field va 23 33 != 0
  else if selector va = 0xE4 then field va 28 28 != 0 || va.getLsbD 23
  else false

/-- The key of a byte in translated space (R74 to R77). DEDUCED, log entry 40. -/
def State.translate (s : State) (a : Agent) (va : Word) (need : Need) : Except XFault Nat × State :=
  match s.lookup a (va.toNat % 2 ^ 56) with
  | (.error f, s) => (.error { f with tval := if f.cause = 0x080 then va else f.tval }, s)
  | (.ok e, s) =>
    if leafPermits e.leaf need a.sup then
      let pa := field e.leaf 16 44 * 2 ^ 16 + (va.toNat % 2 ^ 56 - e.va)
      let key := keyOf s.front.modnum pa
      if 24 ≤ keyDie key then (.error ⟨0x084, va, va⟩, s) else (.ok key, s)
    else (.error ⟨0x081, va, BitVec.ofNat 64 e.va⟩, s)

/-- The key of the byte an address names, by its space (R70 to R72); selector 0xEC is refused here, since the collective window has its own path (R225). -/
def State.resolveAddr (s : State) (a : Agent) (va : Word) (need : Need) : Except XFault Nat × State :=
  match selector va with
  | 0x00 => s.translate a va need
  | 0xE0 => if spadOutside va then (.error ⟨0x0A0, va, va⟩, s) else (.ok (spadKey a.core (field va 0 23)), s)
  | 0xE4 =>
    if spadOutside va then (.error ⟨0x0A0, va, va⟩, s)
    else (.ok (spadKey (16 * dieOf a.core + field va 24 4) (field va 0 23)), s)
  | 0xE8 =>
    let k := s.coreAt a.core
    if field va 33 23 ≠ 0 then (.error ⟨0x084, va, va⟩, s)
    else if field va 0 33 < k.vlsize.toNat then
      (.ok (a.core * 2 ^ 33 + (k.vlbase.toNat + field va 0 33)), s)
    else (.error ⟨0x081, va, va⟩, s)
  | 0xF0 =>
    if !a.sup then (.error ⟨0x081, va, va⟩, s)
    else if field va 42 14 ≠ 0 ∨ 24 ≤ field va 37 5 then (.error ⟨0x084, va, va⟩, s)
    else (.ok (field va 0 42), s)
  | _ => (.error ⟨0x084, va, va⟩, s)

end Sys2Proof.Machine
end

