-- ==== Sys2Proof/Machine/Order.lean ====
section
/-! DEFINITION. The order of one strand's writes to one line (R85, R312, R315, R346): what the engine and Harrier have still to write, the writes that must wait for it, and the writes that leave a core. -/

namespace Sys2Proof.Machine

/-! ### What engine commands write (R259, R267, R273) -/

/-- M, N and K of TSHAPE (R262). -/
def shapeM (w : Word) : Nat := field w 0 7
def shapeN (w : Word) : Nat := field w 8 7
def shapeK (w : Word) : Nat := field w 16 9

/-- The cell addresses of TLD and TST (R267). -/
def tileAddr (c : EngCmd) (r j : Nat) : Nat := field c.opa 0 23 + r * c.opb.toNat + 16 * j

/-- CELLS of SIGCFG (R271). -/
def sigCells (w : Word) : Nat := field w 16 17

/-- The key of a byte of an image through selector 0xE0 or 0xE4 (R276). -/
def imageKey (core : Nat) (va : Word) : Nat :=
  if selector va = 0xE0 then spadKey core (field va 0 23) else spadKey (16 * dieOf core + field va 24 4) (field va 0 23)

/-- An engine command of a core has bytes of lines [first, last) still to write: a TST its rows, a SIGST its image. -/
def EngCmd.writesIn (c : EngCmd) (core first last : Nat) : Bool :=
  let among (key n : Nat) : Bool := decide (n ≠ 0) && decide (key / 64 < last) && decide (first ≤ (key + n - 1) / 64)
  match c.op with
  | .tst => (upto 0 (shapeM c.tshape)).any (fun r => among (spadKey core (tileAddr c r 0)) (16 * shapeN c.tshape))
  | .sigst => among (imageKey core c.opa) (16 * (1 + sigCells c.sigcfg))
  | _ => false

/-- An engine command of a core has bytes of a line still to write. -/
def EngCmd.writes (c : EngCmd) (core l : Nat) : Bool := c.writesIn core l (l + 1)

/-! ### What Harrier writes (R83, R98, R99) -/

/-- Harrier on behalf of the issuing strand, under the ASID and PTROOT of the issue (R75, R98, R172). -/
def CopyCmd.agent (c : CopyCmd) (core : Nat) : Agent := ⟨c.sid, core, c.writer, c.sup, c.ptroot, c.asid⟩

/-- The pieces of a destination: offset in the payload and length, cut where a line ends (R83, R99). -/
def piecesAux (addr : Nat) : (fuel : Nat) → (off left : Nat) → List (Nat × Nat)
  | 0, _, _ => []
  | n + 1, off, left =>
    if left = 0 then []
    else
      let k := Nat.min left (64 - (addr + off) % 64)
      (off, k) :: piecesAux addr n (off + k) (left - k)

def CopyCmd.pieces (c : CopyCmd) : List (Nat × Nat) := piecesAux c.dst.toNat 18 0 c.bytes

/-- Bytes that have landed. -/
def CopyCmd.landed (c : CopyCmd) : Nat :=
  ((c.pieces.filter (fun p => c.done.contains p.1)).map Prod.snd).foldl (· + ·) 0

/-- The line of a piece of a destination, none when it cannot be named. -/
def State.pieceLine (s : State) (core : Nat) (c : CopyCmd) (p : Nat × Nat) : Option Nat :=
  match (s.resolveAddr (c.agent core) (c.dst + BitVec.ofNat 64 p.1) .write).1 with
  | .ok key => some (key / 64)
  | .error _ => none

/-- A copy command has a block in a line still to fill. -/
def State.copyWrites (s : State) (core : Nat) (c : CopyCmd) (l : Nat) : Bool :=
  !c.dead && c.pieces.any (fun p => !c.done.contains p.1 && !c.sent.contains p.1 && s.pieceLine core c p == some l)

/-! ### The commands of a channel (R389, R423, R424) -/

/-- One channel of a core changed. -/
def State.onChan (s : State) (core ch : Nat) (f : Chan → Chan) : State :=
  s.onCore core (fun k => { k with chans := k.chans.setIfInBounds ch (f (k.chans.getD ch Chan.reset)) })

/-- The head command of a channel changed. -/
def State.onHead (s : State) (core ch : Nat) (f : CopyCmd → CopyCmd) : State :=
  s.onChan core ch (fun c => { c with queue := match c.queue with | [] => [] | h :: r => f h :: r })

def State.chanAt (s : State) (core ch : Nat) : Chan := (s.coreAt core).chans.getD ch Chan.reset

/-- The record of a faulted command (R389). -/
def CopyCmd.record (c : CopyCmd) (cause : BitVec 10) (tval : Word) (unit ch : Nat) (extra : Nat) : Record where
  cause := cause
  tval := tval
  pc := c.pc
  word := c.word
  unit := BitVec.ofNat 8 unit
  chan := BitVec.ofNat 8 ch
  seq := BitVec.ofNat 16 c.seq
  opa := c.dst
  opb := c.src
  opc := c.obj
  opd := c.opd
  vl := c.vl
  vtype := c.vtype
  tshape := 0
  extra := BitVec.ofNat 64 extra
  pos := c.pos
  at_ := 0
  ring := 16
  given := false

/-- The head command faults: its record is written and the channel stops (R389, R423, R424); a record of a home object has no channel and no EXTRA. -/
def State.cmdFault (s : State) (core ch : Nat) (cause : BitVec 10) (tval : Word) (unit : Nat) : State :=
  match (s.chanAt core ch).queue.head? with
  | none => s
  | some c =>
    if c.dead then s
    else
      let s := s.onHead core ch (fun c => { c with dead := true })
      s.addRecord c.sid (if unit = 4 then c.record cause tval 4 0 0
        else c.record cause tval unit ch (field (s.chanAt core ch).wm 0 24))

/-- The step of R252 has been acknowledged. -/
def State.ackCmd (s : State) (m : Credit) : State := s.onHead m.core m.chan (fun c => { c with step := 2 })

/-- A record of a strand of a core from some units waits for an entry of a full ring, so those units stand still (R389). DESIGN CHOICE, log entry 79. -/
def State.unitHeld (s : State) (core : Nat) (units : List (BitVec 8)) : Bool :=
  s.all.any (fun t => t.id.core == core && t.live && t.records.any (fun r => r.ring == 16 && units.contains r.unit))

/-! ### Order -/

/-- An affine output of a strand holds an element for a line, produced before position `pos` (R232, R312). DEDUCED, log entry 47. -/
def Strand.streamWrites (t : Strand) (pos l : Nat) : Bool :=
  t.streams.toList.any (fun o => match o with
    | some b => b.pend.any (fun e => decide (e.pos < pos) && decide (spadKey t.id.core e.off / 64 = l))
    | none => false)

/-- An instruction of a strand before position `pos` has still to write a line, through an output stream, the engine or Harrier, or by a credit or an enqueue on its way (R312 case 1, R315, R346). DEDUCED, log entry 47. -/
def State.olderWrites (s : State) (core sid pos l : Nat) : Bool :=
  let k := s.coreAt core
  (match s.strand sid with | some t => t.streamWrites pos l | none => false) ||
  k.eng.any (fun e => e.sid == sid && decide (e.pos < pos) && e.writes core l) ||
  k.chans.toList.any (fun ch => ch.queue.any (fun c => c.sid == sid && decide (c.pos < pos) && s.copyWrites core c l)) ||
  (s.homes.credits ++ s.homes.enqs).any (fun m => !m.there && m.cmd.sid == sid && decide (m.cmd.pos < pos) && m.line == some l)

/-- An outbound entry whose younger bytes must wait for an older write of its strand to its line. -/
def State.blocked (s : State) (core : Nat) (e : OutEntry) : Bool := s.olderWrites core e.sid e.pos e.line

/-- The bytes of an outbound entry that positions beyond `pos` have written. -/
def OutEntry.later (e : OutEntry) (pos : Nat) : BitVec 64 :=
  e.ops.foldl (fun (m : BitVec 64) o => if pos < o.1 then m ||| o.2 else m) 0

/-! ### Writes that leave a core -/

/-- The class of a strand, 1 when there is none. -/
def State.classOf (s : State) (sid : Nat) : Nat := ((s.strand sid).map (fun t => t.id.cls)).getD 1

/-- The way of a message of a strand between a core and the home of a line (R345, R346). -/
def State.wayBack (s : State) (core sid l : Nat) : Nat × Nat × Nat × Bool := wayOf core (s.classOf sid) (64 * l)

/-- A packet of `n` bytes about a key joins the retry buffer of the port that its route gave (R349, R352). -/
def State.emitFor (s : State) (core cls p key n : Nat) : State :=
  (s.passes (pathFor (dieOf core) (portDie p) key)).emit p (keyModule key ^^^ s.front.modnum.toNat) (requestChannel cls key) none n

/-- A write leaves a core for its home: over the write network, or as a packet on the port that its route gives; where none leads it is not sent (R84, R350, R352). -/
def State.send (s : State) (core : Nat) (e : OutEntry) : State :=
  if keyModule (64 * e.line) = 0 then
    { s with homes := { s.homes with wnet := s.homes.wnet ++ [⟨e, core, none, requestChannel (s.classOf e.sid) (64 * e.line), none, none⟩] } }
  else
    match s.portFor core (64 * e.line) with
    | (none, s) => s.addRecord e.sid (e.record 0x300 (globalOf s.front.modnum (64 * e.line)))
    | (some p, s) =>
      let s := s.emitFor core (s.classOf e.sid) p (64 * e.line) 64
      { s with homes := { s.homes with wnet := s.homes.wnet ++ [⟨e, core, some p, requestChannel (s.classOf e.sid) (64 * e.line), none, none⟩] } }

/-- The virtual channel that a write takes on the networks of the module (R345). -/
def Flight.lane (f : Flight) : Nat := meshChannel (if f.channel = 0 then 0 else 1) (64 * f.entry.line)

/-- A write stands before another on one channel of one path, the fabric included, or is of one strand to one line: it arrives first (R85, R346). -/
def Flight.ahead (f g : Flight) : Bool :=
  (f.entry.sid == g.entry.sid && f.entry.line == g.entry.line) ||
  (f.core == g.core && f.port == g.port && f.channel == g.channel &&
    (f.port.isSome || (keyCore (64 * f.entry.line) == keyCore (64 * g.entry.line) && f.lane == g.lane && lineHash (64 * f.entry.line) / 4 % 2 == lineHash (64 * g.entry.line) / 4 % 2)))

/-- The writes that have arrived once those that satisfy `due` have, with what stands before them on their ways; and the others (R346). -/
def arriving (due : Flight → Bool) : List Flight → List Flight × List Flight
  | [] => ([], [])
  | f :: r =>
    let (come, stay) := arriving due r
    if due f || come.any f.ahead then (f :: come, stay) else (come, f :: stay)

/-- The writes of strand `sid` on the write network to a line that satisfies `p` reach their homes, with what stands ahead of them; one on a port that retrains, a block of a copy on its way, or an older write still to be made keeps it from happening now (R315, R462). -/
def State.drainNet (s : State) (sid : Nat) (p : Nat → Bool) : State :=
  let mine (e : OutEntry) : Bool := (e.sid == sid) && p e.line
  let split := arriving (fun f => f.block.isNone && mine f.entry) s.homes.wnet
  let s := if split.1.any (fun f => s.held f || f.block.isSome) || s.homes.wnet.any (fun f => f.block.isSome && mine f.entry) then s.waitNet else s
  let s := { s with homes := { s.homes with wnet := split.2 } }
  split.1.foldl State.arriveStore s

/-- The writes of strand `sid` in its core's outbound buffer to a line that satisfies `p` reach their homes; they wait for an older write to their line, and while the strand's stores stand still (R315, R389). -/
def State.drainBuffer (s : State) (sid : Nat) (p : Nat → Bool) : State :=
  let mine (e : OutEntry) : Bool := (e.sid == sid) && p e.line
  match s.strand sid with
  | none => s
  | some t =>
    let k := s.coreAt t.id.core
    let es := k.outb.filter mine
    let s := if es.any (s.blocked k.id) || (!es.isEmpty && s.outHeld sid) then s.waitNet else s
    let s := s.setCore { k with outb := k.outb.filter (fun e => !mine e) }
    es.foldl (fun s e => s.landEntry k.id e) s

/-- Every write of strand `sid` on its way to a line that satisfies `p` reaches its home, those on the write network first (R85, R89 step 1). DESIGN CHOICE, log entry 79. -/
def State.drain (s : State) (sid : Nat) (p : Nat → Bool) : State :=
  (s.drainNet sid p).drainBuffer sid p

end Sys2Proof.Machine
end

