-- ==== Sys2Proof/Machine/Ops.lean ====
section
/-! DEFINITION. The named operations on registers, and taking a trap and returning from one (R177, R384 to R387, R166 to R168). -/

namespace Sys2Proof.Machine

/-! ### Scalar registers -/

/-- A scalar register of the issuing strand; x0 reads 0 (R177). -/
def State.rx (s : State) (r : Reg) : Word := if r = 0 then 0 else s.cur.x[r.toNat]'(r.isLt)

/-- A strand with a scalar register written; a write to x0 is discarded (R177). -/
def Strand.wx (t : Strand) (r : Reg) (v : Word) : Strand :=
  if r = 0 then t else { t with x := t.x.set r.toNat v r.isLt }

/-- The issuing strand's scalar register written (R177). -/
def State.wx (s : State) (r : Reg) (v : Word) : State := { s with cur := s.cur.wx r v }

/-- The issuing strand goes on to the next word. -/
def State.adv (s : State) : State := { s with cur := { s.cur with pc := s.cur.pc + 4 } }

/-- An address as the program counter takes it: bits [1:0] are ignored (R150). -/
def pcOf (p : Word) : Word := p &&& ~~~3#64

/-- The issuing strand transfers to an address. -/
def State.jump (s : State) (p : Word) : State := { s with cur := { s.cur with pc := pcOf p } }

/-- A scalar instruction's ordinary end: x[d] written and the next word. -/
def State.ret (s : State) (d : Reg) (v : Word) : Out := .next (s.wx d v).adv

/-- The control registers of the issuing strand replaced. -/
def State.setC (s : State) (c : Csrs) : State := { s with cur := { s.cur with c := c } }

/-! ### Fetching a word (R164, R167) -/

/-- TVAL of a refused read (R404, R428). -/
def State.readTval (s : State) (cause : BitVec 10) (va : Word) (key : Nat) : Word :=
  if (cause = 0x380 ∧ !isSpad key) ∨ cause = 0x300 then BitVec.ofNat 64 (globalOf s.front.modnum (key / 64 * 64)) else va

/-- The word at an address, read as code by an agent (R164). DEDUCED, log entry 51. -/
def State.fetch (s : State) (a : Agent) (pc : Word) : Except XFault InsnWord × State :=
  if selector pc ≠ 0 then (.error ⟨0x084, pc, pc⟩, s)
  else
    match s.translate a pc .exec with
    | (.error f, s) => (.error f, s)
    | (.ok key, s) =>
      match s.codeLine a.core a.writer (key / 64) with
      | (.error c, s) => (.error ⟨c, s.readTval c pc key, pc⟩, s)
      | (.ok d, s) => (.ok (d.extractLsb' (8 * (key % 64 / 4 * 4)) 32), s)

/-- A line marker: major 0, d = 31, a = 0, bit 0 zero (R166). -/
def isMarker (w : InsnWord) : Bool := w.extractLsb' 16 16 == 0x03E0#16 && !w.getLsbD 0

/-- The first address of the 128-byte line of an address (R166). -/
def markedLine (p : Word) : Word := p &&& ~~~(127 : Word)

/-- What the check of a supervisor transfer finds (R167, R194). -/
inductive Landing where
  | marked
  | refused
  | unread       -- the marker cannot be read: the transfer completes, and the fetch at its target takes the fault
deriving DecidableEq, Repr

/-- The check of a supervisor transfer to an address: word 2i of a line whose marker sets bit i, i ≥ 1 (R166, R167). DEDUCED, log entry 52. -/
def State.target (s : State) (a : Agent) (p : Word) : Landing × State :=
  let w := field p 2 5
  if w % 2 ≠ 0 ∨ w = 0 then (.refused, s)
  else
    match s.fetch a (markedLine p) with
    | (.error _, s) => (.unread, s)
    | (.ok m, s) => (if isMarker m && m.getLsbD (w / 2) then .marked else .refused, s)

/-- The issuing strand enters a supervisor line at a checked address (R167, R194). -/
def State.enterLine (s : State) (p : Word) (l : Landing) : State :=
  let s := s.jump p
  { s with cur := { s.cur with entry := decide (l = .unread) } }

/-! ### Losing a strand and failing its launch -/

/-- The launch fails with a cause, unless it has stopped already (R67). R67 gives no way for a supervisor to mark a strand's trap fatal to its launch: the input `fatal` does it. DESIGN CHOICE, log entry 60. -/
def State.failLaunch (s : State) (lid : Word) (code : BitVec 10) : State :=
  { s with starter := { s.starter with
      live := updFirst (fun l => l.id == lid) (fun l => if l.stop.isNone then { l with stop := some (false, code) } else l)
        s.starter.live } }

/-- A strand that ends while it holds the tile store releases it: the store is cleared before another may take it (R255). -/
def State.releaseTile (s : State) (core sid : Nat) : State :=
  s.onCore core (fun k => if k.holder = some sid then { k with holder := none, clearing := true } else k)

/-- The STEP bit of a slot clears: its step has ended (R443, R445). -/
def State.stepOver (s : State) (core slot : Nat) : State :=
  s.onCore core (fun k => { k with dbgctl := k.dbgctl &&& ~~~(1#64 <<< (16 + slot)) })

/-- Lose(code) for a strand: stopped, marked in its save area header, its launch failed (R386, R394). -/
def State.lose (s : State) (sid : Nat) (code : BitVec 10) : State :=
  match s.strand sid with
  | none => s
  | some t =>
    let s := (s.setStrand { t with run := .lost code, stepping := false }).releaseTile t.id.core sid
    let s := if t.stepping then s.stepOver t.id.core t.id.slot else s
    let s := s.saveWrite t 0x0B ([2] ++ toBytes 2 code.toNat)
    s.failLaunch t.id.lid code

/-! ### Trap entry and return (R386, R387) -/

/-- x12 to x19 as the 64 bytes of the entry frame (R393). -/
def frameBytes (x : Vector Word 32) : List Byte :=
  (upto 12 8).flatMap (fun i => toBytes 8 (x.getD i 0).toNat)

/-- The trap registers as trap entry leaves them (R386): PPRIV is the old PRIV, PRIV and NEST are 1, TLGV is ELEM. -/
def Csrs.enter (c : Csrs) (code : BitVec 10) (deliv : Nat) (elem : Bool) (tpc tval rec resume : Word) : Csrs :=
  { c with
    tcause := BitVec.ofNat 64 (deliv * 2 ^ 11 + (if elem then 2 ^ 10 else 0) + code.toNat)
    tpc := tpc
    tval := tval
    trec := rec
    epc := resume
    sstatus := setField (setField (setField (setField c.sstatus 3 1 (if elem then 1 else 0)) 1 1 (field c.sstatus 0 1)) 0 1 1) 2 1 1 }

/-- The count of traps in a row at one EPC with one cause (R440). -/
def Strand.countTrap (t : Strand) (code : BitVec 10) (resume : Word) : Strand :=
  { t with
    repeats := if t.repEpc = resume ∧ t.repCode = code then t.repeats + 1 else 1
    repEpc := resume
    repCode := code }

/-- Trap entry (R386): the one operation by which every exception is taken. -/
def State.trapEntry (s : State) (code : BitVec 10) (deliv : Nat) (elem : Bool) (tpc tval rec resume : Word) : State :=
  if s.cur.nest then s.lose s.cur.id.sid 0x3F1
  else
    let t := s.cur.countTrap code resume
    let s := { s with cur := { t with c := t.c.enter code deliv elem tpc tval rec resume, nestAt := t.stay, run := .running, stall := none, due := none, entry := false, blockedOn := none, haltTurned := 0 } }
    let s := s.saveWrite s.cur 0x40 (frameBytes s.cur.x)
    match s.target s.me s.cur.c.tvec with
    | (.refused, s) => s.lose s.cur.id.sid 0x011
    | (l, s) => s.enterLine s.cur.c.tvec l

/-- A precise trap of the instruction at the program counter (R384): it has taken no effect. DESIGN CHOICE, log entry 83. -/
def State.trap (s : State) (code : BitVec 10) (tval : Word) : Out :=
  .next (s.trapEntry code 0 false s.cur.pc tval 0 s.cur.pc)

/-- A precise trap of class 0x000 and its kind, with TVAL the instruction word (R386). -/
def State.trapWord (s : State) (code : BitVec 10) (w : InsnWord) : Out := s.trap code (w.setWidth 64)

/-- The trap of a failed access (R386). -/
def State.trapX (s : State) (f : XFault) : Out := s.trap f.cause f.tval

/-- A record of what no store and no command of a strand issued takes the position that the strand has reached: behind all that it has issued, and before all that it will (R362, R385). DEDUCED, log entry 31. -/
def State.addReached (s : State) (sid : Nat) (r : Record) : State :=
  match s.strand sid with
  | none => s
  | some t => (s.setStrand { t with pos := t.pos + 1 }).addRecord sid { r with pos := t.pos + 1 }

/-- One record stands before another in program order (R385). -/
def Record.before (a b : Record) : Bool := decide (a.pos < b.pos)

/-- The next pending record to deliver: the one issued first, then the one written first (R385). -/
def nextRecord (rs : List Record) : Option Record :=
  (sortBy Record.before (rs.filter (fun r => !r.given && decide (r.ring < 16)))).head?

/-- A record delivered as a trap: at a synchronising instruction (DELIV 1) or imprecisely (DELIV 2), with TREC its ring entry (R384, R389). -/
def State.deliver (s : State) (r : Record) (deliv : Nat) : State :=
  let s := { s with cur := { s.cur with
    records := updFirst (fun q => q.ring == r.ring) (fun q => { q with given := true }) s.cur.records } }
  s.trapEntry r.cause deliv false r.pc r.tval (s.cur.ringAddr r.ring) s.cur.pc

/-- A delivery point for records that satisfy `p`: outside a handler the first of them is taken as a trap instead of the instruction (R384). -/
def State.deliverPoint (s : State) (p : Record → Bool) (k : State → Out) : Out :=
  if s.cur.nest then k s
  else
    match nextRecord (s.cur.records.filter p) with
    | some r => .next (s.deliver r 1)
    | none => k s

/-- ERET frees the record that the trap delivered; a record that waited for an entry takes it (R389). -/
def State.freeRecord (s : State) : State :=
  let rest := s.cur.records.filter (fun r => !r.given)
  let s := { s with cur := { s.cur with records := rest } }
  match rest.find? (fun r => r.ring == 16) with
  | none => s
  | some r =>
    let i := freeRing rest
    let s := { s with cur := { s.cur with
      records := updFirst (fun q => q.ring == 16) (fun q => { q with ring := i }) rest } }
    s.saveWrite s.cur (0x800 + 64 * i) r.bytes

/-- The registers x12 to x19 taken from the entry frame (R387). -/
def unframe (m : List Host.Cell) (key : Nat) (x : Vector Word 32) : Vector Word 32 :=
  (upto 0 8).foldl (fun x i => x.setIfInBounds (12 + i) (BitVec.ofNat 64 (ofBytes (Memory.bytes m (key + 8 * i) 8)))) x

/-- Trap return (R387): the entry frame is read at its home, whose slice decodes its lines (R426). DESIGN CHOICE, log entry 27. -/
def State.trapReturn (s : State) : State :=
  let frame := physKey s.cur.id.save + 0x40
  let s := ((s.touch frame).passes (roundTrip s.cur.id.core frame)).decodesIn (frame / 64) ((frame + 127) / 64) 0 s.cur.writer
  let s := s.drain s.cur.id.sid (fun l => l == frame / 64)
  let t := s.cur
  let st := setField (setField t.c.sstatus 0 1 (field t.c.sstatus 1 1)) 2 1 0
  let s := { s with cur := { t with
    x := unframe s.mem frame t.x
    c := { t.c with sstatus := st }
    pc := pcOf t.c.epc
    entry := false
    repeats := if t.c.epc = t.repEpc then t.repeats else 0 } }
  s.freeRecord

end Sys2Proof.Machine
end

