-- ==== Sys2Proof/Machine/Access.lean ====
section
/-! DEFINITION. Loads, stores and the write log (R83, R95, R100, R186, R187, R237, R238). -/

namespace Sys2Proof.Machine

/-- A byte of a core's own scratchpad lies in a busy channel's range at or above its watermark (R100). -/
def Core.early (k : Core) (key : Nat) : Bool :=
  decide (k.id = keyCore key) && isSpad key &&
  (upto 0 8).any (fun i =>
    let c := k.chans.getD i Chan.reset
    let o := key % 2 ^ 23
    c.rng.getLsbD 63 && c.rng.getLsbD 59 &&
    decide (field c.rng 0 23 ≤ o) && decide (o < field c.rng 0 23 + field c.rng 24 24) && decide (field c.wm 0 24 ≤ o))

/-- A busy channel of a core has filled the block of a key, which its watermark has not passed (R99, R252, R423). DEDUCED, log entry 39. -/
def Core.filled (k : Core) (key : Nat) : Bool :=
  (upto 0 8).any (fun i =>
    let c := k.chans.getD i Chan.reset
    match c.queue with
    | [] => false
    | q :: _ => c.rng.getLsbD 63 && c.rng.getLsbD 59 && q.done.any (fun o => decide ((q.dst.toNat + o) % 2 ^ 23 / 64 = key % 2 ^ 23 / 64)))

/-- The cause of a load from a busy channel's range at or above its watermark: that of the block's tag when it is un-turned by other than the channel's fill, then 0x098, before a poisoned block's 0x380 (R100, R405, R410, R423). DEDUCED, log entry 39. -/
def earlyCause (filled : Bool) (c : BitVec 10) : BitVec 10 := if !filled && (c == 0x090 || c == 0x091 || c == 0x092) then c else 0x098

/-- `n` bytes read at a key for the address `va` by an agent's load: the tag of its block and the watermark of a busy channel (R95, R100, R405, R410). DEDUCED, log entry 39. -/
def State.loadKey (s : State) (a : Agent) (va : Word) (key n : Nat) : Except XFault Nat × State :=
  let k := s.coreAt a.core
  match s.readLine a.core a.writer (key / 64) with
  | (.error c, s) =>
    let c := if k.early key then earlyCause (k.filled key) c else c
    (.error ⟨c, s.readTval c va key, va⟩, s)
  | (.ok d, s) =>
    if k.early key then (.error ⟨0x098, va, va⟩, s)
    else (.ok (d.toNat / 2 ^ (8 * (key % 64)) % 2 ^ (8 * n)), s)

/-- `n` bytes loaded from an address by an agent, its alignment already checked (R186). -/
def State.loadAt (s : State) (a : Agent) (va : Word) (n : Nat) : Except XFault Nat × State :=
  match s.resolveAddr a va .read with
  | (.error f, s) => (.error f, s)
  | (.ok key, s) => s.loadKey a va key n

/-! ### The write log (R237) -/

/-- The smallest aligned power-of-two range from `size` up that covers both bases. -/
def enclosing (b1 b2 : Nat) : (fuel : Nat) → (size : Nat) → Nat × Nat
  | 0, size => (b1 / size * size, size)
  | n + 1, size => if b1 / size = b2 / size then (b1 / size * size, size) else enclosing b1 b2 n (2 * size)

/-- The span that replaces two of one kind, none for spans of two kinds. -/
def Span.join (a b : Span) : Option (Nat × Nat) :=
  if isSpad a.base = isSpad b.base then some (enclosing a.base b.base 61 (Nat.max a.size b.size)) else none

/-- The log address of a key (R237, R238): a vault's is its global physical address, and a scratchpad block's names the module in [59:42] as well. -/
def logAddr (own : BitVec 18) (key : Nat) : Nat := if isSpad key then spadBit + globalOf own key else globalOf own key

/-- Spans in ascending order of their log addresses. -/
def Span.before (own : BitVec 18) (a b : Span) : Bool := decide (logAddr own a.base < logAddr own b.base)

/-- Of the neighbours in a sorted log, the smallest enclosing span, the lowest on a tie. -/
def bestJoin : List Span → Option (Nat × Nat)
  | a :: b :: r =>
    match a.join b, bestJoin (b :: r) with
    | some x, some y => if x.2 ≤ y.2 then some x else some y
    | some x, none => some x
    | none, y => y
  | _ => none

/-- The smaller of two levels, none lowest. -/
def minLevel : Option Nat → Option Nat → Option Nat
  | some a, some b => some (Nat.min a b)
  | _, _ => none

/-- The level of a span: the smallest of the levels of its written lines (R237). -/
def partsLevel (ps : List SpanPart) : Option Nat := ps.foldl (fun l p => minLevel l p.level) (some 4)

/-- Written lines with those in [first, last) taken out. -/
def SpanPart.outside (first last : Nat) (p : SpanPart) : List SpanPart :=
  ([⟨p.first, Nat.min p.last first, p.level⟩, ⟨Nat.max p.first last, p.last, p.level⟩] : List SpanPart).filter (fun q => decide (q.first < q.last))

/-- Written lines with those in [first, last) raised to a level, as far as they lie below it. -/
def SpanPart.raise (lvl first last : Nat) (p : SpanPart) : List SpanPart :=
  let mid : SpanPart := ⟨Nat.max p.first first, Nat.min p.last last, some (match p.level with | some k => Nat.max k lvl | none => lvl)⟩
  if mid.first < mid.last then p.outside first last ++ [mid] else [p]

/-- A span with its lines in [first, last) raised to a level (R237). DEDUCED, log entry 56. -/
def Span.raise (sp : Span) (lvl first last : Nat) : Span :=
  if first ≤ sp.base / 64 ∧ (sp.base + sp.size) / 64 ≤ last then
    { sp with level := some lvl, parts := sp.parts.map (fun p => { p with level := some (Nat.max lvl (p.level.getD 0)) }) }
  else if sp.parts.isEmpty then sp
  else
    let ps := sp.parts.flatMap (SpanPart.raise lvl first last)
    { sp with level := partsLevel ps, parts := ps }

/-- A line of a span written again: it stands at level none, and so does the span (R237). -/
def Span.rewrite (sp : Span) (line : Nat) : Span :=
  { sp with level := none, parts := sp.parts.flatMap (SpanPart.outside line (line + 1)) ++ [⟨line, line + 1, none⟩] }

def Span.inside (s : Span) (r : Nat × Nat) : Bool := decide (r.1 ≤ s.base) && decide (s.base + s.size ≤ r.1 + r.2)

/-- The chosen range replaces every span within it, at the smallest of their levels, and takes in their written lines. -/
def mergeInto (own : BitVec 18) (log : List Span) (r : Nat × Nat) : List Span :=
  let took := log.filter (fun s => s.inside r)
  let lvl := took.foldl (fun l s => minLevel l s.level) (some 4)
  insertBy (Span.before own) ⟨r.1, r.2, lvl, took.flatMap Span.parts⟩ (log.filter (fun s => !s.inside r))

/-- A write to a line enters the log (R237). -/
def logWrite (own : BitVec 18) (log : List Span) (line : Nat) : List Span :=
  let a := 64 * line
  let covers (s : Span) : Bool := decide (s.base ≤ a) && decide (a < s.base + s.size)
  if log.any covers then log.map (fun s => if covers s then s.rewrite line else s)
  else
    let log := insertBy (Span.before own) ⟨a, 64, none, [⟨line, line + 1, none⟩]⟩ log
    if log.length ≤ 64 then log
    else
      match bestJoin log with
      | some r => mergeInto own log r
      | none => log

/-! ### Stores (R83, R88) -/

/-- `n` bytes of a line from byte `sh`: the byte mask and the bit mask. -/
def byteMask (sh n : Nat) : BitVec 64 := BitVec.ofNat 64 (2 ^ n - 1) <<< sh
def bitMask (sh n : Nat) : Line := BitVec.ofNat 512 (2 ^ (8 * n) - 1) <<< (8 * sh)

/-- The bits of the bytes of a byte mask. -/
def maskBits (m : BitVec 64) : Line :=
  if m = 0 then 0 else (upto 0 64).foldl (fun d i => if m.getLsbD i then d ||| bitMask i 1 else d) 0

/-- New bytes combined into an outbound entry (R83): bytes that a younger instruction has written keep its data (R315). -/
def OutEntry.combine (e : OutEntry) (sh n v : Nat) (pc : Word) (w : InsnWord) (now pos : Nat) : OutEntry :=
  let bits := bitMask sh n &&& ~~~maskBits (e.later pos)
  { e with
    mask := e.mask ||| byteMask sh n
    data := (e.data &&& ~~~bits) ||| ((BitVec.ofNat 512 v <<< (8 * sh)) &&& bits)
    pc := if pos < e.pos then e.pc else pc
    word := if pos < e.pos then e.word else w
    last := now
    pos := Nat.max e.pos pos
    ops := match e.ops with
      | (p, m) :: r => if p = pos then (p, m ||| byteMask sh n) :: r else (pos, byteMask sh n) :: e.ops
      | [] => [(pos, byteMask sh n)] }

/-- An outbound entry that holds nothing yet. -/
def OutEntry.fresh (a : Agent) (line : Nat) : OutEntry := ⟨a.sid, a.writer, line, 0, 0, 0, 0, 0, 0, []⟩

/-- The packets of a core's stores that have not reached local completion do (R353). -/
def State.releaseSources (s : State) (core : Nat) : State :=
  { s with homes := { s.homes with wnet := s.homes.wnet.map (fun f =>
      if f.core = core ∧ f.port.isSome ∧ f.local_.isNone then { f with local_ := some s.now } else f) } }

/-- Entries of a core's outbound buffer in use: a packet's is released at its local completion (R83, R353). -/
def State.outUsed (s : State) (core : Nat) : Nat :=
  (s.coreAt core).outb.length + (s.homes.wnet.filter (fun f => f.core == core && f.port.isSome && f.local_.isNone && f.block.isNone)).length

/-- A store of `n` bytes enters the outbound buffer under the strand's slot. A full buffer of 4,096 entries first sends the oldest that may leave on its way, behind the writes that left before it; where none may leave, a store instruction (`wait`) stalls, and a write of a stream or of the engine goes on its way itself (R83, R85, R389). Which entry a full buffer evicts: DESIGN CHOICE, log entry 4. -/
def State.bufferStore (s : State) (wait : Bool) (a : Agent) (key n v : Nat) (pc : Word) (w : InsnWord) (pos : Nat) : State :=
  let k := s.coreAt a.core
  let p (e : OutEntry) : Bool := (e.sid == a.sid) && (e.line == key / 64)
  let put (e : OutEntry) : OutEntry := e.combine (key % 64) n v pc w s.now pos
  let new := put (OutEntry.fresh a (key / 64))
  if k.outb.any p then s.setCore { k with outb := updFirst p put k.outb }
  else if s.outUsed a.core < 4096 then s.setCore { k with outb := k.outb ++ [new] }
  else
    let s := s.releaseSources k.id
    match k.outb.findIdx? (fun e => !s.blocked k.id e && !s.outHeld e.sid) with
    | some i =>
      match k.outb[i]? with
      | some e => (s.setCore { k with outb := dropAt i k.outb ++ [new] }).send k.id e
      | none => s
    | none =>
      if k.outb.length < 4096 then s.setCore { k with outb := k.outb ++ [new] }
      else if wait || s.blocked k.id new || s.outHeld a.sid then s.waitNet
      else s.send k.id new

/-- A store instruction, or one that issues a command, takes the next position in program order (R385). -/
def State.bump (s : State) : State := { s with cur := { s.cur with pos := s.cur.pos + 1 } }

/-- A write to a line enters the issuing strand's write log (R237). -/
def State.logLine (s : State) (l : Nat) : State :=
  { s with cur := { s.cur with wlog := logWrite s.front.modnum s.cur.wlog l } }

/-- Bytes stored by the issuing strand: the outbound buffer and the write log (R83, R237). -/
def State.store (s : State) (key n v : Nat) (w : InsnWord) : State :=
  (s.logLine (key / 64)).bufferStore true s.me key n v s.cur.pc w s.cur.pos

/-! ### Scalar loads and stores (R186, R187) -/

/-- A scalar load of `n` bytes: alignment, space, translation, range, the early-read check and the tag (R186). DESIGN CHOICE, log entry 75. -/
def State.scalarLoad (s : State) (va : Word) (n : Nat) (d : Reg) (f : Nat → Word) : Out :=
  if va.toNat % n ≠ 0 then s.trap 0x085 va
  else
    match s.loadAt s.me va n with
    | (.error x, s) => s.trapX x
    | (.ok v, s) => s.ret d (f v)

/-- A scalar store of `n` bytes (R186, R187). -/
def State.scalarStore (s : State) (va : Word) (n : Nat) (v : Word) (w : InsnWord) : Out :=
  if va.toNat % n ≠ 0 then s.trap 0x085 va
  else
    match s.resolveAddr s.me va .write with
    | (.error x, s) => s.trapX x
    | (.ok key, s) => .next ((s.bump.store key n v.toNat w).adv)

end Sys2Proof.Machine
end

