-- ==== Sys2Proof/Machine/Turn.lean ====
section
/-! DEFINITION. The turnaround (R89 to R94), turns of the write log (R237, R238, R466), deadlines and status words (R281 to R285). -/

namespace Sys2Proof.Machine

/-! ### Clocks, deadlines and status (R281 to R285) -/

/-- A clock as a strand reads it. -/
def State.clock (s : State) (onRun : Bool) : Nat := if onRun then s.cur.c.dclkr.toNat else s.now

/-- The deadline that an operand forms as its instruction issues: now, or when it began to wait at issue (R281). -/
def State.formed (s : State) (op : Word) : Deadline × Bool :=
  let r := op.getLsbD 63
  let now := s.clock r - (s.now - s.cur.stall.getD s.now)
  let t := Nat.min (field op 0 63) (now + field s.core.dlcap 0 63)
  (⟨r, t⟩, op == 0 || decide (t ≤ now))

/-- The effective deadline of an operand and whether it is a poll: as formed when the instruction issued, for one that has waited at issue since (R281). -/
def State.dueOf (s : State) (op : Word) : Deadline × Bool := s.cur.due.getD (s.formed op)

/-- The effective deadline of an operand (R281). -/
def State.deadline (s : State) (op : Word) : Deadline := (s.dueOf op).1

/-- The operand is a poll (R281). -/
def State.isPoll (s : State) (op : Word) : Bool := (s.dueOf op).2

/-- No time is left: a poll, or an instruction that has waited at issue up to its effective deadline (R92, R281, R282). -/
def State.spent (s : State) (op : Word) : Bool :=
  s.isPoll op || decide ((s.deadline op).tick ≤ s.clock (s.deadline op).onRun)

/-- A status word (R283). -/
def status (outcome detail value : Nat) : Word := BitVec.ofNat 64 (value * 256 + detail * 8 + outcome)

def oDONE : Nat := 0
def oTIMEOUT : Nat := 1
def oWITHDRAWN : Nat := 2
def oPARTIAL : Nat := 3
def oLATE : Nat := 4

/-- TOCNT after a status, and whether the escalation trap follows (R285). -/
def countTimeout (tocnt escal st : Word) (poll : Bool) : Word × Bool :=
  if poll then (tocnt, false)
  else
    let o := field st 0 3
    if o = 1 ∨ o = 2 then
      let n := Nat.min (field tocnt 0 32 + 1) (2 ^ 32 - 1)
      (BitVec.ofNat 64 n, decide (n = field escal 0 32) && decide (n ≠ field tocnt 0 32))
    else (0, false)

/-- The end of a deadline-taking instruction: its status written, TOCNT changed, and the escalation trap taken with EPC at the next instruction (R285, R435). The limit is ESCAL as it stands when the wait ends. DESIGN CHOICE, log entry 64. -/
def State.finish (s : State) (d : Reg) (st : Word) (poll : Bool) : State :=
  let s := s.wx d st
  let (n, esc) := countTimeout s.cur.c.tocnt s.core.escal st poll
  let s := s.setC { s.cur.c with tocnt := n }
  if esc then s.trapEntry 0x180 0 false s.cur.pc n 0 (s.cur.pc + 4) else s.adv

/-! ### Turning lines (R89, R94) -/

/-- Step 2 of R89 on the tag of one line. DEDUCED, log entry 14. -/
def turnTag (own : BitVec 18) (w : BitVec 12) (lvl : Nat) (l : Nat) (t : Tag) : Tag :=
  if t.writer = w ∧ (isSpad (64 * l) ∨ t.wmod = own) then
    if t.state = 6 then { t with state := BitVec.ofNat 3 lvl }
    else if t.state.toNat ≤ 4 then { t with state := BitVec.ofNat 3 (Nat.max t.state.toNat lvl) }
    else t
  else t

/-- The all-writers turn of R94 on the tag of one line. -/
def turnAllTag (lvl : Nat) (t : Tag) : Tag := if t.state = 6 then { t with state := BitVec.ofNat 3 lvl } else t

/-- A core lies within a level of another (R2, R89 step 3). -/
def within (lvl a b : Nat) : Bool :=
  if lvl ≤ 1 then a == b else if lvl = 2 then a / 16 == b / 16 else true

/-- Step 2 of R89, and with the all-writers flag the turn of R94 as well, on the tag of a line. -/
def turnedTag (own : BitVec 18) (w : BitVec 12) (lvl : Nat) (all : Bool) (l : Nat) (t : Tag) : Tag :=
  let t := turnTag own w lvl l t
  if all then turnAllTag lvl t else t

/-- Lines [first, last) of one module by the dies of their homes: the first and the end of each die's. -/
def dieParts (first last : Nat) : List (Nat × Nat) :=
  if last ≤ first then []
  else
    let d := homeDie (64 * first)
    let from_ (e : Nat) : Nat := (if isSpad (64 * first) then spadKey (16 * e) 0 else 64 * first / 2 ^ 42 * 2 ^ 42 + e * 2 ^ 37) / 64
    (upto d (homeDie (64 * (last - 1)) - d + 1)).map (fun e => (Nat.max first (from_ e), Nat.min last (from_ (e + 1))))

/-- A turn's requests go to the homes of its lines (R37). -/
def State.touchLines (s : State) (first last : Nat) : State := (dieParts first last).foldl (fun s p => s.touch (64 * p.1)) s

/-- The dies whose caches a turn at a level invalidates (R2, R89 step 3). -/
def State.scopeDies (s : State) (lvl core : Nat) : List Nat := if lvl ≤ 2 then [dieOf core] else s.allDies

/-- The dies that a turn of lines [first, last) here uses: its requests and the homes' replies cross them, and so do the invalidations and their acknowledgements (R8, R35, R89, R345). DEDUCED, log entry 26. -/
def State.turnPaths (s : State) (core lvl first last : Nat) : List Nat :=
  (dieParts first last).flatMap (fun p =>
    let h := homeDie (64 * p.1)
    (ordersIn p.1 p.2).flatMap (fun b => diePath (dieOf core) h b ++ diePath h (dieOf core) b) ++ s.invalPaths (s.scopeDies lvl core) p.1 p.2)

/-- The invalidations of lines that a strand has under way reach their cores and are acknowledged (R89 step 4). -/
def State.ackLines (s : State) (sid : Nat) (p : Nat → Bool) : State :=
  let mine (e : Inval) : Bool := (e.sid == sid) && p e.line
  let s := (s.homes.invals.filter mine).foldl (fun s e => s.onCore e.core (fun k => k.drop e.line (e.line + 1))) s
  { s with homes := { s.homes with
      invals := s.homes.invals.filter (fun e => !mine e)
      acks := s.homes.acks.filter (fun e => !mine e) } }

/-- Lines [first, last) of one module turned for an agent: its writes drained, tags set, caches in scope invalidated and every acknowledgement in (R89); scratchpad blocks need no invalidation (R238). To lines of another module the requests are under way already. -/
def State.turnLines (s : State) (a : Agent) (lvl : Nat) (all : Bool) (first last : Nat) : State :=
  let inr (l : Nat) : Bool := decide (first ≤ l) && decide (l < last)
  let s := (s.touchLines first last).decodesIn first last 2 a.writer
  let s := if keyModule (64 * first) = 0 then s.passes (s.turnPaths a.core lvl first last) else s
  let s := (s.drain a.sid inr).ackLines a.sid inr
  let own := s.front.modnum
  let s := { s with tags := s.tags.map (fun e =>
    if inr e.1 then (e.1, turnedTag own a.writer lvl all e.1 e.2) else e) }
  if isSpad (64 * first) then s
  else s.onCores (fun k => if within lvl a.core k.id then k.drop first last else k)

/-- How many lines the coming turn may do before its deadline: 0 when no time is left, else as the schedule says (R92). DESIGN CHOICE, log entry 3. -/
def State.turnBudget (s : State) (spent : Bool) : Option Nat × State :=
  if spent then (some 0, s) else (s.sched.cut, { s with sched := { s.sched with cut := none } })

/-! ### Output streams as stores (R232) -/

def Strand.setStream (t : Strand) (i : Nat) (b : Option Stream) : Strand :=
  { t with streams := t.streams.setIfInBounds i b }

/-- The produced elements of an affine output enter the outbound path as stores of the strand, at the positions of the instructions that produced them (R232, R312). DEDUCED, log entry 47. -/
def State.placeStream (s : State) (i : Nat) : State :=
  match s.cur.streams.getD i none with
  | none => s
  | some b =>
    let s := { s with cur := s.cur.setStream i (some { b with pend := [] }) }
    b.pend.foldl (fun s e =>
      (s.logLine (spadKey s.cur.id.core e.off / 64)).bufferStore false s.me (spadKey s.cur.id.core e.off) e.size e.code.toNat s.cur.pc 0 e.pos) s

/-- What every affine output of the strand has produced enters the outbound path, before a turn that must cover it (R89 step 1, R232). -/
def State.placeStreams (s : State) : State := (upto 0 4).foldl State.placeStream s

/-! ### Turns of the write log (R237, R239) -/

/-- Lines of another module turned one by one, each by a request and a reply over the fabric: how many are done, and whether the line after them was lost (R349, R352, R466). DEDUCED, log entry 56. -/
def State.turnFar (s : State) (a : Agent) (lvl : Nat) (all : Bool) : (n : Nat) → (l : Nat) → Nat × Bool × State
  | 0, _ => (0, false, s)
  | n + 1, l =>
    match s.crosses a.core a.writer (64 * l) 64 with
    | (false, s) => (0, true, s)
    | (true, s) =>
      let (k, lost, s) := (s.turnLines a lvl all l (l + 1)).turnFar a lvl all n (l + 1)
      (k + 1, lost, s)

/-- A record for a line on an unreachable module, of the instruction that turned the log; its WORD, which the spec does not state, is 0 (R466). DESIGN CHOICE, log entry 20. -/
def lossRecord (st : Strand) (own : BitVec 18) (key : Nat) : Record :=
  (OutEntry.record ⟨st.id.sid, st.writer, key / 64, 0, 0, st.pc, 0, 0, st.pos, []⟩ 0x300 (globalOf own key))

/-- A line of a span on another module turned at a level; one that cannot be reached, or whose packet is lost, counts as done with its tag untouched, and leaves a record when it was written (R462, R466). DEDUCED, log entry 56. -/
def State.turnReachLine (s : State) (lvl : Nat) (sp : Span) (l : Nat) : State :=
  match s.turnFar s.me lvl false 1 l with
  | (_, true, s) =>
    if sp.parts.any (fun p => decide (p.first ≤ l) && decide (l < p.last)) then s.addReached s.cur.id.sid (lossRecord s.cur s.front.modnum (64 * l)) else s
  | (_, false, s) => s

/-- Lines [first, last) of one module in a span turned at a level (R237, R466). DEDUCED, log entry 56. -/
def State.turnReach (s : State) (lvl : Nat) (sp : Span) (first last : Nat) : State :=
  if keyModule (64 * first) = 0 then s.turnLines s.me lvl false first last
  else (upto first (last - first)).foldl (fun s l => s.turnReachLine lvl sp l) s

/-- The first `n` lines of a span turned at a level: whole, or of a span over several modules its written lines (R237). -/
def State.turnSpan (s : State) (lvl : Nat) (sp : Span) (n : Nat) : State :=
  let first := sp.base / 64
  if n = 0 then s
  else if sp.size ≤ 2 ^ 42 then s.turnReach lvl sp first (first + n)
  else sp.parts.foldl (fun s p => if p.first < first + n then s.turnReach lvl sp p.first (Nat.min p.last (first + n)) else s) s

/-- A span whose level lies below `lvl`. -/
def Span.below (sp : Span) (lvl : Nat) : Bool :=
  match sp.level with
  | none => true
  | some l => decide (l < lvl)

/-- Spans turned in ascending order until the budget of lines is spent: the bytes of the spans completed, and whether all were. The spans that are done rise to the level, and one at G leaves the log. -/
def State.turnSpans (s : State) (lvl : Nat) : (todo : List Span) → (budget : Option Nat) → Nat × Bool × State
  | [], _ => (0, true, s)
  | sp :: r, budget =>
    if !sp.below lvl then s.turnSpans lvl r budget
    else
      let lines := sp.size / 64
      match budget with
      | some b =>
        if b < lines then (0, false, s.turnSpan lvl sp b)
        else
          let s := s.turnSpan lvl sp lines
          let (n, ok, s) := s.turnSpans lvl r (some (b - lines))
          (n + sp.size, ok, s)
      | none =>
        let s := s.turnSpan lvl sp lines
        let (n, ok, s) := s.turnSpans lvl r none
        (n + sp.size, ok, s)

/-- The log with its first `n` bytes of spans below a level raised to it; a span at G leaves the log. DEDUCED, log entry 56. -/
def raiseSpans (lvl : Nat) : List Span → Nat → List Span
  | [], _ => []
  | sp :: r, n =>
    if !sp.below lvl then sp :: raiseSpans lvl r n
    else if sp.size ≤ n then
      if lvl = 4 then raiseSpans lvl r (n - sp.size)
      else sp.raise lvl (sp.base / 64) ((sp.base + sp.size) / 64) :: raiseSpans lvl r (n - sp.size)
    else sp :: r

/-- The written lines of the first spans below a level, up to a budget of lines, are turned although their spans may not be complete (R237). DEDUCED, log entry 56. -/
def raiseLines (lvl : Nat) : List Span → (budget : Nat) → List Span
  | [], _ => []
  | sp :: r, b =>
    if !sp.below lvl then sp :: raiseLines lvl r b
    else sp.raise lvl (sp.base / 64) (sp.base / 64 + b) :: raiseLines lvl r (b - sp.size / 64)

/-- The acknowledgements that a strand's successful VSCC elements still wait for arrive (R246). -/
def State.ackAll (s : State) (sid : Nat) : State := s.ackLines sid (fun _ => true)

/-- The strand's outstanding writes turned at a level under a deadline (R93, R237): the bytes turned, and whether the turn is complete. -/
def State.turnLog (s : State) (lvl : Nat) (spent : Bool) : Nat × Bool × State :=
  let s := s.placeStreams
  let todo := s.cur.wlog
  if !(todo.any (fun sp => sp.below lvl)) then (0, true, s.ackAll s.cur.id.sid)
  else
    let (b, s) := s.turnBudget spent
    let (n, ok, s) := s.turnSpans lvl todo b
    let log := if ok then raiseSpans lvl s.cur.wlog n else (raiseLines lvl s.cur.wlog (b.getD 0)).filter (fun sp => sp.level != some 4)
    let s := { s with cur := { s.cur with wlog := log } }
    (n, ok, if ok then s.ackAll s.cur.id.sid else s)

end Sys2Proof.Machine
end

