-- ==== Sys2Proof/Machine/Operands.lean ====
section
/-! DEFINITION. Every vector operand form: element placement (R44), active elements (R175, R176, R202, R392), scalar and immediate operands (R202), memory formats (R157, R218 to R220), and stream registers as operands (R104, R206, R231 to R233, R436). -/

namespace Sys2Proof.Machine

/-! ### Element placement (R44) -/

/-- VTYPE.EW in bits (R173). -/
def ewOf (vtype : Word) : Nat := 16 * 2 ^ field vtype 0 2

/-- VLMAX = G × 64 / EW (R44). -/
def vlmaxOf (g ew : Nat) : Nat := g * 64 / ew

def Strand.ew (t : Strand) : Nat := ewOf t.c.vtype
def Strand.vlmax (t : Strand) : Nat := vlmaxOf t.grant t.ew
def Strand.vl (t : Strand) : Nat := field t.c.vl 0 10
def Strand.vstart (t : Strand) : Nat := field t.c.vstart 0 10

/-- The lowest bit of element i: lane i mod G, slot i div G (R44). -/
def elemPos (g ew i : Nat) : Nat := 64 * (i % g) + ew * (i / g)

/-- Element i of a vector register, as a number below 2^ew. -/
def getE (g ew : Nat) (v : VReg) (i : Nat) : Nat := v.toNat / 2 ^ elemPos g ew i % 2 ^ ew

/-- Element i of a vector register replaced. -/
def setE (g ew : Nat) (v : VReg) (i x : Nat) : VReg :=
  (v &&& ~~~(BitVec.ofNat 8192 (2 ^ ew - 1) <<< elemPos g ew i)) |||
    (BitVec.ofNat 8192 (x % 2 ^ ew) <<< elemPos g ew i)

def Strand.vr (t : Strand) (r : Reg) : VReg := t.v[r.toNat]'(r.isLt)
def Strand.elem (t : Strand) (r : Reg) (i : Nat) : Nat := getE t.grant t.ew (t.vr r) i
def Strand.setV (t : Strand) (r : Reg) (v : VReg) : Strand := { t with v := t.v.set r.toNat v r.isLt }

/-- Elements written into a register: each pair is an element number and its value. -/
def writeElems (g ew : Nat) (v : VReg) (es : List (Nat × Nat)) : VReg :=
  es.foldl (fun v e => setE g ew v e.1 e.2) v

def Strand.setElems (t : Strand) (r : Reg) (es : List (Nat × Nat)) : Strand :=
  t.setV r (writeElems t.grant t.ew (t.vr r) es)

/-! ### Active elements (R175, R176, R202) -/

/-- The mask bit of element i (R175); VM.REG names the storage of a register, also of one bound to a stream. DESIGN CHOICE, log entry 76. -/
def Strand.maskBit (t : Strand) (i : Nat) : Bool :=
  !t.c.vm.getLsbD 5 || decide (t.elem (t.c.vm.extractLsb' 0 5) i % 2 = 1)

/-- The lane group of an element (R45, R391). -/
def laneGroup (g i : Nat) : Nat := i % g / 16

/-- The counters decide where the next element-processing instruction begins (R392). -/
def Strand.resuming (t : Strand) : Bool := t.tlgv && !t.nest

/-- Element i is not below where the instruction begins: VSTART, or its lane group's counter (R176, R392). -/
def Strand.begun (t : Strand) (i : Nat) : Bool :=
  if t.resuming then decide (field (t.c.tlg.getD (laneGroup t.grant i) 0) 0 10 ≤ i) else decide (t.vstart ≤ i)

/-- The active elements of an element-processing instruction, ascending (R202, R392). -/
def Strand.active (t : Strand) : List Nat :=
  (upto 0 t.vl).filter (fun i => t.begun i && t.maskBit i)

/-- The active elements of a whole instruction, which ignores VSTART and the counters (R205, R392). -/
def Strand.activeWhole (t : Strand) : List Nat := (upto 0 t.vl).filter t.maskBit

/-- A debug step performs one element (R445). -/
def State.oneElem (s : State) : Bool := s.cur.stepping && s.core.dbgctl.getLsbD 15

/-- A forced pre-emption falls within the step that is being made (R339). -/
def State.forcedWithin (s : State) : Bool :=
  match s.cur.request with
  | some t0 => decide (s.now < t0 + 8000) && decide (t0 + 8000 ≤ s.now + s.sched.elapse.headD 1)
  | none => false

/-- How many elements the coming instruction performs before it stops part-way: one in a debug step with ESTEP, and where a forced pre-emption falls within it as many as the schedule says (R339, R395, R445). In a handler, which changes no counter, it runs whole (R392). DESIGN CHOICE, log entry 3. -/
def State.limit (s : State) : Option Nat :=
  if s.cur.nest then none
  else if s.oneElem then some 1 else if s.forcedWithin then s.sched.part else none

/-- The elements that are performed now and those that are left. -/
def State.portion (s : State) (act : List Nat) : List Nat × List Nat :=
  match s.limit with
  | some n => (act.take n, act.drop n)
  | none => (act, [])

/-- VSTART ← 0, and after a resumption TLGV and every VALID cleared (R176, R392). -/
def Strand.vdone (t : Strand) : Strand :=
  let c := { t.c with vstart := 0 }
  if t.resuming then
    { t with c := { c with sstatus := setField c.sstatus 3 1 0, tlg := c.tlg.map (fun g => setField g 63 1 0) } }
  else { t with c := c }

/-- The lane-group counters of a stop (R390): group h of the grant stands at `next h`, the others read 0. -/
def tlgOf (g : Nat) (next : Nat → Nat) : Vector Word 8 :=
  Vector.ofFn (fun (h : Fin 8) =>
    if h.val < (g + 15) / 16 then (1#64 <<< 63) ||| BitVec.ofNat 64 (next h.val % 1024) else 0)

/-- Where each lane group stands when the elements of `left` have not taken effect: its least one, or VL (R390). -/
def nextOf (g vl : Nat) (left : List Nat) (h : Nat) : Nat :=
  (left.find? (fun i => laneGroup g i == h)).getD vl

/-- The stop of a debug step or of a forced pre-emption part-way (R390, R391, R395, R445): the counters, each rounded down to a multiple of `unit`, ELEM and TLGV as a trap at the next element would leave them; TLG0 and TLG1 of a VST stopped by force hold what R400 lets the save record. -/
def Strand.stopAt (t : Strand) (left : List Nat) (unit : Nat) : Strand :=
  let next (h : Nat) : Nat :=
    let n := nextOf t.grant t.vl left h
    if n = t.vl then n else n / unit * unit
  { t with c := { t.c with
    tlg := tlgOf t.grant next
    vstart := 0
    tcause := setField t.c.tcause 10 1 1
    sstatus := setField t.c.sstatus 3 1 1 } }

/-- The instruction stops part-way and stays where it is. -/
def State.stopHere (s : State) (left : List Nat) (unit : Nat) : Out :=
  .next { s with cur := s.cur.stopAt left unit, sched := { s.sched with part := none } }

/-! ### Memory formats (R157, R218) -/

/-- Bits of a memory element. -/
def fmtBits (f : BitVec 4) : Nat :=
  match f.toNat with
  | 0 => 32
  | 1 => 16
  | 2 => 16
  | 5 => 4
  | 8 => 4
  | 10 => 32
  | 11 => 64
  | _ => 8

/-- The element size s in bytes, 1 for a nibble format (R218, R221). -/
def fmtSize (f : BitVec 4) : Nat := (fmtBits f + 7) / 8

/-- Whether an access in a format is block scaled: fmt 3 to 9 with VTYPE.BS ≠ 0 (R120, R218). -/
def blockScaled (vtype : Word) (f : BitVec 4) : Bool :=
  decide (field vtype 5 2 ≠ 0) && decide (3 ≤ f.toNat) && decide (f.toNat ≤ 9)

/-- The block size of VTYPE.BS (R173). -/
def blockSize (vtype : Word) : Nat := 8 * 2 ^ field vtype 5 2

/-- Whether a format is accepted at a width, and whether its register element is floating (R218). -/
def fmtKind (f : BitVec 4) (ew : Nat) (scaled : Bool) : Option Bool :=
  match f.toNat, ew with
  | 0, 32 => some true
  | 1, 16 => some true
  | 1, 32 => some true
  | 2, 32 => some true
  | 10, 32 => some false
  | 10, 64 => some false
  | 11, 64 => some false
  | n, w =>
    if w = 64 then (if (n = 6 ∨ n = 7 ∨ n = 8) ∧ !scaled then some false else none)
    else if n = 3 ∨ n = 4 ∨ n = 5 ∨ n = 9 then some true
    else if n = 6 ∨ n = 7 ∨ n = 8 then some scaled
    else none

/-- The value of a memory code (R106 to R111). -/
def fmtValue (f : BitVec 4) (c : Nat) : Fp :=
  match f.toNat with
  | 0 => FP32.decode c
  | 1 => BF16.decode c
  | 2 => FP16.decode c
  | 3 => E4M3.decode c
  | 4 => E5M2.decode c
  | 5 => E2M1.decode c
  | 6 => intFp (toInt 8 c)
  | 7 => intFp c
  | 8 => intFp (toInt 4 c)
  | 9 => intFp (dpValue c)
  | 10 => intFp (toInt 32 c)
  | _ => intFp (toInt 64 c)

/-- The integer of an integer memory code (R109, R218). -/
def fmtInt (f : BitVec 4) (c : Nat) : Int :=
  match f.toNat with
  | 6 => toInt 8 c
  | 7 => c
  | 8 => toInt 4 c
  | 10 => toInt 32 c
  | _ => toInt 64 c

/-- The range of an integer memory format (R109). -/
def fmtRange (f : BitVec 4) : Int × Int :=
  match f.toNat with
  | 6 => (-128, 127)
  | 7 => (0, 255)
  | 8 => (-8, 7)
  | 10 => (-(2 ^ 31 : Nat), (2 ^ 31 - 1 : Nat))
  | _ => (-(2 ^ 63 : Nat), (2 ^ 63 - 1 : Nat))

/-- The register's floating format (R114). -/
def regFmt (ew : Nat) : FFmt := if ew = 16 then BF16 else FP32

/-- The memory format is the register's own, so its bits move unchanged. DEDUCED, log entry 41. -/
def sameFmt (f : BitVec 4) (ew : Nat) : Bool := (f == 0 && ew == 32) || (f == 1 && ew == 16)

/-- A loaded code as a register element, without block scaling (R218): the element and the flags. DEDUCED, log entry 41. -/
def loadConvert (f : BitVec 4) (isF : Bool) (ew c : Nat) : Nat × FFlags :=
  if isF then (if sameFmt f ew then (c, 0) else (regFmt ew).convert .rne (fmtValue f c))
  else (ofInt ew (fmtInt f c), 0)

/-- A finite, infinite or NaN value as a code of a memory format, rounding to nearest in the 8-bit and 4-bit formats (R119, R218). -/
def storeValue (f : BitVec 4) (rm : RMode) (x : Fp) : Nat × FFlags :=
  match f.toNat with
  | 0 => FP32.convert rm x
  | 1 => BF16.convert rm x
  | 2 => FP16.convert rm x
  | 3 => E4M3.convertSat x
  | 4 => E5M2.convertSat x
  | 5 => E2M1.convertSat x
  | 9 => dpConvert x
  | _ =>
    let (lo, hi) := fmtRange f
    let (z, fl) := fpToInt .rne lo hi x
    (ofInt (fmtBits f) z, fl)

/-- A register element as a memory code, without block scaling (R218). DEDUCED, log entries 41, 42. -/
def storeConvert (f : BitVec 4) (isF : Bool) (ew : Nat) (rm : RMode) (v : Nat) : Nat × FFlags :=
  if isF then (if sameFmt f ew then (v, 0) else storeValue f rm ((regFmt ew).decode v))
  else
    let (lo, hi) := fmtRange f
    let z := toInt ew v
    (ofInt (fmtBits f) (if z < lo then lo else if hi < z then hi else z), 0)

/-! ### Streams as operands (R104, R206) -/

/-- The stream of a register, when it is one of v28 to v31 and bound. -/
def Strand.stream (t : Strand) (r : Reg) : Option Stream :=
  if 28 ≤ r.toNat then (t.streams.getD (r.toNat - 28) none) else none

/-- KIND of a descriptor (R230): 0 affine input, 1 affine output, 2 remote input, 3 remote output. -/
def Stream.kind (b : Stream) : Nat := field (b.desc.getD 0 0) 0 2
def Stream.fmt (b : Stream) : BitVec 4 := (b.desc.getD 0 0).extractLsb' 8 4
/-- REG: the partner's stream register, v28 + REG (R230). -/
def Stream.reg (b : Stream) : Nat := field (b.desc.getD 0 0) 2 2
def Stream.base (b : Stream) : Nat := (b.desc.getD 1 0).toNat
def Stream.n0 (b : Stream) : Nat := field (b.desc.getD 2 0) 32 32
def Stream.s0 (b : Stream) : Int := toInt 32 (field (b.desc.getD 2 0) 0 32)
def Stream.n1 (b : Stream) : Nat := field (b.desc.getD 3 0) 32 32
def Stream.s1 (b : Stream) : Int := toInt 32 (field (b.desc.getD 3 0) 0 32)
def Stream.total (b : Stream) : Nat := b.n0 * b.n1

/-- The scratchpad offset of element j (R232). -/
def Stream.addr (b : Stream) (j : Nat) : Nat :=
  ((b.base : Int) + ((j / b.n0 : Nat) : Int) * b.s1 + ((j % b.n0 : Nat) : Int) * b.s0).toNat

/-- The address by which the own scratchpad names an offset (R70). -/
def ownSpad (off : Nat) : Word := BitVec.ofNat 64 (0xE0 * 2 ^ 56 + off)

/-- An element as it arrives: its code, or where it stands and the cause of the refusal. -/
def arrivedElem (off : Nat) (r : Except XFault Nat) : BitVec 64 × Option (BitVec 10) :=
  match r with
  | .ok v => (BitVec.ofNat 64 v, none)
  | .error f => (BitVec.ofNat 64 off, some f.cause)

/-- One element read ahead of an affine input: its code, or the cause of the refusal (R232). -/
def State.streamRead (s : State) (b : Stream) : Stream × State :=
  let off := b.addr (b.count + b.ahead.length)
  let q := s.loadKey s.me (ownSpad off) (spadKey s.cur.id.core off) (fmtSize b.fmt)
  ({ b with ahead := b.ahead ++ [arrivedElem off q.1] }, q.2)

/-- Reading ahead until `n` elements have arrived. -/
def State.streamFill (s : State) (b : Stream) : Nat → Stream × State
  | 0 => (b, s)
  | n + 1 =>
    let q := s.streamRead b
    q.2.streamFill q.1 n

/-- What the check of a stream operand finds. -/
inductive StreamCheck where
  | ready
  | trap (cause : BitVec 10) (tval : Word)
  | wait (r : Reg)
deriving DecidableEq, Repr

/-- A source register: direction (R206), end and width (R232, R233), arrival. An element that was refused is read again by the instruction as it executes again (R104). At VL = 0 a remote input is waited for by nothing, and a closed pair stays closed until its consumer binds again. DESIGN CHOICE, log entry 76. -/
def State.checkSource (s : State) (r : Reg) : StreamCheck × State :=
  match s.cur.stream r with
  | none => (.ready, s)
  | some b =>
    let name : Word := r.setWidth 64
    let n := s.cur.vl
    if b.kind = 1 ∨ b.kind = 3 then (.trap 0x201 name, s)
    else if b.kind = 0 then
      if b.total < b.count + n then (.trap 0x202 name, s)
      else if (fmtKind b.fmt s.cur.ew false).isNone then (.trap 0x101 s.cur.c.vtype, s)
      else
        let (b, s) := s.streamFill b (n - b.ahead.length)
        let s := { s with cur := s.cur.setStream (r.toNat - 28) (some b) }
        match (b.ahead.take n).find? (fun e => e.2.isSome) with
        | some (off, some c) =>
          let kept := b.ahead.takeWhile (fun e => e.2.isNone)
          (.trap c (ownSpad off.toNat), { s with cur := s.cur.setStream (r.toNat - 28) (some { b with ahead := kept }) })
        | _ => (.ready, s)
    else
      match b.group with
      | none => if n = 0 then (.ready, s) else if b.closed then (.trap 0x202 name, s) else (.wait r, s)
      | some (w, _) => if w = s.cur.ew then (.ready, s) else (.trap 0x203 name, s)

/-- A destination register: direction, and room for the group (R206, R232, R233). -/
def State.checkDest (s : State) (r : Reg) : StreamCheck :=
  match s.cur.stream r with
  | none => .ready
  | some b =>
    let name : Word := r.setWidth 64
    if b.kind = 0 ∨ b.kind = 2 ∨ s.cur.c.vm.getLsbD 5 then .trap 0x201 name
    else if b.kind = 1 then
      if b.total < b.count + s.cur.vl then .trap 0x202 name
      else if (fmtKind b.fmt s.cur.ew false).isNone then .trap 0x101 s.cur.c.vtype
      else .ready
    else if b.group.isSome then .wait r
    else .ready

/-- The elements that a source register supplies: its own, or those of the stream's next group (R104). An element that a shorter remote group does not hold is a free value. DESIGN CHOICE, log entry 4. -/
def Strand.source (t : Strand) (n : Nat) (r : Reg) (i : Nat) : Nat :=
  match t.stream r with
  | none => t.elem r i
  | some b =>
    if b.kind = 0 then
      match b.ahead[i]? with
      | some e => (loadConvert b.fmt ((fmtKind b.fmt t.ew false).getD false) t.ew e.1.toNat).1
      | none => 0
    else
      match b.group with
      | some (_, es) => (es[i]?.getD (Config.beyondElement (n + i))).toNat % 2 ^ t.ew
      | none => 0

/-- The flags of the conversions of a source's elements `use`, which an affine input brought (R115, R232). -/
def Strand.sourceFlags (t : Strand) (use : List Nat) (r : Reg) : FFlags :=
  match t.stream r with
  | none => 0
  | some b =>
    if b.kind = 0 then
      use.foldl (fun (fl : FFlags) i =>
        match b.ahead[i]? with
        | some e => fl ||| (loadConvert b.fmt ((fmtKind b.fmt t.ew false).getD false) t.ew e.1.toNat).2
        | none => fl) 0
    else 0

/-- A consumed group of `n` elements leaves its stream; the producer of a remote group may send the next (R104, R233). Each side counts its own VL elements. DESIGN CHOICE, log entry 76. -/
def State.consume (n : Nat) (s : State) (r : Reg) : State :=
  match s.cur.stream r with
  | none => s
  | some b =>
    let s := { s with cur := s.cur.setStream (r.toNat - 28) (some { b with
      count := b.count + n, ahead := if b.kind = 0 then b.ahead.drop n else [], group := none }) }
    match b.partner with
    | none => s
    | some p => s.onStrand p (fun t =>
        t.setStream b.reg ((t.streams.getD b.reg none).map (fun c => { c with group := none })))

/-- The conversion flags of the elements `use` of stream sources enter FCSR (R115). -/
def State.raiseSources (s : State) (t : Strand) (use : List Nat) (rs : List Reg) : State :=
  s.setC { s.cur.c with fcsr := orFlags s.cur.c.fcsr (rs.foldl (fun (fl : FFlags) r => fl ||| t.sourceFlags use r) 0) }

/-- The instruction that issued in `t` has completed: it reads its groups out of their streams, and the flags of the elements `use` enter FCSR (R104, R115). -/
def State.consumeAll (s : State) (t : Strand) (use : List Nat) (rs : List Reg) : State :=
  rs.foldl (State.consume t.vl) (s.raiseSources t use rs)

/-- An element of the register width as an output stream carries it: its code in the stream's format, and the flags of the conversion (R115, R232). -/
def Strand.outCode (t : Strand) (b : Stream) (v : Nat) : Nat × FFlags :=
  storeConvert b.fmt ((fmtKind b.fmt t.ew false).getD false) t.ew (rmOf t.c.fcsr) (v % 2 ^ t.ew)

/-- The elements that an output stream receives (R206, R232, R233); those of an affine output stand at the position of the instruction as stores of the strand (R312). -/
def State.produce (s : State) (r : Reg) (es : List Nat) : State :=
  match s.cur.stream r with
  | none => s
  | some b =>
    let n := es.length
    if b.kind = 1 then
      let s := s.bump
      let out := (es.zip (upto b.count n)).map (fun e => (⟨s.cur.pos, b.addr e.2, fmtSize b.fmt, BitVec.ofNat 64 (s.cur.outCode b e.1).1⟩ : PendElem))
      { s with cur := s.cur.setStream (r.toNat - 28) (some { b with pend := b.pend ++ out, count := b.count + n }) }
    else { s with cur := s.cur.setStream (r.toNat - 28) (some { b with group := some (s.cur.ew, es.map (BitVec.ofNat 64)), count := b.count + n }) }

/-- The first check of a list that does not find its operand ready. -/
def State.checkSources (s : State) : List Reg → StreamCheck × State
  | [] => (.ready, s)
  | r :: rs =>
    match s.checkSource r with
    | (.ready, s) => s.checkSources rs
    | c => c

/-- An instruction waits at issue: it stays where it is and executes again, having taken no effect. -/
def State.stallHere (s : State) : Out :=
  .next { s with cur := { s.cur with stall := some (s.cur.stall.getD s.now), blockedOn := none }, mark := { s.mark with idle := true } }

/-- An instruction waits for a stream, its budget running from the moment at which it began to wait for it (R436). -/
def State.stallOn (s : State) (r : Reg) : Out :=
  let since := if s.cur.blockedOn = some r then s.cur.stall.getD s.now else s.now
  .next { s with cur := { s.cur with stall := some since, blockedOn := some r }, mark := { s.mark with idle := true } }

/-- Registers without repetition, in order. -/
def distinct : List Reg → List Reg
  | [] => []
  | r :: rs => r :: (distinct rs).filter (fun q => q != r)

/-- The instruction that issued in `s` has completed in `s'`: it neither trapped, nor stopped part-way. -/
def State.completed (s s' : State) : Bool := decide (s'.cur.pc = s.cur.pc + 4) && (s'.cur.nest == s.cur.nest)

/-- The instruction has stopped or trapped part-way: its counters say which elements have taken effect (R390, R391). -/
def State.partWay (s' : State) : Bool := s'.cur.tlgv && !s'.mark.idle

/-- Element i has taken effect by the counters of a part-way stop (R391). -/
def Strand.tookEffect (t : Strand) (i : Nat) : Bool :=
  decide (i < field (t.c.tlg.getD (laneGroup t.grant i) 0) 0 10)

/-- An instruction with stream sources, of which it processes the elements `use`: a completed one consumes their groups, without the flags of elements that it has cut off by a lower VL, and one that traps or stops part-way consumes nothing, though the elements that have taken effect contribute their flags (R81, R104, R115, R130, R228, R232, R391). -/
def State.consuming (s : State) (use : List Nat) (rs : List Reg) (o : Out) : Out :=
  match o with
  | .next s' => .next (
      if s.completed s' then s'.consumeAll s.cur (use.filter (fun i => decide (i < s'.cur.vl))) rs
      else if s'.partWay then s'.raiseSources s.cur (use.filter s'.cur.tookEffect) rs
      else s')
  | .fault f => .fault f
  | .refused r => .refused r

def StreamCheck.isTrap : StreamCheck → Bool
  | .trap _ _ => true
  | _ => false

def StreamCheck.misuse : StreamCheck → Bool
  | .trap 0x201 _ => true
  | _ => false

/-- The stream checks of an instruction over its vector sources, of which it processes the elements `use`, and its vector destinations, and then what it does with the elements it reads (R206). `k` receives the reader of a source element. -/
def State.withOperands (s : State) (use : Strand → List Nat) (srcs dsts : List Reg) (k : State → (Reg → Nat → Nat) → Out) : Out :=
  let misuse := (distinct srcs).find? (fun r => match s.cur.stream r with
    | some b => b.kind = 1 || b.kind = 3
    | none => false)
  match misuse with
  | some r => s.trap 0x201 (r.setWidth 64)
  | none =>
    let dcs := dsts.map s.checkDest
    match dcs.find? StreamCheck.misuse with
    | some (.trap c v) => s.trap c v
    | _ =>
      match s.checkSources (distinct srcs) with
      | (.trap c v, s) => s.trap c v
      | (.wait r, s) => s.stallOn r
      | (.ready, s) =>
        match dcs.find? StreamCheck.isTrap, dcs.find? (fun c => c != .ready) with
        | some (.trap c v), _ => s.trap c v
        | _, some (.wait r) => s.stallOn r
        | _, _ =>
          let s := { s with cur := { s.cur with stall := none, due := none, blockedOn := none } }
          let t := s.cur
          if (distinct srcs).any (fun r => (t.stream r).isSome) then
            let (n, s) := s.draw
            s.consuming (use t) (distinct srcs) (k s (fun r i => t.source n r i))
          else k s (fun r i => t.source 0 r i)

/-- The operands of an element-processing instruction, which processes its active elements (R202, R206). -/
def State.withSources (s : State) (srcs : List Reg) (dst : Option Reg) (k : State → (Reg → Nat → Nat) → Out) : Out :=
  s.withOperands Strand.active srcs dst.toList k

/-- The flags of the conversions of elements into an affine output (R115, R232). -/
def Strand.outFlags (t : Strand) (d : Reg) (es : List (Nat × Nat)) : FFlags :=
  match t.stream d with
  | none => 0
  | some b => if b.kind = 1 then es.foldl (fun (f : FFlags) e => f ||| (t.outCode b e.2).2) 0 else 0

/-- The elements `es` of a vector destination written and `fl` raised, with the flags of their conversions into a stream, by an instruction that is not complete (R115, R130, R202); of an output stream the core holds them until the group is whole. -/
def State.writePart (s : State) (d : Reg) (es : List (Nat × Nat)) (fl : FFlags) : State :=
  let t := s.cur
  let t := { t with c := { t.c with fcsr := orFlags t.c.fcsr (fl ||| t.outFlags d es) } }
  { s with cur := t.setElems d es }

/-- An output stream receives the VL elements of a complete instruction (R206), for those that it did not process, below VSTART, what v[d] holds. DESIGN CHOICE, log entry 76. -/
def State.writeGroup (s : State) (d : Reg) : State :=
  match s.cur.stream d with
  | none => s
  | some _ => s.produce d ((upto 0 s.cur.vl).map (s.cur.elem d))

/-- The end of an element-processing instruction that writes the elements `es` of a vector destination and raises `fl` (R115, R202): an output stream receives VL elements. -/
def State.writeBack (s : State) (d : Reg) (es : List (Nat × Nat)) (fl : FFlags) : State := (s.writePart d es fl).writeGroup d

/-- An element-wise instruction (R202): `op` gives each active element and its flags. It may stop part-way (R395, R445). -/
def State.elementWise (s : State) (srcs : List Reg) (d : Reg) (op : (Reg → Nat → Nat) → Nat → Nat × FFlags) : Out :=
  s.withSources srcs (some d) (fun s rd =>
    let (now, left) := s.portion s.cur.active
    let rs := now.map (fun i => (i, op rd i))
    let fl := rs.foldl (fun f r => f ||| r.2.2) 0
    let s := s.writePart d (rs.map (fun r => (r.1, r.2.1))) fl
    if left.isEmpty then
      let s := s.writeGroup d
      .next ({ s with cur := s.cur.vdone }).adv
    else s.stopHere left 1)

/-- The three kinds of second operand of V format (R155, R202): a vector register, a scalar register, or a five-bit immediate sign-extended. -/
inductive VOp where
  | v (r : Reg)
  | x (r : Reg)
  | i (imm : BitVec 5)
deriving DecidableEq, Repr

/-- The vector register that an operand reads, if any. -/
def VOp.regs : VOp → List Reg
  | .v r => [r]
  | _ => []

/-- Element i of an operand (R202). -/
def State.operand (s : State) (b : VOp) (rd : Reg → Nat → Nat) (i : Nat) : Nat :=
  match b with
  | .v r => rd r i
  | .x r => (s.rx r).toNat % 2 ^ s.cur.ew
  | .i imm => (imm.signExtend s.cur.ew).toNat

end Sys2Proof.Machine
end

