-- ==== Sys2Proof/Machine/Collective.lean ====
section
/-! DEFINITION. The collective window: groups, contributions and result reads (R225, R302, R355 to R358). -/

namespace Sys2Proof.Machine

/-- A little-endian field of a byte list. -/
def bytesAt (bs : List Byte) (off n : Nat) : Nat := ofBytes ((bs.drop off).take n)

/-- O_k: the first cell of level k, for k ≥ 1 (R270). -/
def levelStart (d : Nat) : Nat → Nat
  | 0 => 0
  | 1 => 0
  | k + 1 => levelStart d k + 64 * ((d ^ k + 63) / 64)

/-- The entries of an image: 1 + CELLS for a depth and a channel count (R270, R360). -/
def imageEntries (sign sigd : Nat) : Nat := 1 + levelStart sigd (sign + 1)

/-- An acceptable depth and channel pair (R270, R360). -/
def joinOk (sign sigd : Nat) : Bool :=
  decide (1 ≤ sign) && decide (sign ≤ 8) && (sigd == 2 || sigd == 4 || sigd == 8 || sigd == 16) && decide (imageEntries sign sigd ≤ 65537)

/-- A group table entry from its bytes, with its ASID, when it is well formed (R355). -/
def groupOf (b : List Byte) : Option (BitVec 16 × Group) :=
  let g : Group := ⟨bytesAt b 4 4, BitVec.ofNat 64 (bytesAt b 8 8), BitVec.ofNat 64 (bytesAt b 16 8),
    bytesAt b 0x18 4, bytesAt b 0x1C 2, bytesAt b 0x1E 1, bytesAt b 0x1F 1⟩
  if bytesAt b 0 2 = 1 ∧ 1 ≤ g.ranks ∧ g.ranks < 2 ^ 27 ∧
      g.membase.toNat % 8 = 0 ∧ g.membase.toNat < 2 ^ 60 ∧ g.stgbase.toNat % 65536 = 0 ∧
      g.slotlen % 64 = 0 ∧ 64 ≤ g.slotlen ∧ g.slotlen ≤ 2 ^ 28 ∧ 1 ≤ g.slots ∧ g.slots ≤ 256 ∧
      g.sign ≤ 8 ∧ (g.sigd = 0 ∨ g.sigd = 2 ∨ g.sigd = 4 ∨ g.sigd = 8 ∨ g.sigd = 16) ∧
      bytesAt b 0x20 32 = 0 then some (BitVec.ofNat 16 (bytesAt b 2 2), g) else none

/-- The key of a group's entry in the table of the own module (R355). -/
def groupKey (handle : Nat) : Nat := 0x8000 + 64 * (handle - 1)

/-- Bytes that the Relay reads at their home at distance G; a read that no packet answers, or of a failed die, is a fault of the instruction (R356, R404, R458, R466). DEDUCED, log entry 40. -/
def State.relayRead (s : State) (core key n : Nat) : Except XFault (Option (List Byte)) × State :=
  let global (a : Nat) : Word := BitVec.ofNat 64 (globalOf s.front.modnum a)
  match s.readG core key n with
  | (.error c, s) => (.error ⟨c, if c = 0x300 then global (key / 64 * 64) else global key, 0⟩, s)
  | (.ok b, s) => (.ok b, s)

/-- A well-formed entry of the group table with its ASID, read at its home (R355, R356). -/
def State.groupLine (s : State) (core handle : Nat) : Except XFault (Option (BitVec 16 × Group)) × State :=
  if handle = 0 ∨ 1024 < handle then (.ok none, s)
  else
    match s.relayRead core (groupKey handle) 64 with
    | (.error x, s) => (.error x, s)
    | (.ok b, s) => (.ok (b.bind groupOf), s)

/-- The entry of a group under an ASID (R356). -/
def State.groupEntry (s : State) (core handle : Nat) (asid : BitVec 16) : Except XFault (Option Group) × State :=
  match s.groupLine core handle with
  | (.error x, s) => (.error x, s)
  | (.ok (some (a, g)), s) => (.ok (if a = asid then some g else none), s)
  | (.ok none, s) => (.ok none, s)

/-- GROUP and RANK of a strand (R301). -/
def Strand.groupNum (t : Strand) : Nat := field t.c.cgroup 32 32
def Strand.rank (t : Strand) : Nat := field t.c.cgroup 0 27

/-- The member record of a rank, read at its home at distance G (R356). -/
def State.member (s : State) (core : Nat) (g : Group) (r : Nat) : Except XFault (Option Word) × State :=
  match s.relayRead core (keyOf s.front.modnum (g.membase.toNat + 8 * r)) 8 with
  | (.error x, s) => (.error x, s)
  | (.ok b, s) => (.ok (b.map (fun b => BitVec.ofNat 64 (ofBytes b))), s)

/-- The member record that names a strand of the own module (R355). -/
def State.memberOf (s : State) (t : Strand) : Word :=
  BitVec.ofNat 64 (s.front.modnum.toNat * 2 ^ 32 + t.writer.toNat)

/-- The strand's group: its entry and its member record are read and checked at the first access after a write of CGROUP (R356); none is cause 0x206. -/
def State.myGroup (s : State) : Except XFault Group × State :=
  match s.cur.group with
  | some g => (.ok g, s)
  | none =>
    let none' : XFault := ⟨0x206, s.cur.c.cgroup, 0⟩
    match s.groupEntry s.cur.id.core s.cur.groupNum (s.cur.c.asid.extractLsb' 0 16) with
    | (.error x, s) => (.error x, s)
    | (.ok none, s) => (.error none', s)
    | (.ok (some g), s) =>
      if g.ranks ≤ s.cur.rank then (.error none', s)
      else
        match s.member s.cur.id.core g s.cur.rank with
        | (.error x, s) => (.error x, s)
        | (.ok m, s) =>
          if m = some (s.memberOf s.cur) then (.ok g, { s with cur := { s.cur with group := some g } })
          else (.error none', s)

/-- COP.OP, COP.FMT, COP.ROOT and CSTRIDE.CHUNK (R301). -/
def Strand.copOp (t : Strand) : Nat := field t.c.cop 0 4
def Strand.copFmt (t : Strand) : Nat := field t.c.cop 4 2
def Strand.copRoot (t : Strand) : Nat := field t.c.cop 32 27
def Strand.chunk (t : Strand) : Nat := field t.c.cstride 0 32

/-- Bytes that a rank contributes under an operation (R357, R360): an FP32 image for an ordered join. -/
def Group.giveLen (g : Group) (op chunk : Nat) : Nat :=
  if op = 4 then chunk else if op = 6 ∧ joinOk g.sign g.sigd then 4 * imageEntries g.sign g.sigd else g.slotlen

/-- Bytes of the result at a rank (R357). -/
def Group.resultLen (g : Group) (t : Strand) : Nat :=
  match t.copOp with
  | 3 => t.chunk
  | 4 => g.ranks * t.chunk
  | 6 => if joinOk g.sign g.sigd then (if t.copFmt = 0 then 4 else 2) * imageEntries g.sign g.sigd else g.slotlen
  | _ => g.slotlen

/-- A strand's standing in a slot of its group; a slot it has not used stands at round 0 (R302). -/
def Strand.slotOf (t : Strand) (group n : Nat) : SlotUse :=
  (t.slots.find? (fun u => u.group == group && u.slot == n)).getD ⟨group, n, 0, [], false⟩
def Strand.slotUse (t : Strand) (n : Nat) : SlotUse := t.slotOf t.groupNum n

def Strand.setSlot (t : Strand) (u : SlotUse) : Strand :=
  { t with slots := u :: t.slots.filter (fun q => !(q.group == u.group && q.slot == u.slot)) }

/-- The window address of element i (R302). -/
def State.winAddr (s : State) (a : Reg) (f : BitVec 4) (i : Nat) : Word := s.rx a + BitVec.ofNat 64 (i * fmtSize f)

/-- The common checks of a collective access over its active elements: window bits, group, slot and offset, and for a load the format (R302, R356, R357, R363, R410). DEDUCED, log entry 40. -/
def State.winCheck (s : State) (a : Reg) (f : BitVec 4) (act : List Nat) (len : Group → Nat) (load : Bool) :
    Except XFault Group × State :=
  match act.find? (fun i => selector (s.winAddr a f i) ≠ 0xEC || field (s.winAddr a f i) 40 16 ≠ 0) with
  | some i => (.error ⟨0x084, s.winAddr a f i, 0⟩, s)
  | none =>
    match s.myGroup with
    | (.error x, s) => (.error x, s)
    | (.ok g, s) =>
      let bad (i : Nat) : Bool :=
        let v := s.winAddr a f i
        decide (g.slots ≤ field v 32 8) || decide (g.slotlen < field v 0 32 + fmtSize f) || decide (len g < field v 0 32 + fmtSize f)
      match act.find? bad with
      | some i => (.error ⟨0x084, s.winAddr a f i, 0⟩, s)
      | none =>
        if load && ((s.cur.copFmt == 0 && f != 0) || (s.cur.copFmt == 1 && f != 1)) then (.error ⟨0x208, s.rx a, 0⟩, s)
        else (.ok g, s)

/-- The bytes of an element of a collective chunk with their offsets. -/
def chunkBytes (off n v : Nat) : List (Nat × Byte) := (upto off n).zip (toBytes n v)

/-- A later chunk of a rank joins its contribution: the record of the latest store is kept, and whether COP and CSTRIDE still agree (R358, R389). The width of the elements is that of the first chunk. DESIGN CHOICE, log entry 70. -/
def Contribution.join (p c : Contribution) : Contribution :=
  { p with bytes := p.bytes ++ c.bytes, clash := p.clash || c.clash || p.op != c.op || p.chunk != c.chunk, record := c.record }

/-- A contribution joins its round (R357, R358). -/
def addPart (rs : List Round) (group slot : Nat) (c : Contribution) : List Round :=
  let same (r : Round) : Bool := r.group == group && r.slot == slot
  let join (r : Round) : Round :=
    if r.parts.any (fun p => p.rank == c.rank) then
      { r with parts := updFirst (fun p => p.rank == c.rank) (fun p => p.join c) r.parts }
    else { r with parts := r.parts ++ [c] }
  if rs.any same then updFirst same join rs else rs ++ [⟨group, slot, [c]⟩]

/-- The operand record of a chunk of the collective window (R389). -/
def State.chunkRecord (s : State) (word : InsnWord) (opa : Word) (slot : Nat) : Record where
  cause := 0
  tval := 0
  pc := s.cur.pc
  word := word
  unit := 3
  chan := BitVec.ofNat 8 slot
  seq := BitVec.ofNat 16 s.relaySeq
  opa := opa
  opb := 0
  opc := 0
  opd := 0
  vl := BitVec.ofNat 16 s.cur.vl
  vtype := s.cur.c.vtype.extractLsb' 0 8
  tshape := 0
  extra := BitVec.ofNat 64 (s.cur.groupNum * 2 ^ 32 + slot)
  pos := s.cur.pos
  at_ := 0
  ring := 16
  given := false

/-- A store to the collective window: the active elements are one chunk, contributed whole or not at all, and no flag is set (R225, R357, R358, R360); without an active element nothing is accessed (R223). -/
def State.collectiveStore (s : State) (w : InsnWord) (v a : Reg) (f : BitVec 4) (rd : Reg → Nat → Nat) : Out :=
  let act := s.cur.active
  let s0 := s.cur
  match act with
  | [] => .next ({ s with cur := s.cur.vdone }).adv
  | i0 :: _ =>
    match s.winCheck a f act (fun g => g.slotlen) false with
    | (.error x, s) => s.trapX x
    | (.ok g, s) =>
      let slot := field (s.winAddr a f i0) 32 8
      let u0 := s.cur.slotUse slot
      let u := if u0.staged then { u0 with given := [], staged := false } else u0
      let n := fmtSize f
      let off (i : Nat) : Nat := field (s.winAddr a f i) 0 32
      let code (i : Nat) : Nat := (storeConvert f true s0.ew (rmOf s0.c.fcsr) (rd v i)).1
      let beyond (i : Nat) : Bool :=
        decide (g.giveLen s.cur.copOp s.cur.chunk < off i + n) || decide (field (s.winAddr a f i) 32 8 ≠ slot) ||
        (upto (off i) n).any (fun o => u.given.contains o)
      if (s.cur.copOp = 5 ∧ s.cur.rank ≠ s.cur.copRoot) then s.trap 0x207 (s.winAddr a f i0)
      else
        match act.find? beyond with
        | some i => s.trap 0x207 (s.winAddr a f i)
        | none =>
          let bytes := act.flatMap (fun i => chunkBytes (off i) n (code i))
          let s := { s.bump with relaySeq := s.relaySeq + 1 }
          let c : Contribution := ⟨s.cur.id.sid, s.cur.rank, bytes, s.cur.c.cop, s.cur.c.cstride, f == 1, false, 0, s.chunkRecord w (s.rx a) slot⟩
          let t := s.cur.setSlot { u with given := u.given ++ bytes.map (·.1) }
          .next ({ s with cur := t.vdone, rounds := addPart s.rounds s.cur.groupNum slot c }).adv

/-- Result elements read from the staging area at the home (R357). -/
def State.readStaged (s : State) (base : Word) (n : Nat) : Except XFault Nat × State :=
  match s.translate s.me base .read with
  | (.error x, s) => (.error x, s)
  | (.ok key, s) =>
    match s.readHome s.cur.id.core s.cur.writer (key / 64) with
    | (.error c, s) => (.error ⟨c, s.readTval c base key, base⟩, s)
    | (.ok d, s) => (.ok (d.toNat / 2 ^ (8 * (key % 64)) % 2 ^ (8 * n)), s)

/-- Every element of a result read, or the first fault. -/
def State.readResults (s : State) (addr : Nat → Word) (n : Nat) : List Nat → Except XFault (List (Nat × Nat)) × State
  | [] => (.ok [], s)
  | i :: r =>
    match s.readStaged (addr i) n with
    | (.error x, s) => (.error x, s)
    | (.ok v, s) =>
      match s.readResults addr n r with
      | (.error x, s) => (.error x, s)
      | (.ok l, s) => (.ok ((i, v) :: l), s)

/-- Records of a failed round of one of some slots of a group (R358, R389, R463); a parked arrival's is none (R303, R384). -/
def Record.ofSlots (group : Nat) (slots : List Nat) (r : Record) : Bool :=
  r.unit == 3 && decide (field r.extra 32 32 = group) && slots.contains r.chan.toNat && (r.cause == 0x208 || r.cause == 0x300)

/-- A load of the collective window: all elements or none and no flag (R225, R302, R357, R360); first the record of a failed round of its slots (R358); without an active element nothing is accessed (R223). -/
def State.collectiveLoad (s : State) (d a : Reg) (f : BitVec 4) : Out :=
  let act := s.cur.active
  let fcsr := s.cur.c.fcsr
  let put (s : State) (l : List (Nat × Nat)) : Out :=
    let s := s.writeBack d l 0
    let s := s.setC { s.cur.c with fcsr := fcsr }
    .next ({ s with cur := s.cur.vdone }).adv
  if act.isEmpty then put s []
  else s.deliverPoint (Record.ofSlots s.cur.groupNum (act.map (fun i => field (s.winAddr a f i) 32 8))) (fun s =>
    match s.winCheck a f act (fun g => g.resultLen s.cur) true with
    | (.error x, s) => s.trapX x
    | (.ok g, s) =>
      let bad := act.find? (fun i => !(s.cur.slotUse (field (s.winAddr a f i) 32 8)).staged)
      match bad with
      | some i => s.trap 0x205 (s.winAddr a f i)
      | none =>
        let addr (i : Nat) : Word :=
          g.stgbase + BitVec.ofNat 64 (field (s.winAddr a f i) 32 8 * g.slotlen + field (s.winAddr a f i) 0 32)
        match s.readResults addr (fmtSize f) act with
        | (.error x, s) => s.trapX x
        | (.ok l, s) => put s (l.map (fun e => (e.1, (loadConvert f true s.cur.ew e.2).1))))

end Sys2Proof.Machine
end

