-- ==== Sys2Proof/Machine/Save.lean ====
section
/-! DEFINITION. Saving a strand into its context save area (R393 to R398), pre-emption points (R286, R339, R401), and draining output streams (R232, R234, R398). -/

namespace Sys2Proof.Machine

/-- Every affine output placed; every affine input forgets what it read ahead (R398). -/
def State.settleStreams (s : State) : State :=
  let s := s.placeStreams
  { s with cur := { s.cur with streams := s.cur.streams.map (fun o => o.map (fun b => { b with ahead := [] })) } }

/-- The LANES code of a grant (R47). -/
def lanesCode (g : Nat) : Nat := bitLen (g / 4) - 1

/-- KIND of the header (R394). -/
def SaveKind.code : SaveKind → Nat
  | .setvl => 0
  | .wait => 1
  | .yield => 2
  | .forced => 3

/-- Kinds 2 and 3 save the vector registers (R396). -/
def SaveKind.vectors : SaveKind → Bool
  | .yield => true
  | .forced => true
  | _ => false

/-- Bytes that a save writes (R396). -/
def Strand.saveBytes (t : Strand) (k : SaveKind) : Nat :=
  3072 + (if t.link.isEmpty then 0 else 8192) + (if k.vectors then 32 * 8 * t.grant else 0)

/-- The header of R394 before SAVED and STATE = 1 are written. -/
def Strand.header (t : Strand) (k : SaveKind) (resume : Word) (progress state : Nat) (saved : Nat) : List Byte :=
  toBytes 4 progress ++ toBytes 4 (t.saveBytes k) ++ toBytes 1 k.code ++ toBytes 1 (lanesCode t.grant) ++
  toBytes 1 t.id.slot ++ toBytes 1 state ++ toBytes 2 0 ++ toBytes 2 0 ++ toBytes 8 resume.toNat ++ toBytes 8 saved ++
  toBytes 32 0

/-- x0 to x31 as bytes (R393). -/
def regsBytes (x : Vector Word 32) : List Byte :=
  (upto 0 32).flatMap (fun i => if i = 0 then toBytes 8 0 else toBytes 8 (x.getD i 0).toNat)

/-- A deadline as a word: its clock in bit 63, its tick below (R281, R393). -/
def Deadline.word (d : Deadline) : Word := BitVec.ofNat 64 ((if d.onRun then 2 ^ 63 else 0) + d.tick)
def deadlineOf (w : Word) : Deadline := ⟨w.getLsbD 63, field w 0 63⟩

/-- Where a saved wait is registered: its object, or all ones (R286, R393). -/
def WaitRec.home (w : WaitRec) : Word :=
  match w.what with
  | .phase o _ => BitVec.ofNat 64 o
  | .arrival o _ => BitVec.ofNat 64 o
  | .room o _ _ => BitVec.ofNat 64 o
  | .entry o _ => BitVec.ofNat 64 o
  | .batch o _ _ => BitVec.ofNat 64 o
  | .append o _ _ => BitVec.ofNat 64 o
  | _ => BitVec.allOnes 64

/-- The doublewords of region 0x180 in the order in which R393 lists them: the program counter, the CSRs of R40, TLG0 to TLG7, SSTATUS, PTROOT, ASID, in a handler TCAUSE to EPC, the hold, the wait. DESIGN CHOICE, log entry 20. -/
def Strand.csrWords (t : Strand) (w : Option WaitRec) : List Word :=
  let c := t.c
  let h (v : Word) : Word := if t.nest then v else 0
  [t.pc, c.vl, c.vtype, c.vm, c.vstr, c.vstart, c.fcsr, c.tshape, c.ten, c.tpitch, c.tprec, c.sigcfg, c.cgroup, c.cop,
   c.cstride, c.widbase, c.widcnt, c.launchid, c.tocnt, c.dclkr.setWidth 64] ++ c.tlg.toList ++
  [setField c.sstatus 4 6 t.pend, c.ptroot, c.asid, h c.tcause, h c.tpc, h c.tval, h c.trec, h c.epc] ++
  (match t.hold with | some q => [1, q.widbase, q.deadline.word] | none => [0, 0, 0]) ++
  (match w with | some q => [(1#64 <<< 63) ||| q.word.setWidth 64, q.deadline.word, q.home] | none => [0, 0, 0]) ++
  List.replicate 6 0

/-- The position of a saved doubleword of region 0x180. -/
def csrSlot (i : Nat) : Nat := 0x180 + 8 * i

/-- A doubleword of region 0x180 in a strand's save area. -/
def State.saveCsr (s : State) (t : Strand) (i : Nat) (v : Word) : State := s.saveWrite t (csrSlot i) (toBytes 8 v.toNat)

/-- The 64 bytes of a stream binding: the descriptor and the SPOS count; zero when there is none (R393). DESIGN CHOICE, log entry 20. -/
def streamBytes (b : Option Stream) : List Byte :=
  match b with
  | some b => b.desc.toList.flatMap (fun w => toBytes 8 w.toNat) ++ toBytes 8 b.count ++ toBytes 24 0
  | none => toBytes 64 0

/-- The 16 bytes of a span: its log address, then valid in bit 63, its level + 1 in bits [10:8], log2 of its size (R237, R393). DESIGN CHOICE, log entry 20. -/
def Span.saved (own : BitVec 18) (sp : Span) : List Byte :=
  let lvl := match sp.level with | some l => l + 1 | none => 0
  toBytes 8 (logAddr own sp.base) ++ toBytes 8 (2 ^ 63 + lvl * 256 + sp.size.log2)

/-- A span from its 16 bytes; all its lines count as written. DESIGN CHOICE, log entry 20. -/
def spanOf (own : BitVec 18) (addr info : Nat) : Option Span :=
  if info < 2 ^ 63 then none
  else
    let lvl := info / 256 % 8
    let level := if lvl = 0 then none else some (lvl - 1)
    let base := if isSpad addr then spadBit + keyOf own addr else keyOf own addr
    some ⟨base, 2 ^ (info % 64), level, [⟨base / 64, (base + 2 ^ (info % 64)) / 64, level⟩]⟩

/-- The 16 bytes of a valid entry of the link record (R429). DESIGN CHOICE, log entry 87. -/
def LinkEntry.bytes (own : BitVec 18) (e : LinkEntry) : List Byte :=
  let line := globalOf own e.line / 64
  toBytes 16 (2 ^ 127 + line * 2 ^ 72 + e.gen.toNat * 2 ^ 63 + e.epoch.toNat * 2 ^ 48 + e.tick.toNat)

/-- The regions that a save writes, in ascending order: the bytes that each counts, and what is written where. The entry frame and the record ring stand in the area throughout (R393, R395, R396). -/
def Strand.regions (own : BitVec 18) (t : Strand) (k : SaveKind) (w : Option WaitRec) : List (Nat × List (Nat × List Byte)) :=
  [(64, [(0, t.header k t.pc 0 0 0)]), (64, []), (256, [(0x80, regsBytes t.x)]),
   (384, [(0x180, (t.csrWords w).flatMap (fun v => toBytes 8 v.toNat))]),
   (256, [(0x300, t.streams.toList.flatMap streamBytes)]),
   (1024, [(0x400, (t.wlog.take 64).flatMap (Span.saved own) ++ toBytes (16 * (64 - t.wlog.length)) 0)]),
   (1024, [])] ++
  (if t.link.isEmpty then []
   else [(8192, [(0x5000, (upto 0 512).flatMap (fun i =>
     match t.link.find? (fun e => e.elem == i) with | some e => e.bytes own | none => toBytes 16 0))])]) ++
  (if k.vectors then
     [(32 * 8 * t.grant, (upto 0 32).map (fun n => (0x8000 + 1024 * n, toBytes (8 * t.grant) (t.v.getD n 0).toNat)))]
   else [])

/-- Up to `n` regions beyond `p` bytes written in turn, PROGRESS raised after each; the list begins at byte `at_` of the sequence (R395 step 4). -/
def State.saveFrom (s : State) (p : Nat) : List (Nat × List (Nat × List Byte)) → (at_ n : Nat) → State
  | [], _, _ => s
  | r :: rs, at_, n =>
    if at_ + r.1 ≤ p then s.saveFrom p rs (at_ + r.1) n
    else
      match n with
      | 0 => s
      | n + 1 =>
        let s := r.2.foldl (fun s e => s.saveWrite s.cur e.1 e.2) s
        let s := s.saveWrite s.cur 0 (toBytes 4 (at_ + r.1))
        ({ s with cur := { s.cur with progress := at_ + r.1 } }).saveFrom p rs (at_ + r.1) n

/-- Step 3 of R395: the output streams placed, the write log turned at C with no deadline: another strand of the core then reads the new data, a strand of another core may miss it with 0x091 (R95, R400). -/
def State.handOver (s : State) : State :=
  let s := s.settleStreams
  let (n, _, s) := s.turnSpans 1 s.cur.wlog none
  { s with cur := { s.cur with wlog := raiseSpans 1 s.cur.wlog n } }

/-- The save of the issuing strand goes on from PROGRESS by up to `n` regions (R395 steps 3 and 4); a strand halted by DBGCTL during step 4 loses none of what is written (R400). -/
def State.saveOn (s : State) (n : Nat) : State :=
  match s.cur.run with
  | .saving k w =>
    let p := s.cur.progress
    let s := if p = 0 then s.handOver else s
    s.saveFrom p (s.cur.regions s.front.modnum k w) 0 n
  | _ => s

/-- Vector registers that a save of kind 0 or 1 does not keep read zero afterwards; bound stream registers keep their bindings (R200, R396). -/
def Strand.dropVectors (t : Strand) (k : SaveKind) : Strand := if k.vectors then t else { t with v := Vector.replicate 32 0 }

/-- A save area lies within one vault of the module (R393). -/
def Strand.areaOk (t : Strand) : Bool :=
  let k := physKey t.id.save
  decide (keyDie k < 24) && decide (k / 2 ^ 33 = (k + 65535) / 2 ^ 33)

/-- A save begins: the strand stops (R395 step 1); it is away once SAVE_COMPLETE has written the regions. -/
def State.beginSave (s : State) (k : SaveKind) (w : Option WaitRec) (resume : Word) : State :=
  if !s.cur.areaOk then s.lose s.cur.id.sid 0x084
  else
    let t := { s.cur with pc := resume, request := none, sent := false, stall := none, due := none, blockedOn := none, haltTurned := 0, saveAt := s.now, again := false, search := none, progress := 0 }
    { s with cur := { (t.dropVectors k) with run := .saving k w } }

/-- A request stands and may be taken: not in a handler (R339, R402). -/
def Strand.mustYield (t : Strand) : Bool := t.request.isSome && !t.nest

/-- A pre-emption point at issue: a standing request saves the strand with the instruction to execute again, a SETVL by kind 0 without the vector registers (R286, R396, R400, R401). DEDUCED, log entry 30. -/
def State.preemptPoint (s : State) (kind : SaveKind) (k : State → Out) : Out :=
  if s.cur.mustYield then .next (s.beginSave kind none s.cur.pc) else k s

/-- The waits that are pre-emption points: those of the chapter on waits, so not FENCE and not VAPND (R286, R339). DEDUCED, log entry 19. -/
def WaitFor.isPoint : WaitFor → Bool
  | .fence _ => false
  | .append _ _ _ => false
  | _ => true

/-- A request that stands at a strand in a wait saves it with the wait pending (R286, R339). DEDUCED, log entry 19. -/
def State.yieldInWait (s : State) : State :=
  if !s.cur.mustYield then s
  else
    match s.cur.run with
    | .waiting w => if w.what.isPoint then s.beginSave .wait (some w) s.cur.pc else s
    | _ => s

/-- The start of a waiting instruction: the delivery of records that satisfy `p`, then a standing request (R401 step 4). -/
def State.waitPoint (s : State) (p : Record → Bool) (k : State → Out) : Out :=
  s.deliverPoint p (fun s => s.preemptPoint .wait k)

/-- The strand waits (R286). -/
def State.startWait (s : State) (word : InsnWord) (d : Reg) (dl : Deadline) (what : WaitFor) (refused : Option Nat) : State :=
  { s with cur := { s.cur with run := .waiting ⟨word, d, dl, what, refused, false⟩ } }

/-- A debug step has ended: the strand is saved again as kind 3 and its STEP bit clears (R445). -/
def State.stepEnd (s : State) : State :=
  let s := (s.stepOver s.cur.id.core s.cur.id.slot).beginSave .forced none s.cur.pc
  { s with cur := { s.cur with dbg := s.cur.live, stepping := false } }

/-- What follows the end of an instruction that waited: the end of a debug step, when one runs (R445). DEDUCED, log entry 35. -/
def State.stepDone (s : State) : State := if s.cur.stepping then s.stepEnd else s

end Sys2Proof.Machine
end

