-- ==== Sys2Proof/Machine/VMem.lean ====
section
/-! DEFINITION. Vector loads and stores: unit, strided, indexed and segmented (R217 to R225), block scaling (R120 to R122, R219), the scratchpad range (R81, R420) and the stop at a faulting element (R221, R390, R391). -/

namespace Sys2Proof.Machine

/-- The order in which elements are attempted: ascending, or the lane groups that the schedule names first, each in ascending order (R45). DESIGN CHOICE, log entry 3. -/
def State.attempt (s : State) (act : List Nat) : List Nat :=
  match s.sched.slip with
  | [] => act
  | gs =>
    let g := s.cur.grant
    let first := gs.flatMap (fun h => act.filter (fun i => laneGroup g i == h))
    first ++ act.filter (fun i => !gs.contains (laneGroup g i))

/-- The order of an access whose elements reach their homes in element order where two name one line (R222, R245): lane groups that name lines in common are not interleaved. `line` gives the line of an address. DESIGN CHOICE, log entry 3. -/
def State.storeOrder (s : State) (line : Word → Option Nat) (addrs : Nat → List Word) (act : List Nat) : List Nat :=
  let g := s.cur.grant
  let named := act.map (fun i => (laneGroup g i, (addrs i).filterMap line))
  let mixed := !s.sched.slip.isEmpty &&
    named.any (fun p => named.any (fun q => p.1 != q.1 && p.2.any (fun l => q.2.contains l)))
  if mixed then act else s.attempt act

/-- A schedule of lane groups serves one instruction. DESIGN CHOICE, log entry 3. -/
def State.slipDone (s : State) : State := { s with sched := { s.sched with slip := [] } }

/-- The checks of R70 and R71 on an address, which precede its alignment in a vector access (R221 step 4). -/
def selectorFault (sup : Bool) (va : Word) : Option XFault :=
  match selector va with
  | 0x00 => none
  | 0xE0 => none
  | 0xE4 => none
  | 0xE8 => if field va 33 23 ≠ 0 then some ⟨0x084, va, va⟩ else none
  | 0xF0 =>
    if !sup then some ⟨0x081, va, va⟩
    else if field va 42 14 ≠ 0 ∨ 24 ≤ field va 37 5 then some ⟨0x084, va, va⟩ else none
  | _ => some ⟨0x084, va, va⟩

/-- The key of one memory element (R221 step 4). -/
def State.elemKey (s : State) (va : Word) (n : Nat) (need : Need) : Except XFault Nat × State :=
  match selectorFault s.cur.sup va with
  | some x => (.error x, s)
  | none => if va.toNat % n ≠ 0 then (.error ⟨0x086, va, va⟩, s) else s.resolveAddr s.me va need

/-- The line of an element that can be named. -/
def State.elemLine (s : State) (n : Nat) (need : Need) (va : Word) : Option Nat :=
  match (s.elemKey va n need).1 with
  | .ok key => some (key / 64)
  | .error _ => none

/-- One memory element read. -/
def State.elemLoad (s : State) (va : Word) (n : Nat) : Except XFault Nat × State :=
  match s.elemKey va n .read with
  | (.error x, s) => (.error x, s)
  | (.ok key, s) => s.loadKey s.me va key n

/-- The fields of one element read, all of them or a fault (R224). -/
def State.elemLoads (s : State) (n : Nat) : List Word → Except XFault (List Nat) × State
  | [] => (.ok [], s)
  | va :: r =>
    match s.elemLoad va n with
    | (.error x, s) => (.error x, s)
    | (.ok v, s) =>
      match s.elemLoads n r with
      | (.error x, s) => (.error x, s)
      | (.ok l, s) => (.ok (v :: l), s)

/-- Elements attempted in order up to the first fault: what was read. -/
def State.loadLoop (s : State) (n : Nat) (addrs : Nat → List Word) : List Nat → List (Nat × List Nat) × Option XFault × State
  | [] => ([], none, s)
  | i :: r =>
    match s.elemLoads n (addrs i) with
    | (.error x, s) => ([], some x, s)
    | (.ok l, s) =>
      let q := s.loadLoop n addrs r
      ((i, l) :: q.1, q.2.1, q.2.2)

/-- The keys of one element's fields, all of them or a fault. -/
def State.elemKeys (s : State) (n : Nat) : List Word → Except XFault (List Nat) × State
  | [] => (.ok [], s)
  | va :: r =>
    match s.elemKey va n .write with
    | (.error x, s) => (.error x, s)
    | (.ok k, s) =>
      match s.elemKeys n r with
      | (.error x, s) => (.error x, s)
      | (.ok l, s) => (.ok (k :: l), s)

/-- Elements stored in order up to the first fault: which were, and their flags (R222). -/
def State.storeLoop (s : State) (w : InsnWord) (n : Nat) (addrs : Nat → List Word) (data : Nat → List Nat × FFlags) :
    List Nat → List Nat × FFlags × Option XFault × State
  | [] => ([], 0, none, s)
  | i :: r =>
    match s.elemKeys n (addrs i) with
    | (.error x, s) => ([], 0, some x, s)
    | (.ok ks, s) =>
      let d := data i
      let s := (ks.zip d.1).foldl (fun s e => s.store e.1 n e.2 w) s
      let q := s.storeLoop w n addrs data r
      (i :: q.1, d.2 ||| q.2.1, q.2.2.1, q.2.2.2)

/-- A vector access stops at a faulting element (R221, R390): the counters record `left`, the active elements that have not taken effect, each rounded down to a multiple of `unit`. -/
def State.stopElem (s : State) (x : XFault) (left : List Nat) (unit : Nat) : State :=
  let t := s.cur
  let next (h : Nat) : Nat :=
    let n := nextOf t.grant t.vl left h
    if n = t.vl then n else n / unit * unit
  let s := s.setC { t.c with tlg := tlgOf t.grant next, vstart := 0 }
  s.trapEntry x.cause 0 true s.cur.pc x.tval 0 s.cur.pc

/-- The scratchpad range check at issue (R81, R420): the elements left after a trim, or the fault of element 0. -/
def State.trimSpad (s : State) (addrs : Nat → List Word) (act : List Nat) : Except XFault (List Nat) × State :=
  match act.find? (fun i => (addrs i).any spadOutside) with
  | none => (.ok act, s)
  | some 0 => (.error ⟨0x0A0, ((addrs 0).find? spadOutside).getD 0, 0⟩, s)
  | some k => (.ok (act.filter (fun i => decide (i < k))), s.setC { s.cur.c with vl := BitVec.ofNat 64 k })

/-- The end of a memory instruction over elements. -/
def State.vmemEnd (s : State) (left : List Nat) : Out :=
  if left.isEmpty then .next ({ s with cur := s.cur.vdone }).adv else s.stopHere left 1

/-- A load of elements into registers: field f of element i at the f-th address of `addrs i`, into register `regs[f]` (R223, R224). -/
def State.vecLoad (s : State) (f : BitVec 4) (isF : Bool) (regs : List Reg) (addrs : Nat → List Word) (pick : Nat → Nat → Nat) : Out :=
  match s.trimSpad addrs s.cur.active with
  | (.error x, s) => s.trapX x
  | (.ok act, s) =>
    let now := (s.portion (s.attempt act)).1
    let (done, x, s) := s.slipDone.loadLoop (fmtSize f) addrs now
    let left := act.filter (fun i => !(done.any (fun e => e.1 == i)))
    let conv := done.map (fun e => (e.1, e.2.map (fun c => loadConvert f isF s.cur.ew (pick e.1 c))))
    let s := (regs.zip (upto 0 regs.length)).foldl (fun s r =>
      let col := conv.filterMap (fun e => (e.2[r.2]?).map (fun v => (e.1, v)))
      s.writePart r.1 (col.map (fun e => (e.1, e.2.1))) (col.foldl (fun (fl : FFlags) e => fl ||| e.2.2) 0)) s
    let s := if left.isEmpty then regs.foldl State.writeGroup s else s
    match x with
    | some x => .next (s.stopElem x left 1)
    | none => s.vmemEnd left

/-- A store of elements from registers; an element without data, the odd one of a nibble pair, is checked and written with its partner, so a stop part-way leaves no pair half done (R220, R221, R391). -/
def State.vecStore (s : State) (w : InsnWord) (n : Nat) (addrs : Nat → List Word) (data : Nat → List Nat × FFlags) : Out :=
  match s.trimSpad addrs s.cur.active with
  | (.error x, s) => s.trapX x
  | (.ok act, s) =>
    let (first, rest) := s.portion (s.storeOrder (s.elemLine n .write) addrs act)
    let now := first ++ rest.filter (fun i => (data i).1.isEmpty && first.contains (i - 1))
    let (done, fl, x, s) := s.slipDone.bump.storeLoop w n addrs data now
    let s := s.setC { s.cur.c with fcsr := orFlags s.cur.c.fcsr fl }
    let left := act.filter (fun i => !done.contains i)
    match x with
    | some x => .next (s.stopElem x left 1)
    | none => s.vmemEnd left

/-! ### Block scaling (R120 to R122, R219) -/

/-- The elements of block j below VL. -/
def blockElems (bs vl j : Nat) : List Nat := upto (j * bs) (Nat.min bs (vl - j * bs))

/-- The value of a code under a scale (R122): the register element, and the flags of its conversion (R115, R119). DEDUCED, log entry 42. -/
def scaledLoadF (f : BitVec 4) (ew scale c : Nat) : Nat × FFlags :=
  let r := regFmt ew
  if scale = 255 then (r.nan, 0)
  else
    match fmtValue f c with
    | .fin n a e => r.round .rne n a (e + scale - 127) false
    | x => r.convert .rne x

/-- The register element of a code under a scale (R122). -/
def scaledLoad (f : BitVec 4) (ew scale c : Nat) : Nat := (scaledLoadF f ew scale c).1

/-- F of R121, the largest finite magnitude of a scaled format. -/
def fmtMax (f : BitVec 4) : Nat :=
  match f.toNat with
  | 3 => 448
  | 4 => 57344
  | 5 => 6
  | 6 => 127
  | 7 => 255
  | 8 => 7
  | _ => 128

/-- The largest magnitude of a list of finite values, as a number and an exponent. -/
def maxMag : List Fp → Nat × Int
  | [] => (0, 0)
  | .fin _ a e :: r =>
    let m := maxMag r
    if (Fp.fin false a e).cmp (.fin false m.1 m.2) > 0 then (a, e) else m
  | _ :: r => maxMag r

/-- The least s with num · 2^exp ≤ F · 2^s, from `lo` up (R121: ⌈log2(amax / F)⌉, computed exactly). -/
def scaleExp (num : Nat) (exp : Int) (F : Nat) : (fuel : Nat) → Int → Int
  | 0, s => s
  | n + 1, s => if (Fp.fin false num exp).cmp (.fin false F s) ≤ 0 then s else scaleExp num exp F n (s + 1)

/-- The scale of a block and the codes of its active values (R121). DEDUCED, log entry 42. -/
def blockStore (f : BitVec 4) (vals : List Fp) : Nat × List Nat × FFlags :=
  if vals.any (fun v => match v with | .fin _ _ _ => false | _ => true) then (255, vals.map (fun _ => 0), fNV)
  else
    let m := maxMag vals
    if m.1 = 0 then (0x7F, vals.map (fun _ => 0), 0)
    else
      let s := scaleExp m.1 m.2 (fmtMax f) 255 (-127)
      let cs := vals.map (fun v =>
        match v with
        | .fin n a e => storeValue f .rne (.fin n a (e - s))
        | v => storeValue f .rne v)
      ((s + 127).toNat, cs.map (·.1), cs.foldl (fun (fl : FFlags) c => fl ||| c.2) 0)

/-- The first block of a block-scaled access (R219): of VSTART, or on a resumption of the least counter. -/
def Strand.firstBlock (t : Strand) (bs : Nat) : Nat :=
  if t.resuming then
    ((upto 0 ((t.grant + 15) / 16)).map (fun h => field (t.c.tlg.getD h 0) 0 10)).foldl Nat.min t.vl / bs
  else t.vstart / bs

/-- The active elements of a block: masked elements, and on a resumption those from their counter on (R219, R391, R392). -/
def Strand.blockActive (t : Strand) (bs j : Nat) : List Nat :=
  (blockElems bs t.vl j).filter (fun i => t.maskBit i &&
    (!t.resuming || decide (field (t.c.tlg.getD (laneGroup t.grant i) 0) 0 10 / bs * bs ≤ i)))

/-- What stops in a block-scaled access: every element from the first of block `j` on is redone. -/
def State.stopBlock (s : State) (x : XFault) (bs j : Nat) : State :=
  s.stopElem x ((upto (j * bs) (s.cur.vl - j * bs))) bs

/-- Blocks loaded one after another, each whole; `addr` gives the address of an element, `nib` its nibble. -/
def State.blockLoads (s : State) (f : BitVec 4) (d sc a : Reg) (bs nb : Nat) (addr : Nat → Word) (pick : Nat → Nat → Nat) :
    List Nat → State × Bool
  | [] => (s, true)
  | j :: r =>
    let base := s.rx a
    match s.elemLoad (base - BitVec.ofNat 64 nb + BitVec.ofNat 64 j) 1 with
    | (.error x, s) => (s.stopBlock x bs j, false)
    | (.ok scale, s) =>
      let act := s.cur.blockActive bs j
      match s.loadLoop (fmtSize f) (fun i => [addr i]) act with
      | (_, some x, s) => (s.stopBlock x bs j, false)
      | (done, none, s) =>
        let cs := done.map (fun e => (e.1, scaledLoadF f s.cur.ew scale (pick e.1 (e.2.headD 0))))
        let s := s.writePart d (cs.map (fun c => (c.1, c.2.1))) (cs.foldl (fun (fl : FFlags) c => fl ||| c.2.2) 0)
        (s.writePart sc [(j, scale)] 0).blockLoads f d sc a bs nb addr pick r

/-- The bytes of a block's codes: each code at its address, two nibbles to a byte (R220). -/
def State.blockPuts (s : State) (w : InsnWord) (f : BitVec 4) (addr : Nat → Word) (act : List Nat) (code : Nat → Nat) :
    List Nat → Except XFault Unit × State
  | [] => (.ok (), s)
  | i :: r =>
    match s.elemKey (addr i) (fmtSize f) .write with
    | (.error x, s) => (.error x, s)
    | (.ok k, s) =>
      if fmtBits f = 4 ∧ i % 2 = 1 then s.blockPuts w f addr act code r
      else
        let v := if fmtBits f = 4 ∧ act.contains (i + 1) then code i + 16 * code (i + 1) else code i
        (s.store k (fmtSize f) v w).blockPuts w f addr act code r

/-- Blocks stored one after another, each whole (R121, R219): each scale is computed and written, and no scale element is read, though R120 speaks of reading them. DESIGN CHOICE, log entry 77. -/
def State.blockStores (s : State) (w : InsnWord) (f : BitVec 4) (v sc a : Reg) (bs nb : Nat) (addr : Nat → Word)
    (rd : Reg → Nat → Nat) : List Nat → State × Bool
  | [] => (s, true)
  | j :: r =>
    let act := s.cur.blockActive bs j
    let q := blockStore f (act.map (fun i => (regFmt s.cur.ew).decode (rd v i)))
    let pairs := act.zip q.2.1
    let code (i : Nat) : Nat := ((pairs.find? (fun p => p.1 == i)).map (·.2)).getD 0
    let s0 := s
    match s.elemKey (s.rx a - BitVec.ofNat 64 nb + BitVec.ofNat 64 j) 1 .write with
    | (.error x, s) => (s.stopBlock x bs j, false)
    | (.ok k, s) =>
      let s := s.store k 1 q.1 w
      match s.blockPuts w f addr act code act with
      | (.error x, _) => (s0.stopBlock x bs j, false)
      | (.ok (), s) => (s.writePart sc [(j, q.1)] q.2.2).blockStores w f v sc a bs nb addr rd r

/-- The end of a block-scaled access over blocks of `bs` elements, `left` of them not done; a trap has already been entered when `ok` is false. -/
def blockEnd (r : State × Bool) (bs : Nat) (dsts : List Reg) (left : List Nat) : Out :=
  if !r.2 then .next r.1
  else if left.isEmpty then
    let s := dsts.foldl State.writeGroup r.1
    .next ({ s with cur := s.cur.vdone }).adv
  else r.1.stopHere left bs

/-- The blocks that are performed now, of those from `j0` below `nb` (R219, R391, R445), and the elements of the blocks that are left. -/
def State.blockPortion (s : State) (bs j0 nb : Nat) : List Nat × List Nat :=
  let k := match s.limit with | some m => (m + bs - 1) / bs | none => nb - j0
  let k := Nat.min k (nb - j0)
  (upto j0 k, upto ((j0 + k) * bs) (s.cur.vl - (j0 + k) * bs))

/-! ### The address modes (R217) -/

/-- Byte address of element i in unit mode; a nibble pair shares a byte (R220). -/
def unitAddr (base : Word) (f : BitVec 4) (i : Nat) : Word :=
  if fmtBits f = 4 then base + BitVec.ofNat 64 (i / 2) else base + BitVec.ofNat 64 (i * fmtSize f)

/-- Byte address of element i in strided mode. -/
def strideAddr (base stride : Word) (i : Nat) : Word := base + BitVec.ofNat 64 i * stride

/-- The nibble of an element in a byte, or the whole code (R220). -/
def pickNibble (f : BitVec 4) (i c : Nat) : Nat := if fmtBits f = 4 then (if i % 2 = 0 then c % 16 else c / 16) else c

/-- A collective access (R225): CM = 1, unit mode, F32 or B16, a base in selector 0xEC. -/
def State.isCollective (s : State) (a : Reg) (f : BitVec 4) : Bool :=
  s.cur.c.vtype.getLsbD 7 && decide (selector (s.rx a) = 0xEC) && (f == 0 || f == 1)

/-- The checks of a unit or strided access before any element: the scale field, the format, the scale register, the alignment of base and stride (R158, R218, R219, R221). `k` receives whether the register element is floating. -/
def State.vaccess (s : State) (w : InsnWord) (v a b : Reg) (f : BitVec 4) (strided : Bool) (k : Bool → Out) : Out :=
  let scaled := blockScaled s.cur.c.vtype f
  let n := fmtSize f
  if !scaled && decide (b ≠ 0) then s.trapWord 0x001 w
  else
    match fmtKind f s.cur.ew scaled with
    | none => s.trap 0x101 s.cur.c.vtype
    | some isF =>
      if scaled && decide (b = v) then s.trapWord 0x003 w
      else if (s.rx a).toNat % n ≠ 0 then s.trap 0x086 (s.rx a)
      else if strided && decide (s.cur.c.vstr.toNat % n ≠ 0) then s.trap 0x086 s.cur.c.vstr
      else k isF

/-- A unit or strided load (R223). A block-scaled one reads every scale byte below the trimmed VL, whichever elements are active. DESIGN CHOICE, log entry 77. -/
def State.vload (s : State) (w : InsnWord) (v a b : Reg) (f : BitVec 4) (strided : Bool) : Out :=
  if !strided && s.isCollective a f then
    (if b ≠ 0 then s.trapWord 0x001 w
     else if (fmtKind f s.cur.ew false).isNone then s.trap 0x101 s.cur.c.vtype
     else if (s.rx a).toNat % fmtSize f ≠ 0 then s.trap 0x086 (s.rx a)
     else s.withSources [] (some v) (fun s _ => s.collectiveLoad v a f))
  else
    s.vaccess w v a b f strided (fun isF =>
      s.withOperands Strand.active [] (if blockScaled s.cur.c.vtype f then [v, b] else [v]) (fun s _ =>
        let addr (i : Nat) : Word := if strided then strideAddr (s.rx a) s.cur.c.vstr i else unitAddr (s.rx a) f i
        if blockScaled s.cur.c.vtype f then
          let bs := blockSize s.cur.c.vtype
          let j0 := s.cur.firstBlock bs
          let n0 := (s.cur.vl + bs - 1) / bs
          match s.trimSpad (fun i => [addr i]) ((upto j0 (n0 - j0)).flatMap (s.cur.blockActive bs)) with
          | (.error x, s) => s.trapX x
          | (.ok _, s) =>
            let nb := (s.cur.vl + bs - 1) / bs
            let (js, left) := s.blockPortion bs j0 nb
            blockEnd (s.blockLoads f v b a bs nb addr (pickNibble f) js) bs [v, b] left
        else s.vecLoad f isF [v] (fun i => [addr i]) (pickNibble f)))

/-- A unit or strided store (R223). A block-scaled one writes every scale byte below the trimmed VL, whichever elements are active; an active odd nibble raises the flags of its conversion also where its partner's inactivity keeps its byte from being written. DESIGN CHOICE, log entry 77. -/
def State.vstore (s : State) (w : InsnWord) (v a b : Reg) (f : BitVec 4) (strided : Bool) : Out :=
  if !strided && s.isCollective a f then
    (if b ≠ 0 then s.trapWord 0x001 w
     else if (fmtKind f s.cur.ew false).isNone then s.trap 0x101 s.cur.c.vtype
     else if (s.rx a).toNat % fmtSize f ≠ 0 then s.trap 0x086 (s.rx a)
     else s.withOperands (fun _ => []) [v] [] (fun s rd => s.collectiveStore w v a f rd))
  else
    s.vaccess w v a b f strided (fun isF =>
      s.withOperands Strand.active [v] (if blockScaled s.cur.c.vtype f then [b] else []) (fun s rd =>
        let addr (i : Nat) : Word := if strided then strideAddr (s.rx a) s.cur.c.vstr i else unitAddr (s.rx a) f i
        if blockScaled s.cur.c.vtype f then
          let bs := blockSize s.cur.c.vtype
          let j0 := s.cur.firstBlock bs
          let n0 := (s.cur.vl + bs - 1) / bs
          match s.trimSpad (fun i => [addr i]) ((upto j0 (n0 - j0)).flatMap (s.cur.blockActive bs)) with
          | (.error x, s) => s.trapX x
          | (.ok _, s) =>
            let nb := (s.cur.vl + bs - 1) / bs
            let (js, left) := s.blockPortion bs j0 nb
            blockEnd (s.bump.blockStores w f v b a bs nb addr rd js) bs [b] left
        else
          let conv (i : Nat) : Nat × FFlags := storeConvert f isF s.cur.ew (rmOf s.cur.c.fcsr) (rd v i)
          let act := s.cur.active
          let data (i : Nat) : List Nat × FFlags :=
            if fmtBits f = 4 ∧ i % 2 = 1 then ([], (conv i).2)
            else if fmtBits f = 4 ∧ act.contains (i + 1) then ([(conv i).1 + 16 * (conv (i + 1)).1], (conv i).2)
            else ([(conv i).1], (conv i).2)
          s.vecStore w (fmtSize f) (fun i => [addr i]) data))

/-- An indexed or segmented access in an 8-bit or 4-bit format with BS ≠ 0 is reserved (R158); then the format and the alignment of the base (R218, R221). -/
def State.xaccess (s : State) (w : InsnWord) (f : BitVec 4) (k : Bool → Out) : Out :=
  if blockScaled s.cur.c.vtype f then s.trapWord 0x001 w
  else
    match fmtKind f s.cur.ew false with
    | none => s.trap 0x101 s.cur.c.vtype
    | some isF => k isF

/-- EA of element i in indexed mode (R217). -/
def indexAddr (base : Word) (ew off : Nat) : Word := base + BitVec.ofNat 64 (ofInt 64 (toInt ew off))

/-- An indexed load (R217, R223). -/
def State.vloadx (s : State) (w : InsnWord) (v a b : Reg) (f : BitVec 4) : Out :=
  s.xaccess w f (fun isF =>
    if (s.rx a).toNat % fmtSize f ≠ 0 then s.trap 0x086 (s.rx a)
    else s.withSources [b] (some v) (fun s rd =>
      s.vecLoad f isF [v] (fun i => [indexAddr (s.rx a) s.cur.ew (rd b i)]) (fun _ c => c)))

/-- An indexed store (R217, R223). -/
def State.vstorex (s : State) (w : InsnWord) (v a b : Reg) (f : BitVec 4) : Out :=
  s.xaccess w f (fun isF =>
    if (s.rx a).toNat % fmtSize f ≠ 0 then s.trap 0x086 (s.rx a)
    else s.withSources [v, b] none (fun s rd =>
      s.vecStore w (fmtSize f) (fun i => [indexAddr (s.rx a) s.cur.ew (rd b i)])
        (fun i =>
          let c := storeConvert f isF s.cur.ew (rmOf s.cur.c.fcsr) (rd v i)
          ([c.1], c.2))))

/-- The registers of a segment in field order: v + f, or v + p_f under a permutation, which `rd` reads; none when the values are no permutation (R224). An element that the permutation register or the group does not hold is a free value. -/
def State.segRegs (s : State) (v b : Reg) (n : Nat) (rd : Reg → Nat → Nat) : Option (List Reg) × State :=
  if b = 0 then (some ((upto 0 n).map (fun f => v + BitVec.ofNat 5 f)), s)
  else
    let (k, s) := s.draw
    let held := if (s.cur.stream b).isSome then s.cur.vl else s.cur.vlmax
    let p (f : Nat) : Nat := if f < held then rd b f else (Config.beyondElement (k + f)).toNat % 2 ^ s.cur.ew
    let ps := (upto 0 n).map p
    if (upto 0 n).all (fun f => ps.contains f) then (some (ps.map (fun f => v + BitVec.ofNat 5 f)), s) else (none, s)

/-- The registers of a segment are among the n from v on, in whatever order. -/
def inSegment (v b : Reg) (n : Nat) : Bool := (upto 0 n).any (fun f => v + BitVec.ofNat 5 f == b)

/-- A segmented access reads its permutation register, when it has one (R206, R224); where that register is a stream that stands among the stored fields as well, its active elements are used. -/
def State.withPermutation (s : State) (v b : Reg) (n : Nat) (k : State → (Reg → Nat → Nat) → Out) : Out :=
  let use (t : Strand) : List Nat := upto 0 (Nat.min n t.vl) ++ (if inSegment v b n then t.active else [])
  s.withOperands use (if b = 0 then [] else [b]) [] k

/-- The addresses of the fields of segment i (R217). -/
def segAddrs (base : Word) (f : BitVec 4) (n i : Nat) : List Word :=
  (upto 0 n).map (fun k => base + BitVec.ofNat 64 ((i * n + k) * fmtSize f))

/-- A segmented load of n fields (R224). -/
def State.vsegld (s : State) (w : InsnWord) (v a b : Reg) (f : BitVec 4) (n : Nat) : Out :=
  s.xaccess w f (fun isF =>
    if b ≠ 0 ∧ v.toNat ≤ b.toNat ∧ b.toNat < v.toNat + n then s.trapWord 0x003 w
    else s.withPermutation v b n (fun s rd =>
      match s.segRegs v b n rd with
      | (none, s) => s.trapWord 0x004 w
      | (some regs, s) =>
        if (s.rx a).toNat % fmtSize f ≠ 0 then s.trap 0x086 (s.rx a)
        else s.withOperands Strand.active [] regs (fun s _ => s.vecLoad f isF regs (segAddrs (s.rx a) f n) (fun _ c => c))))

/-- A segmented store of n fields (R224). -/
def State.vsegst (s : State) (w : InsnWord) (v a b : Reg) (f : BitVec 4) (n : Nat) : Out :=
  s.xaccess w f (fun isF => s.withPermutation v b n (fun s pd =>
    match s.segRegs v b n pd with
    | (none, s) => s.trapWord 0x004 w
    | (some regs, s) =>
      if (s.rx a).toNat % fmtSize f ≠ 0 then s.trap 0x086 (s.rx a)
      else s.withOperands Strand.active (regs.filter (fun r => b == 0 || r != b)) [] (fun s rd =>
        s.vecStore w (fmtSize f) (segAddrs (s.rx a) f n) (fun i =>
          let cs := regs.map (fun r => storeConvert f isF s.cur.ew (rmOf s.cur.c.fcsr) (if b ≠ 0 ∧ r = b then pd r i else rd r i))
          (cs.map (·.1), cs.foldl (fun (fl : FFlags) c => fl ||| c.2) 0)))))

/-- VLD (R223). -/
def execVld (v : Reg) (a : Reg) (b : Reg) (f : BitVec 4) (s : State) : Out := s.vload (mkVM 0x20 v a b f 0x00) v a b f false
/-- VLDS (R223). -/
def execVlds (v : Reg) (a : Reg) (b : Reg) (f : BitVec 4) (s : State) : Out := s.vload (mkVM 0x20 v a b f 0x10) v a b f true
/-- VLDX (R223). -/
def execVldx (v : Reg) (a : Reg) (b : Reg) (f : BitVec 4) (s : State) : Out := s.vloadx (mkVM 0x20 v a b f 0x20) v a b f
/-- VSEGLD2 (R223, R224). -/
def execVsegld2 (v : Reg) (a : Reg) (b : Reg) (f : BitVec 4) (s : State) : Out := s.vsegld (mkVM 0x20 v a b f 0x30) v a b f 2
/-- VSEGLD3 (R223, R224). -/
def execVsegld3 (v : Reg) (a : Reg) (b : Reg) (f : BitVec 4) (s : State) : Out := s.vsegld (mkVM 0x20 v a b f 0x31) v a b f 3
/-- VSEGLD4 (R223, R224). -/
def execVsegld4 (v : Reg) (a : Reg) (b : Reg) (f : BitVec 4) (s : State) : Out := s.vsegld (mkVM 0x20 v a b f 0x32) v a b f 4
/-- VSEGLD5 (R223, R224). -/
def execVsegld5 (v : Reg) (a : Reg) (b : Reg) (f : BitVec 4) (s : State) : Out := s.vsegld (mkVM 0x20 v a b f 0x33) v a b f 5
/-- VSEGLD6 (R223, R224). -/
def execVsegld6 (v : Reg) (a : Reg) (b : Reg) (f : BitVec 4) (s : State) : Out := s.vsegld (mkVM 0x20 v a b f 0x34) v a b f 6
/-- VSEGLD7 (R223, R224). -/
def execVsegld7 (v : Reg) (a : Reg) (b : Reg) (f : BitVec 4) (s : State) : Out := s.vsegld (mkVM 0x20 v a b f 0x35) v a b f 7
/-- VSEGLD8 (R223, R224). -/
def execVsegld8 (v : Reg) (a : Reg) (b : Reg) (f : BitVec 4) (s : State) : Out := s.vsegld (mkVM 0x20 v a b f 0x36) v a b f 8
/-- VST (R223). -/
def execVst (v : Reg) (a : Reg) (b : Reg) (f : BitVec 4) (s : State) : Out := s.vstore (mkVM 0x21 v a b f 0x00) v a b f false
/-- VSTS (R223). -/
def execVsts (v : Reg) (a : Reg) (b : Reg) (f : BitVec 4) (s : State) : Out := s.vstore (mkVM 0x21 v a b f 0x10) v a b f true
/-- VSTX (R223). -/
def execVstx (v : Reg) (a : Reg) (b : Reg) (f : BitVec 4) (s : State) : Out := s.vstorex (mkVM 0x21 v a b f 0x20) v a b f
/-- VSEGST2 (R223, R224). -/
def execVsegst2 (v : Reg) (a : Reg) (b : Reg) (f : BitVec 4) (s : State) : Out := s.vsegst (mkVM 0x21 v a b f 0x30) v a b f 2
/-- VSEGST3 (R223, R224). -/
def execVsegst3 (v : Reg) (a : Reg) (b : Reg) (f : BitVec 4) (s : State) : Out := s.vsegst (mkVM 0x21 v a b f 0x31) v a b f 3
/-- VSEGST4 (R223, R224). -/
def execVsegst4 (v : Reg) (a : Reg) (b : Reg) (f : BitVec 4) (s : State) : Out := s.vsegst (mkVM 0x21 v a b f 0x32) v a b f 4
/-- VSEGST5 (R223, R224). -/
def execVsegst5 (v : Reg) (a : Reg) (b : Reg) (f : BitVec 4) (s : State) : Out := s.vsegst (mkVM 0x21 v a b f 0x33) v a b f 5
/-- VSEGST6 (R223, R224). -/
def execVsegst6 (v : Reg) (a : Reg) (b : Reg) (f : BitVec 4) (s : State) : Out := s.vsegst (mkVM 0x21 v a b f 0x34) v a b f 6
/-- VSEGST7 (R223, R224). -/
def execVsegst7 (v : Reg) (a : Reg) (b : Reg) (f : BitVec 4) (s : State) : Out := s.vsegst (mkVM 0x21 v a b f 0x35) v a b f 7
/-- VSEGST8 (R223, R224). -/
def execVsegst8 (v : Reg) (a : Reg) (b : Reg) (f : BitVec 4) (s : State) : Out := s.vsegst (mkVM 0x21 v a b f 0x36) v a b f 8

end Sys2Proof.Machine
end

