-- ==== Sys2Proof/Machine/Objects.lean ====
section
/-! DEFINITION. Home objects (R289 to R300): their checks, the operations their home performs, and the waiters it serves. -/

namespace Sys2Proof.Machine

/-! ### Layouts (R294, R298) -/

/-- A field of an object line: `n` bytes at byte `off`. -/
def lfield (d : Line) (off n : Nat) : Nat := d.toNat / 2 ^ (8 * off) % 2 ^ (8 * n)

/-- The line with `n` bytes at byte `off` replaced. -/
def lset (d : Line) (off n v : Nat) : Line :=
  (d &&& ~~~bitMask off n) ||| ((BitVec.ofNat 512 v <<< (8 * off)) &&& bitMask off n)

/-- TYPE of an object. -/
def oType (d : Line) : Nat := lfield d 0 1
/-- LVL of an object. -/
def oLvl (d : Line) : Nat := lfield d 1 1

/-- A well-formed barrier (R294). -/
def barrierOk (d : Line) : Bool :=
  decide (oType d = 1) && decide (oLvl d ≤ 4) && decide (lfield d 2 2 < 2) && decide (lfield d 0x20 32 = 0) &&
  !(decide (lfield d 8 4 = 0) && decide (lfield d 0x10 8 = 0))

/-- Entries in a queue object (R298). -/
def qCount (d : Line) : Nat := (lfield d 8 4 + 2 ^ 28 - lfield d 4 4) % 2 ^ 28
/-- Capacity of a queue object. -/
def qCap (d : Line) : Nat := 2 ^ lfield d 2 1

/-- A well-formed queue, append queue or deque of a type (R298, R439). -/
def queueOk (type : Nat) (d : Line) : Bool :=
  decide (oType d = type) && decide (oLvl d ≤ 4) && decide (lfield d 2 1 ≤ 27) && decide (lfield d 3 1 = 0) &&
  decide (lfield d 4 4 < 2 ^ 28) && decide (lfield d 8 4 < 2 ^ 28) && decide (lfield d 0xC 4 = 0) &&
  decide (lfield d 0x10 8 % 64 = 0) && decide (lfield d 0x10 8 + 8 * qCap d ≤ 2 ^ 33) &&
  (decide (type = 4) || decide (lfield d 0x18 16 = 0)) && decide (lfield d 0x28 24 = 0) && decide (qCount d ≤ qCap d)

/-- The checks of TYPE, LVL and reserved bytes for the object an instruction names: 1 barrier, 2 queue, 3 append queue, 4 deque. DEDUCED, log entry 39. -/
def objOk (type : Nat) (d : Line) : Bool := if type = 1 then barrierOk d else queueOk type d

/-- HEAD and TAIL as the VALUE of a queue instruction (R283, R299). -/
def qValue (d : Line) : Nat := lfield d 4 4 * 2 ^ 28 + lfield d 8 4

/-! ### Naming and reading an object (R289) -/

/-- The key of an object's line, and whether its space and page may hold an object (R289). DEDUCED, log entry 39. -/
def State.objKey (s : State) (a : Agent) (va : Word) : Except XFault (Nat × Bool) × State :=
  let named (r : Except XFault Nat × State) : Except XFault (Nat × Bool) × State :=
    match r with
    | (.ok k, s) => (.ok (k, true), s)
    | (.error x, s) => (.error x, s)
  let spad : Except XFault (Nat × Bool) × State :=
    match s.resolveAddr a va .read with
    | (.ok k, s) => (.ok (k, false), s)
    | (.error _, s) => (.error ⟨0x186, va, va⟩, s)
  match selector va with
  | 0xEC => (.error ⟨0x084, va, va⟩, s)
  | 0x00 =>
    match s.translate a va .read with
    | (.error x, s) => (.error x, s)
    | (.ok k, s) =>
      match s.translate a va .object with
      | (.ok _, s) => (.ok (k, true), s)
      | (.error _, s) => (.ok (k, false), s)
  | 0xE8 => named (s.resolveAddr a va .read)
  | 0xF0 => named (s.resolveAddr a va .read)
  | 0xE0 => spad
  | 0xE4 => spad
  | _ => (.error ⟨0x186, va, va⟩, s)

/-- An object line read at its home with every check of R289, in the order of R415: its key and its bytes. DEDUCED, log entry 39. -/
def State.readObj (s : State) (a : Agent) (va : Word) (type : Nat) : Except XFault (Nat × Line) × State :=
  match s.objKey a va with
  | (.error x, s) => (.error x, s)
  | (.ok (key, ok), s) =>
    match s.readHome a.core a.writer (key / 64) with
    | (.error c, s) => (.error ⟨c, s.readTval c va key, va⟩, s)
    | (.ok d, s) =>
      if va.toNat % 64 = 0 ∧ ok ∧ objOk type d then (.ok (key, d), s) else (.error ⟨0x186, va, va⟩, s)

/-- The home changes an object line: GEN rises by 1, STATE and WRITER stay, cached copies are invalidated; no change, no effect (R289, R465). -/
def State.putObj (s : State) (key : Nat) (d : Line) : State :=
  let l := key / 64
  if s.line l = d then s
  else
    let t := s.tag l
    let s := { s with mem := Memory.setMasked s.mem (64 * l) (2 ^ 64 - 1) d.toNat 64, tags := Tags.set s.tags l { t with gen := t.gen + 1 } }
    s.invalidateAll l (l + 1)

/-- The home writes an entry of a ring: 8 bytes; GEN rises by 1 with every entry written, STATE and WRITER stay, cached copies of a line that changes are invalidated (R87, R298, R465). -/
def State.putEntry (s : State) (rk : Nat) (v : Word) : State :=
  let l := rk / 64
  let t := s.tag l
  let d := lset (s.line l) (rk % 64) 8 v.toNat
  let u := { s with mem := Memory.setMasked s.mem (64 * l) (2 ^ 64 - 1) d.toNat 64, tags := Tags.set s.tags l { t with gen := t.gen + 1 } }
  if s.line l = d then u else u.invalidateAll l (l + 1)

/-- The key of ring entry `n` of a queue object (R298). -/
def ringKey (key : Nat) (d : Line) (n : Nat) : Nat := key / 2 ^ 33 * 2 ^ 33 + lfield d 0x10 8 + 8 * (n % qCap d)

/-- What the ring of a queue refuses: the cause, and TVAL, the address read or of the poisoned line (R298, R404). -/
abbrev RingFault := BitVec 10 × Word

/-- The ring line's tag as the slice resolves it before an entry is taken or added (R298). -/
def State.ringOk (s : State) (a : Agent) (rk : Nat) : Except RingFault Unit :=
  match resolve (s.tag (rk / 64)) (s.distTo a.writer (rk / 64) (s.tag (rk / 64))) with
  | .ok _ => .ok ()
  | .error c => .error (c, BitVec.ofNat 64 (globalOf s.front.modnum (if c = 0x380 then rk / 64 * 64 else rk)))

/-- An entry added at TAIL (R299). -/
def State.qPush (s : State) (a : Agent) (key : Nat) (d : Line) (v : Word) : Except RingFault Line × State :=
  let tail := lfield d 8 4
  let rk := ringKey key d tail
  let s := s.decodes (rk / 64) 0 a.writer
  match s.ringOk a rk with
  | .error c => (.error c, s)
  | .ok () =>
    let s := s.putEntry rk v
    let d := lset d 8 4 ((tail + 1) % 2 ^ 28)
    (.ok d, s.putObj key d)

/-- The entry at HEAD removed (R299). -/
def State.qPop (s : State) (a : Agent) (key : Nat) (d : Line) : Except RingFault (Word × Line) × State :=
  let head := lfield d 4 4
  let rk := ringKey key d head
  let s := s.decodes (rk / 64) 0 a.writer
  match s.ringOk a rk with
  | .error c => (.error c, s)
  | .ok () =>
    let v := BitVec.ofNat 64 (lfield (s.line (rk / 64)) (rk % 64) 8)
    let d := lset d 4 4 ((head + 1) % 2 ^ 28)
    (.ok (v, d), s.putObj key d)

/-- The keys of `n` ring entries from entry `from_` on. -/
def ringKeys (key : Nat) (d : Line) (from_ n : Nat) : List Nat := (upto from_ n).map (ringKey key d)

/-- The first cause that the ring lines of an operation's entries give (R298). -/
def State.ringBad (s : State) (a : Agent) (ks : List Nat) : Option RingFault :=
  ks.findSome? (fun rk => match s.ringOk a rk with | .error c => some c | .ok () => none)

/-- The slice decodes the codewords of the ring lines of an operation (R426). -/
def State.decodeRing (s : State) (a : Agent) (ks : List Nat) : State := ks.foldl (fun s rk => s.decodes (rk / 64) 0 a.writer) s

/-- `n` entries removed from HEAD by one operation, which changes nothing when one of them stands in a line that may not be read (R298). -/
def State.qTake (s : State) (a : Agent) (key : Nat) (d : Line) (n : Nat) : Except RingFault (List Word × Line) × State :=
  let ks := ringKeys key d (lfield d 4 4) n
  let s := s.decodeRing a ks
  match s.ringBad a ks with
  | some c => (.error c, s)
  | none =>
    let vs := ks.map (fun rk => BitVec.ofNat 64 (lfield (s.line (rk / 64)) (rk % 64) 8))
    let d := lset d 4 4 ((lfield d 4 4 + n) % 2 ^ 28)
    (.ok (vs, d), s.putObj key d)

/-- Values appended at TAIL by one operation while there is room: how many were, none when one of their lines may not be written (R247, R298). -/
def State.qAppend (s : State) (a : Agent) (key : Nat) (d : Line) (vs : List Word) : Except RingFault (Nat × Line) × State :=
  let n := Nat.min vs.length (qCap d - qCount d)
  let ks := ringKeys key d (lfield d 8 4) n
  let s := s.decodeRing a ks
  match s.ringBad a ks with
  | some c => (.error c, s)
  | none =>
    let s := (ks.zip vs).foldl (fun s e => s.putEntry e.1 e.2) s
    let d := lset d 8 4 ((lfield d 8 4 + n) % 2 ^ 28)
    (.ok (n, d), s.putObj key d)

/-! ### What a wait's condition does at its home (R290) -/

/-- The end of a wait: its status, a datum for a scalar register, elements for a vector register; or what its last operation at the ring met. -/
structure WaitEnd where
  status : Word := 0
  datum  : Option (Reg × Word) := none
  elems  : Option (Reg × List Word) := none
  bad    : Option RingFault := none
deriving DecidableEq, Repr

/-- One attempt at an object wait's condition. `done` ends it; `left` goes on waiting, perhaps for less; `bad` is what the ring refused. -/
inductive Attempt where
  | done (e : WaitEnd)
  | left (w : WaitFor)
  | bad (c : RingFault)
deriving DecidableEq, Repr

/-- BARW's condition (R296). -/
def phaseReached (phase : Nat) (q : BitVec 32) : Bool := decide ((phase + 2 ^ 32 - q.toNat) % 2 ^ 32 < 2 ^ 31)

/-- One attempt at the condition of a wait on an object (R290, R296, R299, R300, R247). `wid` and `mask` serve VAPND. -/
def State.attemptObj (s : State) (a : Agent) (wid : Word) (w : WaitFor) : Attempt × State :=
  match w with
  | .phase obj q =>
    let ph := lfield (s.line (obj / 64)) 4 4
    if phaseReached ph q then (.done { status := status oDONE 0 ph }, s) else (.left w, s)
  | .arrival obj p =>
    let ph := lfield (s.line (obj / 64)) 4 4
    if ph ≠ p.toNat then (.done { status := status oDONE 0 ph }, s) else (.left w, s)
  | .room obj _ v =>
    let d := s.line (obj / 64)
    if qCount d < qCap d then
      match s.qPush a obj d v with
      | (.error c, s) => (.bad c, s)
      | (.ok d, s) => (.done { status := status oDONE 0 (qValue d) }, s)
    else (.left w, s)
  | .entry obj c =>
    let d := s.line (obj / 64)
    if qCount d = 0 then (.left w, s)
    else
      match s.qPop a obj d with
      | (.error e, s) => (.bad e, s)
      | (.ok (v, d), s) => (.done { status := status oDONE 0 (qValue d), datum := some (c, v) }, s)
  | .batch obj v n =>
    let d := s.line (obj / 64)
    if qCount d < n then (.left w, s)
    else
      match s.qTake a obj d n with
      | (.error e, s) => (.bad e, s)
      | (.ok (vs, _), s) => (.done { status := status oDONE 0 n, elems := some (v, vs) }, s)
  | .append obj es total =>
    let d := s.line (obj / 64)
    match s.qAppend a obj d (es.map (fun i => wid + BitVec.ofNat 64 i)) with
    | (.error e, s) => (.bad e, s)
    | (.ok (n, _), s) =>
      if n = es.length then (.done { status := status oDONE 0 total }, s) else (.left (.append obj (es.drop n) total), s)
  | w => (.left w, s)

/-- The object of a wait. -/
def WaitFor.obj : WaitFor → Option Nat
  | .phase o _ => some o
  | .arrival o _ => some o
  | .room o _ _ => some o
  | .entry o _ => some o
  | .batch o _ _ => some o
  | .append o _ _ => some o
  | _ => none

/-- The wait of a strand, in place or saved pending (R286). -/
def Strand.waitRec (t : Strand) : Option WaitRec :=
  match t.run with
  | .waiting w => some w
  | .saving _ w => w
  | .away _ w => w
  | .restoring _ w => w
  | _ => none

/-- A strand with its wait replaced. -/
def Strand.setWait (t : Strand) (w : WaitRec) : Strand :=
  match t.run with
  | .waiting _ => { t with run := .waiting w }
  | .saving k (some _) => { t with run := .saving k (some w) }
  | .away k (some _) => { t with run := .away k (some w) }
  | .restoring k (some _) => { t with run := .restoring k (some w) }
  | _ => t

/-- VAPND clears the mask bits of the elements it has appended while VM.EN = 1 (R247). -/
def Strand.clearMask (t : Strand) (es : List Nat) : Strand :=
  if t.c.vm.getLsbD 5 then t.setElems (t.c.vm.extractLsb' 0 5) (es.map (fun i => (i, 0))) else t

/-- The elements of an append wait that are appended have their mask bits cleared, in the save area as well while the strand's registers stand there; with the first of them VSTART and the counters are spent (R176, R247, R392, R431). -/
def State.clearAppended (s : State) (sid : Nat) (es : List Nat) : State :=
  match s.strand sid with
  | none => s
  | some t =>
    let t := t.clearMask es
    let t := match t.run with | .waiting _ => if es.isEmpty then t else t.vdone | _ => t
    let s := s.setStrand t
    let m := t.c.vm.extractLsb' 0 5
    let area (k : SaveKind) : State :=
      if k.vectors && t.c.vm.getLsbD 5 && !es.isEmpty then s.saveWrite t (0x8000 + 1024 * m.toNat) (toBytes (8 * t.grant) (t.vr m).toNat) else s
    match t.run with
    | .saving k _ => area k
    | .away k _ => area k
    | .restoring k _ => area k
    | _ => s

/-- Elements of an append wait that this attempt appended. -/
def appended (before : WaitFor) (after : Option WaitFor) : List Nat :=
  match before, after with
  | .append _ es _, some (.append _ rest _) => es.take (es.length - rest.length)
  | .append _ es _, none => es
  | _, _ => []

/-- A waiter leaves its home. -/
def State.unregister (s : State) (sid : Nat) : State :=
  { s with homes := { s.homes with waiters := s.homes.waiters.filter (fun q => q.sid != sid || q.put.isSome) } }

/-- The words of region 0x180 that hold VSTART, the lane-group counters and SSTATUS, as a strand has them. -/
def State.saveCounters (s : State) (t : Strand) : State :=
  let s := s.saveCsr t 5 t.c.vstart
  let s := (upto 0 8).foldl (fun s i => s.saveCsr t (20 + i) (t.c.tlg.getD i 0)) s
  s.saveCsr t 28 (setField t.c.sstatus 4 6 t.pend)

/-- The strand of an append wait stands before the elements that it has not appended (R176, R391, R392). -/
def Strand.beforeRest (t : Strand) (w : WaitRec) : Strand :=
  match w.what with
  | .append _ es _ => if t.nest then t else t.stopAt es 1
  | _ => t

/-- A wait that is saved pending becomes one of nothing: its instruction executes again on resumption, a VAPND for the elements that it has not appended. -/
def State.unpend (s : State) (t : Strand) (w : WaitRec) (run : Run) : State :=
  let t := { (t.beforeRest w) with run := run }
  let s := s.setStrand t
  match w.what with
  | .append _ _ _ => s.saveCounters t
  | _ => s

/-- A wait whose operation meets a ring line that may not be read or written fails, precise at its instruction; a strand that is away executes it again on resumption and takes the fault there (R298). DESIGN CHOICE, log entry 67. -/
def State.ringFault (s : State) (sid : Nat) (c : RingFault) : State :=
  let s := s.unregister sid
  match s.strand sid with
  | none => s
  | some t =>
    match t.run with
    | .waiting w => s.asStrand sid (fun s => (match w.what with
      | .append _ es _ => ({ s with cur := { s.cur with run := .running } }).stopElem ⟨c.1, c.2, 0⟩ es 1
      | _ => s.trapEntry c.1 0 false s.cur.pc c.2 0 s.cur.pc).stepDone)
    | .saving k (some w) => s.unpend t w (.saving k none)
    | .away k (some w) => s.unpend { t with id := { t.id with since := s.now } } w (.away k none)
    | .restoring k (some w) => s.unpend t w (.restoring k none)
    | _ => s

/-- The withdrawal of an expired BARAW is on its way: what the home finds then decides, not a wake-up (R297). -/
def WaitRec.withdrawn (w : WaitRec) : Bool := w.expired && (match w.what with | .arrival _ _ => true | _ => false)

/-- The enqueue of a PUTQ leaves its home (R252). -/
def State.unregisterPut (s : State) (core ch : Nat) : State :=
  { s with homes := { s.homes with
      waiters := s.homes.waiters.filter (fun q => q.put != some (core, ch))
      enqs := s.homes.enqs.filter (fun m => !(m.core == core && m.chan == ch)) } }

/-- The home tries the enqueue of a PUTQ: there is room, and the command is acknowledged or fails at the ring; or it stays (R252, R298, R299). -/
def State.tryPut (s : State) (m : Credit) (key : Nat) : State :=
  let d := s.line (key / 64)
  if qCap d ≤ qCount d then s
  else
    match s.qPush (m.cmd.agent m.core) key d m.cmd.dst with
    | (.error c, s) => (s.unregisterPut m.core m.chan).cmdFault m.core m.chan c.1 c.2 4
    | (.ok _, s) => (s.unregisterPut m.core m.chan).ackCmd m

/-- The home serves one registered waiter, a strand or an enqueue: a wake-up is sent, its wait goes on, or it fails at its ring (R252, R290, R298). -/
def State.serveOne (s : State) (q : Waiter) : State :=
  match q.put with
  | some (core, ch) =>
    match s.homes.enqs.find? (fun m => m.core == core && m.chan == ch) with
    | some m => s.tryPut m q.obj
    | none => s.unregisterPut core ch
  | none =>
    let sid := q.sid
    match s.strand sid with
    | none => s.unregister sid
    | some t =>
      match t.waitRec with
      | none => s
      | some w =>
        if w.withdrawn then s
        else
        match s.attemptObj t.agent t.c.widbase w.what with
        | (.done e, s) =>
          let s := (s.clearAppended sid (appended w.what none)).unregister sid
          { s with homes := { s.homes with wakes := s.homes.wakes ++ [⟨sid, e.status, e.datum, e.elems⟩] } }
        | (.left v, s) => (s.clearAppended sid (appended w.what (some v))).onStrand sid (fun t => t.setWait { w with what := v })
        | (.bad c, s) => s.ringFault sid c

/-- The home serves the waiters of an object, first registered first, until a round changes nothing (R290). `fuel` bounds the rounds by the waiters. -/
def State.serveRounds (s : State) (obj : Nat) : (fuel : Nat) → State
  | 0 => s
  | n + 1 =>
    let ws := s.homes.waiters.filter (fun w => w.obj == obj)
    let d := s.line (obj / 64)
    let s' := ws.foldl State.serveOne s
    if s'.line (obj / 64) = d ∧ s'.homes.waiters.length = s.homes.waiters.length then s' else s'.serveRounds obj n

def State.serve (s : State) (obj : Nat) : State := s.serveRounds obj (s.homes.waiters.length + 1)

/-- The phase completes when nothing is missing (R295). -/
def barrierSettle (d : Line) : Line :=
  if lfield d 0xC 4 = lfield d 8 4 ∧ lfield d 0x18 8 = 0 then
    lset (lset (lset d 4 4 ((lfield d 4 4 + 1) % 2 ^ 32)) 0xC 4 0) 0x18 8 (lfield d 0x10 8)
  else d

/-- A barrier line replaced, its phase completed when due, and the waiters whose condition now holds woken (R295). -/
def State.putBarrier (s : State) (key : Nat) (d : Line) : State := (s.putObj key (barrierSettle d)).serve key

/-- The vault of an object registers at most 1,024 waiters (R290). -/
def State.waitersFull (s : State) (obj : Nat) : Bool :=
  decide (1024 ≤ (s.homes.waiters.filter (fun w => w.obj / 2 ^ 33 == obj / 2 ^ 33)).length)

/-- A waiter joins its home's list, or is refused when its vault holds 1,024 (R290). -/
def State.registerAs (s : State) (q : Waiter) : Bool × State :=
  if s.waitersFull q.obj then (false, s) else (true, { s with homes := { s.homes with waiters := s.homes.waiters ++ [q] } })

/-- The issuing strand registers at an object's home (R290). -/
def State.register (s : State) (obj : Nat) : Bool × State := s.registerAs ⟨s.cur.id.sid, obj, none⟩

/-- The registers that a finished wait writes: the datum first, the status second (R288); APWAIT's elements (R299). -/
def Strand.takeEnd (t : Strand) (datum : Option (Reg × Word)) (elems : Option (Reg × List Word)) : Strand :=
  let t := match datum with | some (c, v) => t.wx c v | none => t
  match elems with
  | some (v, es) => t.setElems v ((upto 0 es.length).zip (es.map BitVec.toNat))
  | none => t

/-- An append wait has appended an element already (R247). DEDUCED, log entry 19. -/
def WaitFor.begun : WaitFor → Bool
  | .append _ es total => decide (es.length < total)
  | _ => false

/-- A wait on an object begins: one attempt, then its end, its timeout as a poll, or a registration; `ended` is what its end does, or its first effect (R281, R290). What waits at the object is served again when a poll's timeout has changed it. DEDUCED, log entry 19. -/
def State.objWaitOn (s : State) (word : InsnWord) (d : Reg) (op : Word) (w : WaitFor) (ended : Strand → Strand)
    (timeout : State → WaitFor → WaitEnd × State) : Out :=
  let served (s : State) : State := match w.obj with | some o => s.serve o | none => s
  match s.attemptObj s.me s.cur.c.widbase w with
  | (.bad c, s) => s.trap c.1 c.2
  | (.done e, s) =>
    let s := served { s with cur := ((ended s.cur).clearMask (appended w none)).takeEnd e.datum e.elems }
    .next (s.finish d e.status (s.isPoll op))
  | (.left v, s) =>
    let t := if s.isPoll op || v.begun then ended s.cur else s.cur
    let s := served { s with cur := t.clearMask (appended w (some v)) }
    if s.isPoll op then
      let (e, s) := timeout s v
      match e.bad with
      | some c => s.trap c.1 c.2
      | none => .next ((served { s with cur := s.cur.takeEnd e.datum e.elems }).finish d e.status true)
    else
      match v.obj with
      | none => .next (s.startWait word d (s.deadline op) v none)
      | some o =>
        let (ok, s) := s.register o
        .next (s.startWait word d (s.deadline op) v (if ok then none else some s.now))

/-- A wait on an object of the WAITO family begins (R281, R290). -/
def State.objWait (s : State) (word : InsnWord) (d : Reg) (op : Word) (w : WaitFor) (timeout : State → WaitFor → WaitEnd × State) : Out :=
  s.objWaitOn word d op w (fun t => t) timeout

/-- The end of a wait whose cancellation the home performs (R431, R432). -/
def State.timeoutEnd (s : State) (a : Agent) (w : WaitFor) : WaitEnd × State :=
  match w with
  | .phase obj _ => ({ status := status oTIMEOUT 0 (lfield (s.line (obj / 64)) 4 4) }, s)
  | .room obj _ _ => ({ status := status oTIMEOUT 2 (qValue (s.line (obj / 64))) }, s)
  | .entry obj _ => ({ status := status oTIMEOUT 1 (qValue (s.line (obj / 64))) }, s)
  | .batch obj v n =>
    let d := s.line (obj / 64)
    match s.qTake a obj d (Nat.min n (qCount d)) with
    | (.ok (vs, _), s) => ({ status := status oTIMEOUT 1 vs.length, elems := some (v, vs) }, s)
    | (.error c, s) => ({ bad := some c }, s)
  | .append _ es total =>
    let n := total - es.length
    ({ status := status (if n = 0 then oTIMEOUT else oPARTIAL) 0 n }, s)
  | _ => ({ status := status oTIMEOUT 0 0 }, s)

end Sys2Proof.Machine
end

