-- ==== Sys2Proof/Machine/Starter.lean ====
section
/-! DEFINITION. The Starter: queue contexts (R327 to R330), packets (R46 to R49), acceptance, watermarks (R59 to R61), retirement (R67, R68), and placement of strands on cores (R331 to R336). -/

namespace Sys2Proof.Machine

/-! ### Contexts and packets -/

def le (bs : List Byte) (off n : Nat) : Nat := ofBytes ((bs.drop off).take n)
def leW (bs : List Byte) (off : Nat) : Word := BitVec.ofNat 64 (le bs off 8)

/-- The module runs in minimal mode (R30, R31). -/
def State.minimal (s : State) : Bool := s.front.modstat.getLsbD 1

/-- A context's fields (R328). -/
def contextOf (b : List Byte) : Context where
  sup := decide (le b 0 2 / 4 % 2 = 1)
  deq := decide (le b 0 2 / 2 % 2 = 1)
  asid := BitVec.ofNat 16 (le b 2 2)
  areas := le b 4 2
  ptroot := leW b 8
  tvec := leW b 0x10
  locbase := leW b 0x18
  locsize := leW b 0x20
  stkbase := leW b 0x28
  stksize := leW b 0x30
  savebase := leW b 0x38
  diemask := BitVec.ofNat 32 (le b 0x40 4)
  coremask := BitVec.ofNat 16 (le b 0x44 2)
  modbase := le b 0x48 4
  modcnt := le b 0x4C 2
  repcnt := le b 0x4E 2

/-- A usable context, minimal mode apart (R328). -/
def contextOk (b : List Byte) : Bool :=
  let c := contextOf b
  decide (le b 0 2 % 2 = 1) && decide (le b 0 2 < 8) && decide (le b 6 2 = 0) && decide (c.areas ≠ 0) &&
  decide (c.locbase.toNat % 64 = 0) && decide (c.locsize.toNat % 64 = 0) && decide (c.stkbase.toNat % 64 = 0) &&
  decide (c.stksize.toNat % 64 = 0) && decide (selector c.savebase = 0xF0) && decide (field c.savebase 42 14 = 0) &&
  decide (field c.savebase 0 16 = 0) && decide (field c.savebase 37 5 < 24) && decide (c.diemask ≠ 0) &&
  decide (c.diemask.toNat < 2 ^ 24) && decide (c.coremask ≠ 0) && decide (le b 0x46 2 = 0) && decide (c.modbase < 2 ^ 18) &&
  decide (c.modcnt ≠ 0) && decide (c.repcnt ≠ 0) && decide (le b 0x50 48 = 0)

/-- The context of a queue as the Starter reads it: the context, or 2 (not usable) or 3 (unavailable in minimal mode only) (R327 to R329). -/
def State.context (s : State) (n : Nat) : Except Nat Context × State :=
  match s.readG 0 (128 * n) 128 with
  | (.ok (some b), s) =>
    (if !contextOk b then .error 2
     else if s.minimal && decide ((contextOf b).diemask ≠ 1) then .error 3
     else .ok (contextOf b), s)
  | (_, s) => (.error 2, s)

/-- A packet's fields (R46). -/
def packetOf (b : List Byte) : Packet where
  entry := leW b 0
  count := leW b 8
  ctrl := leW b 0x10
  producer := leW b 0x18
  depdl := leW b 0x20
  args := Vector.ofFn (fun (i : Fin 8) => leW b (0x40 + 8 * i.val))

/-- Wk of CTRL (R47). -/
def Packet.w (p : Packet) (k : Nat) : Nat := field p.ctrl (6 * k) 6
def Packet.widths (p : Packet) : Nat := p.w 0 + p.w 1 + p.w 2 + p.w 3 + p.w 4 + p.w 5
def Packet.lanes (p : Packet) : Nat := field p.ctrl 36 3
def Packet.cls (p : Packet) : Nat := field p.ctrl 40 2
def Packet.prio (p : Packet) : Nat := field p.ctrl 42 6
def Packet.publvl (p : Packet) : Nat := field p.ctrl 48 3

/-- A launch that is live or waits in its queue. -/
def State.launch (s : State) (id : Word) : Option Launch :=
  (s.starter.live ++ s.starter.queued).find? (fun l => l.id == id)

/-- A live launch: taken, and not yet retired (R326). -/
def State.liveLaunch (s : State) (id : Word) : Option Launch := s.starter.live.find? (fun l => l.id == id)

def State.retiredOf (s : State) (id : Word) : Option Retired := s.starter.retired.find? (fun r => r.id == id)

/-- A malformed packet (R48); bytes 0x28 to 0x3F are reserved. -/
def State.malformed (s : State) (b : List Byte) : Bool :=
  let p := packetOf b
  decide (field p.entry 0 6 ≠ 0) || decide (selector p.entry ≠ 0) || decide (64 < p.widths) ||
  (decide (p.widths < 64) && decide (2 ^ p.widths < p.count.toNat)) || decide (5 < p.lanes) || decide (4 < p.publvl) ||
  decide (field p.ctrl 51 13 ≠ 0) || p.ctrl.getLsbD 39 || decide (le b 0x28 24 ≠ 0) ||
  (decide (p.producer ≠ 0) && (s.liveLaunch p.producer).isNone && (s.retiredOf p.producer).isNone)

/-! ### The strands of a launch (R50 to R53, R330) -/

/-- How many strands a packet has (R51). -/
def Packet.strands (p : Packet) : Nat := (p.count.toNat + 2 ^ p.w 0 - 1) / 2 ^ p.w 0

/-- Field Fj of strand k, j ≥ 1 (R50). -/
def Packet.fieldOf (p : Packet) (j k : Nat) : Nat :=
  let below := ((upto 1 (j - 1)).map p.w).foldl (· + ·) 0
  k / 2 ^ below % 2 ^ p.w j

/-- The number of the j-th set bit of a mask of `n` bits, counting from bit `at_`. -/
def nthSet (m : Nat) : (n : Nat) → (at_ : Nat) → (j : Nat) → Nat
  | 0, at_, _ => at_
  | n + 1, at_, j =>
    if m / 2 ^ at_ % 2 = 1 then (if j = 0 then at_ else nthSet m n (at_ + 1) (j - 1)) else nthSet m n (at_ + 1) j

/-- The module core number on which strand k runs; none when it maps to another module (R330, R53). -/
def mapCore (own : Nat) (c : Context) (p : Packet) (k : Nat) : Option Nat :=
  if c.modbase + (p.fieldOf 5 k % c.repcnt) * c.modcnt + p.fieldOf 4 k % c.modcnt = own then
    let die := nthSet c.diemask.toNat 32 0 (p.fieldOf 3 k % popAux c.diemask.toNat 32)
    let core := nthSet c.coremask.toNat 16 0 (p.fieldOf 2 k % popAux c.coremask.toNat 16)
    some (16 * die + core)
  else none

/-- Every strand of a launch maps to one module (R330). -/
def oneModule (c : Context) : Bool := decide (c.modcnt = 1) && decide (c.repcnt = 1)

/-- The strands below `n` that map to this module. -/
def countMapped (own : Nat) (c : Context) (p : Packet) : Nat → Nat
  | 0 => 0
  | n + 1 => countMapped own c p n + (if (mapCore own c p n).isSome then 1 else 0)

def mappedStrands (own : Nat) (c : Context) (p : Packet) : Nat :=
  if oneModule c then (if c.modbase = own then p.strands else 0) else countMapped own c p p.strands

/-- The least strand from `k` on that maps to a core. -/
def nextFor (own : Nat) (c : Context) (p : Packet) (core : Nat) : (fuel : Nat) → (k : Nat) → Option Nat
  | 0, _ => none
  | n + 1, k => if mapCore own c p k = some core then some k else nextFor own c p core n (k + 1)

/-! ### Watermarks (R59, R61) -/

/-- W raised over the declared ranges and over elements that map to other modules. -/
def raiseW (own : Nat) (c : Context) (p : Packet) (ds : List (Nat × Nat)) : (fuel : Nat) → (w : Nat) → Nat
  | 0, w => w
  | n + 1, w =>
    if p.count.toNat ≤ w then w
    else if !oneModule c && (mapCore own c p (w / 2 ^ p.w 0)).isNone then
      raiseW own c p ds n ((w / 2 ^ p.w 0 + 1) * 2 ^ p.w 0)
    else
      match ds.find? (fun d => decide (d.1 ≤ w) && decide (w < d.2)) with
      | some d => raiseW own c p ds n d.2
      | none => w

/-- A declaration applied to its launch (R59). -/
def Launch.declare (own : Nat) (l : Launch) (first last : Nat) : Launch :=
  let ds := if first < last then (first, last) :: l.declared else l.declared
  let fuel := ds.length + 1 + (if oneModule l.ctx then 0 else l.packet.strands)
  { l with declared := ds, watermark := raiseW own l.ctx l.packet ds fuel l.watermark }

/-- All ones, W of a retired launch (R67). -/
def wMax : Nat := 2 ^ 64 - 1

/-- What a consumer sees of its producer: W, and whether the producer was cancelled or has failed; such a producer's W stays where it stood (R64, R67, R437). DEDUCED, log entry 58. -/
def State.producerW (s : State) (id : Word) : Nat × Bool :=
  match s.launch id with
  | some l => (l.watermark, l.stop.isSome)
  | none =>
    match s.starter.frozen.find? (fun e => e.1 == id) with
    | some e => (e.2, true)
    | none =>
      match s.retiredOf id with
      | some r => (r.watermark, decide (field r.status 0 3 ≠ 0))
      | none => (wMax, false)

/-! ### Acceptance and retirement -/

def State.onLaunch (s : State) (id : Word) (f : Launch → Launch) : State :=
  { s with starter := { s.starter with
    live := updFirst (fun l => l.id == id) f s.starter.live
    queued := updFirst (fun l => l.id == id) f s.starter.queued } }

/-- Free packet slots of a queue (R26, R326). -/
def State.credits (s : State) (n : Nat) : Nat := 64 - (s.starter.queued.filter (fun l => l.queue == n)).length

def State.hostEvent (s : State) (e : ToHost) : State :=
  { s with front := { s.front with toHost := s.front.toHost ++ [e] } }

/-- HOSTERR records an event: COUNT saturates, KIND, LINK and ADDR describe the latest (R460). -/
def State.hosterr (s : State) (kind link addr : Nat) : State :=
  let n := Nat.min (field s.front.hosterr 48 16 + 1) 65535
  { s with front := { s.front with
    hosterr := BitVec.ofNat 64 (n * 2 ^ 48 + kind % 8 * 2 ^ 45 + link % 2 * 2 ^ 44 + addr % 2 ^ 42) } }

/-- DESIGN CHOICE, log entry 16. -/
def State.window (s : State) (link queue : Nat) : Window :=
  (s.front.windows.find? (fun w => w.link == link && w.queue == queue)).getD ⟨link, queue, Vector.replicate 16 0, 0, 0, 0⟩

def State.setWindow (s : State) (w : Window) : State :=
  { s with front := { s.front with
    windows := w :: s.front.windows.filter (fun q => !(q.link == w.link && q.queue == w.queue)) } }

/-- The completion record and the interrupt of a launch that a host link submitted; toward a down link they are dropped with KIND 5 (R27, R461). -/
def State.complete (s : State) (l : Launch) (st : Word) : State :=
  match l.link with
  | none => s
  | some k =>
    let cmp := (s.window k l.queue).cmpaddr &&& ~~~15#64
    if s.front.linkUp.getD k false then
      let s := if cmp = 0 then s else s.hostEvent (.completion k cmp l.id st)
      s.hostEvent (.msix k l.queue)
    else
      let s := if cmp = 0 then s else s.hosterr 5 k 0
      s.hosterr 5 k 0

/-- The status of a retirement (R68). -/
def Launch.status (l : Launch) : Word :=
  match l.stop with
  | none => BitVec.ofNat 64 0
  | some (true, _) => BitVec.ofNat 64 (l.started * 256 + 2)
  | some (false, c) => BitVec.ofNat 64 (c.toNat * 256 + 3)

/-- Some launch of the Starter names a producer (R64). -/
def State.isProducer (s : State) (id : Word) : Bool := (s.starter.live ++ s.starter.queued).any (fun l => l.packet.producer == id)

/-- A launch retires: W is set or stays frozen, and the Starter keeps its last 4,096 (R48, R64, R67 step 1). -/
def State.retire (s : State) (l : Launch) : State :=
  let w := if l.stop.isNone then wMax else l.watermark
  let s := { s with starter := { s.starter with
    live := s.starter.live.filter (fun q => q.id != l.id)
    queued := s.starter.queued.filter (fun q => q.id != l.id)
    retired := (Retired.mk l.id l.ctx.asid l.status w :: s.starter.retired).take 4096 } }
  let all := if l.stop.isNone then s.starter.frozen else (l.id, w) :: s.starter.frozen
  { s with starter := { s.starter with frozen := all.filter (fun e => s.isProducer e.1) } }

/-- The sequence number after another of a queue: from 1 on, and after the last of 38 bits 1 again, since the launch id 0 is never assigned (R49 does not say what follows the last). DESIGN CHOICE, log entry 74. -/
def nextSeq (n : Nat) : Nat := if n + 1 < 2 ^ 38 then n + 1 else 1

/-- Acceptance of a packet into a queue: its launch id, and at once its retirement when no strand of it runs here (R49, R53, R68). A producer that has retired before imposes no hold (R64). -/
def State.accept (s : State) (n : Nat) (c : Context) (b : List Byte) (link : Option Nat) : Word × State :=
  let p := packetOf b
  let p := if (s.liveLaunch p.producer).isNone then { p with producer := 0 } else p
  let seq := nextSeq (((s.starter.seqs.find? (fun e => e.1 == n)).map (·.2)).getD 0)
  let id := BitVec.ofNat 64 (s.front.modnum.toNat * 2 ^ 46 + n * 2 ^ 38 + seq)
  let left := mappedStrands s.front.modnum.toNat c p
  let l : Launch := ⟨id, n, s.starter.order, p, c, link, false, [], left, 0, 0, [], none, []⟩
  let l := l.declare s.front.modnum.toNat 0 0
  let s := { s with starter := { s.starter with
    seqs := (n, seq) :: s.starter.seqs.filter (fun e => e.1 != n), order := s.starter.order + 1 } }
  if left = 0 then (id, (s.retire l).complete l l.status)
  else (id, { s with starter := { s.starter with queued := s.starter.queued ++ [l] } })

/-! ### Lanes and grants (R42, R336) -/

/-- Units of four lanes of cluster c that are free, as four bits. -/
def clusterFree (free : Nat) (c : Nat) : Nat := free / 2 ^ (4 * c) % 16

/-- A placement of G lanes in the free units, as a mask of units (R336). -/
def placeLanes (free g : Nat) : Option Nat :=
  let cs := upto 0 8
  if g < 16 then
    let u := g / 4
    let fits (c : Nat) : Option Nat :=
      ((upto 0 (4 / u)).find? (fun j => clusterFree free c / 2 ^ (u * j) % 2 ^ u == 2 ^ u - 1)).map
        (fun j => (2 ^ u - 1) * 2 ^ (4 * c + u * j))
    let part := cs.filter (fun c => clusterFree free c ≠ 15 && clusterFree free c ≠ 0)
    match part.findSome? fits with
    | some m => some m
    | none => (cs.filter (fun c => clusterFree free c = 15)).findSome? fits
  else
    let whole := cs.filter (fun c => clusterFree free c = 15)
    if whole.length < g / 16 then none
    else some ((whole.take (g / 16)).foldl (fun m c => m + 15 * 2 ^ (4 * c)) 0)

/-- The largest grant that meets R336, with its placement; `fixed` is a grant to be kept (R397). -/
def chooseGrant (free request : Nat) (fixed : Option Nat) : Option (Nat × Nat) :=
  let lo := match fixed with | some g => g | none => Nat.min request 16
  let hi := match fixed with | some g => g | none => request
  ([128, 64, 32, 16, 8, 4].filter (fun g => decide (lo ≤ g) && decide (g ≤ hi))).findSome?
    (fun g => (placeLanes free g).map (fun m => (g, m)))

/-- The units of a core that no resident strand holds. -/
def State.freeLanes (s : State) (core : Nat) : Nat :=
  let used := (s.all.filter (fun t => t.resident && t.id.core == core)).foldl (fun m t => m ||| t.id.lanes) 0
  (~~~used).toNat

/-- The slots of a core that no resident strand occupies (R41). DEDUCED, log entry 44. -/
def State.freeSlots (s : State) (core : Nat) : List Nat :=
  (upto 0 8).filter (fun i => !(s.all.any (fun t => t.resident && t.id.core == core && t.id.slot == i)))

/-- The lowest area index of a queue on a core that no live strand holds, 0 ≤ i < AREAS (R331): one of the first that are more than the holders. -/
def State.freeArea (s : State) (core queue areas : Nat) : Option Nat :=
  let held := s.all.filter (fun t => t.live && t.id.core == core && t.id.queue == queue)
  (upto 0 (Nat.min areas (held.length + 1))).find? (fun i => !(held.any (fun t => t.id.area == i)))

/-- A die is in A0 (R34, R37). -/
def State.dieRuns (s : State) (die : Nat) : Bool :=
  decide (field s.front.diestate (2 * die) 2 = 0) && decide ((s.dieAt die).phase ≠ .failed)

/-! ### Who may start (R334, R335, R342) -/

/-- A candidate for a core's resources: a new strand k of a launch, or an away strand that is ready. -/
inductive Cand where
  | fresh (l : Launch) (k : Nat)
  | away (t : Strand)
deriving DecidableEq, Repr

/-- Class, priority, acceptance and index order (R335). -/
def Cand.key : Cand → Nat × Nat × Nat × Nat
  | .fresh l k => (l.packet.cls, 63 - l.packet.prio, l.order, k)
  | .away t => (t.id.cls, 63 - t.id.prio, t.id.order, t.id.index)

def Cand.before (a b : Cand) : Bool :=
  let x := a.key
  let y := b.key
  decide (x.1 < y.1) || (decide (x.1 = y.1) && (decide (x.2.1 < y.2.1) || (decide (x.2.1 = y.2.1) &&
    (decide (x.2.2.1 < y.2.2.1) || (decide (x.2.2.1 = y.2.2.1) && decide (x.2.2.2 < y.2.2.2))))))

/-- The next strand of a launch for a core, from `from_` on. -/
def State.nextFrom (s : State) (l : Launch) (core from_ : Nat) : Option Nat :=
  nextFor s.front.modnum.toNat l.ctx l.packet core (l.packet.strands - from_) from_

/-- The first strand of a launch that has not been placed on a core. -/
def Launch.after (l : Launch) (core : Nat) : Nat := match l.placed.find? (fun e => e.1 == core) with | some e => e.2 + 1 | none => 0

/-- The next strand of a launch for a core. -/
def State.nextK (s : State) (l : Launch) (core : Nat) : Option Nat := s.nextFrom l core (l.after core)

/-- The bound below which a strand's first element must lie for it to be eligible: W of the producer, none for a launch without one, or whose producer has retired, was cancelled or failed (R334). -/
def State.reach (s : State) (l : Launch) : Nat :=
  if l.packet.producer = 0 then 2 ^ 64
  else
    match s.launch l.packet.producer with
    | none => 2 ^ 64
    | some p => if p.stop.isSome then 2 ^ 64 else p.watermark

/-- The first element of strand k. -/
def Launch.firstOf (l : Launch) (k : Nat) : Nat := k * 2 ^ l.packet.w 0

/-- A strand that waits to start is eligible (R334). -/
def State.eligible (s : State) (l : Launch) (k : Nat) : Bool := decide (l.firstOf k < s.reach l)

/-- The bounds of the live launches are noted as they rise (R338). -/
def State.noteRises (s : State) : State :=
  { s with starter := { s.starter with live := s.starter.live.map (fun l =>
      let r := s.reach l
      if ((l.rises.getLast?).map Prod.fst).getD 0 < r then { l with rises := l.rises ++ [(r, s.now)] } else l) } }

/-- An away strand is ready to resume (R342): by force at once, a VAPND with it; a wait on DCLKW once it has ended; a halted one waits for the debugger. -/
def Strand.readyAway (t : Strand) : Bool :=
  match t.run with
  | .away k w =>
    !t.dbg && (k == .forced || (match w with | some w => w.deadline.onRun | none => true))
  | _ => false

/-- The strands on a core's wait list that have not started, eligible or not: the next one of each launch (R333). -/
def State.placedOn (s : State) (core : Nat) : List (Launch × Nat) :=
  (s.starter.live.filter (fun l => l.taken && l.stop.isNone)).filterMap (fun l => (s.nextK l core).map (fun k => (l, k)))

/-- The wait list of a core in its order, the next eligible strand of each launch on it (R335). -/
def State.waitList (s : State) (core : Nat) : List Cand :=
  let news := ((s.placedOn core).filter (fun e => s.eligible e.1 e.2)).map (fun e => Cand.fresh e.1 e.2)
  let aways := (s.all.filter (fun t => t.readyAway && t.id.core == core)).map Cand.away
  sortBy Cand.before (news ++ aways)

/-- A grant that keeps the recorded one for saves of kinds 2 and 3, so that no other G resumes such a strand (R397, R400). -/
def Strand.keepGrant (t : Strand) : Option Nat :=
  match t.run with
  | .away .yield _ => some t.grant
  | .away .forced _ => some t.grant
  | _ => none

/-- What a candidate would get now: slot, area, grant, lanes; an away strand gets its own slot number or none (R397, R400). DEDUCED, log entry 44. -/
def State.resources (s : State) (core : Nat) (c : Cand) : Option (Nat × Nat × Nat × Nat) :=
  let slots := s.freeSlots core
  let free := s.freeLanes core
  match c with
  | .fresh l _ =>
    match slots.head?, s.freeArea core l.queue l.ctx.areas, chooseGrant free (4 * 2 ^ l.packet.lanes) none with
    | some sl, some ar, some (g, m) => some (sl, ar, g, m)
    | _, _, _ => none
  | .away t =>
    if slots.contains t.id.slot then
      (chooseGrant free t.id.request t.keepGrant).map (fun gm => (t.id.slot, t.id.area, gm.1, gm.2))
    else none

/-- The first candidate that may start: one that cannot start holds back the strands of its class behind it (R335). DEDUCED, log entry 44. -/
def State.pick (s : State) (core : Nat) : List Cand → (held : List Nat) → Option (Cand × Nat × Nat × Nat × Nat)
  | [], _ => none
  | c :: r, held =>
    if held.contains c.key.1 then s.pick core r held
    else
      match s.resources core c with
      | some q => some (c, q)
      | none => s.pick core r (c.key.1 :: held)

/-! ### Starting and resuming (R54, R331, R332, R395, R397) -/

/-- The registers of a strand at start (R54, R331). -/
def startRegs (l : Launch) (core k area : Nat) : Vector Word 32 :=
  let first := BitVec.ofNat 64 (k * 2 ^ l.packet.w 0)
  let count := BitVec.ofNat 64 (Nat.min (2 ^ l.packet.w 0) (l.packet.count.toNat - k * 2 ^ l.packet.w 0))
  let n := l.ctx.areas * core + area
  let x : Vector Word 32 := Vector.replicate 32 0
  let x := (((x.set 1 first).set 2 count).set 3 l.id)
  let x := (upto 0 8).foldl (fun x i => x.setIfInBounds (4 + i) (l.packet.args.getD i 0)) x
  (x.set 29 (l.ctx.locbase + l.ctx.locsize * BitVec.ofNat 64 n)).set 30
    (l.ctx.stkbase + l.ctx.stksize * BitVec.ofNat 64 (n + 1))

/-- A strand at its start (R54, R331, R332). DESIGN CHOICE, log entry 8. -/
def startStrand (sid now : Nat) (l : Launch) (core k slot area g lanes : Nat) : Strand :=
  let x := startRegs l core k area
  { Strand.reset with
    id := {
      sid := sid, lid := l.id, index := k, first := x.getD 1 0, count := x.getD 2 0, queue := l.queue, order := l.order
      core := core, slot := slot, area := area
      save := l.ctx.savebase + BitVec.ofNat 64 (65536 * (l.ctx.areas * core + area))
      local0 := x.getD 29 0, cls := l.packet.cls, prio := l.packet.prio, publvl := l.packet.publvl
      request := 4 * 2 ^ l.packet.lanes, producer := l.packet.producer, depdl := l.packet.depdl
      asid := l.ctx.asid, deq := l.ctx.deq, lanes := BitVec.ofNat 32 lanes, since := now }
    pc := l.packet.entry
    x := x
    grant := g
    c := { Csrs.reset with
      widbase := x.getD 1 0, widcnt := x.getD 2 0, launchid := l.id
      sstatus := if l.ctx.sup then 3 else 0
      tvec := l.ctx.tvec &&& ~~~3#64, ptroot := l.ctx.ptroot &&& 0x0FFFFFFFFFFF0000#64, asid := l.ctx.asid.setWidth 64 }
    run := .running }

/-- `n` bytes of a strand's save area from an offset, without a tag check (R393). -/
def State.savedAt (s : State) (t : Strand) (off n : Nat) : Nat := ofBytes (Memory.bytes s.mem (physKey t.id.save + off) n)
def State.savedWord (s : State) (t : Strand) (i : Nat) : Word := BitVec.ofNat 64 (s.savedAt t (csrSlot i) 8)

/-- The control registers of a save area: region 0x180 (R393, R402). Outside a handler the trap registers are not there: free values from `n` on. DESIGN CHOICE, log entry 20. -/
def State.savedCsrs (s : State) (t : Strand) (n : Nat) : Csrs :=
  let w := s.savedWord t
  let st := w 28 &&& 15
  let h (i k : Nat) : Word := if st.getLsbD 2 then w i else Config.unsaved (n + k)
  { vl := w 1, vtype := w 2, vm := w 3, vstr := w 4, vstart := w 5, fcsr := w 6, tshape := w 7, ten := w 8, tpitch := w 9
    tprec := w 10, sigcfg := w 11, cgroup := w 12, cop := w 13, cstride := w 14, widbase := w 15, widcnt := w 16
    launchid := w 17, tocnt := w 18, dclkr := (w 19).setWidth 63, tlg := Vector.ofFn (fun (i : Fin 8) => w (20 + i.val))
    sstatus := st, ptroot := w 29, asid := w 30
    tcause := h 31 0 &&& 0x1FFF, tpc := h 32 1, tval := h 33 2, trec := h 34 3, epc := h 35 4, tvec := t.c.tvec }

/-- A stream binding of a save area; a remote one keeps what the core's stream buffer holds of it (R393, R398). DESIGN CHOICE, log entry 20. -/
def State.savedStream (s : State) (t : Strand) (i : Nat) : Option Stream :=
  let d : Vector Word 4 := Vector.ofFn (fun (k : Fin 4) => BitVec.ofNat 64 (s.savedAt t (0x300 + 64 * i + 8 * k.val) 8))
  if d = Vector.replicate 4 0 then none
  else
    let b := (t.streams.getD i none).getD ⟨d, 0, [], none, none, false, []⟩
    some { b with desc := d, count := s.savedAt t (0x320 + 64 * i) 8, ahead := [], pend := [] }

/-- The write log of a save area (R237, R393). -/
def State.savedLog (s : State) (t : Strand) : List Span :=
  (upto 0 64).filterMap (fun i => spanOf s.front.modnum (s.savedAt t (0x400 + 16 * i) 8) (s.savedAt t (0x408 + 16 * i) 8))

/-- A write log with the lines that another names as not turned written into it. -/
def addUnturned (own : BitVec 18) (log other : List Span) : List Span :=
  ((other.flatMap Span.parts).filter (fun p => p.level.isNone)).foldl
    (fun log p => (upto p.first (p.last - p.first)).foldl (logWrite own) log) log

/-- What the save area gives back (R393, R395, R396): the registers and the resumption address, region 0x180, the streams, the write log with what the strand's engine commands have written since (R259), the link record's entries as they stand there, and for kinds 2 and 3 the vector registers. DESIGN CHOICE, log entries 20, 37; DEDUCED, log entry 53. -/
def State.restore (s : State) (t : Strand) (k : SaveKind) (n : Nat) : Strand :=
  let own := s.front.modnum
  let d := s.savedWord t 38
  { t with
    x := Vector.ofFn (fun (i : Fin 32) => BitVec.ofNat 64 (s.savedAt t (0x80 + 8 * i.val) 8))
    pc := pcOf (BitVec.ofNat 64 (s.savedAt t 0x10 8))
    c := s.savedCsrs t n
    streams := Vector.ofFn (fun (i : Fin 4) => s.savedStream t i.val)
    wlog := addUnturned own (s.savedLog t) t.wlog
    link := t.link.filter (fun e => s.savedAt t (0x5000 + 16 * e.elem) 16 == ofBytes (e.bytes own))
    hold := if s.savedWord t 36 = 1 then some ⟨s.savedWord t 37, deadlineOf d, 0, 0, 0⟩ else none
    v := if k.vectors then Vector.ofFn (fun (r : Fin 32) => BitVec.ofNat 8192 (s.savedAt t (0x8000 + 1024 * r.val) (8 * t.grant))) else t.v }

/-- A strand back in its slot, with what its save area holds (R63, R75, R285, R286, R331, R397, R429); VL stays within the VLMAX of its grant, as R173 gives its range. DESIGN CHOICE, log entry 37; DEDUCED, log entry 53. -/
def State.resume (s : State) (t : Strand) (n : Nat) : Strand :=
  match t.run with
  | .restoring k w =>
    let saved := s.savedAt t 0x18 8
    let t := s.restore t k n
    let c := match s.launch t.id.lid with
      | some l => { t.c with ptroot := l.ctx.ptroot &&& 0x0FFFFFFFFFFF0000#64, asid := l.ctx.asid.setWidth 64 }
      | none => t.c
    let c := if vlmaxOf t.grant (ewOf c.vtype) < field c.vl 0 10 then { c with vl := BitVec.ofNat 64 (vlmaxOf t.grant (ewOf c.vtype)) } else c
    { t with
      c := c
      link := if s.now < saved + 640 then t.link else []
      run := match w with | some w => .waiting w | none => .running }
  | _ => t

/-- A strand comes back to its slot with a grant and lanes: the restore of its save area begins (R395, R397, R440). DESIGN CHOICE, log entry 78. -/
def State.comeBack (s : State) (t : Strand) (g lanes : Nat) : State :=
  match t.run with
  | .away k w => s.setStrand { t with
      run := .restoring k w, grant := g, id := { t.id with lanes := BitVec.ofNat 32 lanes, since := s.now }
      saveAt := s.now, again := false, request := none, aged := none, dbg := false }
  | _ => s

/-- The restore of a strand ends: its save area has been read, with fresh numbers for what it does not keep, and its header says that it is resident; a request that has come meanwhile finds its wait (R286, R393, R394, R395). DESIGN CHOICE, log entry 78. -/
def State.restoreEnd (s : State) (t : Strand) : State :=
  let s := ((s.touch (physKey t.id.save)).passes (pathFor (dieOf t.id.core) (homeDie (physKey t.id.save)) (physKey t.id.save))).decodesIn
    (physKey t.id.save / 64) (physKey t.id.save / 64 + 1024) 0 t.writer
  let s := s.drain t.id.sid (fun l => decide (physKey t.id.save / 64 ≤ l) && decide (l < physKey t.id.save / 64 + 1024))
  let n := s.fresh
  let s := { s with fresh := s.fresh + 5 }
  match s.strand t.id.sid with
  | some t => ((s.setStrand (s.resume t n)).saveWrite t 0x0B [0]).asStrand t.id.sid State.yieldInWait
  | none => s

def State.setDieState (s : State) (die v : Nat) : State :=
  { s with front := { s.front with diestate := setField s.front.diestate (2 * die) 2 v } }

/-- On exit from A3 every scratchpad block of the die reads as zero with state 5, and the tile stores read as zero (R36). DEDUCED, log entry 26. -/
def State.loseSpads (s : State) (die : Nat) : State :=
  let gone (key : Nat) : Bool := isSpad key && decide (keyCore key / 16 = die)
  let s := { s with
    mem := s.mem.filter (fun c => !gone c.1)
    tags := s.tags.filter (fun e => !gone (64 * e.1)) }
  s.onCores (fun k => if dieOf k.id = die then { k with cells := [], l0 := 0 } else k)

/-- A die leaves its state for another of lower code. -/
def State.leaveState (s : State) (die next : Nat) : State :=
  let s := if s.dieState die = 3 then s.loseSpads die else s
  s.setDieState die next

/-- A die that has not come to its target state within 1 ms is back in A0, tries no entry for 100 ms, and HOSTERR records KIND 7 (R457, R460). -/
def State.entryFailed (s : State) (die : Nat) : State :=
  ((s.leaveState die 0).onDie die (fun d => { d with phase := .steady, noEntry := s.now + 100000000 })).hosterr 7 0 (die * 2 ^ 37)

/-- The time of an entry that began at `t` is over (R457). -/
def State.entryLate (s : State) (t : Nat) : Bool := decide (t + 1000000 < s.now)

/-- A strand that starts on a die cancels the die's entry into a power state, unless its time is over (R37, R457). -/
def State.stayAwake (s : State) (die : Nat) : State :=
  match (s.dieAt die).phase with
  | .entering _ t => if s.entryLate t then s.entryFailed die else s.onDie die (fun d => { d with phase := .steady })
  | _ => s

/-- STRAND_START at a core: the first candidate that may start does (R335); a supervisor strand whose ENTRY is no target is lost, and one whose marker cannot be read takes the fault of its fetch (R332). On a failed die the launches of the strands that wait there fail (R458). -/
def State.startOne (s : State) (core : Nat) : State :=
  if (s.dieAt (dieOf core)).phase = .failed then (s.placedOn core).foldl (fun s e => s.failLaunch e.1.id 0x301) s
  else if !s.dieRuns (dieOf core) then s
  else
    match s.pick core (s.waitList core) [] with
    | none => s
    | some (.fresh l k, slot, area, g, m) =>
      let t := startStrand s.nextSid s.now l core k slot area g m
      let s := { s.stayAwake (dieOf core) with nextSid := s.nextSid + 1, strands := s.strands ++ [t] }
      let s := s.onLaunch l.id (fun q => { q with
        placed := (core, k) :: q.placed.filter (fun e => e.1 != core), started := q.started + 1 })
      let s := s.saveWrite t 0 (t.header .setvl t.pc 0 0 0)
      if l.ctx.sup then
        match s.target t.agent t.pc with
        | (.marked, s) => s
        | (.unread, s) => s.onStrand t.id.sid (fun t => { t with entry := true })
        | (.refused, s) => s.lose t.id.sid 0x011
      else s
    | some (.away t, _, _, g, m) =>
      (s.stayAwake (dieOf core)).comeBack t g m

end Sys2Proof.Machine
end

