-- ==== Sys2Proof/Machine/Waits.lean ====
section
/-! DEFINITION. WAITC, the WAITO family and the LAUNCH major (R287 to R306), and the conditions that the strand's own core can test. -/

namespace Sys2Proof.Machine

/-! ### Outstanding operations (R240, R287) -/

/-- The positions of the store instructions whose bytes an outbound entry holds. -/
def OutEntry.positions (e : OutEntry) : List Nat := e.ops.map Prod.fst

/-- The positions of the store instructions whose bytes have not updated their home's tag, those whose elements an output stream still holds among them, and of the VSCCs with unacknowledged invalidations (R232, R240, R246). -/
def State.storesOut (s : State) (t : Strand) : List Nat :=
  distinctNat (((s.coreAt t.id.core).outb.filter (fun e => e.sid == t.id.sid)).flatMap OutEntry.positions ++
    (s.homes.wnet.filter (fun f => f.entry.sid == t.id.sid && f.block.isNone)).flatMap (fun f => f.entry.positions) ++
    t.streams.toList.flatMap (fun o => match o with | some b => b.pend.map PendElem.pos | none => []) ++
    (s.homes.invals.filter (fun e => e.sid == t.id.sid && e.pos != 0)).map Inval.pos ++
    (s.homes.acks.filter (fun e => e.sid == t.id.sid && e.pos != 0)).map Inval.pos)

/-- The commands of a strand on the copy channels that have neither retired nor faulted (R251). -/
def State.copiesOut (s : State) (t : Strand) : Nat :=
  ((s.coreAt t.id.core).chans.toList.map (fun c => (c.queue.filter (fun q => q.sid == t.id.sid && !q.dead)).length)).foldl (· + ·) 0

/-- The engine commands of a strand that have not retired (R257). -/
def State.tilesOut (s : State) (t : Strand) : Nat :=
  ((s.coreAt t.id.core).eng.filter (fun e => e.sid == t.id.sid)).length

/-- The loads of a strand whose data has not been written. -/
def State.loadsOut (s : State) (t : Strand) : Nat := (s.homes.loads.filter (fun r => r.sid == t.id.sid)).length

/-- The four counts of WAITC: loads, stores, copies, engine commands. -/
def State.counts (s : State) (t : Strand) : List Nat :=
  [s.loadsOut t, (s.storesOut t).length, s.copiesOut t, s.tilesOut t]

/-- Whether a count lies within its limit; 15 places none (R287). -/
def withinLimit (limit n : Nat) : Bool := decide (limit = 15) || decide (n ≤ limit)

/-- VALUE of WAITC: each count saturated at 16,383 (R287). -/
def countsValue (cs : List Nat) : Nat := cs.foldl (fun v n => v * 2 ^ 14 + Nat.min n 16383) 0

/-- The outcome of WAITC (R287). -/
def countsOutcome (limits cs : List Nat) : Nat :=
  let ok := (limits.zip cs).map (fun p => withinLimit p.1 p.2)
  if ok.all id then oDONE
  else if ((limits.zip ok).filter (fun p => p.1 ≠ 15)).any (fun p => p.2) then oPARTIAL
  else oTIMEOUT

/-- The classes of R240 with nothing outstanding: a contribution joins its round as it issues, so collectives are complete. -/
def State.classesDone (s : State) (t : Strand) : Nat :=
  (if s.loadsOut t = 0 then 1 else 0) + (if s.storesOut t = [] then 2 else 0) +
  (if s.copiesOut t = 0 then 4 else 0) + (if s.tilesOut t = 0 then 8 else 0) + 16

/-- The outcome of FENCE over a mask (R240). -/
def fenceOutcome (mask done : Nat) : Nat :=
  if done &&& mask = mask then oDONE else if done &&& mask = 0 then oTIMEOUT else oPARTIAL

/-- Records of the classes of a FENCE mask (R240, R384, R389). -/
def Record.ofClasses (mask : Nat) (r : Record) : Bool :=
  match r.unit.toNat with
  | 0 => mask / 2 % 2 = 1
  | 1 => mask / 4 % 2 = 1
  | 2 => mask / 8 % 2 = 1
  | 3 => mask / 16 % 2 = 1
  | 4 => mask / 4 % 2 = 1
  | _ => false

/-! ### The conditions that the core tests itself -/

/-- A command's scratchpad range contains an offset (R251, R293). -/
def CopyCmd.covers (c : CopyCmd) (off : Nat) : Bool :=
  decide (selector c.dst = 0xE0) && decide (field c.dst 0 23 ≤ off) && decide (off < field c.dst 0 23 + c.bytes)

/-- The state of a WAITW (R293): its status, or none while it goes on. -/
def Chan.waited (c : Chan) (off : Nat) : Option Word :=
  let wm := field c.wm 0 24
  if off < wm ∨ !(c.queue.any (fun q => q.covers off)) then some (status oDONE 0 wm)
  else if (match c.queue.head? with | some h => h.dead | none => false) then some (status oTIMEOUT 8 wm)
  else none

/-- What LWAIT or LCANCEL returns for a launch that has retired (R306). -/
def retireStatus (cancel : Bool) (r : Retired) : Word :=
  if cancel then (if field r.status 0 3 = oWITHDRAWN then r.status else status oLATE 0 0) else r.status

/-- The status of a wait whose condition holds now; object waits and the wait for queue room are not tested here. -/
def State.localTry (s : State) (t : Strand) (w : WaitFor) : Option Word :=
  match w with
  | .counts a b c d =>
    let cs := s.counts t
    if countsOutcome [a, b, c, d] cs = oDONE then some (status oDONE 0 (countsValue cs)) else none
  | .fence m =>
    let done := s.classesDone t
    if fenceOutcome m.toNat done = oDONE then some (status oDONE 0 m.toNat) else none
  | .channel ch off => ((s.coreAt t.id.core).chans.getD ch Chan.reset).waited off
  | .round slot =>
    let u := t.slotUse slot
    if u.staged then some (status oDONE 0 (u.rounds % 2 ^ 32)) else none
  | .retire id cancel => (s.retiredOf id).map (retireStatus cancel)
  | _ => none

/-- The status of such a wait at its expiry (R431). DESIGN CHOICE, log entry 86. -/
def State.localEnd (s : State) (t : Strand) (w : WaitFor) : Word :=
  match w with
  | .counts a b c d =>
    let cs := s.counts t
    status (countsOutcome [a, b, c, d] cs) 0 (countsValue cs)
  | .fence m =>
    let done := s.classesDone t
    status (fenceOutcome m.toNat done) 0 (done &&& m.toNat)
  | .channel ch _ => status oTIMEOUT 0 (field ((s.coreAt t.id.core).chans.getD ch Chan.reset).wm 0 24)
  | .round slot => status oTIMEOUT 0 ((t.slotUse slot).rounds % 2 ^ 32)
  | .queueRoom _ _ => status oTIMEOUT 2 0
  | _ => status oTIMEOUT 0 0

/-- A wait that the core tests begins (R281, R286). -/
def State.localWait (s : State) (word : InsnWord) (d : Reg) (op : Word) (w : WaitFor) : Out :=
  match s.localTry s.cur w with
  | some st => .next (s.finish d st (s.isPoll op))
  | none =>
    if s.isPoll op then .next (s.finish d (s.localEnd s.cur w) true)
    else .next (s.startWait word d (s.deadline op) w none)

/-- The operand record of an instruction whose home object stands on a failed die (R389, R404, R458). -/
def objRecord (s : State) (word : InsnWord) (tval : Word) : Record where
  cause := 0x301
  tval := tval
  pc := s.cur.pc
  word := word
  unit := 4
  chan := 0
  seq := 0
  opa := s.rx (word.extractLsb' 16 5)
  opb := s.rx (word.extractLsb' 11 5)
  opc := if word.extractLsb' 26 6 = 0x22 then 0 else s.rx (word.extractLsb' 6 5)
  opd := s.rx (word.extractLsb' 21 5)
  vl := s.cur.c.vl.setWidth 16
  vtype := s.cur.c.vtype.setWidth 8
  tshape := 0
  extra := 0
  pos := s.cur.pos
  at_ := 0
  ring := 16
  given := false

/-- A home object that an instruction cannot read: the trap of the cause, but a record for 0x301, after which nothing answers the instruction and it waits out its deadline (R404, R458). DESIGN CHOICE, log entry 69. -/
def State.objFault (s : State) (word : InsnWord) (d : Reg) (op : Word) (x : XFault) : Out :=
  if x.cause = 0x301 then
    (s.addReached s.cur.id.sid (objRecord s word x.tval)).localWait word d op .lost
  else s.trapX x

/-! ### The end of a wait, in place or away (R286) -/

/-- DETAIL 9 in a status: the wait ended while the strand was away (R284, R286). VAPND is no wait of that chapter. DEDUCED, log entry 48. -/
def awayStatus (word : InsnWord) (st : Word) : Word := if word.extractLsb' 26 6 = 0x22 then st else setField st 3 5 9

/-- A strand's scalar register in its save area. -/
def State.saveReg (s : State) (t : Strand) (r : Reg) (v : Word) : State :=
  if r = 0 then s else s.saveWrite t (0x80 + 8 * r.toNat) (toBytes 8 v.toNat)

/-- The end of a wait of a strand that is away or being saved: its registers, TOCNT and what the save area holds of them and of the wait, and an escalation trap kept for its resumption; TOCNT of a halted strand does not change (R285, R286, R444). DEDUCED, log entry 48. -/
def State.endAway (s : State) (t : Strand) (w : WaitRec) (e : WaitEnd) (run : Run) : State :=
  let st := awayStatus w.word e.status
  let (n, esc) := countTimeout t.c.tocnt (s.coreAt t.id.core).escal st t.dbg
  let s := match e.datum with | some (c, v) => s.saveReg t c v | none => s
  let s := (s.saveReg t w.d st).saveWrite t 0x10 (toBytes 8 (t.pc + 4).toNat)
  let s := ((s.saveCsr t 0 (t.pc + 4)).saveCsr t 18 n).saveCsr t 39 0
  let t' := (t.takeEnd e.datum e.elems).wx w.d st
  s.setStrand { t' with pc := t.pc + 4, c := { t.c with tocnt := n }, escal := if esc then some t.pc else none, run := run, id := { t.id with since := match run with | .away _ _ => s.now | _ => t.id.since } }

/-- A VAPND that has waited is complete, and clears VSTART and the counters (R176, R247, R392). DEDUCED, log entry 19. -/
def Strand.waited (t : Strand) (w : WaitRec) : Strand := if w.word.extractLsb' 26 6 = 0x22 then t.vdone else t

/-- A wait ends with a status, a datum and elements (R285, R286, R288). DEDUCED, log entries 35, 48. -/
def State.endWait (s : State) (sid : Nat) (e : WaitEnd) : State :=
  match e.bad, s.strand sid with
  | some c, _ => s.ringFault sid c
  | none, none => s
  | none, some t =>
    match t.run with
    | .waiting w => s.asStrand sid (fun s =>
        (({ s with cur := ({ s.cur with run := .running }.waited w).takeEnd e.datum e.elems }).finish w.d e.status false).stepDone)
    | .saving k (some w) => s.endAway t w e (.saving k none)
    | .away k (some w) => s.endAway t w e (.away k none)
    | .restoring k (some w) => s.endAway t w e (.restoring k none)
    | _ => s

/-! ### WAITC, WAITW, CWAIT -/

/-- The classes of R240 that a WAITC limits: stores, copies, engine commands (R287). -/
def limitMask (s c t : Nat) : Nat := (if s = 15 then 0 else 2) + (if c = 15 then 0 else 4) + (if t = 15 then 0 else 8)

/-- WAITC (R287). -/
def execWaitc (d a : Reg) (l s' c t : BitVec 4) (s : State) : Out :=
  s.waitPoint (Record.ofClasses (limitMask s'.toNat c.toNat t.toNat)) (fun s =>
    s.placeStreams.localWait (mkI 0x2C d a (l ++ s' ++ c ++ t)) d (s.rx a) (.counts l.toNat s'.toNat c.toNat t.toNat))

/-- WAITW (R293). -/
def execWaitw (d a b c : Reg) (s : State) : Out :=
  s.preemptPoint .wait (fun s =>
    let ch := s.rx b
    let o := s.rx c
    if field ch 3 61 ≠ 0 then s.trap 0x200 ch
    else if (selector o ≠ 0 ∧ selector o ≠ 0xE0) ∨ field o 23 33 ≠ 0 then s.trap 0x200 o
    else s.localWait (mkQ 0x2D d a b c 0) d (s.rx a) (.channel ch.toNat (field o 0 23)))

/-- CWAIT (R303); it delivers the record of a failed round of its slot (R358). DEDUCED, log entry 40. -/
def execCwait (d a c : Reg) (s : State) : Out :=
  s.waitPoint (Record.ofSlots s.cur.groupNum [field (s.rx c) 0 8]) (fun s =>
    if field (s.rx c) 8 56 ≠ 0 then s.trap 0x206 s.cur.c.cgroup
    else
      match s.myGroup with
      | (.error x, s) => s.trapX x
      | (.ok g, s) =>
        if g.slots ≤ field (s.rx c) 0 8 then s.trap 0x206 s.cur.c.cgroup
        else s.localWait (mkQ 0x2D d a 0 c 11) d (s.rx a) (.round (field (s.rx c) 0 8)))

/-! ### Turning under a deadline (R259, R291) -/

/-- TST and SIGST commands of the strand that have not written lines [first, last) yet; a turn over them waits (R259). -/
def State.engStoresIn (s : State) (first last : Nat) : Bool :=
  s.core.eng.any (fun e => e.sid == s.cur.id.sid && e.writesIn s.core.id first last)

/-- TST and SIGST commands of the strand that have not written yet; a turn of all its writes waits for them (R259). -/
def State.engStores (s : State) : Bool :=
  s.core.eng.any (fun e => e.sid == s.cur.id.sid && (e.op == .tst || e.op == .sigst))

/-- An instruction waits at issue under the deadline that it formed there (R281). -/
def State.stallUnder (s : State) (op : Word) : Out :=
  { s with cur := { s.cur with due := some (s.dueOf op) } }.stallHere

/-- A turning operation: first the strand's engine stores, under the deadline (R259). DEDUCED, log entry 30. -/
def State.turning (s : State) (op : Word) (out : Bool) (late : State → Out) (k : State → Out) : Out :=
  if !out then k s else if s.spent op then late s else s.stallUnder op

/-! ### Barriers (R294 to R297) -/

/-- The operations of R291: the object read, its level, the turn, and the second visit. `k` receives the object's key and line at the second visit. -/
def State.turnThen (s : State) (word : InsnWord) (d : Reg) (op va : Word) (type : Nat) (k : State → Nat → Line → Out) : Out :=
  match s.readObj s.me va type with
  | (.error x, s) => s.objFault word d op x
  | (.ok (_, line), s) =>
    let lvl := oLvl line
    s.turning op s.engStores (fun s => .next (s.finish d (status oTIMEOUT 4 0) (s.isPoll op))) (fun s =>
      match s.turnLog lvl (s.spent op) with
      | (n, false, s) => .next (s.finish d (status oTIMEOUT 4 n) (s.isPoll op))
      | (_, true, s) =>
        match s.readObj s.me va type with
        | (.error x, s) => s.objFault word d op x
        | (.ok (key, line), s) => if lvl < oLvl line then s.trap 0x186 va else k s key line)

/-- An arrival at the barrier: 0x186 when every arrival of the phase is in (R296). -/
def arrive (line : Line) : Option Line :=
  if lfield line 0xC 4 = lfield line 8 4 then none else some (lset line 0xC 4 (lfield line 0xC 4 + 1))

/-- BARW (R296). -/
def execBarw (d a b c : Reg) (s : State) : Out :=
  s.waitPoint (fun _ => true) (fun s =>
    let va := s.rx b
    match s.readObj s.me va 1 with
    | (.error x, s) => s.objFault (mkQ 0x2D d a b c 1) d (s.rx a) x
    | (.ok (key, _), s) =>
      s.objWait (mkQ 0x2D d a b c 1) d (s.rx a) (.phase key ((s.rx c).extractLsb' 0 32)) (fun s w => s.timeoutEnd s.me w))

/-- BARA (R296). -/
def execBara (d a b : Reg) (s : State) : Out :=
  s.waitPoint (fun _ => true) (fun s =>
    let va := s.rx b
    let op := s.rx a
    s.turnThen (mkQ 0x2D d a b 0 2) d op va 1 (fun s key line =>
      match arrive line with
      | none => s.trap 0x186 va
      | some line' =>
        .next ((s.putBarrier key line').finish d (status oDONE 0 (lfield line 4 4)) (s.isPoll op))))

/-- The withdrawal of a BARAW's arrival (R297): the status, and the barrier after it. -/
def State.withdraw (s : State) (key : Nat) (p : BitVec 32) : Word × State :=
  let line := s.line (key / 64)
  let ph := lfield line 4 4
  if ph = p.toNat then
    (status oWITHDRAWN 0 ph, s.putBarrier key (lset line 0xC 4 (lfield line 0xC 4 - 1)))
  else (status oLATE 0 ph, s)

/-! ### A strand stopped where it stands (R339, R402, R444) -/

/-- The wake-ups on their way to a strand are discarded. -/
def State.dropWakes (s : State) (sid : Nat) : State :=
  { s with homes := { s.homes with wakes := s.homes.wakes.filter (fun q => q.sid != sid) } }

/-- A wait in a handler that the strand gives up, to execute it again: its registration leaves its home and a BARAW's arrival is taken back; one that its home has performed ends instead with what the home sent (R297, R339, R402). DEDUCED, log entry 19. -/
def State.abandon (s : State) (w : WaitRec) : State :=
  let sid := s.cur.id.sid
  let ends (s : State) (e : WaitEnd) : State :=
    (({ s with cur := ({ s.cur with run := .running }).takeEnd e.datum e.elems }).finish w.d e.status false)
  let s' := { (s.dropWakes sid).unregister sid with cur := { s.cur with run := .running } }
  match (if w.withdrawn then none else s.homes.wakes.find? (fun q => q.sid == sid)), w.what with
  | some q, _ => ends s' { status := q.status, datum := q.datum, elems := q.elems }
  | none, .arrival obj p =>
    let (st, s') := s'.withdraw obj p
    if w.expired then ends s' { status := st } else s'
  | none, _ => s'

/-- The strand stops where it stands, by a save of kind 1 with the wait pending in a wait outside a handler, and of kind 3 otherwise; an instruction that is blocked and has taken no effect is abandoned, a FENCE and a VAPND that has appended nothing among them, and one that has appended keeps its registration, or in a handler, where no wait is saved as pending, ends with the count that it has appended (R247, R339, R402, R444); a VST part-way at the 8 µs is saved with kind 3 (R400). DEDUCED, log entry 19; DESIGN CHOICE, log entry 80. -/
def State.force (s : State) : State :=
  match s.cur.run with
  | .waiting w =>
    if w.what.begun && s.cur.nest then
      let (e, u) := (s.unregister s.cur.id.sid).timeoutEnd s.me w.what
      let u := { u with cur := ({ u.cur with run := .running }).takeEnd e.datum e.elems }.finish w.d e.status false
      match u.cur.run with
      | .running => u.beginSave .forced none u.cur.pc
      | _ => u
    else if w.what.begun then s.beginSave .forced (some w) s.cur.pc
    else if !s.cur.nest && w.what.isPoint then s.beginSave .wait (some w) s.cur.pc
    else
      let s := s.abandon w
      match s.cur.run with
      | .running => s.beginSave .forced none s.cur.pc
      | _ => s
  | .restoring k w => { s with cur := { s.cur with run := .away k w } }
  | .saving _ _ => s
  | _ => s.beginSave .forced none s.cur.pc

/-- BARAW (R296, R297). -/
def execBaraw (d a b : Reg) (s : State) : Out :=
  s.waitPoint (fun _ => true) (fun s =>
    let va := s.rx b
    let op := s.rx a
    s.turnThen (mkQ 0x2D d a b 0 3) d op va 1 (fun s key line =>
      match arrive line with
      | none => s.trap 0x186 va
      | some line' =>
        let p := BitVec.ofNat 32 (lfield line 4 4)
        (s.putBarrier key line').objWait (mkQ 0x2D d a b 0 3) d op (.arrival key p)
          (fun s _ => let (st, s) := s.withdraw key p; ({ status := st }, s))))

/-- BAREXP (R296): PENDBYTES saturates at 2^64 − 1. -/
def execBarexp (d a b c : Reg) (s : State) : Out :=
  s.waitPoint (fun _ => true) (fun s =>
    let va := s.rx b
    match s.readObj s.me va 1 with
    | (.error x, s) => s.objFault (mkQ 0x2D d a b c 4) d (s.rx a) x
    | (.ok (key, line), s) =>
      let pend := Nat.min (lfield line 0x18 8 + (s.rx c).toNat) (2 ^ 64 - 1)
      let line' := lset (lset line 0x18 8 pend) 2 2 0
      let s := s.putBarrier key line'
      .next (s.finish d (status oDONE 0 (lfield (barrierSettle line') 4 4)) (s.isPoll (s.rx a))))

/-! ### Queues (R298, R299) -/

/-- QSEND (R299). -/
def execQsend (d a b c : Reg) (s : State) : Out :=
  s.preemptPoint .wait (fun s =>
    let va := s.rx b
    let op := s.rx a
    s.turnThen (mkQ 0x2D d a b c 5) d op va 2 (fun s key _ =>
      s.objWait (mkQ 0x2D d a b c 5) d op (.room key 2 (s.rx c)) (fun s w => s.timeoutEnd s.me w)))

/-- QRECV (R299). -/
def execQrecv (d a b c : Reg) (s : State) : Out :=
  s.preemptPoint .wait (fun s =>
    let va := s.rx b
    match s.readObj s.me va 2 with
    | (.error x, s) => s.objFault (mkQ 0x2D d a b c 6) d (s.rx a) x
    | (.ok (key, _), s) =>
      s.objWait (mkQ 0x2D d a b c 6) d (s.rx a) (.entry key c) (fun s w => s.timeoutEnd s.me w))

/-- APWAIT (R299). -/
def execApwait (d a b c : Reg) (s : State) : Out :=
  s.preemptPoint .wait (fun s =>
    if s.cur.ew ≠ 64 then s.trap 0x101 s.cur.c.vtype
    else
      let va := s.rx b
      match s.readObj s.me va 3 with
      | (.error x, s) => s.objFault (mkQ 0x2D d a b c 10) d (s.rx a) x
      | (.ok (key, _), s) =>
        s.objWait (mkQ 0x2D d a b c 10) d (s.rx a) (.batch key c s.cur.vl) (fun s w => s.timeoutEnd s.me w))

/-! ### Task deques (R300, R344) -/

/-- The strand owns a deque (R300). -/
def Strand.owns (t : Strand) (line : Line) : Bool :=
  decide (lfield line 0x18 8 = t.c.launchid.toNat) && decide (lfield line 0x20 8 = t.id.first.toNat)

/-- TASKADD (R300). -/
def execTaskadd (d a b c : Reg) (s : State) : Out :=
  s.preemptPoint .wait (fun s =>
    let va := s.rx b
    let op := s.rx a
    match s.readObj s.me va 4 with
    | (.error x, s) => s.objFault (mkQ 0x2D d a b c 7) d op x
    | (.ok (_, line), s) =>
      if !s.cur.owns line then s.trap 0x187 va
      else s.turnThen (mkQ 0x2D d a b c 7) d op va 4 (fun s key line =>
        if !s.cur.owns line then s.trap 0x187 va
        else s.objWait (mkQ 0x2D d a b c 7) d op (.room key 4 (s.rx c)) (fun s w => s.timeoutEnd s.me w)))

/-- TASKTAKE (R300): from the tail, never waiting. -/
def execTasktake (d a b c : Reg) (s : State) : Out :=
  s.preemptPoint .wait (fun s =>
    let va := s.rx b
    let poll := s.isPoll (s.rx a)
    match s.readObj s.me va 4 with
    | (.error x, s) => s.objFault (mkQ 0x2D d a b c 8) d (s.rx a) x
    | (.ok (key, line), s) =>
      if !s.cur.owns line then s.trap 0x187 va
      else if qCount line = 0 then .next (s.finish d (status oTIMEOUT 1 (qValue line)) poll)
      else
        let tail := (lfield line 8 4 + 2 ^ 28 - 1) % 2 ^ 28
        let rk := ringKey key line tail
        let s := s.decodes (rk / 64) 0 s.cur.writer
        match s.ringOk s.me rk with
        | .error e => s.trap e.1 e.2
        | .ok () =>
          let v := BitVec.ofNat 64 (lfield (s.line (rk / 64)) (rk % 64) 8)
          let line := lset line 8 4 tail
          let s := (s.putObj key line).serve key
          .next ((s.wx c v).finish d (status oDONE 0 (qValue line)) poll))

/-- A thief removes from the head of a deque: the datum and the deque after it; none when it is empty (R300). DEDUCED, log entry 49. -/
def State.steal (s : State) (key : Nat) (line : Line) : Except RingFault (Option (Word × Line)) × State :=
  if qCount line = 0 then (.ok none, s)
  else
    match s.qPop s.me key line with
    | (.error e, s) => (.error e, s)
    | (.ok r, s) => (.ok (some r), s.serve key)

/-- The order of R344 over the candidate strands. DEDUCED, log entry 49. -/
def stealBefore (me : Ident) (x y : Ident) : Bool :=
  let key (i : Ident) : Nat × Nat × Nat × Nat :=
    let die := dieOf i.core
    let c := (i.core % 16 + 16 - (me.core % 16 + 1) % 16) % 16
    (dieHops (dieOf me.core) die, die, c, i.area)
  let p := key x
  let q := key y
  decide (p.1 < q.1) || (decide (p.1 = q.1) && (decide (p.2.1 < q.2.1) || (decide (p.2.1 = q.2.1) &&
    (decide (p.2.2.1 < q.2.2.1) || (decide (p.2.2.1 = q.2.2.1) && decide (p.2.2.2 < q.2.2.2))))))

/-- The candidates of a searching TASKSTEAL: started, unended strands of the thief's launch, the thief excluded (R344). DEDUCED, log entry 49. -/
def State.victims (s : State) : List Ident :=
  sortBy (stealBefore s.cur.id)
    ((s.strands.filter (fun t => t.live && t.id.lid == s.cur.id.lid)).map Strand.id)

/-- Whether a TASKSTEAL that finds its deque empty lost the last entry to another remover, one that came after the search had reached the deque: as the schedule says (R300). DESIGN CHOICE, log entry 73. -/
def State.raced (s : State) : Bool × State :=
  (s.sched.races.headD false, { s with sched := { s.sched with races := s.sched.races.drop 1 } })

/-- How a search ended: what it took, or whether a probe lost a race; or where it stands (R344). -/
inductive Found where
  | task (v : Word) (d : Line)
  | nothing (lost : Bool)
  | paused (at_ : Ident) (lost : Bool)
deriving DecidableEq, Repr

/-- The search of R344: each deque probed once, one that would raise a fault skipped; `cut` is the number of probes before the deadline, `pause` those before the search goes on in a later step. DEDUCED, log entry 49; DESIGN CHOICE, log entry 3. -/
def State.searchSteal (s : State) : List Ident → (cut pause : Option Nat) → (lost : Bool) → Found × State
  | [], _, _, lost => (.nothing lost, s)
  | _ :: _, some 0, _, _ => (.nothing false, s)
  | i :: r, cut, pause, lost =>
    let cut := cut.map (· - 1)
    let on (s : State) (lost : Bool) : Found × State :=
      match pause with
      | none => s.searchSteal r cut none lost
      | some 0 => (.paused i lost, s)
      | some (n + 1) => s.searchSteal r cut (some n) lost
    match s.readObj s.me i.local0 4 with
    | (.error _, s) => on s lost
    | (.ok (key, line), s) =>
      match s.steal key line with
      | (.ok (some p), s) => (.task p.1 p.2, s)
      | (.ok none, s) =>
        let (l, s) := s.raced
        on s (lost || l)
      | (.error _, s) => on s lost

/-- The deques that a search has still to probe, and whether a probe has lost a race: strands that have started or ended since its last step count as they stand now (R344). DEDUCED, log entry 49. -/
def State.toProbe (s : State) : List Ident × Bool :=
  match s.cur.search with
  | none => (s.victims, false)
  | some (i, lost) => (s.victims.filter (stealBefore s.cur.id i), lost)

/-- DETAIL of a TASKSTEAL that took nothing (R284, R300). -/
def stealDetail (lost : Bool) : Nat := if lost then 7 else 1

/-- TASKSTEAL (R300, R344). DESIGN CHOICE, log entry 86. -/
def execTasksteal (d a b c : Reg) (s : State) : Out :=
  s.preemptPoint .wait (fun s =>
    let va := s.rx b
    let poll := s.isPoll (s.rx a)
    if va = 0 then
      if !s.cur.id.deq then .next (s.finish d (status oTIMEOUT 1 0) poll)
      else
        let (cut, s) := if poll then (none, s) else s.turnBudget (s.cur.search.isSome && s.spent (s.rx a))
        let (ids, lost) := s.toProbe
        let pause := s.sched.pause
        let s := { s with cur := { s.cur with search := none }, sched := { s.sched with pause := none } }
        match s.searchSteal ids cut pause lost with
        | (.task v line, s) => .next ((s.wx c v).finish d (status oDONE 0 (qValue line)) poll)
        | (.nothing lost, s) => .next (s.finish d (status oTIMEOUT (stealDetail lost) 0) poll)
        | (.paused i lost, s) => ({ s with cur := { s.cur with search := some (i, lost) } }).stallUnder (s.rx a)
    else
      match s.readObj s.me va 4 with
      | (.error x, s) => s.objFault (mkQ 0x2D d a b c 9) d (s.rx a) x
      | (.ok (key, line), s) =>
        match s.steal key line with
        | (.error e, s) => s.trap e.1 e.2
        | (.ok none, s) =>
          let (lost, s) := s.raced
          .next (s.finish d (status oTIMEOUT (stealDetail lost) (qValue line)) poll)
        | (.ok (some (v, line)), s) => .next ((s.wx c v).finish d (status oDONE 0 (qValue line)) poll))

/-! ### LAUNCH, LWAIT, LCANCEL (R304 to R306) -/

/-- Whether LAUNCH may use a queue: a usable context of the issuer's ASID, and no supervisor context for a user strand (R305, R332). -/
def State.launchContext (s : State) (n : Nat) : Option Context × State :=
  if 256 ≤ n then (none, s)
  else
    match s.context n with
    | (.error _, s) => (none, s)
    | (.ok c, s) => (if c.asid ≠ s.cur.id.asid ∨ (c.sup ∧ !s.cur.sup) then none else some c, s)

/-- A packet submitted to a queue with room: the child's id in VALUE (R304). -/
def State.submit (s : State) (n : Nat) (c : Context) (b : List Byte) : Word × State :=
  let (id, s) := s.accept n c b none
  (status oDONE 0 (id.toNat % 2 ^ 46), s)

/-- The bytes of a packet (R46). -/
def Packet.bytes (p : Packet) : List Byte :=
  toBytes 8 p.entry.toNat ++ toBytes 8 p.count.toNat ++ toBytes 8 p.ctrl.toNat ++ toBytes 8 p.producer.toNat ++
  toBytes 8 p.depdl.toNat ++ toBytes 24 0 ++ p.args.toList.flatMap (fun w => toBytes 8 w.toNat)

/-- The Starter's checks of a LAUNCH in their order: queue and context, packet, room (R305). None: it waits for room. -/
def State.tryLaunch (s : State) (n : Nat) (b : List Byte) : Option Word × State :=
  match s.launchContext n with
  | (none, s) => (some (status oWITHDRAWN 5 0), s)
  | (some c, s) =>
    let p := packetOf b
    if s.malformed b ∨ p.w 4 ≠ 0 ∨ p.w 5 ≠ 0 then (some (status oWITHDRAWN 3 0), s)
    else if s.credits n = 0 then (none, s)
    else
      let (st, s) := s.submit n c b
      (some st, s)

/-- The 128 bytes of a packet as two loads of a line each (R305). -/
def State.loadPacket (s : State) (va : Word) : Except XFault (List Byte) × State :=
  match s.loadAt s.me va 64 with
  | (.error x, s) => (.error x, s)
  | (.ok lo, s) =>
    match s.loadAt s.me (va + 64) 64 with
    | (.error x, s) => (.error x, s)
    | (.ok hi, s) => (.ok (toBytes 64 lo ++ toBytes 64 hi), s)

/-- LAUNCH (R305). -/
def execLaunch (d a b c : Reg) (s : State) : Out :=
  s.preemptPoint .wait (fun s =>
    let va := s.rx b
    let op := s.rx a
    let n := (s.rx c).toNat
    if va.toNat % 64 ≠ 0 then s.trap 0x086 va
    else
      s.turning op s.engStores (fun s => .next (s.finish d (status oTIMEOUT 4 0) (s.isPoll op))) (fun s =>
        match s.turnLog 3 (s.spent op) with
        | (k, false, s) => .next (s.finish d (status oTIMEOUT 4 k) (s.isPoll op))
        | (_, true, s) =>
          match s.loadPacket va with
          | (.error x, s) => s.trapX x
          | (.ok bytes, s) =>
            match s.tryLaunch n bytes with
            | (some st, s) => .next (s.finish d st (s.isPoll op))
            | (none, s) =>
              if s.isPoll op then .next (s.finish d (status oTIMEOUT 2 0) true)
              else .next (s.startWait (mkQ 0x2E d a b c 0) d (s.deadline op) (.queueRoom n (packetOf bytes)) none)))

/-- The launch id that LWAIT or LCANCEL names; none when it names another module (R306). -/
def State.launchName (s : State) (v : Word) : Option Word :=
  if field v 46 18 = 0 then some (v ||| BitVec.ofNat 64 (s.front.modnum.toNat * 2 ^ 46))
  else if field v 46 18 = s.front.modnum.toNat then some v
  else none

/-- The ASID of a launch that the Starter still knows. -/
def State.launchAsid (s : State) (id : Word) : Option (BitVec 16) :=
  match s.launch id with
  | some l => some l.ctx.asid
  | none => (s.retiredOf id).map Retired.asid

/-- The launch that an id names, when the strand may name it (R306). -/
def State.namedLaunch (s : State) (v : Word) : Option Word :=
  match s.launchName v with
  | none => none
  | some id => if s.launchAsid id = some s.cur.id.asid then some id else none

/-- LWAIT (R306). DESIGN CHOICE, log entry 86. -/
def execLwait (d a b : Reg) (s : State) : Out :=
  s.preemptPoint .wait (fun s =>
    match s.namedLaunch (s.rx b) with
    | none => .next (s.finish d (status oWITHDRAWN 6 0) (s.isPoll (s.rx a)))
    | some id => s.localWait (mkQ 0x2E d a b 0 1) d (s.rx a) (.retire id false))

/-- The cancellation applied at the Starter; a launch whose last HALT came first retires with DONE (R69, R306). DEDUCED, log entry 55. -/
def State.cancelLaunch (s : State) (id : Word) : State :=
  s.onLaunch id (fun l => if l.stop.isNone && decide (l.left ≠ 0) then { l with stop := some (true, 0) } else l)

/-- The last strand of a launch has ended, so the launch is retiring with DONE (R67, R69). DEDUCED, log entry 55. -/
def State.retiring (s : State) (id : Word) : Bool :=
  match s.launch id with
  | some l => l.stop.isNone && decide (l.left = 0)
  | none => false

/-- LCANCEL (R306): a launch that has retired already, or whose last HALT came first, is LATE. DEDUCED, log entry 55; DESIGN CHOICE, log entry 86. -/
def execLcancel (d a b : Reg) (s : State) : Out :=
  s.preemptPoint .wait (fun s =>
    match s.namedLaunch (s.rx b) with
    | none => .next (s.finish d (status oWITHDRAWN 6 0) (s.isPoll (s.rx a)))
    | some id =>
      if (s.retiredOf id).isSome || s.retiring id then .next (s.finish d (status oLATE 0 0) (s.isPoll (s.rx a)))
      else (s.cancelLaunch id).localWait (mkQ 0x2E d a b 0 2) d (s.rx a) (.retire id true))

end Sys2Proof.Machine
end

