-- ==== Sys2Proof/Machine/Memord.lean ====
section
/-! DEFINITION. TURN, TURNALL, FENCE and PUBLISH (R89 to R94, R235 to R241). -/

namespace Sys2Proof.Machine

/-- The first lines of a range that lie in write-log spans already turned at a level or above, and that no engine command has still to write: all that a turn with no time left finds done (R92, R259, R281). DEDUCED, log entry 56. -/
def settledLines (log : List Span) (late : Nat → Bool) (lvl first : Nat) : Nat → Nat
  | 0 => 0
  | n + 1 =>
    if !late first &&
        log.any (fun sp => decide (sp.base ≤ 64 * first) && decide (64 * first < sp.base + sp.size) && !sp.below lvl) then
      1 + settledLines log late lvl (first + 1) n
    else 0

/-- The fault of a TURN at a line that no packet reaches (R466). -/
def State.lostAt (s : State) (l : Nat) : XFault :=
  let g := BitVec.ofNat 64 (globalOf s.front.modnum (64 * l))
  ⟨0x300, g, g⟩

/-- What a TURN does on one contiguous piece: the lines done, whether all of them, the budget left, and the fault met at a line that is unreachable or whose packet is lost (R462, R466). Lines above those are untouched, one of the three conditions that R92 allows. DEDUCED, log entry 56; DESIGN CHOICE, log entry 3. -/
def State.turnPiece (s : State) (lvl : Nat) (all spent : Bool) (key n : Nat) (budget : Option Nat) :
    Nat × Bool × Option Nat × Option XFault × State :=
  let first := key / 64
  let m := (key + n + 63) / 64 - first
  match s.reachable s.cur.id.core key with
  | (false, s) => (0, false, budget, some (s.lostAt first), s)
  | (true, s) =>
    if spent then
      let q := settledLines s.cur.wlog (fun l => s.engStoresIn l (l + 1)) lvl first m
      (q, decide (q = m), budget, none, s)
    else
      let k := Nat.min m (budget.getD m)
      if keyModule key = 0 then (k, decide (k = m), budget.map (· - k), none, s.turnLines s.me lvl all first (first + k))
      else
        match s.turnFar s.me lvl all k first with
        | (q, true, s) => (q, false, budget.map (· - q), some (s.lostAt (first + q)), s)
        | (q, false, s) => (q, decide (q = m), budget.map (· - q), none, s)

/-- Lines done, in ascending order; one that begins where the latest ends extends it. -/
def addRange (rs : List (Nat × Nat)) (first n : Nat) : List (Nat × Nat) :=
  match rs with
  | (a, b) :: r => if b = first then (a, b + n) :: r else (first, first + n) :: rs
  | [] => [(first, first + n)]

/-- How a TURN over its region went: the lines done, their ranges [first, last), whether all were, and the fault met once every line below it was done. -/
structure TurnEnd where
  lines  : Nat
  ranges : List (Nat × Nat)
  all    : Bool
  fault  : Option XFault
deriving DecidableEq, Repr

/-- Nothing done yet. -/
def TurnEnd.start : TurnEnd := ⟨0, [], true, none⟩

/-- A piece added: `n` lines from `first` on done, and whether that is the whole piece. -/
def TurnEnd.more (e : TurnEnd) (first n : Nat) (ok : Bool) : TurnEnd :=
  ⟨e.lines + n, addRange e.ranges first n, ok, none⟩

/-- The turn stops at a fault. -/
def TurnEnd.stop (e : TurnEnd) (x : XFault) : TurnEnd := { e with all := false, fault := some x }

/-- The pages of a translated region in ascending order (R236). A fault names the first address of the page, or of the region when that is higher (R77). -/
def State.turnPages (s : State) (lvl : Nat) (all spent : Bool) (last : Nat) :
    (fuel : Nat) → (va : Nat) → (budget : Option Nat) → (done : TurnEnd) → TurnEnd × State
  | 0, _, _, done => (done, s)
  | fuel + 1, va, budget, done =>
    if last < va then (done, s)
    else
      match s.translate s.me (BitVec.ofNat 64 va) .either with
      | (.error x, s) =>
        let low := BitVec.ofNat 64 (Nat.max x.base.toNat va)
        (done.stop (if x.cause = 0x080 ∨ x.cause = 0x081 then { x with tval := low } else x), s)
      | (.ok key, s) =>
        let next := va / 65536 * 65536 + 65536
        let n := Nat.min next (last + 1) - va
        match s.turnPiece lvl all spent key n budget with
        | (q, _, _, some x, s) => ((done.more (key / 64) q false).stop x, s)
        | (q, false, _, none, s) => (done.more (key / 64) q false, s)
        | (q, true, b, none, s) => s.turnPages lvl all spent last fuel next b (done.more (key / 64) q true)

/-- The key of a region outside translated space, when all of it lies in its space (R70 to R72, R81, R236). DESIGN CHOICE, log entry 84. -/
def State.turnSpace (s : State) (base : Word) (len : Nat) : Except XFault Nat × State :=
  let last := base + BitVec.ofNat 64 (len - 1)
  match s.resolveAddr s.me base .either with
  | (.error x, s) => (.error x, s)
  | (.ok key, s) =>
    if selector base = 0xE4 ∧ field base 24 4 ≠ field last 24 4 then
      let e := (base &&& ~~~0x7FFFFF#64) + 0x800000
      (.error ⟨0x0A0, e, e⟩, s)
    else
      match s.resolveAddr s.me last .either with
      | (.error x, s) => (.error x, s)
      | (.ok _, s) => (.ok key, s)

/-- Bytes of a region whose lines are done, B of R92. -/
def turnedBytes (base : Word) (len : Nat) (e : TurnEnd) : Nat :=
  if e.all then len else Nat.min len (64 * e.lines - base.toNat % 64)

/-- The status of a turn from its bytes (R92). -/
def turnStatus (len b : Nat) : Word := status (if b = len then oDONE else if b = 0 then oTIMEOUT else oPARTIAL) 0 b

/-- The lines [first, last) of the write log's spans rise to a level, and with the last of its lines a span; at G it leaves the log (R237). -/
def raiseWithin (lvl : Nat) (log : List Span) (r : Nat × Nat) : List Span :=
  log.filterMap (fun sp =>
    if sp.below lvl then
      (let q := sp.raise lvl r.1 r.2
       if q.level = some 4 then none else some q)
    else some sp)

/-- The turn of a TURN's region, and the write log after it (R89, R94, R236, R237). -/
def State.turnRegion (s : State) (lvl : Nat) (all spent : Bool) (base : Word) (len : Nat) : TurnEnd × State :=
  let (b, s) := s.placeStreams.turnBudget spent
  let (e, s) :=
    if selector base = 0 then
      s.turnPages lvl all spent (base.toNat + len - 1) (len / 65536 + 2) base.toNat b TurnEnd.start
    else
      match s.turnSpace base len with
      | (.error x, s) => (TurnEnd.start.stop x, s)
      | (.ok key, s) =>
        match s.turnPiece lvl all spent key len b with
        | (q, _, _, some x, s) => ((TurnEnd.start.more (key / 64) q false).stop x, s)
        | (q, ok, _, none, s) => (TurnEnd.start.more (key / 64) q ok, s)
  (e, { s with cur := { s.cur with wlog := e.ranges.foldl (raiseWithin lvl) s.cur.wlog } })

/-- The lines of a region that engine commands may have still to write: those of a scratchpad (R259). -/
def State.turnOut (s : State) (base : Word) (len : Nat) : Bool :=
  if selector base = 0xE0 ∨ selector base = 0xE4 then
    let k := imageKey s.core.id base
    s.engStoresIn (k / 64) ((k + len + 63) / 64)
  else false

/-- A region that leaves its 56-bit field or lies in a space that no turn reaches (R236). -/
def turnOutside (base : Word) (len : Nat) : Bool :=
  decide (2 ^ 56 < field base 0 56 + len) ||
  !(selector base = 0 || selector base = 0xE0 || selector base = 0xE4 || selector base = 0xE8 || selector base = 0xF0)

/-- One line that a turn under way has turned, its invalidations still on their way (R89 steps 1 to 4, R92, R318); one that no packet reaches is left. DESIGN CHOICE, log entry 3. -/
def State.turnLineAhead (s : State) (a : Agent) (lvl : Nat) (all : Bool) (l : Nat) : State :=
  match s.crosses a.core a.writer (64 * l) 64 with
  | (false, s) => s
  | (true, s) =>
    let s := (((s.touch (64 * l)).decodes l 2 a.writer).passes (s.invalPaths (s.scopeDies lvl a.core) l (l + 1))).drain a.sid (fun q => q == l)
    let s := s.setTag l (turnedTag s.front.modnum a.writer lvl all l (s.tag l))
    if isSpad (64 * l) then s
    else
      let due := ((s.core :: s.cores).filter (fun k => within lvl a.core k.id && k.holds l)).map (fun k => Inval.mk k.id l a.sid 0)
      { s with homes := { s.homes with invals := s.homes.invals ++ due } }

/-- The line of an address that a TURN under way has turned (R89, R92). -/
def State.turnAhead (s : State) (lvl : Nat) (all : Bool) (va : Word) : State :=
  match s.resolveAddr s.me va .either with
  | (.error _, s) => s
  | (.ok key, s) => s.turnLineAhead s.me lvl all (key / 64)

/-- The first `n` lines of the write log that a turn under way at a level has turned before it is complete (R237, R318). DESIGN CHOICE, log entry 3. -/
def State.logFirst (s : State) (lvl n : Nat) : State :=
  if s.engStores then s
  else
    let s := s.placeStreams
    let lines := ((s.cur.wlog.filter (fun sp => sp.below lvl)).flatMap (fun sp => upto (sp.base / 64) (Nat.min n (sp.size / 64)))).take n
    lines.foldl (fun s l => s.turnLineAhead s.me lvl false l) s

/-- The first `n` lines of a TURN's region turned before the TURN is complete: the third of the conditions that R92 allows lines above its done prefix. DESIGN CHOICE, log entry 3. -/
def State.turnFirst (s : State) (b : Word) (len : Nat) (all : Bool) (l n : Nat) : State :=
  if len = 0 ∨ turnOutside b len ∨ (all ∧ (l < 3 ∨ !s.cur.sup)) ∨ s.turnOut b len then s
  else
    let lines := (b.toNat % 64 + len + 63) / 64
    (upto 0 (Nat.min n lines)).foldl (fun s i => s.turnAhead l all (BitVec.ofNat 64 (b.toNat / 64 * 64 + 64 * i))) s.placeStreams

/-- TURN (R236). A standing request stops its issue of lines as a deadline would and saves the strand at the TURN. DEDUCED, log entry 56. -/
def execTurn (d a b c : Reg) (l : BitVec 3) (s : State) : Out :=
  let base := s.rx a
  let len := field (s.rx b) 0 63
  let all := (s.rx b).getLsbD 63
  let op := s.rx c
  let poll := s.isPoll op
  let word := mkQ 0x24 d a b c (0#3 ++ l)
  if all && decide (l.toNat < 3) then s.trapWord 0x001 word
  else if all && !s.cur.sup then s.trapWord 0x002 word
  else if len = 0 then .next (s.finish d (status oDONE 0 0) poll)
  else if turnOutside base len then s.trap 0x084 base
  else if s.cur.mustYield then .next (s.beginSave .wait none s.cur.pc)
  else
    if s.turnOut base len && !s.spent op then s.stallUnder op
    else
      match s.turnRegion l.toNat all (s.spent op) base len with
      | (⟨_, _, _, some x⟩, s) => s.trapX x
      | (e, s) => .next (s.finish d (turnStatus len (turnedBytes base len e)) poll)

/-- The status of a turn of the write log (R239). -/
def logStatus (n : Nat) (ok : Bool) : Word := status (if ok then oDONE else if n = 0 then oTIMEOUT else oPARTIAL) 0 n

/-- TURNALL (R239). -/
def execTurnall (d c : Reg) (l : BitVec 3) (s : State) : Out :=
  let op := s.rx c
  s.turning op s.engStores (fun s => .next (s.finish d (status oTIMEOUT 0 0) (s.isPoll op))) (fun s =>
    match s.turnLog l.toNat (s.spent op) with
    | (n, ok, s) => .next (s.finish d (logStatus n ok) (s.isPoll op)))

/-- FENCE (R240). -/
def execFence (d a c : Reg) (s : State) : Out :=
  let mask := (s.rx a).extractLsb' 0 5
  s.deliverPoint (Record.ofClasses mask.toNat) (fun s =>
    s.placeStreams.localWait (mkQ 0x24 d a 0 c 0x10) d (s.rx c) (.fence mask))

/-- A strand's elements from its first up to `last`, declared complete: the declaration leaves for the Starter (R59). -/
def State.declareUpTo (s : State) (last : Nat) : State :=
  let first := s.cur.id.first.toNat
  let last := Nat.min last (first + s.cur.id.count.toNat)
  if first < last then
    { s with homes := { s.homes with decls := s.homes.decls ++ [⟨s.cur.id.core, s.cur.id.lid, first, last⟩] } }
  else s

/-- PUBLISH (R241). -/
def execPublish (d c : Reg) (s : State) : Out :=
  let op := s.rx c
  s.turning op s.engStores (fun s => .next (s.finish d (status oTIMEOUT 0 0) (s.isPoll op))) (fun s =>
    match s.turnLog s.cur.id.publvl (s.spent op) with
    | (n, false, s) => .next (s.finish d (logStatus n false) (s.isPoll op))
    | (_, true, s) =>
      let v := (s.cur.c.widbase - s.cur.id.first).toNat
      .next ((s.declareUpTo s.cur.c.widbase.toNat).finish d (status oDONE 0 v) (s.isPoll op)))

end Sys2Proof.Machine
end

