-- ==== Sys2Proof/Machine/Async.lean ====
section
/-! DEFINITION. COPY, COPYB and PUTQ, and what Harrier and the object homes do with them (R98 to R102, R248 to R252, R295, R423, R424). -/

namespace Sys2Proof.Machine

/-! ### Issue (R249, R250) -/

/-- A well-formed control word (R249). -/
def controlOk (c : Word) : Bool := decide (field c 7 57 = 0) && !c.getLsbD 3 && decide (field c 4 3 ≤ 4)

/-- The command's destination is the own scratchpad (R251). -/
def CopyCmd.spad (c : CopyCmd) : Bool := decide (selector c.dst = 0xE0)

/-- CHRNG as a command starts (R102, R251). -/
def CopyCmd.range (c : CopyCmd) : Word :=
  BitVec.ofNat 64 (2 ^ 63 + (if c.spad then 1 else c.lvl) * 2 ^ 60 + (if c.spad then 2 ^ 59 else 0) +
    c.bytes * 2 ^ 24 + (if c.spad then field c.dst 0 23 else 0))

/-- The head of a channel's queue starts, when there is one (R250, R251). -/
def Chan.begin_ (c : Chan) : Chan :=
  match c.queue with
  | [] => { c with busy := false, rng := c.rng &&& ~~~(1#64 <<< 63) }
  | h :: _ => { c with busy := true, rng := h.range, wm := if h.spad then BitVec.ofNat 64 (field h.dst 0 23) else 0 }

/-- Two ranges of `n` bytes in one space that intersect (R250). -/
def overlap (a b : Word) (n : Nat) : Bool :=
  selector a == selector b && decide (field a 0 56 < field b 0 56 + n) && decide (field b 0 56 < field a 0 56 + n)

/-- An ASYNC instruction (R248 to R250): kind 0 COPY, 1 COPYB, 2 PUTQ. DEDUCED, log entry 45. -/
def State.async (s : State) (word : InsnWord) (kind : Nat) (d a b : Reg) (obj : Word) : Out :=
  let ctl := s.rx d
  let dst := s.rx a
  let src := s.rx b
  let n := s.cur.vl * (s.cur.ew / 8)
  let ch := field ctl 0 3
  if !controlOk ctl then s.trap 0x200 ctl
  else if dst.toNat % (s.cur.ew / 8) ≠ 0 then s.trap 0x086 dst
  else if src.toNat % (s.cur.ew / 8) ≠ 0 then s.trap 0x086 src
  else
    match selectorFault s.cur.sup dst, selectorFault s.cur.sup src with
    | some x, _ => s.trapX x
    | none, some x => s.trapX x
    | none, none =>
      if n ≠ 0 ∧ overlap dst src n then s.trap 0x200 ctl
      else if n = 0 then s.ret d (status oDONE 0 0)
      else
        let c := s.core.chans.getD ch Chan.reset
        if 8 ≤ c.queue.length then s.ret d (status oTIMEOUT 0 0)
        else
          let s := s.bump
          let cmd : CopyCmd := {
            sid := s.cur.id.sid, writer := s.cur.writer, sup := s.cur.sup, kind := kind, dst := dst, src := src, obj := obj
            opd := ctl, bytes := n, lvl := field ctl 4 3, pc := s.cur.pc, word := word
            vl := BitVec.ofNat 16 s.cur.vl, vtype := s.cur.c.vtype.extractLsb' 0 8, dlcap := field s.core.dlcap 0 63
            asid := s.me.asid, ptroot := s.me.ptroot
            seq := (s.core.copySeq + 1) % 2 ^ 16, pos := s.cur.pos, done := [], sent := [], park := none, tried := 0, full := 0, dead := false, step := 0, turns := [] }
          let c := { c with queue := c.queue ++ [cmd] }
          let c := if c.queue.length = 1 then c.begin_ else c
          ({ s with core := { s.core with copySeq := cmd.seq, chans := s.core.chans.setIfInBounds ch c } }).ret d (status oDONE 0 c.queue.length)

/-- COPY (R248). -/
def execCopy (d a b : Reg) (s : State) : Out := s.async (mkQ 0x25 d a b 0 0) 0 d a b 0
/-- COPYB (R248, R252). -/
def execCopyb (d a b c : Reg) (s : State) : Out := s.async (mkQ 0x25 d a b c 1) 1 d a b (s.rx c)
/-- PUTQ (R248, R252). -/
def execPutq (d a b c : Reg) (s : State) : Out := s.async (mkQ 0x25 d a b c 2) 2 d a b (s.rx c)

/-! ### A running command -/

/-- The head leaves and the next command starts (R250, R423). -/
def State.popCmd (s : State) (core ch : Nat) : State :=
  s.onChan core ch (fun c => ({ c with queue := c.queue.drop 1 }).begin_)

/-- The end of the longest filled prefix, as an offset in the payload (R99). -/
def prefixEnd (done : List Nat) : List (Nat × Nat) → Nat → Nat
  | [], e => e
  | p :: r, e => if done.contains p.1 then prefixEnd done r (p.1 + p.2) else e

/-- Source bytes read for Harrier, line by line (R98). -/
def State.copyRead (s : State) (a : Agent) : (fuel : Nat) → (va : Word) → (n : Nat) → Except XFault (List Byte) × State
  | 0, _, _ => (.ok [], s)
  | fuel + 1, va, n =>
    if n = 0 then (.ok [], s)
    else
      match s.resolveAddr a va .read with
      | (.error x, s) => (.error x, s)
      | (.ok key, s) =>
        let k := Nat.min n (64 - key % 64)
        match s.readLine a.core a.writer (key / 64) with
        | (.error c, s) => (.error ⟨c, s.readTval c va key, va⟩, s)
        | (.ok d, s) =>
          match s.copyRead a fuel (va + BitVec.ofNat 64 k) (n - k) with
          | (.error x, s) => (.error x, s)
          | (.ok r, s) => (.ok (toBytes k (d.toNat / 2 ^ (8 * (key % 64))) ++ r), s)

/-- A page that is not present parks the command; every other fault discards it (R424). `start` is the first address of the range. -/
def State.cmdStop (s : State) (core ch : Nat) (start : Word) (x : XFault) : State :=
  if x.cause = 0x080 ∧ selector start = 0 then
    match (s.chanAt core ch).queue.head? with
    | none => s
    | some c =>
      let page := BitVec.ofNat 64 (Nat.max x.base.toNat start.toNat)
      let s := s.onHead core ch (fun c => { c with park := some (s.now, page), tried := s.now })
      s.addRecord c.sid (c.record 0x080 page 1 ch c.landed)
  else s.cmdFault core ch x.cause x.tval 1

/-- Blocks of a scratchpad range of `n` bytes become turned at C (R99). -/
def State.turnPrefix (s : State) (a : Agent) (key n : Nat) : State :=
  if n = 0 then s
  else (upto (key / 64) ((key + n + 63) / 64 - key / 64)).foldl
    (fun s l => s.setTag l (turnTag s.front.modnum a.writer 1 l (s.tag l))) s

/-- The bytes that a strand has stored into a line before position `pos` and that stand in the outbound buffer leave it, as an entry of their own; younger bytes stay (R315). -/
def State.splitOlder (s : State) (core sid pos l : Nat) : Option OutEntry × State :=
  match (s.coreAt core).outb.find? (fun e => (e.sid == sid) && (e.line == l)) with
  | none => (none, s)
  | some e =>
    let m := e.later pos
    if e.mask &&& ~~~m = 0 then (none, s)
    else
      let here (q : OutEntry) : Bool := (q.sid == sid) && (q.line == l)
      let rest := { e with mask := e.mask &&& m, ops := e.ops.filter (fun o => decide (pos < o.1)) }
      let keep (es : List OutEntry) : List OutEntry :=
        if rest.mask = 0 then es.filter (fun q => !here q) else updFirst here (fun _ => rest) es
      (some { e with mask := e.mask &&& ~~~m, ops := e.ops.filter (fun o => decide (o.1 ≤ pos)) },
        s.onCore core (fun k => { k with outb := keep k.outb }))

/-- What a strand wrote to a line of the own module before position `pos` arrives first; the move waits for what is on a port that retrains, or still to be written by the engine or by Harrier (R315). DEDUCED, log entry 47. -/
def State.olderFirst (s : State) (core sid pos l : Nat) : State :=
  let mine (f : Flight) : Bool := f.entry.sid == sid && f.entry.line == l
  let (fl, rest) := arriving mine s.homes.wnet
  let s := if s.olderWrites core sid pos l || fl.any (fun f => f.block.isSome || s.held f) then s.waitNet else s
  let s := { s with homes := { s.homes with wnet := rest } }
  let s := fl.foldl State.arriveStore s
  match s.splitOlder core sid pos l with
  | (some e, s) => s.landSent e
  | (none, s) => s

/-- A block of the head command has landed: the watermark passes it when the prefix has come that far, and blocks that it has just passed become turned at C (R98, R99, R101). -/
def State.blockDone (s : State) (core ch : Nat) (c : CopyCmd) (off : Nat) : State :=
  let c' := { c with done := off :: c.done, sent := c.sent.filter (fun o => o != off) }
  let c' := if c'.landed < c.bytes then c' else { c' with full := s.now }
  let s := s.onHead core ch (fun _ => c')
  if c.spad then
    let e0 := prefixEnd c.done c.pieces 0
    let e := prefixEnd c'.done c'.pieces 0
    let o := field c.dst 0 23
    let s := s.onChan core ch (fun q => { q with wm := BitVec.ofNat 64 (o + e) })
    s.turnPrefix (c.agent core) (spadKey core (o + e0)) (e - e0)
  else s

/-- The block of a copy as a write (R88, R98). -/
def CopyCmd.entry (c : CopyCmd) (now l : Nat) (mask : BitVec 64) (data : Line) : OutEntry :=
  ⟨c.sid, c.writer, l, mask, data, c.pc, c.word, now, c.pos, []⟩

/-- A block for a home on another module leaves as a packet, behind what the strand wrote to the line before (R346, R349, R350). -/
def State.sendBlock (s : State) (core ch : Nat) (c : CopyCmd) (off : Nat) (e : OutEntry) : State :=
  let s := if s.olderWrites core c.sid c.pos e.line then s.waitNet else s
  let s := match s.splitOlder core c.sid c.pos e.line with
    | (some o, s) => s.send core o
    | (none, s) => s
  match s.portFor core (64 * e.line) with
  | (none, s) => s.cmdFault core ch 0x300 (BitVec.ofNat 64 (globalOf s.front.modnum (64 * e.line))) 1
  | (some p, s) =>
    let f : Flight := ⟨e, core, some p, requestChannel (s.classOf c.sid) (64 * e.line), none, some ⟨ch, c.seq, off⟩⟩
    let s := (s.emitFor core (s.classOf c.sid) p (64 * e.line) 64).onHead core ch (fun c => { c with sent := off :: c.sent })
    { s with homes := { s.homes with wnet := s.homes.wnet ++ [f] } }

/-- One piece of the running command read and written, in the strand's order of writes to its line (R98, R99, R101, R315). DEDUCED, log entry 47. -/
def State.fillPiece (s : State) (core ch : Nat) (c : CopyCmd) (p : Nat × Nat) : State :=
  let a := c.agent core
  let va := c.dst + BitVec.ofNat 64 p.1
  if (selector c.dst = 0xE0 ∨ selector c.dst = 0xE4) ∧ (spadOutside c.dst ∨ 2 ^ 23 < field c.dst 0 23 + c.bytes) then
    s.cmdFault core ch 0x0A0 c.dst 1
  else
    match s.copyRead a 3 (c.src + BitVec.ofNat 64 p.1) p.2 with
    | (.error x, s) => s.cmdStop core ch c.src x
    | (.ok bytes, s) =>
      match s.resolveAddr a va .write with
      | (.error x, s) => s.cmdStop core ch c.dst x
      | (.ok key, s) =>
        let sh := key % 64
        let e := c.entry s.now (key / 64) (byteMask sh p.2) (BitVec.ofNat 512 (ofBytes bytes) <<< (8 * sh))
        let g := BitVec.ofNat 64 (globalOf s.front.modnum (key / 64 * 64))
        if keyModule key ≠ 0 then s.sendBlock core ch c p.1 e
        else if (s.dieAt (homeDie key)).phase = .failed then s.cmdFault core ch 0x301 g 1
        else
          match ((s.passes (roundTrip core key)).olderFirst core c.sid c.pos e.line).landAt e.line e.writer e.mask e.data with
          | (false, s) => s.cmdFault core ch 0x380 g 1
          | (true, s) => s.blockDone core ch c p.1

/-- The command that a packet's block belongs to, when it still runs. -/
def State.blockOwner (s : State) (core : Nat) (b : Block) : Option CopyCmd :=
  match (s.chanAt core b.chan).queue.head? with
  | some c => if c.seq = b.seq ∧ !c.dead then some c else none
  | none => none

/-- A lost packet: its write never lands, or has landed whole before its acknowledgement was lost. The command of its block fails, or the issuer of its store has a record of 0x300 (R353, R462, R463). DESIGN CHOICE, log entry 63. -/
def State.losePacket (s : State) (f : Flight) (landed : Bool) : State :=
  match f.block with
  | none => s.loseStore f.entry landed
  | some b =>
    let s := if landed then (s.landAt f.entry.line f.entry.writer f.entry.mask f.entry.data).2 else s
    match s.blockOwner f.core b with
    | some _ => s.cmdFault f.core b.chan 0x300 (BitVec.ofNat 64 (globalOf s.front.modnum (64 * f.entry.line))) 1
    | none => s

/-- A write that arrives from the networks: of a store, or a block of a copy; one whose time is over is lost (R88, R98, R426, R458, R462). -/
def State.landFlight (s : State) (f : Flight) : State :=
  match f.block with
  | none => s.arriveStore f
  | some b =>
    let s := s.passes f.returns
    if f.overdue s.now then
      let (landed, s) := s.loss
      s.losePacket f landed
    else
      match s.landAt f.entry.line f.entry.writer f.entry.mask f.entry.data, s.blockOwner f.core b with
      | (true, s), some c => s.blockDone f.core b.chan c b.off
      | (false, s), some _ => s.cmdFault f.core b.chan 0x380 (BitVec.ofNat 64 (globalOf s.front.modnum (64 * f.entry.line))) 1
      | (_, s), none => s

/-- Units stop for a strand that debug has halted while FREEZE = 1 (R446). -/
def State.frozen (s : State) (core sid : Nat) : Bool :=
  (s.coreAt core).dbgctl.getLsbD 14 && (match s.strand sid with | some t => t.dbg | none => false)

/-- A module core number (R7). -/
def coreOk (core : Nat) : Bool := decide (core < 384)

/-- Harrier of a core holds a record that waits for an entry of a ring, its own or of one of its commands' home objects, and stands still (R389). DESIGN CHOICE, log entry 79. -/
def State.harrierHeld (s : State) (core : Nat) : Bool := s.unitHeld core [1, 4]

/-- HARRIER_FILL: the running command of a channel fills one of its blocks, in any order (R99). -/
def execHarrierFill (core channel block : Nat) (s : State) : Out :=
  if !coreOk core || decide (8 ≤ channel) then .fault .noSuchUnit
  else
    match (s.chanAt core channel).queue.head? with
    | none => .next s
    | some c =>
      if c.dead || c.park.isSome || decide (c.step ≠ 0) || s.frozen core c.sid || s.harrierHeld core then .next s
      else
        match c.pieces[block]? with
        | none => .next s
        | some p => if c.done.contains p.1 || c.sent.contains p.1 then .next s else .next (s.fillPiece core channel c p)

/-- The record of a stopped command has been delivered, or its strand keeps none (R389). -/
def State.recordGone (s : State) (c : CopyCmd) : Bool :=
  match s.strand c.sid with
  | none => true
  | some t => !(t.live) || !(t.records.any (fun r => !r.given && r.pos == c.pos && (r.unit == 1 || r.unit == 4)))

/-- The destination lines of a landed command, or the fault of the first that cannot be named or that no packet reaches (R101, R424, R462, R466). DEDUCED, log entry 56. -/
def State.destLines (s : State) (core : Nat) (c : CopyCmd) : List (Nat × Nat) → Except XFault (List Nat) × State
  | [] => (.ok [], s)
  | p :: r =>
    match s.resolveAddr (c.agent core) (c.dst + BitVec.ofNat 64 p.1) .write with
    | (.error x, s) => (.error x, s)
    | (.ok key, s) =>
      match s.crosses core c.writer (key / 64 * 64) 64 with
      | (false, s) => (.error ⟨0x300, BitVec.ofNat 64 (globalOf s.front.modnum (key / 64 * 64)), 0⟩, s)
      | (true, s) =>
        match s.destLines core c r with
        | (.error x, s) => (.error x, s)
        | (.ok ls, s) => (.ok (key / 64 :: ls), s)

/-- The turn of a landed payload begins: no line is turned unless each of them can be (R101, R424, R466). The lines stay known to the command. DEDUCED, log entry 56. -/
def State.turnBegin (s : State) (core ch : Nat) (c : CopyCmd) : Except XFault (List Nat) × State :=
  if c.spad || !c.turns.isEmpty then (.ok c.turns, s)
  else
    match s.destLines core c c.pieces with
    | (.error x, s) => (.error x, s)
    | (.ok ls, s) => (.ok ls, s.onHead core ch (fun c => { c with turns := ls }))

/-- The first `n` lines of the destination of a channel's running command that Harrier has turned before all are (R101, R318). DESIGN CHOICE, log entry 3. -/
def State.copyFirst (s : State) (core channel n : Nat) : State :=
  match (s.chanAt core channel).queue.head? with
  | none => s
  | some c =>
    if c.dead || c.spad || c.park.isSome || decide (c.step ≠ 0) || decide (c.landed < c.bytes) || s.frozen core c.sid || s.harrierHeld core then s
    else
      match s.turnBegin core channel c with
      | (.ok ls, s) => (ls.take n).foldl (fun s l => s.turnLineAhead (c.agent core) c.lvl false l) s
      | (.error _, _) => s

/-- The line that the object address of a command names as its message is sent, none when it names none (R252). -/
def State.objLine (s : State) (core : Nat) (c : CopyCmd) : Option Nat :=
  match (s.resolveAddr (c.agent core) c.obj .read).1 with
  | .ok key => some (key / 64)
  | .error _ => none

/-- COPY_RETIRE: a command whose payload has landed is turned, a page that is not present parking it, and retires, or sends its credit or message; a stopped one whose record has been delivered is discarded (R101, R251, R252, R423). -/
def execCopyRetire (core channel : Nat) (s : State) : Out :=
  if !coreOk core || decide (8 ≤ channel) then .fault .noSuchUnit
  else
    match (s.chanAt core channel).queue.head? with
    | none => .next s
    | some c =>
      if c.dead then .next (if s.recordGone c then s.popCmd core channel else s)
      else if s.frozen core c.sid || s.harrierHeld core || c.park.isSome then .next s
      else if c.step = 2 then .next (s.popCmd core channel)
      else if c.step = 1 ∨ c.landed < c.bytes then .next s
      else
        match s.turnBegin core channel c with
        | (.error x, s) => .next (s.cmdStop core channel c.dst x)
        | (.ok ls, s) =>
          let s := ls.foldl (fun s l => s.turnLines (c.agent core) c.lvl false l (l + 1)) s
          if c.kind = 0 then .next (s.popCmd core channel)
          else
            let s := s.onHead core channel (fun c => { c with step := 1 })
            let m : Credit := ⟨core, channel, c, c.full, s.objLine core c, false⟩
            if c.kind = 1 then .next { s with homes := { s.homes with credits := s.homes.credits ++ [m] } }
            else .next { s with homes := { s.homes with enqs := s.homes.enqs ++ [m] } }

/-- The way of a message to its object (R345, R346). -/
def State.msgWay (s : State) (m : Credit) : Option (Nat × Nat × Nat × Bool) := m.line.map (fun l => s.wayBack m.core m.cmd.sid l)

/-- A message stands before another on its way: it is of the same strand to the same line, or on one channel of one path (R346). -/
def State.msgAhead (s : State) (m n : Credit) : Bool :=
  !m.there && ((m.cmd.sid == n.cmd.sid && m.line == n.line) || (m.line.isSome && s.msgWay m == s.msgWay n))

/-- The message that arrives when one of a list comes to its home: the first on its way (R346); one that has been there comes again by itself. DEDUCED, log entry 47. -/
def State.firstMsg (s : State) (ms : List Credit) (index : Nat) : Option Nat :=
  match ms[index]? with
  | none => none
  | some n => if n.there then some index else ms.findIdx? (fun m => s.msgAhead m n)

/-- What its strand wrote before to the line of a message of the own module arrives first (R85, R315). DEDUCED, log entry 47. -/
def State.olderThan (s : State) (m : Credit) : State :=
  match m.line with
  | some l => if !m.there && decide (keyModule (64 * l) = 0) then s.olderFirst m.core m.cmd.sid m.cmd.pos l else s
  | none => s

/-- BARRIER_CREDIT: the bytes of a COPYB reach their barrier, the first credit on its way (R252, R295, R346, R438). DEDUCED, log entry 47. -/
def execBarrierCredit (index : Nat) (s : State) : Out :=
  match (s.firstMsg s.homes.credits index).bind (fun i => (s.homes.credits[i]?).map (fun m => (i, m))) with
  | none => .next s
  | some (i, m) =>
    let s := ({ s with homes := { s.homes with credits := dropAt i s.homes.credits } }).olderThan m
    match s.readObj (m.cmd.agent m.core) m.cmd.obj 1 with
    | (.error x, s) => .next (s.cmdFault m.core m.chan x.cause x.tval 4)
    | (.ok (key, line), s) =>
      let pend := lfield line 0x18 8
      let n := m.cmd.bytes
      if n ≤ pend then .next ((s.putBarrier key (lset line 0x18 8 (pend - n))).ackCmd m)
      else
        let s := s.putBarrier key (lset (lset line 0x18 8 0) 2 2 1)
        .next (s.cmdFault m.core m.chan 0x183 (BitVec.ofNat 64 (n - pend)) 4)

/-- An enqueue is registered at its queue's home (R252, R290). -/
def State.putWaits (s : State) (m : Credit) : Bool := s.homes.waiters.any (fun q => q.put == some (m.core, m.chan))

/-- PUTQ_ENQUEUE: the message of a PUTQ, the first on its way, reaches its queue and is enqueued, or registers as a waiter for room and is served in its turn; a full table refuses it, and it comes again (R252, R290, R299, R346). DEDUCED, log entry 47. -/
def execPutqEnqueue (index : Nat) (s : State) : Out :=
  match (s.firstMsg s.homes.enqs index).bind (fun i => (s.homes.enqs[i]?).map (fun m => (i, m))) with
  | none => .next s
  | some (i, m) =>
    if s.putWaits m then .next s
    else
      let s := ({ s with homes := { s.homes with enqs := s.homes.enqs.set i { m with there := true } } }).olderThan m
      match s.readObj (m.cmd.agent m.core) m.cmd.obj 2 with
      | (.error x, s) => .next ((s.unregisterPut m.core m.chan).cmdFault m.core m.chan x.cause x.tval 4)
      | (.ok (key, line), s) =>
        if qCap line ≤ qCount line then .next (s.registerAs ⟨0, key, some (m.core, m.chan)⟩).2
        else .next ((s.tryPut m key).serve key)

/-- PUTQ_ENQUEUE_EXPIRY: an enqueue that has waited DLCAP since the landing faults its command (R252). -/
def execPutqEnqueueExpiry (index : Nat) (s : State) : Out :=
  match s.homes.enqs[index]? with
  | none => .next s
  | some m =>
    if s.now < m.at_ + m.cmd.dlcap then .next s
    else .next ((s.unregisterPut m.core m.chan).cmdFault m.core m.chan 0x185 m.cmd.obj 4)

/-- A parked command tries its page again and goes on when it is present, unless its record still waits for an entry of the ring (R389, R424 step 4). -/
def State.retryParked (s : State) (core ch : Nat) : State :=
  match (s.chanAt core ch).queue.head? with
  | none => s
  | some c =>
    match c.park with
    | none => s
    | some (_, page) =>
      if s.harrierHeld core then s
      else
        match s.lookup (c.agent core) (page.toNat % 2 ^ 56) with
        | (.error _, s) => s.onHead core ch (fun c => { c with tried := s.now })
        | (.ok _, s) => s.onHead core ch (fun c => { c with park := none })

/-- PARKED_COPY_RETRY (R424 step 4). -/
def execParkedCopyRetry (core channel : Nat) (s : State) : Out :=
  if !coreOk core || decide (8 ≤ channel) then .fault .noSuchUnit else .next (s.retryParked core channel)

/-- PARKED_COPY_DISCARD: the page is still not present at DLCAP after the fault, unless Harrier stands still with a record (R389, R424 step 5). DESIGN CHOICE, log entry 79. -/
def execParkedCopyDiscard (core channel : Nat) (s : State) : Out :=
  if !coreOk core || decide (8 ≤ channel) then .fault .noSuchUnit
  else
    match (s.chanAt core channel).queue.head? with
    | none => .next s
    | some c =>
      match c.park with
      | none => .next s
      | some (t0, page) =>
        if s.harrierHeld core || decide (s.now < t0 + field (s.coreAt core).dlcap 0 63) then .next s
        else
          match s.lookup (c.agent core) (page.toNat % 2 ^ 56) with
          | (.ok _, s) => .next (s.onHead core channel (fun c => { c with park := none }))
          | (.error _, s) =>
            let s := s.onHead core channel (fun c => { c with park := none, dead := true })
            .next (s.addRecord c.sid (c.record 0x080 page 1 channel c.landed))

end Sys2Proof.Machine
end

