-- ==== Sys2Proof/Machine/Branch.lean ====
section
/-! DEFINITION. Branches, jumps and calls (R192 to R194). -/

namespace Sys2Proof.Machine

/-- The 64-byte block of an address. -/
def block (p : Word) : Word := p &&& ~~~(63 : Word)

/-- A block target: (P & ~63) + 64 × offset (R192). -/
def blockTarget {n : Nat} (p : Word) (o : BitVec n) : Word := block p + (sext64 o <<< 6)

/-- TVAL of a supervisor transfer that is not permitted: the target, or the line address where the line has no marker (R167, R401; DEDUCED, log entry 54). -/
def State.refusedAt (s : State) (p : Word) : Word :=
  match (s.fetch s.me (markedLine p)).1 with
  | .ok m => if isMarker m then p else markedLine p
  | .error _ => p

/-- A transfer to a target: a supervisor target must be marked, or cause 0x011 with no effect; `k` is the rest of its effect (R167, R194). DEDUCED, log entries 52, 54. -/
def State.transfer (s : State) (p : Word) (k : State → State) : Out :=
  if s.cur.sup then
    match s.target s.me p with
    | (.refused, t) => t.trap 0x011 (s.refusedAt p)
    | (l, t) => .next ((k t).enterLine p l)
  else .next ((k s).jump p)

/-- A transfer through a register: a user target must be a multiple of 64, or cause 0x010 (R165, R194). -/
def State.transferReg (s : State) (p : Word) (k : State → State) : Out :=
  if !s.cur.sup && decide (field p 0 6 ≠ 0) then s.trap 0x010 p else s.transfer p k

/-- A conditional branch (R192). -/
def State.branch (s : State) (c : Bool) (o : BitVec 13) : Out :=
  if c then s.transfer (blockTarget s.cur.pc o) id else .next s.adv

/-- Ret(P): the next target position after the call (R193). -/
def retAddr (sup : Bool) (p : Word) : Word :=
  if !sup then block p + 64
  else
    let line := markedLine p
    let w := field p 2 5
    let n := w + 2 - w % 2
    if 30 < n then line + 136 else line + BitVec.ofNat 64 (4 * n)

/-- x31 ← Ret(P) (R193). -/
def State.link31 (p : Word) (s : State) : State := s.wx 31 (retAddr s.cur.sup p)

/-- BEQ (R192). -/
def execBeq (a b : Reg) (o : BitVec 13) (s : State) : Out := s.branch (s.rx a == s.rx b) o
/-- BNE (R192). -/
def execBne (a b : Reg) (o : BitVec 13) (s : State) : Out := s.branch (s.rx a != s.rx b) o
/-- BLT (R192). -/
def execBlt (a b : Reg) (o : BitVec 13) (s : State) : Out := s.branch ((s.rx a).slt (s.rx b)) o
/-- BGE (R192). -/
def execBge (a b : Reg) (o : BitVec 13) (s : State) : Out := s.branch (!(s.rx a).slt (s.rx b)) o
/-- BLTU (R192). -/
def execBltu (a b : Reg) (o : BitVec 13) (s : State) : Out := s.branch ((s.rx a).ult (s.rx b)) o
/-- BGEU (R192). -/
def execBgeu (a b : Reg) (o : BitVec 13) (s : State) : Out := s.branch (!(s.rx a).ult (s.rx b)) o
/-- JMP (R192). -/
def execJmp (o : BitVec 26) (s : State) : Out := s.transfer (blockTarget s.cur.pc o) id
/-- CALL (R193). -/
def execCall (o : BitVec 26) (s : State) : Out := s.transfer (blockTarget s.cur.pc o) (State.link31 s.cur.pc)
/-- JR (R193). -/
def execJr (a : Reg) (s : State) : Out := s.transferReg (s.rx a) id
/-- CALLR (R193): x[a] is read before x31 is written. -/
def execCallr (a : Reg) (s : State) : Out := s.transferReg (s.rx a) (State.link31 s.cur.pc)

end Sys2Proof.Machine
end

