-- ==== Sys2Proof/Machine/Tile.lean ====
section
/-! DEFINITION. The tile store, the engine's queue, and the TILE major: cells, group records, TMAC, readout, TZERO, TLD, TST, TADD (R123 to R128, R254 to R269). -/

namespace Sys2Proof.Machine

/-! ### Cells (R256, R257) -/

/-- A cell of the tile store; one that is not listed is +0. -/
def cellGet : List (Nat × BitVec 128) → Nat → BitVec 128
  | [], _ => 0
  | (a, v) :: r, c => if c < a then 0 else if c = a then v else cellGet r c

def cellSet : List (Nat × BitVec 128) → Nat → BitVec 128 → List (Nat × BitVec 128)
  | [], c, v => if v = 0 then [] else [(c, v)]
  | (a, w) :: r, c, v =>
    if c < a then (if v = 0 then (a, w) :: r else (c, v) :: (a, w) :: r)
    else if c = a then (if v = 0 then r else (c, v) :: r)
    else (a, w) :: cellSet r c v

/-- The number of cell r, j of an accumulator (R256). -/
def cellNo (acc r j : Nat) : Nat := 4096 * acc + 64 * r + j

/-- Round128 (R127): to nearest, ties to even, no flag (R118). -/
def round128 (x : Fp) : BitVec 128 := BitVec.ofNat 128 (B128.convert .rne x).1

/-- The sum of two binary128 values with one rounding; any NaN gives the canonical NaN (R127, R268). -/
def add128 (a : BitVec 128) (x : Fp) : BitVec 128 := BitVec.ofNat 128 (B128.add .rne (B128.decode a.toNat) x).1

/-- PRESUMED, log entry 12. -/
def Core.cell (k : Core) (c : Nat) : BitVec 128 := cellGet k.cells c
def Core.setCell (k : Core) (c : Nat) (v : BitVec 128) : Core := { k with cells := cellSet k.cells c v }

/-! ### TSHAPE and TPITCH (R226, R262) -/

/-- ROWSTR and KSTR of a pitch operand; bits [25:24] and [1:0] read as zero (R226, R263). -/
def rowStr (w : Word) : Nat := field w 24 24 / 4 * 4
def kStr (w : Word) : Nat := field w 0 24 / 4 * 4

/-! ### Scratchpad operands (R258) -/

/-- The engine's read of `n` bytes of a scratchpad, block by block at the issuing strand's distance; a refused block faults with the address at which it was entered (R258, R404). -/
def State.engRead (s : State) (core : Nat) (writer : BitVec 12) : (fuel : Nat) → (key : Nat) → (va : Word) → (n : Nat) →
    Except XFault (List Byte) × State
  | 0, _, _, _ => (.ok [], s)
  | fuel + 1, key, va, n =>
    if n = 0 then (.ok [], s)
    else
      let k := Nat.min n (64 - key % 64)
      match s.readLine core writer (key / 64) with
      | (.error c, s) => (.error ⟨c, va, va⟩, s)
      | (.ok d, s) =>
        match s.engRead core writer fuel (key + k) (va + BitVec.ofNat 64 k) (n - k) with
        | (.error x, s) => (.error x, s)
        | (.ok r, s) => (.ok (toBytes k (d.toNat / 2 ^ (8 * (key % 64))) ++ r), s)

/-- Records of one operand read in order. -/
def State.engRecords (s : State) (core : Nat) (writer : BitVec 12) (size : Nat) : List Word → Except XFault (List (List Byte)) × State
  | [] => (.ok [], s)
  | va :: r =>
    match s.engRead core writer (size / 64 + 2) (spadKey core (field va 0 23)) va size with
    | (.error x, s) => (.error x, s)
    | (.ok b, s) =>
      match s.engRecords core writer size r with
      | (.error x, s) => (.error x, s)
      | (.ok l, s) => (.ok (b :: l), s)

/-- The record addresses of one operand: rows outside, k-groups inside (R263). -/
def recordAddrs (base : Word) (rows groups row k : Nat) : List Word :=
  (upto 0 rows).flatMap (fun r => (upto 0 groups).map (fun g => base + BitVec.ofNat 64 (r * row + g * k)))

/-! ### Group values (R124 to R126) -/

/-- The integers and the exponent byte of an A-group record of precision P (R124, R227). -/
def aGroup (p : Nat) (b : List Byte) : List Int × Nat :=
  let words := (upto 0 p).map (fun k => ofBytes ((b.drop (4 * k)).take 4))
  let q (i : Nat) : Nat := words.foldr (fun w acc => w / 2 ^ i % 2 + 2 * acc) 0
  ((upto 0 32).map (fun i => toInt p (q i)), ((b.drop (4 * p)).headD 0).toNat)

/-- The integers of an integer B-group record and its exponent byte (R125, R227). -/
def bGroup (b : List Byte) : List Int × Nat :=
  ((upto 0 32).map (fun i => toInt 16 (ofBytes ((b.drop (2 * i)).take 2))), ((b.drop 64).headD 0).toNat)

/-- The codes of a DPW8 B-group record as integers, and its scale (R111, R125, R227). -/
def dpGroup (b : List Byte) : List Int × Nat :=
  ((upto 0 32).map (fun i => dpValue ((b.drop i).headD 0).toNat), ((b.drop 32).headD 0).toNat)

/-- GroupValue (R126): exact. -/
def groupValue (p : Nat) (wide : Bool) (a b : List Int × Nat) : Fp :=
  if a.2 = 255 ∨ b.2 = 255 then .nan false false
  else
    let n := (a.1.zip b.1).foldl (fun z q => z + q.1 * q.2) 0
    let e : Int := ((a.2 : Int) - 127 - ((p : Int) - 2)) + ((b.2 : Int) - 127 - (if wide then 0 else 14))
    .fin (decide (n < 0)) n.natAbs (if n = 0 then 0 else e)

/-! ### The engine's queue (R257, R258) -/

/-- The record of a cell in error, after which the command completed: its TVAL is a cell number, no address (R428). -/
def Record.ofCell (r : Record) : Bool := r.cause == 0x380 && decide (r.tval.toNat ≤ 65536)

/-- A faulted engine command of the strand is still to be delivered; later commands are discarded without effect (R258). -/
def Strand.engHalted (t : Strand) : Bool := t.records.any (fun r => r.unit == 2 && !r.given && !r.ofCell)

/-- A command enters the queue of 16, or issue stalls, as it does while the power cap holds engine commands (R257, R459). -/
def State.engIssue (s : State) (op : EngOp) (acc acc2 : Nat) (word : InsnWord) (a b c d : Word) (vecs : List (List (BitVec 64))) (k : State → Out) : Out :=
  if s.cur.engHalted then k s
  else if decide (16 ≤ s.core.eng.length) || s.front.capHold then s.stallHere
  else
    let s := s.bump
    let t := s.cur
    let seq := (s.core.engSeq + 1) % 2 ^ 16
    let cmd : EngCmd := {
      op := op, sid := t.id.sid, writer := t.writer, acc := acc, acc2 := acc2, opa := a, opb := b, opc := c, opd := d
      vecs := vecs, tshape := t.c.tshape, tpitch := t.c.tpitch, tprec := t.c.tprec, sigcfg := t.c.sigcfg
      vl := BitVec.ofNat 16 t.vl, vtype := t.c.vtype.extractLsb' 0 8, pc := t.pc, word := word, seq := seq, pos := t.pos }
    k { s with core := { s.core with eng := s.core.eng ++ [cmd], engSeq := seq } }

/-- TEN.EN of the issuing strand (R254). -/
def State.tenOn (s : State) : Bool := s.cur.c.ten.getLsbD 0

/-- An operand that names the own scratchpad with every other bit zero (R264, R268). -/
def ownSpadOk (va : Word) : Bool := decide (selector va = 0xE0) && !spadOutside va

/-- SETTILE (R261). -/
def execSettile (a b c : Reg) (s : State) : Out :=
  if !s.tenOn then s.trap 0x280 0
  else
    let m := Nat.min (s.rx a).toNat 64
    let n := Nat.min (s.rx b).toNat 64
    let k := Nat.min (32 * (((s.rx c).toNat + 31) / 32)) 256
    .next (s.setC { s.cur.c with tshape := BitVec.ofNat 64 (k * 2 ^ 16 + n * 2 ^ 8 + m) }).adv

/-- TZERO (R267). -/
def execTzero (d : Acc) (s : State) : Out :=
  if !s.tenOn then s.trap 0x280 0
  else s.engIssue .tzero d.toNat 0 (mkQ 0x28 (accField d) 0 0 0 1) 0 0 0 0 [] (fun s => .next s.adv)

/-- The end of the highest record of an operand (R264 step 5). -/
def recordsEnd (base : Word) (rows groups row k size : Nat) : Nat :=
  field base 0 23 + (rows - 1) * row + (groups - 1) * k + size

/-- TMAC and TMACW at issue (R264). -/
def State.tmacIssue (s : State) (op : EngOp) (word : InsnWord) (bSize : Nat) (d : Acc) (a b c : Reg) : Out :=
  let va := s.rx a
  let vb := s.rx b
  let vc := s.rx c
  let p := field s.cur.c.tprec 0 5
  let m := shapeM s.cur.c.tshape
  let n := shapeN s.cur.c.tshape
  let g := shapeK s.cur.c.tshape / 32
  let tp := s.cur.c.tpitch
  if !s.tenOn then s.trap 0x280 0
  else if p < 2 then s.trap 0x281 s.cur.c.tprec
  else if !ownSpadOk va then s.trap 0x283 va
  else if !ownSpadOk vb then s.trap 0x283 vb
  else if va.toNat % 4 ≠ 0 then s.trap 0x086 va
  else if vb.toNat % 4 ≠ 0 then s.trap 0x086 vb
  else if m ≠ 0 ∧ n ≠ 0 ∧ g ≠ 0 ∧ 2 ^ 23 < recordsEnd va m g (rowStr tp) (kStr tp) (4 * (p + 1)) then s.trap 0x283 va
  else if m ≠ 0 ∧ n ≠ 0 ∧ g ≠ 0 ∧ 2 ^ 23 < recordsEnd vb n g (rowStr vc) (kStr vc) bSize then s.trap 0x283 vb
  else s.engIssue op d.toNat 0 word va vb vc 0 [] (fun s => .next s.adv)

/-- TMAC (R263, R264). -/
def execTmac (d : Acc) (a b c : Reg) (s : State) : Out := s.tmacIssue .tmac (mkQ 0x28 (accField d) a b c 2) 68 d a b c
/-- TMACW (R263, R264). -/
def execTmacw (d : Acc) (a b c : Reg) (s : State) : Out := s.tmacIssue .tmacw (mkQ 0x28 (accField d) a b c 3) 36 d a b c

/-- A readout of a row or a column (R266): it waits for the strand's engine commands and delivers their records first (R260, R414). -/
def State.readout (s : State) (v b : Reg) (cell : Nat → Nat → Nat) : Out :=
  let n := (s.rx b).toNat
  if !s.tenOn then s.trap 0x280 0
  else if s.cur.ew = 64 then s.trap 0x100 s.cur.c.vtype
  else if 64 ≤ n then s.trap 0x282 (s.rx b)
  else if 64 < s.cur.vl then s.trap 0x282 (BitVec.ofNat 64 s.cur.vl)
  else s.deliverPoint (Record.ofClasses 8) (fun s =>
    if s.tilesOut s.cur ≠ 0 then s.stallHere
    else s.elementWise [] v (fun _ i =>
      (regFmt s.cur.ew).convert (rmOf s.cur.c.fcsr) (B128.decode (s.core.cell (cell n i)).toNat)))

/-- TMOVR (R266). -/
def execTmovr (s' : Acc) (v b : Reg) (s : State) : Out := s.readout v b (fun n i => cellNo s'.toNat n i)
/-- TMOVC (R266). -/
def execTmovc (s' : Acc) (v b : Reg) (s : State) : Out := s.readout v b (fun n i => cellNo s'.toNat i n)

/-- TLD and TST at issue (R268). -/
def State.tileMove (s : State) (op : EngOp) (word : InsnWord) (acc : Acc) (a b : Reg) : Out :=
  let va := s.rx a
  let vb := s.rx b
  let m := shapeM s.cur.c.tshape
  let n := shapeN s.cur.c.tshape
  if !s.tenOn then s.trap 0x280 0
  else if !ownSpadOk va then s.trap 0x283 va
  else if va.toNat % 16 ≠ 0 then s.trap 0x086 va
  else if vb.toNat % 16 ≠ 0 then s.trap 0x086 vb
  else if m ≠ 0 ∧ n ≠ 0 ∧ 2 ^ 23 < field va 0 23 + (m - 1) * vb.toNat + 16 * n then s.trap 0x283 va
  else s.engIssue op acc.toNat 0 word va vb 0 0 [] (fun s => .next s.adv)

/-- TLD (R267, R268). -/
def execTld (d : Acc) (a b : Reg) (s : State) : Out := s.tileMove .tld (mkQ 0x28 (accField d) a b 0 6) d a b
/-- TST (R259, R267, R268). -/
def execTst (s' : Acc) (a b : Reg) (s : State) : Out := s.tileMove .tst (mkQ 0x28 (accField s') a b 0 7) s' a b
/-- TADD (R267, R268). -/
def execTadd (d a : Acc) (s : State) : Out :=
  if !s.tenOn then s.trap 0x280 0
  else s.engIssue .tadd d.toNat a.toNat (mkQ 0x28 (accField d) (accField a) 0 0 8) 0 0 0 0 [] (fun s => .next s.adv)

/-! ### Running a tile command (R257, R263, R267) -/

/-- The rows and columns that a command touches. -/
def cellsOf (m n : Nat) : List (Nat × Nat) := (upto 0 m).flatMap (fun r => (upto 0 n).map (fun j => (r, j)))

/-- Bytes written as a store of a strand that need not be the issuing one (R259). -/
def State.storeFor (s : State) (c : EngCmd) (core key n v : Nat) : State :=
  let s := s.onStrand c.sid (fun t => { t with wlog := logWrite s.front.modnum t.wlog (key / 64) })
  s.bufferStore false ⟨c.sid, core, c.writer, false, 0, 0⟩ key n v c.pc c.word c.pos

/-- TMAC and TMACW (R263): every record is read before any cell changes. -/
def State.runTmac (s : State) (core : Nat) (c : EngCmd) (wide : Bool) : Except XFault State × State :=
  let p := field c.tprec 0 5
  let m := shapeM c.tshape
  let n := shapeN c.tshape
  let g := shapeK c.tshape / 32
  if m = 0 ∨ n = 0 ∨ g = 0 then (.ok s, s)
  else
    match s.engRecords core c.writer (4 * (p + 1)) (recordAddrs c.opa m g (rowStr c.tpitch) (kStr c.tpitch)) with
    | (.error x, s) => (.error x, s)
    | (.ok as, s) =>
      match s.engRecords core c.writer (if wide then 36 else 68) (recordAddrs c.opb n g (rowStr c.opc) (kStr c.opc)) with
      | (.error x, s) => (.error x, s)
      | (.ok bs, s) =>
        let ga := as.map (aGroup p)
        let gb := bs.map (fun b => if wide then dpGroup b else bGroup b)
        let s' := s.onCore core (fun k => (cellsOf m n).foldl (fun k rj =>
          let a := (ga.drop (rj.1 * g)).take g
          let b := (gb.drop (rj.2 * g)).take g
          let no := cellNo c.acc rj.1 rj.2
          k.setCell no ((a.zip b).foldl (fun v ab => add128 v (groupValue p wide ab.1 ab.2)) (k.cell no))) k)
        (.ok s', s)

/-- A binary128 value with every NaN canonical (R267). -/
def canon128 (v : Nat) : BitVec 128 :=
  if (B128.decode v).isNan then BitVec.ofNat 128 B128.nan else BitVec.ofNat 128 v

/-- Cells read for TLD in order (R267). -/
def State.readCells (s : State) (core : Nat) (c : EngCmd) : List (Nat × Nat) → Except XFault (List (Nat × BitVec 128)) × State
  | [] => (.ok [], s)
  | rj :: r =>
    let off := tileAddr c rj.1 rj.2
    match s.engRead core c.writer 2 (spadKey core off) (ownSpad off) 16 with
    | (.error x, s) => (.error x, s)
    | (.ok b, s) =>
      match s.readCells core c r with
      | (.error x, s) => (.error x, s)
      | (.ok l, s) => (.ok ((cellNo c.acc rj.1 rj.2, canon128 (ofBytes b)) :: l), s)

/-- TLD (R267). -/
def State.runTld (s : State) (core : Nat) (c : EngCmd) : Except XFault State × State :=
  match s.readCells core c (cellsOf (shapeM c.tshape) (shapeN c.tshape)) with
  | (.error x, s) => (.error x, s)
  | (.ok l, s) => (.ok (s.onCore core (fun k => l.foldl (fun k e => k.setCell e.1 e.2) k)), s)

/-- TST (R259, R267). -/
def State.runTst (s : State) (core : Nat) (c : EngCmd) : State :=
  let k := s.coreAt core
  (cellsOf (shapeM c.tshape) (shapeN c.tshape)).foldl
    (fun s rj => s.storeFor c core (spadKey core (tileAddr c rj.1 rj.2)) 16 (k.cell (cellNo c.acc rj.1 rj.2)).toNat) s

/-- TADD (R267, R268). -/
def Core.runTadd (k : Core) (c : EngCmd) : Core :=
  (cellsOf (shapeM c.tshape) (shapeN c.tshape)).foldl (fun q rj =>
    q.setCell (cellNo c.acc rj.1 rj.2)
      (add128 (k.cell (cellNo c.acc rj.1 rj.2)) (B128.decode (k.cell (cellNo c.acc2 rj.1 rj.2)).toNat))) k

/-- TZERO (R267). -/
def Core.runTzero (k : Core) (c : EngCmd) : Core :=
  { k with cells := k.cells.filter (fun e => e.1 / 4096 != c.acc) }

end Sys2Proof.Machine
end

