-- ==== Sys2Proof/Machine/Sig.lean ====
section
/-! DEFINITION. The signature unit: SIGCFG, exact tensor arithmetic with one Store, and the SIG engine commands (R270 to R276). -/

namespace Sys2Proof.Machine

/-! ### Configuration (R270 to R273) -/

/-- Channels of a DC code (R271). -/
def dcChannels (dc : Nat) : Nat := 2 ^ (dc + 1)

/-- Depth, channels and cells of SIGCFG (R271). -/
def sigN (w : Word) : Nat := field w 0 4
def sigD (w : Word) : Nat := dcChannels (field w 8 2)

/-- The code of a channel count (R271). -/
def dcCode (d : Nat) : Nat := bitLen d - 2

/-- SIGCFG for a depth and a channel count (R270, R271). -/
def sigWord (n d : Nat) : Word := BitVec.ofNat 64 (levelStart d (n + 1) * 2 ^ 16 + dcCode d * 2 ^ 8 + n)

/-- SIGCFG (R260, R270). -/
def execSigcfg (d a b : Reg) (s : State) : Out :=
  let n := s.rx a
  let ch := s.rx b
  if !s.tenOn then s.trap 0x280 0
  else if s.tilesOut s.cur ≠ 0 then s.stallHere
  else if n = 0 ∨ 8 < n.toNat ∨ !(ch = 2 || ch = 4 || ch = 8 || ch = 16) then
    s.trap 0x289 (n.setWidth 32 ++ ch.setWidth 32)
  else
    let cells := levelStart ch.toNat (n.toNat + 1)
    if 65536 < cells then s.trap 0x288 (BitVec.ofNat 64 cells)
    else (s.setC { s.cur.c with sigcfg := sigWord n.toNat ch.toNat }).ret d (BitVec.ofNat 64 (16 * (1 + cells)))

/-! ### Exact tensors (R274) -/

/-- A signature: level k is the list of its d^k exact values, level 0 a single one. -/
abbrev Tensor := List (List Rat)

/-- The outer product of two levels (R274). -/
def outer (a b : List Rat) : List Rat := a.flatMap (fun x => b.map (fun y => x * y))

def addLevel (a b : List Rat) : List Rat := (a.zip b).map (fun p => p.1 + p.2)

/-- Level n of Mul (R274). -/
def mulLevel (d : Nat) (a b : Tensor) (n : Nat) : List Rat :=
  (upto 0 (n + 1)).foldl (fun acc i => addLevel acc (outer (a.getD i []) (b.getD (n - i) []))) (List.replicate (d ^ n) 0)

/-- Mul up to depth N (R274). -/
def Tensor.mul (d N : Nat) (a b : Tensor) : Tensor := (upto 0 (N + 1)).map (mulLevel d a b)

/-- The unit of Mul. -/
def Tensor.one (d N : Nat) : Tensor := (upto 0 (N + 1)).map (fun k => if k = 0 then [1] else List.replicate (d ^ k) 0)

/-- x^⊗k / k! for k = 0 … N (R274). -/
def expLevels (x : List Rat) : (n : Nat) → (k : Nat) → (last : List Rat) → Tensor
  | 0, _, last => [last]
  | n + 1, k, last => last :: expLevels x n (k + 1) ((outer last x).map (fun v => v / ((k + 1 : Nat) : Rat)))

/-- Exp(x) (R274). -/
def Tensor.exp (N : Nat) (x : List Rat) : Tensor := expLevels x N 0 [1]

/-- Σ over m of (−1)^(m+1) Y^⊗m / m, with `pw` = Y^⊗m (R274). -/
def logSum (d N : Nat) (y : Tensor) : (fuel : Nat) → (m : Nat) → (pw acc : Tensor) → Tensor
  | 0, _, _, acc => acc
  | fuel + 1, m, pw, acc =>
    let c : Rat := (if m % 2 = 1 then 1 else -1) / ((m : Nat) : Rat)
    let acc := (acc.zip pw).map (fun p => addLevel p.1 (p.2.map (fun v => c * v)))
    logSum d N y fuel (m + 1) (Tensor.mul d N pw y) acc

/-- Log(T) (R274). -/
def Tensor.log (d N : Nat) (t : Tensor) : Tensor :=
  let y : Tensor := [0] :: t.drop 1
  logSum d N y N 1 y ((upto 0 (N + 1)).map (fun k => List.replicate (d ^ k) 0))

/-- The exact value of a finite code (R106). -/
def fpRat (x : Fp) : Option Rat :=
  match x with
  | .fin n a e =>
    let m : Rat := if 0 ≤ e then ((a * 2 ^ e.toNat : Nat) : Rat) else ((a : Nat) : Rat) / ((2 ^ (-e).toNat : Nat) : Rat)
    some (if n then -m else m)
  | _ => none

/-- Round128 of an exact real; zero is +0 (R127, R274). -/
def rat128 (r : Rat) : BitVec 128 :=
  let n := r.num.natAbs
  let k := 118 + bitLen r.den
  BitVec.ofNat 128 (B128.round .rne (decide (r.num < 0)) (n * 2 ^ k / r.den) (-(k : Int)) (decide (n * 2 ^ k % r.den ≠ 0))).1

/-! ### Sig, Store and images (R272 to R275) -/

/-- The cells of level k (R272). -/
def levelCells (d k : Nat) : List Nat := upto (levelStart d k) (d ^ k)

/-- The values at L0 and the levels given by a reader of cells; none when one is a NaN or an infinity (R274). -/
def readTensor (d N : Nat) (l0 : BitVec 128) (cell : Nat → BitVec 128) : Option Tensor :=
  let rd (l : List (BitVec 128)) : Option (List Rat) := l.mapM (fun v => fpRat (B128.decode v.toNat))
  match rd [l0], (upto 1 N).mapM (fun k => rd ((levelCells d k).map cell)) with
  | some z, some ls => some (z :: ls)
  | _, _ => none

/-- Store: L0, every level cell, and +0 into every pad cell (R272, R274); `none` stores the canonical NaN. -/
def Core.storeSig (k : Core) (d N cells : Nat) (t : Option Tensor) : Core :=
  let nan := BitVec.ofNat 128 B128.nan
  let val (lv i : Nat) : BitVec 128 :=
    match t with
    | none => nan
    | some t => rat128 ((t.getD lv []).getD i 0)
  let k := { k with l0 := val 0 0, cells := k.cells.filter (fun e => decide (cells ≤ e.1)) }
  (upto 1 N).foldl (fun k lv =>
    (upto 0 (d ^ lv)).foldl (fun k i => k.setCell (levelStart d lv + i) (val lv i)) k) k

/-- Sig(): the tensor that the cells hold (R274). -/
def Core.sig (k : Core) (d N : Nat) : Option Tensor := readTensor d N k.l0 k.cell

/-- Image values read: L0 and the non-pad cells, 16 bytes each (R273, R275). Offsets are cells + 1. -/
def State.readImage (s : State) (core : Nat) (c : EngCmd) : List Nat → Except XFault (List (Nat × BitVec 128)) × State
  | [] => (.ok [], s)
  | n :: r =>
    let va := c.opa + BitVec.ofNat 64 (16 * n)
    match s.engRead core c.writer 2 (imageKey core va) va 16 with
    | (.error x, s) => (.error x, s)
    | (.ok b, s) =>
      match s.readImage core c r with
      | (.error x, s) => (.error x, s)
      | (.ok l, s) => (.ok ((n, BitVec.ofNat 128 (ofBytes b)) :: l), s)

/-- The positions of an image that hold a value: 0 for L0, c + 1 for cell c (R273). -/
def imagePositions (d N : Nat) : List Nat := 0 :: (upto 1 N).flatMap (fun k => (levelCells d k).map (· + 1))

/-- The tensor of an image's values. -/
def imageTensor (d N : Nat) (vals : List (Nat × BitVec 128)) : Option Tensor :=
  let at_ (n : Nat) : BitVec 128 := ((vals.find? (fun e => e.1 == n)).map Prod.snd).getD 0
  readTensor d N (at_ 0) (fun c => at_ (c + 1))

/-- Every increment of SIGUPD applied (R275). -/
def updateAll (d N : Nat) (ew : Nat) (t : Tensor) : List (List (BitVec 64)) → Option Tensor
  | [] => some t
  | xs :: r =>
    match xs.mapM (fun v => fpRat ((regFmt ew).decode v.toNat)) with
    | none => none
    | some x => updateAll d N ew (Tensor.mul d N t (Tensor.exp N x)) r

/-! ### The SIG commands (R275, R276) -/

/-- Checks 1 and 2 of R276, then a command without operand. -/
def State.sigIssue (s : State) (op : EngOp) (word : InsnWord) : Out :=
  if !s.tenOn then s.trap 0x280 0
  else if sigN s.cur.c.sigcfg = 0 then s.trap 0x28A 0
  else s.engIssue op 0 0 word 0 0 0 0 [] (fun s => .next s.adv)

/-- An image operand (R276 step 4). -/
def State.sigImage (s : State) (op : EngOp) (word : InsnWord) (a : Reg) : Out :=
  let va := s.rx a
  if !s.tenOn then s.trap 0x280 0
  else if sigN s.cur.c.sigcfg = 0 then s.trap 0x28A 0
  else if !(selector va = 0xE0 || selector va = 0xE4) || spadOutside va then s.trap 0x283 va
  else if va.toNat % 16 ≠ 0 then s.trap 0x086 va
  else if 2 ^ 23 < field va 0 23 + 16 * (1 + sigCells s.cur.c.sigcfg) then s.trap 0x283 va
  else s.engIssue op 0 0 word va 0 0 0 [] (fun s => .next s.adv)

/-- SIGINIT (R275). -/
def execSiginit (s : State) : Out := s.sigIssue .siginit (mkQ 0x29 0 0 0 0 1)

/-- SIGUPD (R275, R276): a whole instruction. -/
def execSigupd (v : Reg) (s : State) : Out :=
  let d := sigD s.cur.c.sigcfg
  if !s.tenOn then s.trap 0x280 0
  else if sigN s.cur.c.sigcfg = 0 then s.trap 0x28A 0
  else if s.cur.ew = 64 then s.trap 0x100 s.cur.c.vtype
  else if s.cur.vl % d ≠ 0 then s.trap 0x28B (BitVec.ofNat 64 s.cur.vl)
  else if (16 ≤ s.core.eng.length ∨ s.front.capHold) ∧ !s.cur.engHalted then s.stallHere
  else s.withOperands (fun _ => []) [v] [] (fun s rd =>
    let act := s.cur.activeWhole
    let val (i : Nat) : BitVec 64 := if act.contains i then BitVec.ofNat 64 (rd v i) else 0
    let xs := (upto 0 (s.cur.vl / d)).map (fun t => (upto (t * d) d).map val)
    s.engIssue .sigupd 0 0 (mkQ 0x29 0 v 0 0 2) 0 0 0 0 xs (fun s => .next ({ s with cur := s.cur.vdone }).adv))

/-- SIGJOIN (R275). -/
def execSigjoin (a : Reg) (s : State) : Out := s.sigImage .sigjoin (mkQ 0x29 0 a 0 0 3) a
/-- SIGJOINL (R275). -/
def execSigjoinl (a : Reg) (s : State) : Out := s.sigImage .sigjoinl (mkQ 0x29 0 a 0 0 4) a
/-- SIGLOG (R275). -/
def execSiglog (s : State) : Out := s.sigIssue .siglog (mkQ 0x29 0 0 0 0 5)
/-- SIGLD (R275). -/
def execSigld (a : Reg) (s : State) : Out := s.sigImage .sigld (mkQ 0x29 0 a 0 0 6) a
/-- SIGST (R259, R275). -/
def execSigst (a : Reg) (s : State) : Out := s.sigImage .sigst (mkQ 0x29 0 a 0 0 7) a

/-- An image command: what is stored from the image's tensor and the cells' (R275). -/
def State.runImage (s : State) (core : Nat) (c : EngCmd) (f : Tensor → Tensor → Tensor) (own : Bool) : Except XFault State × State :=
  let d := sigD c.sigcfg
  let N := sigN c.sigcfg
  match s.readImage core c (imagePositions d N) with
  | (.error x, s) => (.error x, s)
  | (.ok vals, s) =>
    let img := imageTensor d N vals
    let s' := s.onCore core (fun k =>
      let t := match img, (if own then k.sig d N else some []) with
        | some r, some q => some (f q r)
        | _, _ => none
      k.storeSig d N (sigCells c.sigcfg) t)
    (.ok s', s)

/-- A command over the cells alone. -/
def Core.runSig (k : Core) (c : EngCmd) : Core :=
  let d := sigD c.sigcfg
  let N := sigN c.sigcfg
  let store := k.storeSig d N (sigCells c.sigcfg)
  match c.op with
  | .siginit => store (some (Tensor.one d N))
  | .sigupd =>
    store ((k.sig d N).bind (fun t => updateAll d N (ewOf (c.vtype.setWidth 64)) t c.vecs))
  | .siglog =>
    store ((k.sig d N).bind (fun t => if (t.getD 0 []) = [1] then some (Tensor.log d N t) else none))
  | _ => k

/-- A cell that no level of a signature holds (R272). -/
def isPad (d N c : Nat) : Bool :=
  !(upto 1 N).any (fun k => decide (levelStart d k ≤ c) && decide (c < levelStart d k + d ^ k))

/-- SIGST: the image of R273; in place of the pad cells, which no signature command reads, the +0 that they hold in a signature (R272). DEDUCED, log entry 66. -/
def State.runSigst (s : State) (core : Nat) (c : EngCmd) : State :=
  let k := s.coreAt core
  let d := sigD c.sigcfg
  let N := sigN c.sigcfg
  (upto 0 (1 + sigCells c.sigcfg)).foldl (fun s n =>
    s.storeFor c core (imageKey core (c.opa + BitVec.ofNat 64 (16 * n))) 16
      (if n = 0 then k.l0 else if isPad d N (n - 1) then 0 else k.cell (n - 1)).toNat) s

end Sys2Proof.Machine
end

