-- ==== Sys2Proof/Machine/Csr.lean ====
section
/-! DEFINITION. The control and status registers: access (R170, R171), what a read returns, what a write stores (R173, R196, R226, R262, R271, R280, R301, R388, R390, R443), and TEN (R41, R254, R255, R399). -/

namespace Sys2Proof.Machine

/-! ### Access (R170, R171) -/

/-- An entry of R170's table. -/
inductive Access where
  | none | ro | rw
deriving DecidableEq, Repr

/-- User and supervisor access of a CSR number; none when it is unassigned (R170). -/
def csrAccess (c : BitVec 12) : Option (Access × Access) :=
  match c.toNat with
  | 0x000 => some (.ro, .rw)
  | 0x001 => some (.rw, .rw)
  | 0x002 => some (.rw, .rw)
  | 0x003 => some (.rw, .rw)
  | 0x004 => some (.rw, .rw)
  | 0x005 => some (.ro, .ro)
  | 0x006 => some (.ro, .ro)
  | 0x010 => some (.ro, .rw)
  | 0x011 => some (.rw, .rw)
  | 0x012 => some (.rw, .rw)
  | 0x013 => some (.rw, .rw)
  | 0x018 => some (.ro, .rw)
  | 0x020 => some (.rw, .rw)
  | 0x021 => some (.rw, .rw)
  | 0x022 => some (.rw, .rw)
  | 0x030 => some (.ro, .ro)
  | 0x031 => some (.ro, .rw)
  | 0x032 => some (.ro, .rw)
  | 0x033 => some (.ro, .rw)
  | 0x034 => some (.ro, .rw)
  | 0x040 => some (.rw, .rw)
  | 0x041 => some (.rw, .rw)
  | 0x042 => some (.ro, .ro)
  | 0x060 => some (.rw, .rw)
  | 0x068 => some (.ro, .rw)
  | 0x069 => some (.ro, .rw)
  | 0x100 => some (.none, .rw)
  | 0x101 => some (.none, .rw)
  | 0x102 => some (.none, .rw)
  | 0x103 => some (.none, .rw)
  | 0x104 => some (.none, .rw)
  | 0x105 => some (.none, .rw)
  | 0x106 => some (.none, .rw)
  | 0x110 => some (.none, .rw)
  | 0x111 => some (.none, .rw)
  | 0x200 => some (.none, .rw)
  | n =>
    if 0x050 ≤ n ∧ n ≤ 0x05F then some (.ro, .ro)
    else if 0x108 ≤ n ∧ n ≤ 0x10F then some (.none, .rw)
    else Option.none

/-- What R171 finds wrong with an access: a cause, or none. DEDUCED, log entry 38. -/
def csrDenied (sup write : Bool) (c : BitVec 12) : Option (BitVec 10) :=
  match csrAccess c with
  | none => some 0x001
  | some (u, s) =>
    match if sup then s else u with
    | .none => some 0x002
    | .rw => none
    | .ro => if write then (if s = .rw then some 0x002 else some 0x001) else none

/-! ### Reading -/

/-- SSTATUS as it reads: PEND counts the records in the ring (R388, R389). -/
def Strand.sstatusRead (t : Strand) : Word := setField t.c.sstatus 4 6 t.pend

/-- HALTED of DBGCTL: the strand in slot s is halted and its save has completed (R443). -/
def State.haltedBits (s : State) : Nat :=
  ((upto 0 8).filter (fun i => s.all.any (fun t => t.dbg && t.id.core == s.core.id && t.id.slot == i &&
    (match t.run with | .away _ _ => true | _ => false)))).foldl (fun m i => m + 2 ^ i) 0

/-- The slots of the core whose strands are in a debug step (R443, R445). -/
def State.steppingBits (s : State) : Nat :=
  ((upto 0 8).filter (fun i => s.all.any (fun t => t.live && t.stepping && t.id.core == s.core.id && t.id.slot == i))).foldl (fun m i => m + 2 ^ i) 0

/-- The value of a CSR (R170); the counters of lane groups outside the grant read 0 (R390). -/
def State.csrRead (s : State) (c : BitVec 12) : Word :=
  let r := s.cur.c
  match c.toNat with
  | 0x000 => r.vl
  | 0x001 => r.vtype
  | 0x002 => r.vm
  | 0x003 => r.vstr
  | 0x004 => r.vstart
  | 0x005 => BitVec.ofNat 64 s.cur.vlmax
  | 0x006 => BitVec.ofNat 64 s.cur.grant
  | 0x010 => r.tshape
  | 0x011 => r.ten
  | 0x012 => r.tpitch
  | 0x013 => r.tprec
  | 0x018 => r.sigcfg
  | 0x020 => r.cgroup
  | 0x021 => r.cop
  | 0x022 => r.cstride
  | 0x030 => s.dclkw.setWidth 64
  | 0x031 => (1#64 <<< 63) ||| r.dclkr.setWidth 64
  | 0x032 => s.core.dlcap
  | 0x033 => s.core.escal
  | 0x034 => r.tocnt
  | 0x040 => r.widbase
  | 0x041 => r.widcnt
  | 0x042 => r.launchid
  | 0x060 => r.fcsr
  | 0x068 => s.core.vlbase
  | 0x069 => s.core.vlsize
  | 0x100 => r.tcause
  | 0x101 => r.tpc
  | 0x102 => r.tval
  | 0x103 => r.trec
  | 0x104 => s.cur.sstatusRead
  | 0x105 => r.tvec
  | 0x106 => r.epc
  | 0x110 => r.ptroot
  | 0x111 => r.asid
  | 0x200 => setField (setField s.core.dbgctl 16 8 (field s.core.dbgctl 16 8 &&& s.steppingBits)) 0 8 s.haltedBits
  | n =>
    if 0x050 ≤ n ∧ n ≤ 0x057 then (s.core.chans.getD (n - 0x050) Chan.reset).wm
    else if 0x058 ≤ n ∧ n ≤ 0x05F then (s.core.chans.getD (n - 0x058) Chan.reset).rng
    else if 0x108 ≤ n ∧ n < 0x108 + (s.cur.grant + 15) / 16 then r.tlg.getD (n - 0x108) 0
    else 0

/-! ### Writing -/

/-- Only the bits of a mask are kept: reserved bits store zero (R171). -/
def keep (v : Word) (lo len : Nat) : Word := BitVec.ofNat 64 (field v lo len * 2 ^ lo)

/-- VLMAX of a grant under a VTYPE (R44). -/
def vlmaxUnder (g : Nat) (vtype : Word) : Nat := vlmaxOf g (ewOf vtype)

/-- The strand with VTYPE written: VLMAX and VL follow when EW changes (R174). -/
def Strand.setVtype (t : Strand) (v : Word) : Strand :=
  let m := vlmaxUnder t.grant v
  let vl := if field v 0 2 ≠ field t.c.vtype 0 2 ∧ m < t.vl then BitVec.ofNat 64 m else t.c.vl
  { t with c := { t.c with vtype := keep v 0 8, vl := vl } }

/-- An acceptable VTYPE: EW is not 3, SCOPE is at most 4 (R173). -/
def vtypeOk (v : Word) : Bool := decide (field v 0 2 ≠ 3) && decide (field v 2 3 ≤ 4)

/-- An acceptable TSHAPE (R262). -/
def tshapeOk (v : Word) : Bool :=
  decide (shapeM v ≤ 64) && decide (shapeN v ≤ 64) && decide (shapeK v % 32 = 0) && decide (shapeK v ≤ 256)

/-- An acceptable SIGCFG (R271). -/
def sigcfgOk (v : Word) : Bool :=
  let n := sigN v
  if n = 0 then decide (sigCells v = 0) && decide (field v 8 2 = 0)
  else decide (n ≤ 8) && decide (levelStart (sigD v) (n + 1) ≤ 65536) && decide (sigCells v = levelStart (sigD v) (n + 1))

/-- A write puts no reserved code into a field (R171, R173, R226, R262, R271, R301, R388). -/
def csrCodeOk (c : BitVec 12) (v : Word) : Bool :=
  match c.toNat with
  | 0x001 => vtypeOk v
  | 0x010 => tshapeOk v
  | 0x013 => decide (2 ≤ field v 0 5) && decide (field v 0 5 ≤ 16)
  | 0x018 => sigcfgOk v
  | 0x021 => decide (field v 4 2 ≤ 1) && decide (field v 0 4 ≤ 6)
  | 0x100 => decide (field v 11 2 ≠ 3)
  | _ => true

/-- The vault window with VLBASE or VLSIZE written: it never exceeds 8 GiB (R73). -/
def Core.setWindow (k : Core) (base size : Word) : Core :=
  { k with vlbase := base, vlsize := if 2 ^ 33 < base.toNat + size.toNat then BitVec.ofNat 64 (2 ^ 33 - base.toNat) else size }

/-- The state with a CSR written, TEN and DBGCTL apart. A write to VL drops the bits above [9:0] before it takes the minimum with VLMAX. DESIGN CHOICE, log entry 71. -/
def State.csrStore (s : State) (c : BitVec 12) (v : Word) : State :=
  let t := s.cur
  let r := t.c
  match c.toNat with
  | 0x000 => s.setC { r with vl := BitVec.ofNat 64 (Nat.min (field v 0 10) t.vlmax) }
  | 0x001 => { s with cur := t.setVtype v }
  | 0x002 => s.setC { r with vm := keep v 0 6 }
  | 0x003 => s.setC { r with vstr := v }
  | 0x004 => s.setC { r with vstart := keep v 0 10 }
  | 0x010 => s.setC { r with tshape := keep v 16 9 ||| keep v 8 7 ||| keep v 0 7 }
  | 0x012 => s.setC { r with tpitch := keep v 26 22 ||| keep v 2 22 }
  | 0x013 => s.setC { r with tprec := keep v 0 5 }
  | 0x018 => s.setC { r with sigcfg := keep v 16 17 ||| keep v 8 2 ||| keep v 0 4 }
  | 0x020 => { s with cur := { t with group := none, c := { r with cgroup := keep v 32 32 ||| keep v 0 27 } } }
  | 0x021 => s.setC { r with cop := keep v 32 27 ||| keep v 0 6 }
  | 0x022 => s.setC { r with cstride := keep v 6 26 }
  | 0x031 => s.setC { r with dclkr := v.setWidth 63 }
  | 0x032 => { s with core := { s.core with dlcap := keep v 0 63 } }
  | 0x033 => { s with core := { s.core with escal := keep v 0 32 } }
  | 0x034 => s.setC { r with tocnt := keep v 0 32 }
  | 0x040 => s.setC { r with widbase := v }
  | 0x041 => s.setC { r with widcnt := v }
  | 0x060 => s.setC { r with fcsr := if 5 ≤ field v 5 3 then keep v 0 5 else keep v 0 8 }
  | 0x068 => { s with core := s.core.setWindow (keep v 6 27) s.core.vlsize }
  | 0x069 => { s with core := s.core.setWindow s.core.vlbase (keep v 6 28) }
  | 0x100 => s.setC { r with tcause := keep v 0 13 }
  | 0x101 => s.setC { r with tpc := v }
  | 0x102 => s.setC { r with tval := v }
  | 0x103 => s.setC { r with trec := v }
  | 0x104 => s.setC { r with sstatus := setField (setField r.sstatus 3 1 (field v 3 1)) 1 1 (field v 1 1) }
  | 0x105 => s.setC { r with tvec := keep v 2 62 }
  | 0x106 => s.setC { r with epc := v }
  | 0x110 => s.setC { r with ptroot := keep v 16 44 }
  | 0x111 => s.setC { r with asid := keep v 0 16 }
  | n =>
    if 0x108 ≤ n ∧ n ≤ 0x10F then s.setC { r with tlg := r.tlg.setIfInBounds (n - 0x108) (keep v 63 1 ||| keep v 0 10) }
    else s

/-! ### TEN (R41, R254, R255, R399) -/

/-- TEN.EN set by the issuing strand, which takes the tile store. -/
def State.holdTile (s : State) : State :=
  { s.setC { s.cur.c with ten := 1 } with core := { s.core with holder := some s.cur.id.sid } }

/-- The strand's state stands in its save area, or is being written there. -/
def Strand.inArea (t : Strand) : Bool :=
  match t.run with
  | .saving _ _ => true
  | .away _ _ => true
  | .restoring _ _ => true
  | _ => false

/-- A write that sets TEN.EN; `k` goes on once the strand holds the store, taken from a holder that is resident or saved (R255, R399). -/
def State.tenSet (s : State) (k : State → Out) : Out :=
  if s.tenOn then k s
  else if s.core.clearing then s.stallHere
  else
    match s.core.holder.bind s.strand with
    | none => k s.holdTile
    | some h =>
      if !s.cur.sup then s.trap 0x284 (h.writer.setWidth 64)
      else if s.core.eng.any (fun e => e.sid == h.id.sid) then s.stallHere
      else
        let s := s.onStrand h.id.sid (fun t => { t with c := { t.c with ten := 0 } })
        k (if h.inArea then s.saveCsr h 8 0 else s).holdTile

/-- A write that clears TEN.EN: a delivery point for engine records, and it waits for the strand's engine commands (R254, R384). -/
def State.tenClear (s : State) (k : State → Out) : Out :=
  if !s.tenOn then k s
  else s.deliverPoint (Record.ofClasses 8) (fun s =>
    if s.tilesOut s.cur ≠ 0 then s.stallHere
    else k { s.setC { s.cur.c with ten := 0 } with core := { s.core with holder := none } })

/-! ### DBGCTL (R443 to R445) -/

/-- The resident strand of a slot of a core. -/
def State.inSlot (s : State) (core slot : Nat) : Option Strand :=
  s.all.find? (fun t => t.resident && t.id.core == core && t.id.slot == slot)

/-- A strand is halted at once as a forced pre-emption stops it, and keeps its slot (R444). DEDUCED, log entry 19. -/
def State.haltStrand (s : State) (sid : Nat) : State :=
  s.asStrand sid (fun s =>
    if s.cur.dbg then s
    else
      let s := s.force
      { s with cur := if s.cur.live then { s.cur with dbg := true, stepping := false } else s.cur })

/-- A halted strand whose save has completed is restored from its area (R444). -/
def State.unhalt (s : State) (sid : Nat) (stepping : Bool) : State :=
  match s.strand sid with
  | none => s
  | some t =>
    match t.run with
    | .away _ _ =>
      if t.dbg then (s.comeBack t t.grant t.id.lanes.toNat).onStrand sid (fun t => { t with stepping := stepping }) else s
    | _ => s

/-- The effect of one slot's HALT and STEP bits; a strand in a step goes on with it, and runs on after it when its HALT bit clears (R443 to R445). -/
def State.debugSlot (s : State) (slot : Nat) (halt step : Bool) : State :=
  match s.inSlot s.core.id slot with
  | none => s
  | some t =>
    if t.id.sid = s.cur.id.sid then s
    else if t.stepping then (if halt then s else s.onStrand t.id.sid (fun t => { t with stepping := false }))
    else if halt && !t.dbg then s.haltStrand t.id.sid
    else if t.dbg && step then s.unhalt t.id.sid true
    else if t.dbg && !halt then s.unhalt t.id.sid false
    else s

/-- A write of DBGCTL: the writer's own HALT bit is ignored and stays as it stood, and so is a STEP bit of a slot that is not halted; the bit of a step under way stays (R443). -/
def State.dbgWrite (s : State) (v : Word) : State :=
  let own := s.cur.id.slot
  let halt := field v 24 8 - field v (24 + own) 1 * 2 ^ own + field s.core.dbgctl (24 + own) 1 * 2 ^ own
  let step := field v 16 8 &&& s.haltedBits
  let new : Word := BitVec.ofNat 64 (halt * 2 ^ 24 + (step ||| (s.steppingBits &&& halt)) * 2 ^ 16 + field v 13 3 * 2 ^ 13)
  let s := { s with core := { s.core with dbgctl := new } }
  (upto 0 8).foldl (fun s i => s.debugSlot i (halt / 2 ^ i % 2 = 1) (step / 2 ^ i % 2 = 1)) s

/-! ### The CSR instructions (R196) -/

/-- A write of a CSR with the old value in x[d]; a missing privilege is found before a reserved field code (R163, R171). DEDUCED, log entry 38. -/
def State.csrWrite (s : State) (word : InsnWord) (d : Reg) (c : BitVec 12) (f : Word → Word) : Out :=
  let old := s.csrRead c
  let v := f old
  match csrDenied s.cur.sup true c with
  | some x => s.trapWord x word
  | none =>
    if !csrCodeOk c v then s.trapWord 0x001 word
    else if c = 0x011 then
      (if v.getLsbD 0 then s.tenSet (fun s => s.ret d old) else s.tenClear (fun s => s.ret d old))
    else if c = 0x200 then (s.dbgWrite v).ret d old
    else (s.csrStore c v).ret d old

/-- A read of a CSR. -/
def State.csrLook (s : State) (word : InsnWord) (d : Reg) (c : BitVec 12) : Out :=
  match csrDenied s.cur.sup false c with
  | some x => s.trapWord x word
  | none => s.ret d (s.csrRead c)

/-- CSRR (R196). -/
def execCsrr (d : Reg) (c : BitVec 12) (s : State) : Out := s.csrLook (mkC d 0 c 0) d c
/-- CSRW (R196). -/
def execCsrw (d a : Reg) (c : BitVec 12) (s : State) : Out :=
  let v := s.rx a
  s.csrWrite (mkC d a c 1) d c (fun _ => v)
/-- CSRS (R196); with a = x0 it counts as a read (R171). -/
def execCsrs (d a : Reg) (c : BitVec 12) (s : State) : Out :=
  let v := s.rx a
  if a = 0 then s.csrLook (mkC d a c 2) d c else s.csrWrite (mkC d a c 2) d c (fun old => old ||| v)
/-- CSRC (R196); with a = x0 it counts as a read (R171). -/
def execCsrc (d a : Reg) (c : BitVec 12) (s : State) : Out :=
  let v := s.rx a
  if a = 0 then s.csrLook (mkC d a c 3) d c else s.csrWrite (mkC d a c 3) d c (fun old => old &&& ~~~v)
/-- CSRWI (R196). -/
def execCsrwi (d : Reg) (i : BitVec 5) (c : BitVec 12) (s : State) : Out :=
  s.csrWrite (mkC d i c 4) d c (fun _ => i.setWidth 64)

end Sys2Proof.Machine
end

