-- ==== Sys2Proof/Machine/Vperm.lean ====
section
/-! DEFINITION. Masks, permutations, moves and reductions (R205, R213 to R215). -/

namespace Sys2Proof.Machine

/-- A whole instruction (R205): it ignores VSTART and the counters; a destination that is a source is cause 0x003. DESIGN CHOICE, log entry 82. -/
def State.whole (s : State) (w : InsnWord) (srcs : List Reg) (dst : Option Reg) (k : State → (Reg → Nat → Nat) → State) : Out :=
  if (match dst with | some d => srcs.any (fun r => r == d) | none => false) then s.trapWord 0x003 w
  else s.withOperands Strand.activeWhole srcs dst.toList (fun s rd =>
    let s := k s rd
    .next ({ s with cur := s.cur.vdone }).adv)

/-- A mask element (R213). -/
def maskOf (x : Nat) : Nat := x % 2

/-- VMAND (R213). -/
def execVmand (d a b : Reg) (s : State) : Out := s.elementWise [a, b] d (fun rd i => (maskOf (rd a i) * maskOf (rd b i), 0))
/-- VMOR (R213). -/
def execVmor (d a b : Reg) (s : State) : Out := s.elementWise [a, b] d (fun rd i => (Nat.max (maskOf (rd a i)) (maskOf (rd b i)), 0))
/-- VMXOR (R213). -/
def execVmxor (d a b : Reg) (s : State) : Out := s.elementWise [a, b] d (fun rd i => ((maskOf (rd a i) + maskOf (rd b i)) % 2, 0))
/-- VMNOT (R213). -/
def execVmnot (d a : Reg) (s : State) : Out := s.elementWise [a] d (fun rd i => (1 - maskOf (rd a i), 0))

/-- VMCNT (R203, R213). -/
def execVmcnt (d a : Reg) (s : State) : Out :=
  s.whole (mkV 0x1D d a 0 0x40) [a] none (fun s rd =>
    s.wx d (BitVec.ofNat 64 ((s.cur.activeWhole.filter (fun i => maskOf (rd a i) == 1)).length)))
/-- VMLEAD (R203, R213). -/
def execVmlead (d a : Reg) (s : State) : Out :=
  s.whole (mkV 0x1D d a 0 0x50) [a] none (fun s rd =>
    s.wx d (match s.cur.activeWhole.find? (fun i => maskOf (rd a i) == 1) with
      | some i => BitVec.ofNat 64 i
      | none => BitVec.allOnes 64))

/-- Each active element with the number of active elements before it whose mask element is 1. -/
def ranks (m : Nat → Nat) : List Nat → Nat → List (Nat × Nat)
  | [], _ => []
  | i :: r, n => (i, n) :: ranks m r (n + m i)

/-- VMRANK (R213). -/
def execVmrank (d a : Reg) (s : State) : Out :=
  s.whole (mkV 0x1D d a 0 0x60) [a] (some d) (fun s rd =>
    s.writeBack d (ranks (fun i => maskOf (rd a i)) s.cur.activeWhole 0) 0)

/-- VSLIDEUP (R214). -/
def execVslideup (d a b c : Reg) (s : State) : Out :=
  s.whole (mkQ 0x1C d a b c 0) [a] (some d) (fun s rd =>
    let n := (s.rx b).toNat
    let f := (s.rx c).toNat % 2 ^ s.cur.ew
    s.writeBack d (s.cur.activeWhole.map (fun i => (i, if n ≤ i then rd a (i - n) else f))) 0)
/-- VSLIDEDN (R214). -/
def execVslidedn (d a b c : Reg) (s : State) : Out :=
  s.whole (mkQ 0x1C d a b c 1) [a] (some d) (fun s rd =>
    let n := (s.rx b).toNat
    let f := (s.rx c).toNat % 2 ^ s.cur.ew
    s.writeBack d (s.cur.activeWhole.map (fun i => (i, if i + n < s.cur.vl then rd a (i + n) else f))) 0)
/-- VGATHER (R214). -/
def execVgather (d a b c : Reg) (s : State) : Out :=
  s.whole (mkQ 0x1C d a b c 2) [a, b] (some d) (fun s rd =>
    let f := (s.rx c).toNat % 2 ^ s.cur.ew
    s.writeBack d (s.cur.activeWhole.map (fun i => (i, if rd b i < s.cur.vl then rd a (rd b i) else f))) 0)
/-- VCOMPRESS (R214). -/
def execVcompress (d a : Reg) (s : State) : Out :=
  s.whole (mkQ 0x1C d a 0 0 3) [a] (some d) (fun s rd =>
    let act := s.cur.activeWhole
    s.writeBack d ((upto 0 act.length).zip (act.map (rd a))) 0)

/-- VMVXS (R214, R407): it processes no elements. -/
def execVmvxs (d a b : Reg) (s : State) : Out :=
  if (s.cur.stream a).isSome then s.trap 0x201 (a.setWidth 64)
  else
    let n := (s.rx b).toNat
    s.ret d (if n < s.cur.vlmax then BitVec.ofNat 64 (ofInt 64 (toInt s.cur.ew (s.cur.elem a n))) else 0)
/-- VMVSX (R214, R407). -/
def execVmvsx (d a b : Reg) (s : State) : Out :=
  if (s.cur.stream d).isSome then s.trap 0x201 (d.setWidth 64)
  else
    let n := (s.rx b).toNat
    if n < s.cur.vlmax then .next ({ s with cur := s.cur.setElems d [(n, (s.rx a).toNat)] }).adv else .next s.adv

/-! ### Reductions (R129, R215) -/

/-- One level of the tree: neighbours combined, a leftover passed up (R129). DEDUCED, log entry 43. -/
def pairUp (op : Nat → Nat → Nat × FFlags) : List Nat → List Nat × FFlags
  | x :: y :: r =>
    let z := op x y
    let q := pairUp op r
    (z.1 :: q.1, z.2 ||| q.2)
  | l => (l, 0)

/-- The whole tree; `fuel` bounds its levels. DEDUCED, log entry 43. -/
def treeOf (op : Nat → Nat → Nat × FFlags) : (fuel : Nat) → List Nat → FFlags → Nat → Nat × FFlags
  | 0, l, fl, id => (l.headD id, fl)
  | n + 1, l, fl, id =>
    match l with
    | [] => (id, fl)
    | [x] => (x, fl)
    | l =>
      let q := pairUp op l
      treeOf op n q.1 (fl ||| q.2) id

/-- A reduction of the active elements, the others replaced by the identity (R129), into x[d]. -/
def State.reduce (s : State) (w : InsnWord) (d a : Reg) (id : Nat) (op : Nat → Nat → Nat × FFlags) (out : Nat → Word) : Out :=
  s.whole w [a] none (fun s rd =>
    let l := (upto 0 s.cur.vl).map (fun i => if s.cur.maskBit i then rd a i else id)
    let r := treeOf op 10 l 0 id
    (s.setC { s.cur.c with fcsr := orFlags s.cur.c.fcsr r.2 }).wx d (out r.1))

/-- A floating-point reduction: cause 0x100 at EW 64 (R207, R215). DEDUCED, log entry 43. -/
def State.freduce (s : State) (w : InsnWord) (d a : Reg) (id : FFmt → Nat) (op : FFmt → RMode → Nat → Nat → Nat × FFlags) : Out :=
  if s.cur.ew = 64 then s.trap 0x100 s.cur.c.vtype
  else
    let f := regFmt s.cur.ew
    s.reduce w d a (id f) (op f (rmOf s.cur.c.fcsr)) (BitVec.ofNat 64)

/-- VFREDSUM (R129, R215). -/
def execVfredsum (d a : Reg) (s : State) : Out :=
  s.freduce (mkV 0x1E d a 0 0) d a (fun f => f.zero true) (fun f rm x y => f.add rm (f.decode x) (f.decode y))
/-- VFREDMAX (R117, R215). -/
def execVfredmax (d a : Reg) (s : State) : Out :=
  s.freduce (mkV 0x1E d a 0 0x10) d a (fun f => f.inf true) (fun f _ x y => f.minmax true x y)
/-- VFREDMIN (R117, R215). -/
def execVfredmin (d a : Reg) (s : State) : Out :=
  s.freduce (mkV 0x1E d a 0 0x20) d a (fun f => f.inf false) (fun f _ x y => f.minmax false x y)

/-- An EW-bit result sign-extended to 64 bits (R215). -/
def sextE (w x : Nat) : Word := BitVec.ofNat 64 (ofInt 64 (toInt w x))

/-- VREDSUM (R129, R215). -/
def execVredsum (d a : Reg) (s : State) : Out :=
  s.reduce (mkV 0x1E d a 0 0x30) d a 0 (fun x y => ((x + y) % 2 ^ s.cur.ew, 0)) (sextE s.cur.ew)
/-- VREDMAX (R129, R215). -/
def execVredmax (d a : Reg) (s : State) : Out :=
  s.reduce (mkV 0x1E d a 0 0x40) d a (2 ^ (s.cur.ew - 1))
    (fun x y => (if toInt s.cur.ew x < toInt s.cur.ew y then y else x, 0)) (sextE s.cur.ew)
/-- VREDMIN (R129, R215). -/
def execVredmin (d a : Reg) (s : State) : Out :=
  s.reduce (mkV 0x1E d a 0 0x50) d a (2 ^ (s.cur.ew - 1) - 1)
    (fun x y => (if toInt s.cur.ew y < toInt s.cur.ew x then y else x, 0)) (sextE s.cur.ew)

end Sys2Proof.Machine
end

