-- ==== Sys2Proof/Machine/Relay.lean ====
section
/-! DEFINITION. The Relay: combining a round in the rank tree, staging results, and parked arrivals (R129, R357 to R362, R425). -/

namespace Sys2Proof.Machine

/-! ### Combining (R360) -/

/-- A contributed byte. -/
def Contribution.byte (c : Contribution) (off : Nat) : Nat :=
  match c.bytes.find? (fun e => e.1 == off) with
  | some e => e.2.toNat
  | none => 0

/-- An element of `n` bytes at an offset of a contribution. -/
def Contribution.elem (c : Contribution) (n off : Nat) : Nat :=
  ofBytes ((upto off n).map (fun o => BitVec.ofNat 8 (c.byte o)))

/-- The format of COP.FMT (R301): FP32 or BF16. -/
def copFormat (fmt : Nat) : FFmt := if fmt = 0 then FP32 else BF16

/-- One element over the ranks' FP32 values in the tree of R129, every adder at FP32, narrowed once (R360). -/
def combineElem (op : Nat) (f : FFmt) (wide : List Nat) : Nat :=
  let node (a b : Nat) : Nat × FFlags :=
    if op = 1 then FP32.minmax true a b
    else if op = 2 then FP32.minmax false a b
    else FP32.add .rne (FP32.decode a) (FP32.decode b)
  (f.convert .rne (FP32.decode (treeOf node (wide.length + 1) wide 0 0).1)).1

/-- Bytes of an element of a contribution: B16 or F32 (R225, R360). -/
def Contribution.width (c : Contribution) : Nat := if c.narrow then 2 else 4

/-- Element `e` of a contribution, widened exactly to FP32 (R359, R360). -/
def Contribution.wide (c : Contribution) (e : Nat) : Nat :=
  (FP32.convert .rne ((if c.narrow then BF16 else FP32).decode (c.elem c.width (c.width * e)))).1

/-- The elements that every contribution of `len` bytes has and whose results fit in `len` bytes. -/
def elemCount (fmt len : Nat) (parts : List Contribution) : Nat :=
  parts.foldl (fun n c => Nat.min n (len / c.width)) (len / (if fmt = 0 then 4 else 2))

/-- The ranks' vectors combined element by element, each result in COP.FMT (R359, R360). -/
def combineVec (op fmt len : Nat) (parts : List Contribution) : List Byte :=
  (upto 0 (elemCount fmt len parts)).flatMap (fun e =>
    toBytes (if fmt = 0 then 4 else 2) (combineElem op (copFormat fmt) (parts.map (fun c => c.wide e))))

/-- A binary128 image between the nodes of an ordered join: level k is the list of its d^k cells (R360). -/
abbrev JoinImage := List (List (BitVec 128))

/-- The exact values of an image, none when a cell is a NaN or an infinity (R274). -/
def JoinImage.exact (m : JoinImage) : Option Tensor := m.mapM (fun lv => lv.mapM (fun v => fpRat (B128.decode v.toNat)))

/-- One node of an ordered join: Mul of two images, each cell rounded once to binary128, to an infinity where it overflows; canonical NaNs in every cell when one that it reads is a NaN or an infinity (R274, R360). -/
def joinNode (d N : Nat) (a b : JoinImage) : JoinImage :=
  match a.exact, b.exact with
  | some q, some r => (Tensor.mul d N q r).map (fun lv => lv.map rat128)
  | _, _ => (upto 0 (N + 1)).map (fun k => List.replicate (d ^ k) (BitVec.ofNat 128 B128.nan))

/-- One level of the tree of R129 over images. -/
def joinLevel (d N : Nat) : List JoinImage → List JoinImage
  | a :: b :: r => joinNode d N a b :: joinLevel d N r
  | l => l

/-- The whole tree; `fuel` bounds its levels. -/
def joinTree (d N : Nat) : (fuel : Nat) → List JoinImage → JoinImage
  | 0, l => l.headD []
  | n + 1, l => if l.length ≤ 1 then l.headD [] else joinTree d N n (joinLevel d N l)

/-- The ordered join of every rank's FP32 image, laid out with entries of COP.FMT's size; of one rank alone no node is formed (R360). DEDUCED, log entry 31. -/
def joinImages (d N fmt : Nat) (parts : List Contribution) : List Byte :=
  let n := if fmt = 0 then 4 else 2
  let f := copFormat fmt
  let wide (v : Nat) : BitVec 128 := BitVec.ofNat 128 (B128.convert .rne (FP32.decode v)).1
  let img (c : Contribution) : JoinImage :=
    [wide (c.elem 4 0)] :: (upto 1 N).map (fun k => (levelCells d k).map (fun i => wide (c.elem 4 (4 * (1 + i)))))
  let t := joinTree d N (parts.length + 1) (parts.map img)
  let val (lv i : Nat) : Nat := (f.convert .rne (B128.decode ((t.getD lv []).getD i 0).toNat)).1
  let pos := imagePositions d N
  let cells := (upto 1 N).flatMap (fun lv => (upto 0 (d ^ lv)).map (fun i => (levelStart d lv + i + 1, val lv i)))
  let vals := (0, val 0 0) :: cells
  (upto 0 (1 + levelStart d (N + 1))).flatMap (fun p =>
    toBytes n (if pos.contains p then ((vals.find? (fun e => e.1 == p)).map Prod.snd).getD 0 else 0))

/-- The fields of COP in a contribution. -/
def Contribution.opc (c : Contribution) : Nat := field c.op 0 4
def Contribution.fmt (c : Contribution) : Nat := field c.op 4 2

/-- The result of a complete round at a rank (R357). -/
def roundResult (g : Group) (parts : List Contribution) (op fmt chunk rank : Nat) : List Byte :=
  let parts := sortBy (fun (a b : Contribution) => decide (a.rank < b.rank)) parts
  match op with
  | 3 => ((combineVec 0 fmt g.slotlen parts).drop (rank * chunk)).take chunk
  | 4 => parts.flatMap (fun c => (upto 0 chunk).map (fun o => BitVec.ofNat 8 (c.byte o)))
  | 5 => (parts.take 1).flatMap (fun c => (upto 0 g.slotlen).map (fun o => BitVec.ofNat 8 (c.byte o)))
  | 6 => (joinImages g.sigd g.sign fmt parts).take g.slotlen
  | _ => combineVec op fmt g.slotlen parts

/-! ### Staging and parking (R362, R425) -/

/-- The Relay's record for a strand that has contributed nothing (R389, R404). -/
def relayRecord (t : Strand) (group slot : Nat) : Record where
  cause := 0
  tval := 0
  pc := t.pc
  word := 0
  unit := 3
  chan := BitVec.ofNat 8 slot
  seq := 0
  opa := 0
  opb := 0
  opc := 0
  opd := 0
  vl := 0
  vtype := 0
  tshape := 0
  extra := BitVec.ofNat 64 (group * 2 ^ 32 + slot)
  pos := 0
  at_ := 0
  ring := 16
  given := false

/-- The round is complete for a strand (R302). -/
def Strand.roundDone (t : Strand) (group slot : Nat) : Strand :=
  let u := t.slotOf group slot
  t.setSlot { u with rounds := u.rounds + 1, given := [], staged := true }

/-- A record of the Relay waits for an entry of a strand's ring: the Relay stands still for that strand (R389). DESIGN CHOICE, log entry 79. -/
def State.relayHeld (s : State) (sid : Nat) : Bool :=
  match s.strand sid with
  | none => false
  | some t => t.live && t.records.any (fun r => r.ring == 16 && r.unit == 3)

/-- The arrivals of a result from offset `off` of its slot on: packets of at most 4 KiB, none across a 4 KiB boundary of the staging area (R349, R362). DEDUCED, log entry 31. -/
def cutResult (base : Nat) : (fuel : Nat) → (off : Nat) → List Byte → List (Nat × List Byte)
  | 0, _, _ => []
  | n + 1, off, bs =>
    if bs.isEmpty then []
    else
      let k := 4096 - (base + off) % 4096
      (off, bs.take k) :: cutResult base n (off + k) (bs.drop k)

/-- The staging address of an arrival (R357). -/
def stageAddr (g : Group) (slot off : Nat) : Word := g.stgbase + BitVec.ofNat 64 (slot * g.slotlen + off)

/-- The lanes that `n` elements from element `first` of a collective vector cross: element e on lane e mod 192 (R359). DEDUCED, log entry 31. -/
def lanesOf (first n : Nat) : List Nat := distinctNat ((upto first (Nat.min n 192)).map (fun e => e % 192))

/-- The perimeter dies of the Relay's lane stripes: that of port j div 4 for lane j (R464). -/
def stripeDies (lanes : List Nat) : List Nat := distinctNat (lanes.map (fun j => portDie (j / 4)))

/-- One arrival written by the stripes of its lanes into the staging lines of a rank, turned at G under writer 0xF00; the fault otherwise, with the global address of the line where no packet reaches it (R362, R404, R464, R466). DEDUCED, log entry 31. -/
def State.landPiece (s : State) (t : Strand) (va : Word) (lanes : List Nat) (bs : List Byte) : Option XFault × State :=
  match s.translate t.agent va .write with
  | (.error x, s) => (some x, s)
  | (.ok key, s) =>
    if keyModule key = 0 ∧ (s.dieAt (keyDie key)).phase = .failed then (some ⟨0x301, va, va⟩, s)
    else
      let dies := stripeDies lanes
      match s.crosses (16 * dies.headD 0) 0xF00 key bs.length with
      | (false, s) => (some ⟨0x300, BitVec.ofNat 64 (globalOf s.front.modnum (key / 64 * 64)), va⟩, s)
      | (true, s) => (none, (s.passes (dies.flatMap (fun d => pathFor d (homeDie key) key))).writeTurned (dies.headD 0) 0xF00 key bs)

/-- The lanes of a parked arrival. -/
def Parked.lanes (p : Parked) : List Nat := lanesOf (p.off / p.width) (p.bytes.length / p.width)

/-- Arrivals of one round at a strand that are parked or wait on channel 6. -/
def Parked.of (p : Parked) (sid group slot : Nat) : Bool := p.sid == sid && p.group == group && p.slot == slot

/-- The parking entries of a die in use (R362). -/
def State.parkedAt (s : State) (die : Nat) : Nat := ((s.dieAt die).parked.filter (fun p => !p.rest)).length

/-- The round's arrivals at a strand are discarded, so that it never completes there (R425). -/
def State.discardRound (s : State) (die sid group slot : Nat) : State :=
  s.onDie die (fun d => { d with parked := d.parked.filter (fun p => !p.of sid group slot) })

/-- The round completes for a rank once its last arrival has landed (R357, R362). -/
def State.settleRound (s : State) (die sid group slot : Nat) : State :=
  if (s.dieAt die).parked.any (fun p => p.of sid group slot) then s
  else s.onStrand sid (fun t => t.roundDone group slot)

/-- An arrival that has no parking entry yet: it waits on channel 6 while all 64 are in use, else it lands, takes a parking entry with one record for its page, or is discarded with its round; false when it is discarded (R362, R404, R425). DEDUCED, log entry 31. -/
def State.arrivePiece (s : State) (t : Strand) (g : Group) (p : Parked) : Bool × State :=
  let die := dieOf t.id.core
  let va := stageAddr g p.slot p.off
  if 64 ≤ s.parkedAt die then (true, s.onDie die (fun d => { d with parked := d.parked ++ [{ p with rest := true }] }))
  else
    match s.landPiece t va p.lanes p.bytes with
    | (none, s) => (true, s)
    | (some x, s) =>
      let r := { p.record with cause := x.cause, tval := x.tval }
      if x.cause = 0x080 then
        let page (q : Parked) : Nat := (stageAddr g q.slot q.off).toNat / 65536
        let known := (s.dieAt die).parked.any (fun q => !q.rest && q.of p.sid p.group p.slot && page q == page p)
        let s := s.onDie die (fun d => { d with parked := d.parked ++ [{ p with at_ := s.now, rest := false }] })
        (true, if known then s else s.addReached p.sid r)
      else (false, (s.discardRound die p.sid p.group p.slot).addReached p.sid r)

/-- The arrivals of a result at a strand in turn, until one is discarded. -/
def State.arriveAll (s : State) (t : Strand) (g : Group) (group slot width : Nat) (r : Record) : List (Nat × List Byte) → Bool × State
  | [] => (true, s)
  | e :: es =>
    match s.arrivePiece t g ⟨t.id.sid, group, slot, e.1, e.2, s.now, false, width, r⟩ with
    | (false, s) => (false, s)
    | (true, s) => s.arriveAll t g group slot width r es

/-- A result arrives at a rank (R357, R362). -/
def State.arriveResult (s : State) (sid : Nat) (g : Group) (group slot width : Nat) (r : Record) (bs : List Byte) : State :=
  match s.strand sid with
  | none => s
  | some t =>
    match s.arriveAll t g group slot width r (cutResult (slot * g.slotlen) (bs.length / 4096 + 2) 0 bs) with
    | (false, s) => s
    | (true, s) => s.settleRound (dieOf t.id.core) sid group slot

/-- The group of an arrival or a contribution of a strand: as its strand has read it, or as the table has it (R356). -/
def State.groupFor (s : State) (sid group : Nat) : Option Group × State :=
  match (s.strand sid).bind (fun t => if t.groupNum = group then t.group else none) with
  | some g => (some g, s)
  | none =>
    match s.groupLine (((s.strand sid).map (fun t => t.id.core)).getD 0) group with
    | (.ok e, s) => (e.map Prod.snd, s)
    | (.error _, s) => (none, s)

/-- Arrivals on channel 6 take the parking entries that have come free (R362). `fuel` bounds them. -/
def State.enterParking (s : State) (die : Nat) : (fuel : Nat) → State
  | 0 => s
  | n + 1 =>
    if 64 ≤ s.parkedAt die then s
    else
      match (s.dieAt die).parked.find? (fun p => p.rest) with
      | none => s
      | some p =>
        let s := s.onDie die (fun d => { d with parked := d.parked.filter (fun q => q != p) })
        match s.strand p.sid, s.groupFor p.sid p.group with
        | some t, (some g, s) =>
          match s.arrivePiece t g p with
          | (true, s) => (s.settleRound die p.sid p.group p.slot).enterParking die n
          | (false, s) => s.enterParking die n
        | _, (_, s) => s.enterParking die n

/-- A parked arrival tries its page again: it lands, stays, or is discarded with its round (R362, R425). -/
def State.retryArrival (s : State) (die : Nat) (p : Parked) : State :=
  if p.rest || s.relayHeld p.sid then s
  else
    let gone (s : State) : State := s.onDie die (fun d => { d with parked := d.parked.filter (fun q => q != p) })
    match s.strand p.sid, s.groupFor p.sid p.group with
    | some t, (some g, s) =>
      match s.landPiece t (stageAddr g p.slot p.off) p.lanes p.bytes with
      | (none, s) => ((gone s).settleRound die p.sid p.group p.slot).enterParking die (s.dieAt die).parked.length
      | (some x, s) =>
        if x.cause = 0x080 then
          s.onDie die (fun d => { d with parked := updFirst (fun q => q == p) (fun q => { q with at_ := s.now }) d.parked })
        else
          ((s.discardRound die p.sid p.group p.slot).addReached p.sid { p.record with cause := x.cause, tval := x.tval }).enterParking die
            (s.dieAt die).parked.length
    | _, (_, s) => gone s

/-- Every parked arrival of a die tries again (R362). -/
def State.retryArrivals (s : State) (die : Nat) : State :=
  (s.dieAt die).parked.foldl (fun s p => if (s.dieAt die).parked.contains p then s.retryArrival die p else s) s

/-- The parked arrivals of all dies, counted by die and then by age. -/
def State.allParked (s : State) : List (Nat × Parked) := s.dies.flatMap (fun d => d.parked.map (fun p => (d.id, p)))

/-- PARKED_ARRIVAL_RETRY (R362). -/
def execParkedArrivalRetry (index : Nat) (s : State) : Out :=
  match s.allParked[index]? with
  | none => .next s
  | some e => .next (s.retryArrival e.1 e.2)

/-! ### Rounds (R357, R358) -/

/-- The strand of this module that a member record names as rank r of a group (R355, R356): one that has been lost takes its arrivals while no other has its slot (R448). -/
def State.named (s : State) (group r : Nat) (m : Word) : Option Strand :=
  let is (t : Strand) : Bool := t.groupNum == group && t.rank == r && s.memberOf t == m
  match s.all.find? (fun t => t.live && is t) with
  | some t => some t
  | none => s.all.find? (fun t => (match t.run with | .lost _ => true | _ => false) && is t)

/-- What the Relay knows of the ranks from `r` on, by their member records: the strands of this module and the modules of the others; a record that cannot be read is a fault (R356). -/
def State.ranksFrom (s : State) (core : Nat) (g : Group) (group r : Nat) : (n : Nat) → Except XFault (List (Nat × Strand) × List Nat) × State
  | 0 => (.ok ([], []), s)
  | n + 1 =>
    match s.member core g r with
    | (.error x, s) => (.error x, s)
    | (.ok m, s) =>
      match s.ranksFrom core g group (r + 1) n with
      | (.error x, s) => (.error x, s)
      | (.ok (here, away), s) =>
        match m with
        | none => (.ok (here, away), s)
        | some m =>
          match s.named group r m with
          | some t => (.ok ((r, t) :: here, away), s)
          | none => (.ok (here, if field m 32 18 = s.front.modnum.toNat then away else field m 32 18 :: away), s)

/-- The ranks of a round's group: those with a strand here, and the other modules that hold a rank (R355, R356). -/
def State.ranks (s : State) (g : Group) (r : Round) : Except XFault (List (Nat × Strand) × List Nat) × State :=
  let core := (r.parts.findSome? (fun c => (s.strand c.sid).map (fun t => t.id.core))).getD 0
  match s.ranksFrom core g r.group 0 g.ranks with
  | (.error x, s) => (.error x, s)
  | (.ok (here, away), s) => (.ok (here, distinctNat away), s)

/-- No rank of a round with a strand here has a record of the Relay that waits for an entry of its ring (R389). DEDUCED, log entry 31. -/
def State.ranksFree (s : State) (g : Group) (r : Round) : Bool :=
  match (s.ranks g r).1 with
  | .ok (here, _) => !here.any (fun (e : Nat × Strand) => s.relayHeld e.2.id.sid)
  | .error _ => true

/-- A round has everything that its operation asks for: every rank's bytes, or the root's (R357). -/
def Round.full (r : Round) (g : Group) (op chunk root : Nat) : Bool :=
  let whole (c : Contribution) : Bool := decide (g.giveLen op chunk ≤ c.bytes.length)
  if op = 5 then r.parts.any (fun c => decide (c.rank = root) && whole c)
  else decide (g.ranks ≤ r.parts.length) && r.parts.all whole

/-- TVAL of a failed round's record at a rank: the slot for a mismatch, the global address of the first staging line of the rank's result for a hop that is lost (R404, R463). DEDUCED, log entry 31. -/
def State.roundTval (s : State) (t : Strand) (g : Group) (slot : Nat) (cause : BitVec 10) : Word × State :=
  if cause = 0x208 then (BitVec.ofNat 64 slot, s)
  else
    match s.translate t.agent (stageAddr g slot 0) .write with
    | (.ok key, s) => (BitVec.ofNat 64 (globalOf s.front.modnum (key / 64 * 64)), s)
    | (.error _, s) => (stageAddr g slot 0, s)

/-- A failed round: each rank that has a strand here gets a record, from its contribution where it has made one, else at the position that the strand has reached, and no contribution stands; `tval` is the address that could not be read, where there is one (R358, R385, R389, R404). DEDUCED, log entry 31. -/
def State.failRound (s : State) (g : Group) (r : Round) (here : List (Nat × Strand)) (cause : BitVec 10) (tval : Option Word) : State :=
  let s := { s with rounds := s.rounds.filter (fun q => !(q.group == r.group && q.slot == r.slot)) }
  (upto 0 g.ranks).foldl (fun s k =>
    let part := r.parts.find? (fun c => decide (c.rank = k))
    let who := match part.bind (fun c => s.strand c.sid) with
      | some t => some t
      | none => (here.find? (fun (e : Nat × Strand) => decide (e.1 = k))).bind (fun (e : Nat × Strand) => s.strand e.2.id.sid)
    match who with
    | none => s
    | some t =>
      let s := s.setStrand (t.setSlot { t.slotOf r.group r.slot with given := [] })
      let (v, s) := match tval with | some v => (v, s) | none => s.roundTval t g r.slot cause
      match part with
      | some c => s.addRecord t.id.sid { c.record with cause := cause, tval := v }
      | none => s.addReached t.id.sid { relayRecord t r.group r.slot with cause := cause, tval := v }) s

/-- The group of a round. -/
def State.roundGroup (s : State) (r : Round) : Option Group × State :=
  match r.parts.find? (fun c => c.sid != 0) with
  | some c => s.groupFor c.sid r.group
  | none => s.groupFor 0 r.group

/-- Contributions of a round that do not agree, or a join whose depth and channels break R270 (R358, R360). -/
def Round.mismatch (r : Round) (g : Group) (c0 : Contribution) : Bool :=
  r.parts.any (fun c => c.clash || c.op != c0.op || c.chunk != c0.chunk) || (decide (c0.opc = 6) && !joinOk g.sign g.sigd)

/-- A complete round, or one that fails (R357, R358). -/
def Round.ready (r : Round) (g : Group) (c0 : Contribution) : Bool :=
  r.mismatch g c0 || r.full g c0.opc (field c0.chunk 0 32) (field c0.op 32 27)

/-- The Relay holds back a contribution: it has not sent all of it, and debug has halted and frozen its strand (R446). -/
def State.chunkFrozen (s : State) (c : Contribution) : Bool :=
  decide (c.sent < c.bytes.length) && (match s.strand c.sid with | some t => s.frozen t.id.core c.sid | none => false)

/-- A contribution of the round is held back (R446). -/
def State.roundFrozen (s : State) (r : Round) : Bool := r.parts.any s.chunkFrozen

/-- The lane stripes gather from the cores of a round's strands here (R359, R464); a contribution names no line whose hash could give it a dimension order, and crosses columns first. DEDUCED, log entry 31; DESIGN CHOICE, log entry 62. -/
def State.gather (s : State) (parts : List Contribution) (dies : List Nat) : State :=
  s.passes (distinctNat (parts.flatMap (fun c => match s.strand c.sid with
    | some t => dies.flatMap (fun d => diePath (dieOf t.id.core) d false)
    | none => [])))

/-- The lanes that the bytes of a contribution cross (R359). -/
def Contribution.lanes (c : Contribution) : List Nat := distinctNat (c.bytes.map (fun e => e.1 / c.width % 192))

/-- The Relay sends what a rank here has contributed to a round so far, unless it is held back (R446). DESIGN CHOICE, log entry 60. -/
def State.sendChunk (s : State) (group slot rank : Nat) : State :=
  match (s.rounds.find? (fun r => r.group == group && r.slot == slot)).bind (fun r => r.parts.find? (fun c => c.rank == rank)) with
  | none => s
  | some c =>
    if s.chunkFrozen c || s.relayHeld c.sid then s
    else { s.gather [c] (stripeDies c.lanes) with
      rounds := updFirst (fun r => r.group == group && r.slot == slot)
        (fun r => { r with parts := updFirst (fun c => c.rank == rank) (fun c => { c with sent := c.bytes.length }) r.parts }) s.rounds }

/-- A rank on another module contributes to a round: its packets enter on the lanes of its elements, whose ports must not be down (R357, R359, R462, R464). DESIGN CHOICE, log entry 60. -/
def State.contributed (s : State) (c : Contribution) (group slot : Nat) : State :=
  if s.fabricUp && c.lanes.all (fun j => s.portOk (j / 4)) then
    { s.passes (stripeDies c.lanes) with rounds := addPart s.rounds group slot { c with sid := 0 } }
  else s

/-- A module can be reached from some perimeter dies by the routes that they hold or read; a number that is no module's cannot (R350, R351). DEDUCED, log entry 31. -/
def State.routed (s : State) (target : Nat) : List Nat → Bool × State
  | [] => (decide (target < 200000), s)
  | d :: r =>
    if 200000 ≤ target then (false, s)
    else
      let (e, s) := s.routeEntry d target
      if (s.candidates e).isEmpty then (false, s) else s.routed target r

/-- The Relay packets on each lane of a round to a module that holds a rank, on channel 6 of the lane's port (R349, R352, R359). -/
def State.emitLanes (s : State) (n width target : Nat) : State :=
  (lanesOf 0 n).foldl (fun s j =>
    s.emit (j / 4) target 6 (some j) (width * ((upto 0 n).filter (fun e => e % 192 == j)).length)) s

/-- The packets of a round to the modules that hold its other ranks; none is sent to one that no route reaches (R350, R359). DEDUCED, log entry 31. -/
def State.emitRound (s : State) (n width : Nat) (dies : List Nat) : List Nat → Bool × State
  | [] => (true, s)
  | m :: r =>
    match s.routed m dies with
    | (false, s) => (false, (s.emitRound n width dies r).2)
    | (true, s) => (s.emitLanes n width m).emitRound n width dies r

/-- The hops of a round: the stripes gather from the cores; when it has ranks on other modules its packets leave and enter on the lanes of their elements, wait for a port that retrains, and are lost where one is down, where no route leads, or where the schedule loses a hop (R350, R353, R359, R462, R463). DEDUCED, log entry 31; DESIGN CHOICE, log entry 63. -/
def State.roundCrosses (s : State) (g : Group) (r : Round) (c0 : Contribution) (away : List Nat) : Bool × State :=
  let n := g.giveLen c0.opc (field c0.chunk 0 32) / c0.width
  let dies := stripeDies (lanesOf 0 n)
  let s := (s.passes dies).gather r.parts dies
  if away.isEmpty ∧ r.parts.all (fun c => c.sid ≠ 0) then (true, s)
  else
    let ps := (lanesOf 0 n).map (fun j => j / 4)
    let (routed, s) := s.emitRound n c0.width dies away
    let s := if ps.any s.retrains then s.waitNet else s
    let (lost, s) := s.loss
    (routed && !lost && s.fabricUp && ps.all s.portOk, s)

/-- RELAY_ROUND_COMPLETE (R357 to R361). DEDUCED, log entry 31. -/
def execRelayRoundComplete (group slot : Nat) (s : State) : Out :=
  match s.rounds.find? (fun r => r.group == group && r.slot == slot) with
  | none => .next s
  | some r =>
    match r.parts, s.roundGroup r with
    | c0 :: _, (some g, s) =>
      if !r.ready g c0 || r.parts.any (fun c => s.relayHeld c.sid) || s.roundFrozen r then .next s
      else
        match s.ranks g r with
        | (.error x, s) => .next (s.failRound g r [] x.cause (some x.tval))
        | (.ok (here, away), u) =>
          if here.any (fun e => s.relayHeld e.2.id.sid) then .next s
          else if r.mismatch g c0 then .next (u.failRound g r here 0x208 none)
          else
            match u.roundCrosses g r c0 away with
            | (false, s) => .next (s.failRound g r here 0x300 none)
            | (true, s) =>
              let s := { s with rounds := s.rounds.filter (fun q => !(q.group == group && q.slot == slot)) }
              .next (here.foldl (fun s e =>
                let rec_ := match r.parts.find? (fun c => decide (c.rank = e.1)) with | some c => c.record | none => relayRecord e.2 group slot
                s.arriveResult e.2.id.sid g group slot (if c0.fmt = 0 then 4 else 2) rec_ (roundResult g r.parts c0.opc c0.fmt (field c0.chunk 0 32) e.1)) s)
    | _, (_, s) => .next s

end Sys2Proof.Machine
end

