-- ==== Sys2Proof/Machine/Stream.lean ====
section
/-! DEFINITION. SBIND, SUNBIND, SPOS and what the transfer units do (R103 to R105, R229 to R234, R436). -/

namespace Sys2Proof.Machine

/-- A well-formed descriptor, read as four doublewords (R230, R231). -/
def descOk (d : Vector Word 4) : Bool :=
  let b : Stream := ⟨d, 0, [], none, none, false, []⟩
  let f := b.fmt.toNat
  let n := fmtSize b.fmt
  let corner (i j : Int) : Int := (b.base : Int) + i * b.s1 + j * b.s0
  let inside (z : Int) : Bool := decide (0 ≤ z) && decide (z + n ≤ 2 ^ 23) && decide (z % n = 0)
  let i := (b.n1 : Int) - 1
  let j := (b.n0 : Int) - 1
  decide (field (d.getD 0 0) 12 20 = 0) && decide (field (d.getD 0 0) 4 4 = 0) && f != 5 && f != 8 && decide (f < 12) &&
  (if b.kind < 2 then
     decide (b.base < 2 ^ 23) && decide (1 ≤ b.n0) && decide (1 ≤ b.n1) &&
     inside (corner 0 0) && inside (corner 0 j) && inside (corner i 0) && inside (corner i j) &&
     (decide (b.n0 = 1) || decide (b.s0 % n = 0)) && (decide (b.n1 = 1) || decide (b.s1 % n = 0))
   else decide (b.base < 2 ^ 7) && decide (d.getD 2 0 = 0) && decide (d.getD 3 0 = 0))

/-- The strand slot that a remote descriptor names, on the die of core `core` (R230). -/
def Stream.partnerAt (b : Stream) (core : Nat) : Nat × Nat := (16 * dieOf core + b.base / 8, b.base % 8)

/-- The strand that a remote binding of strand `t` in register v28 + `i` forms a pair with, when each names the other (R233). -/
def State.pairOf (s : State) (t : Strand) (i : Nat) : Option Nat :=
  match t.streams.getD i none with
  | none => none
  | some b =>
    if b.kind < 2 then none
    else
      let want := b.partnerAt t.id.core
      (s.all.find? (fun u => u.live && (u.id.core, u.id.slot) == want &&
        (match u.streams.getD b.reg none with
         | some c => c.kind == 5 - b.kind && c.reg == i && c.partnerAt u.id.core == (t.id.core, t.id.slot)
         | none => false))).map (fun u => u.id.sid)

/-- The partner's binding changed by `f`. -/
def State.onPartner (s : State) (t : Strand) (i : Nat) (f : Stream → Stream) : State :=
  match s.pairOf t i, t.streams.getD i none with
  | some p, some b => s.onStrand p (fun u => u.setStream b.reg ((u.streams.getD b.reg none).map f))
  | _, _ => s

/-- The binding of register v28 + `i` released (R234); none while a remote output waits for its consumer. The partner of a released input has its group taken; the partner of a released output is told, and takes its input for closed until it binds again (R233). DESIGN CHOICE, log entry 76. -/
def State.release (s : State) (i : Nat) : Option State :=
  match s.cur.streams.getD i none with
  | none => some s
  | some b =>
    let drop (s : State) : State := { s with cur := s.cur.setStream i none }
    if b.kind = 0 then some (drop s)
    else if b.kind = 1 then some (drop (s.placeStream i))
    else if b.kind = 2 then some (drop (s.onPartner s.cur i (fun c => { c with group := none })))
    else if b.group.isSome then none
    else some (drop (s.onPartner s.cur i (fun c => { c with closed := true })))

/-- The register v28 + `i`. -/
def streamReg (i : Nat) : Reg := BitVec.ofNat 5 (28 + i)

/-- Every binding released in turn, or the register that must wait (R66). -/
def State.releaseAll (s : State) : (is : List Nat) → Except Nat State
  | [] => .ok s
  | i :: r =>
    match s.release i with
    | some s => s.releaseAll r
    | none => .error i

/-- The end of a release: the wait at issue is over. -/
def State.unstall (s : State) : State := { s with cur := { s.cur with stall := none, due := none, blockedOn := none } }

/-- SBIND (R231): the old binding is released first. -/
def execSbind (v a : Reg) (s : State) : Out :=
  let i := v.toNat - 28
  match s.release i with
  | none => s.stallOn v
  | some s =>
    let s := s.unstall
    let va := s.rx a
    if va.toNat % 32 ≠ 0 then s.trap 0x086 va
    else
      match s.loadAt s.me va 32 with
      | (.error x, s) => s.trapX x
      | (.ok n, s) =>
        let d : Vector Word 4 := Vector.ofFn (fun (k : Fin 4) => BitVec.ofNat 64 (n / 2 ^ (64 * k.val)))
        if descOk d then .next ({ s with cur := s.cur.setStream i (some ⟨d, 0, [], none, none, false, []⟩) }).adv
        else s.trap 0x204 va

/-- SUNBIND (R234). -/
def execSunbind (v : Reg) (s : State) : Out :=
  match s.release (v.toNat - 28) with
  | none => s.stallOn v
  | some s => .next s.unstall.adv

/-- SPOS (R234). -/
def execSpos (d v : Reg) (s : State) : Out :=
  s.ret d (match s.cur.stream v with | some b => BitVec.ofNat 64 b.count | none => 0)

/-! ### The transfer units -/

/-- STREAM_FILL: an affine input reads its next element ahead, an affine output drains what was produced (R103, R232). -/
def execStreamFill (sid stream : Nat) (s : State) : Out :=
  .next (s.asStrand sid (fun s =>
    match s.cur.streams.getD stream none with
    | none => s
    | some b =>
      if b.kind = 1 then s.placeStream stream
      else if b.kind = 0 ∧ b.count + b.ahead.length < b.total then
        let (b, s) := s.streamRead b
        { s with cur := s.cur.setStream stream (some b) }
      else s))

/-- REMOTE_GROUP_DELIVERY: the group of a paired output reaches its consumer, which holds none (R104, R233). -/
def execRemoteGroupDelivery (sid stream : Nat) (s : State) : Out :=
  match s.strand sid with
  | none => .next s
  | some t =>
    match t.streams.getD stream none, s.pairOf t stream with
    | some b, some p =>
      if b.kind ≠ 2 ∨ b.group.isSome then .next s
      else
        match (s.strand p).bind (fun u => (u.streams.getD b.reg none).bind Stream.group) with
        | none => .next s
        | some g => .next (s.setStrand (t.setStream stream (some { b with group := some g, partner := some p })))
    | _, _ => .next s

/-- The budget of a binding (R105, R230): 0 means DLCAP. -/
def State.budgetOf (s : State) (t : Strand) (b : Stream) : Nat :=
  if field (b.desc.getD 0 0) 32 32 = 0 then field (s.coreAt t.id.core).dlcap 0 63 else field (b.desc.getD 0 0) 32 32

/-- The stream that a strand waits for at issue: its group has not come, or not been taken. -/
def Strand.waitedStream (t : Strand) : Option (Reg × Stream) :=
  match t.run, t.blockedOn with
  | .running, some r =>
    match t.stream r with
    | some b => if (b.kind = 2 ∧ b.group.isNone) ∨ (b.kind = 3 ∧ b.group.isSome) then some (r, b) else none
    | none => none
  | _, _ => none

/-- The budget of a strand's stream wait has run out (R436). DESIGN CHOICE, log entry 64. -/
def State.budgetOver (s : State) (t : Strand) : Option Reg :=
  match t.waitedStream, t.stall with
  | some (r, b), some t0 => if t0 + s.budgetOf t b ≤ s.now then some r else none
  | _, _ => none

/-- STREAM_BUDGET_EXPIRY: the wait traps with cause 0x181 and nothing is consumed or produced; a group that came first wins (R436). -/
def execStreamBudgetExpiry (sid : Nat) (s : State) : Out :=
  match (s.strand sid).bind (fun t => s.budgetOver t) with
  | none => .next s
  | some r => .next (s.asStrand sid (fun s => (s.trapEntry 0x181 0 false s.cur.pc (r.setWidth 64) 0 s.cur.pc).stepDone))

end Sys2Proof.Machine
end

