-- ==== Sys2Proof/Machine/Sys.lean ====
section
/-! DEFINITION. The SYS major (R166, R178, R307), and the steps of an issuing strand that have no word: TEN changes, reserved encodings and fetch faults (R161, R399, R401). -/

namespace Sys2Proof.Machine

/-- A line marker: a NOP at word 0 of a supervisor line, a reserved encoding anywhere else (R166, R167). -/
def execLineMarker (m : BitVec 15) (s : State) : Out :=
  if s.cur.sup ∧ s.cur.pc.toNat % 128 = 0 then .next s.adv else s.trapWord 0x001 (0x03E0#16 ++ m ++ 0#1)

/-- NOP (R178). -/
def execNop (s : State) : Out := .next s.adv

/-- A trap with EPC at the next instruction (R307, R386). -/
def State.trapNext (s : State) (code : BitVec 10) (tval : Word) : Out :=
  .next (s.trapEntry code 0 false s.cur.pc tval 0 (s.cur.pc + 4))

/-- TRAP (R307). -/
def execTrap (code : BitVec 10) (s : State) : Out := s.trapNext 0x0F0 (code.setWidth 64)

/-- The own HALT bit set and the strand saved, to go on at P + 4; a step ends there (R445, R447). -/
def State.breakHalt (s : State) : State :=
  let s := { s with core := { s.core with dbgctl := s.core.dbgctl ||| (1#64 <<< (24 + s.cur.id.slot)) } }
  let s := if s.cur.stepping then s.stepOver s.cur.id.core s.cur.id.slot else s
  let s := s.beginSave .forced none (s.cur.pc + 4)
  { s with cur := { s.cur with dbg := s.cur.live, stepping := false } }

/-- BRK (R307, R447). -/
def execBrk (code : BitVec 10) (s : State) : Out :=
  if s.core.dbgctl.getLsbD 13 then .next s.breakHalt else s.trapNext 0x3F8 (code.setWidth 64)

/-- ERET (R163, R387): outside a trap it raises 0x006. -/
def execEret (s : State) : Out :=
  let word := mkR 0x00 0 0 0 4 0
  if !s.cur.sup then s.trapWord 0x002 word
  else if !s.cur.nest then s.trapWord 0x006 word
  else .next s.trapReturn

/-- YIELD (R307, R402). -/
def execYield (s : State) : Out :=
  if s.cur.mustYield then .next (s.beginSave .yield none (s.cur.pc + 4)) else .next s.adv

/-! ### HALT (R66, R307) -/

/-- Every element of the strand declared complete, once (R66). DEDUCED, log entry 32. -/
def State.declareAll (s : State) : State :=
  let i := s.cur.id
  let first := i.first.toNat
  let last := first + i.count.toNat
  let sent := s.homes.decls.any (fun d => d.lid == i.lid && d.first == first && d.last == last) ||
    (match s.launch i.lid with | some l => l.declared.contains (first, last) | none => false)
  if sent then s else s.declareUpTo last

/-- The strand has ended: its launch counts it out, the tile store is released, and a step is over (R66, R255, R445). -/
def State.endStrand (s : State) : State :=
  let i := s.cur.id
  let s := if s.cur.stepping then s.stepOver i.core i.slot else s
  let s := { s with cur := { s.cur with run := .ended, stall := none, due := none, blockedOn := none, stepping := false } }
  let s := s.releaseTile i.core i.sid
  s.onLaunch i.lid (fun l => { l with left := l.left - 1 })

/-- The time of a HALT has run out: DLCAP from its first issue (R307). DESIGN CHOICE, log entry 64. -/
def State.haltOver (s : State) : Bool := decide (s.cur.stall.getD s.now + field s.core.dlcap 0 63 ≤ s.now)

/-- Cause 0x188 with the bytes that the HALT has turned (R307, R404). DEDUCED, log entry 36. -/
def State.haltTrap (s : State) (n : Nat) : Out := s.trap 0x188 (BitVec.ofNat 64 (s.cur.haltTurned + n))

/-- HALT (R66, R307): records first, then a standing request; the bindings are released, the writes turned, the elements declared, the commands waited for. A record of its own turn, and one of a command that it waits for, comes after what R66 does first. DEDUCED, log entry 32. -/
def execHalt (s : State) : Out :=
  s.waitPoint (fun _ => true) (fun s =>
    match s.releaseAll [0, 1, 2, 3] with
    | .error i => s.stallOn (streamReg i)
    | .ok s =>
      if s.engStores then (if s.haltOver then s.haltTrap 0 else s.stallHere)
      else
        match s.turnLog s.cur.id.publvl s.haltOver with
        | (n, false, s) => s.haltTrap n
        | (n, true, s) =>
          s.deliverPoint (fun _ => true) (fun s =>
            let s := s.declareAll
            if s.tilesOut s.cur = 0 ∧ s.copiesOut s.cur = 0 then .next s.endStrand
            else if s.haltOver then s.haltTrap n
            else ({ s with cur := { s.cur with haltTurned := s.cur.haltTurned + n } }).stallHere))

/-! ### TLBINV and TLBINVALL (R307) -/

/-- Entries that satisfy `p` leave every translation buffer and the translation cache of a die. -/
def State.dropTlb (s : State) (die : Nat) (p : TlbEntry → Bool) : State :=
  let s := s.onCores (fun k => if dieOf k.id = die then { k with tlb := k.tlb.filter (fun e => !p e) } else k)
  s.onDie die (fun d => { d with tlb := d.tlb.filter (fun e => !p e) })

/-- Parked commands and arrivals of the die try again (R362, R424). -/
def State.retryDie (s : State) (die : Nat) : State :=
  let s := (upto (16 * die) 16).foldl (fun s core => (upto 0 8).foldl (fun s ch => s.retryParked core ch) s) s
  s.retryArrivals die

/-- TLBINV (R307). -/
def execTlbinv (a b : Reg) (s : State) : Out :=
  if !s.cur.sup then s.trapWord 0x002 (mkR 0x00 0 a b 8 0)
  else
    let va := (s.rx a).toNat
    let asid := (s.rx b).extractLsb' 0 16
    let any := (s.rx b).getLsbD 16
    let die := dieOf s.cur.id.core
    let hit (e : TlbEntry) : Bool :=
      decide (e.va ≤ va) && decide (va < e.va + e.size) && (any || e.asid == asid || e.leaf.getLsbD 7)
    .next ((s.dropTlb die hit).retryDie die).adv

/-- TLBINVALL (R307). -/
def execTlbinvall (s : State) : Out :=
  if !s.cur.sup then s.trapWord 0x002 (mkR 0x00 0 0 0 9 0)
  else
    let die := dieOf s.cur.id.core
    .next ((s.dropTlb die (fun _ => true)).retryDie die).adv

/-! ### Steps of the issuing strand that are no word of it -/

/-- An event of the issuing strand, which must be running. -/
def State.issuing (s : State) (k : State → Out) : Out :=
  match s.cur.run with
  | .running => k s
  | _ => .next s

/-- TEN_SET: the effect of a write that sets TEN.EN (R399). -/
def execTenSet (s : State) : Out := s.issuing (fun s => s.tenSet (fun s => .next s))
/-- TEN_CLEAR: the effect of a write that clears TEN.EN (R254). -/
def execTenClear (s : State) : Out := s.issuing (fun s => s.tenClear (fun s => .next s))
/-- RESERVED_ENCODING: cause 0x001, precise, TVAL the word (R161, R404). -/
def execReservedEncoding (word : InsnWord) (s : State) : Out := s.issuing (fun s => s.trapWord 0x001 word)
/-- INSTRUCTION_FETCH_FAULT: the trap of a fetch at the program counter (R164, R401). -/
def execInstructionFetchFault (cause : BitVec 10) (tval : Word) (s : State) : Out := s.issuing (fun s => s.trap cause tval)

end Sys2Proof.Machine
end

