-- ==== Sys2Proof/Machine/Vcfg.lean ====
section
/-! DEFINITION. SETVL, SETVLMAX, SETTYPE, SETTYPEI and the dependence hold (R55, R60 to R64, R197 to R201). -/

namespace Sys2Proof.Machine

/-- The grant of a SETVL: VL and x[d] take it, VSTART is 0, and a hold is over (R198). -/
def State.grantVl (s : State) (d : Reg) (g : Nat) : State :=
  let v := BitVec.ofNat 64 g
  let s := s.setC { s.cur.c with vl := v, vstart := 0 }
  (({ s with cur := { s.cur with hold := none, run := .running } }).wx d v).adv

/-- The bound WIDBASE + g that a SETVL of a dependent strand must wait for; none when nothing holds it back (R60, R199). -/
def State.holdBound (s : State) (g : Nat) : Option Nat :=
  let need := s.cur.c.widbase.toNat + g
  if s.cur.id.producer = 0 ∨ g = 0 ∨ need ≤ (s.producerW s.cur.id.producer).1 then none else some need

/-- The deadline of a hold: the saved one of the same WIDBASE, or DEPDL from now, clamped by DLCAP (R62, R63). -/
def State.holdDeadline (s : State) : Deadline :=
  let fresh : Deadline :=
    let r := s.cur.id.depdl.getLsbD 63
    ⟨r, s.clock r + Nat.min (field s.cur.id.depdl 0 63) (field s.core.dlcap 0 63)⟩
  match s.cur.hold with
  | some h => if h.widbase = s.cur.c.widbase then h.deadline else fresh
  | none => fresh

/-- The trap of a hold that cannot end well: the saved deadline is discarded (R62, R64, R437). -/
def State.holdTrap (s : State) (need : Nat) : State :=
  let s := { s with cur := { s.cur with hold := none, run := .running } }
  s.trapEntry 0x182 0 false s.cur.pc (BitVec.ofNat 64 need) 0 s.cur.pc

/-- SETVL of a requested count (R198): a pre-emption point, then the hold of a dependent launch. DEDUCED, log entry 58. -/
def State.setvl (s : State) (d : Reg) (n : Nat) : Out :=
  s.preemptPoint .setvl (fun s =>
    let g := Nat.min n s.cur.vlmax
    match s.holdBound g with
    | none => .next (s.grantVl d g)
    | some need =>
      let dl := s.holdDeadline
      if (s.producerW s.cur.id.producer).2 || decide (dl.tick ≤ s.clock dl.onRun) then .next (s.holdTrap need)
      else .next { s with cur := { s.cur with hold := some ⟨s.cur.c.widbase, dl, need, d, g⟩, run := .holding } })

/-- SETVL (R198). -/
def execSetvl (d a : Reg) (s : State) : Out := s.setvl d (s.rx a).toNat
/-- SETVLMAX: SETVL with a requested count of VLMAX (R198). -/
def execSetvlmax (d : Reg) (s : State) : Out := s.setvl d s.cur.vlmax

/-- VTYPE written and VLMAX returned (R201). -/
def State.settype (s : State) (word : InsnWord) (d : Reg) (v : Word) : Out :=
  if !vtypeOk v then s.trapWord 0x001 word
  else
    let s := { s with cur := s.cur.setVtype v }
    s.ret d (BitVec.ofNat 64 s.cur.vlmax)

/-- SETTYPE (R201); it ignores x[a][63:8]. -/
def execSettype (d a : Reg) (s : State) : Out := s.settype (mkR 0x18 d a 0 2 0) d (keep (s.rx a) 0 8)
/-- SETTYPEI (R162, R201). -/
def execSettypei (d : Reg) (imm : BitVec 8) (s : State) : Out :=
  s.settype (mkR 0x18 d 0 (0#2 ++ imm.extractLsb' 5 3) 3 (imm.extractLsb' 0 5)) d (imm.setWidth 64)

/-! ### What ends a hold -/

/-- The strand's hold had been met by a tick: W of its producer had risen to the bound (R63, R199). -/
def State.metBy (s : State) (t : Strand) (tick : Nat) : Bool :=
  match s.launch t.id.lid, t.hold with
  | some l, some h => l.rises.any (fun e => decide (h.need ≤ e.1) && decide (e.2 ≤ tick))
  | _, _ => false

/-- The tick of DCLKW at which a strand that holds reaches its hold's deadline (R62, R63). -/
def State.holdTick (s : State) (t : Strand) (h : Hold) : Nat :=
  if h.deadline.onRun then s.now + h.deadline.tick - t.c.dclkr.toNat else h.deadline.tick

/-- The tick of the hold's deadline is over, and the watermark had not met the bound by its end (R62, R63). DEDUCED, log entry 19. -/
def State.holdPast (s : State) (t : Strand) (h : Hold) : Bool :=
  decide (s.holdTick t h < s.now) && !s.metBy t (s.holdTick t h)

/-- A pre-emption request reached the strand's hold in an earlier tick, not after its deadline, by whose end the watermark had not met the bound: the hold has ended with the pre-emption trap (R63, R199). DEDUCED, log entry 19. -/
def State.holdEnds (s : State) (t : Strand) : Bool :=
  (match t.run with | .holding => true | _ => false) && t.mustYield &&
  (match t.request, t.hold with
   | some t0, some h => decide (t0 < s.now) && decide (t0 ≤ s.holdTick t h) && !s.metBy t t0
   | _, _ => false)

/-- The hold of a strand whose bound the watermark has met, not after its deadline (R60, R62, R63). -/
def State.holdMet (s : State) (t : Strand) : Option Hold :=
  match t.run, t.hold with
  | .holding, some h => if h.need ≤ (s.producerW t.id.producer).1 ∧ !s.holdEnds t ∧ !s.holdPast t h then some h else none
  | _, _ => none

/-- WATERMARK_RISE: a holding SETVL whose bound is met grants (R60, R63, R199). -/
def execWatermarkRise (sid : Nat) (s : State) : Out :=
  match (s.strand sid).bind s.holdMet with
  | some h => .next (s.asStrand sid (fun s => (s.grantVl h.d h.g).stepDone))
  | none => .next s

/-- The hold of a strand whose deadline's tick is over, or whose producer was cancelled or failed (R62, R63, R64). DEDUCED, log entry 58. -/
def State.holdOver (s : State) (t : Strand) : Option Hold :=
  match t.run, t.hold with
  | .holding, some h =>
    if s.holdEnds t then none
    else if s.holdPast t h || (decide ((s.producerW t.id.producer).1 < h.need) && (s.producerW t.id.producer).2) then some h
    else none
  | _, _ => none

/-- DEPENDENCE_HOLD_EXPIRY: cause 0x182 at the SETVL (R62); a rise that came first wins (R63). -/
def execDependenceHoldExpiry (sid : Nat) (s : State) : Out :=
  match (s.strand sid).bind s.holdOver with
  | some h => .next (s.asStrand sid (fun s => (s.holdTrap h.need).stepDone))
  | none => .next s

end Sys2Proof.Machine
end

