-- ==== Sys2Proof/Machine/StarterEv.lean ====
section
/-! DEFINITION. What the Starter does between instructions: declarations, taking, starting and retiring launches, and pre-emption (R59, R67, R69, R326, R333 to R342, R395). -/

namespace Sys2Proof.Machine

/-- WATERMARK_DECLARATION: a declaration raises W over the prefix without a gap (R59). DEDUCED, log entry 58. -/
def execWatermarkDeclaration (index : Nat) (s : State) : Out :=
  match s.homes.decls[index]? with
  | none => .next s
  | some d =>
    let s := { s with homes := { s.homes with decls := dropAt index s.homes.decls } }
    .next (s.onLaunch d.lid (fun l => if l.stop.isNone then l.declare s.front.modnum.toNat d.first d.last else l))

/-! ### Taking a launch (R326, R333) -/

/-- The order in which the Starter takes heads (R333). -/
def Launch.before (a b : Launch) : Bool :=
  decide (a.packet.cls < b.packet.cls) || (decide (a.packet.cls = b.packet.cls) &&
    (decide (b.packet.prio < a.packet.prio) || (decide (a.packet.prio = b.packet.prio) && decide (a.order < b.order))))

/-- The heads of the queues: no earlier packet of the same queue waits (R326). -/
def State.heads (s : State) : List Launch :=
  s.starter.queued.filter (fun l => s.starter.queued.all (fun m => m.queue != l.queue || decide (l.order ≤ m.order)))

/-- A live-launch record is free for a class: 1,024, of which 64 are for class 0 (R326). -/
def State.recordFree (s : State) (cls : Nat) : Bool :=
  decide (s.starter.live.length < 1024) &&
  (decide (cls = 0) || decide ((s.starter.live.filter (fun l => l.packet.cls != 0)).length < 960))

/-- The launch that the Starter takes next. -/
def State.nextLaunch (s : State) : Option Launch :=
  (sortBy Launch.before (s.heads.filter (fun l => s.recordFree l.packet.cls))).head?

/-- LAUNCH_TAKE (R333). -/
def execLaunchTake (s : State) : Out :=
  match s.nextLaunch with
  | none => .next s
  | some l => .next { s with starter := { s.starter with
      queued := s.starter.queued.filter (fun m => m.id != l.id)
      live := s.starter.live ++ [{ l with taken := true }] } }

/-! ### Retirement (R67, R69) -/

/-- A strand of a launch that has been cancelled or has failed is stopped (R69); one that was lost stays as it is. -/
def State.stopStrand (s : State) (sid : Nat) : State :=
  match s.strand sid with
  | none => s
  | some t =>
    let s := if t.live then s.setStrand { t with run := .ended, stall := none, due := none, blockedOn := none } else s
    let s := s.releaseTile t.id.core sid
    { s with homes := { s.homes with
        waiters := s.homes.waiters.filter (fun w => w.sid != sid || w.put.isSome), wakes := s.homes.wakes.filter (fun w => w.sid != sid) } }

/-- Parked arrivals of a launch's strands are discarded, and the entries that they held go to the arrivals that wait on channel 6 (R362, R425). -/
def State.dropParked (s : State) (sids : List Nat) : State :=
  let s : State := { s with dies := s.dies.map (fun d => { d with parked := d.parked.filter (fun p => !sids.contains p.sid) }) }
  s.dies.foldl (fun s d => s.enterParking d.id d.parked.length) s

/-- Every LWAIT and LCANCEL that waits for a launch ends (R67 step 2, R306). -/
def State.wakeRetire (s : State) (lid : Word) : State :=
  s.all.foldl (fun s t =>
    match t.waitRec with
    | some w =>
      match w.what with
      | .retire id _ =>
        if id = lid then (match s.localTry t w.what with | some st => s.endWait t.id.sid { status := st } | none => s) else s
      | _ => s
    | none => s) s

/-- LAUNCH_RETIRE: a launch whose strands have all ended, or that was cancelled or has failed: W, then its LWAITs, then the completion record (R67, R68). -/
def execLaunchRetire (lid : Word) (s : State) : Out :=
  match s.launch lid with
  | none => .next s
  | some l =>
    if l.stop.isNone ∧ l.left ≠ 0 then .next s
    else
      let sids := (s.all.filter (fun t => t.id.lid == lid && decide (t.id.sid ≠ 0))).map (fun t => t.id.sid)
      let s := if l.stop.isSome then sids.foldl State.stopStrand s else s
      .next ((((s.dropParked sids).retire l).wakeRetire lid).complete l l.status)

/-! ### Pre-emption (R338 to R340, R395) -/

/-- The order of victims: largest class, lowest priority, most recent residence (R338). -/
def victimBefore (a b : Strand) : Bool :=
  decide (b.id.cls < a.id.cls) || (decide (a.id.cls = b.id.cls) &&
    (decide (a.id.prio < b.id.prio) || (decide (a.id.prio = b.id.prio) && decide (b.id.since < a.id.since))))

/-- The state as if some strands had left their slots and lanes. -/
def State.without (s : State) (sids : List Nat) : State :=
  let out (t : Strand) : Strand := if sids.contains t.id.sid then { t with run := .away .yield none } else t
  { s with cur := out s.cur, strands := s.strands.map out }

/-- Victims taken in order until a waiting strand would have what it needs (R338). DEDUCED, log entry 30. -/
def State.victimsFor (s : State) (core : Nat) (c : Cand) : List Strand → (chosen : List Nat) → Option (List Nat)
  | [], _ => none
  | v :: r, chosen =>
    let chosen := v.id.sid :: chosen
    if ((s.without chosen).resources core c).isSome then some chosen else s.victimsFor core c r chosen

/-- The strands that wait on a core, up to eight of each launch, in the order of the wait list (R335). -/
def State.waiters (s : State) (core : Nat) : List Cand :=
  let ks (l : Launch) : List Nat :=
    (upto 0 7).foldl (fun ks _ => match s.nextFrom l core (ks.headD 0 + 1) with | some k => k :: ks | none => ks) ((s.nextK l core).toList)
  let news := (s.placedOn core).flatMap (fun e => (distinctNat ((ks e.1).filter (s.eligible e.1))).map (fun k => Cand.fresh e.1 k))
  sortBy Cand.before (news ++ (s.all.filter (fun t => t.readyAway && t.id.core == core)).map Cand.away)

/-- The tick since which a candidate has waited: since it became eligible or ready to resume (R338). -/
def State.waitsSince (s : State) (c : Cand) : Nat :=
  match c with
  | .fresh l k => ((l.rises.find? (fun e => decide (l.firstOf k < e.1))).map Prod.snd).getD s.now
  | .away t => t.id.since

/-- Pre-emption may be requested for a candidate: at once for class 0, after 100 µs of waiting for the others (R338). -/
def State.mayRequest (s : State) (c : Cand) : Bool := decide (c.key.1 = 0) || decide (s.waitsSince c + 100000 ≤ s.now)

/-- The state as if a candidate held what it would get. -/
def State.pretend (s : State) (core : Nat) (c : Cand) (q : Nat × Nat × Nat × Nat) : State :=
  match c with
  | .fresh l _ =>
    { s with strands := s.strands ++ [{ Strand.reset with
        run := .running, id := { Ident.reset with core := core, slot := q.1, area := q.2.1, queue := l.queue, lanes := BitVec.ofNat 32 q.2.2.2 } }] }
  | .away t => s.setStrand { t with run := .running, dbg := false, id := { t.id with lanes := BitVec.ofNat 32 q.2.2.2 } }

/-- The strands that a candidate of class `cls` may pre-empt, in the order in which they are chosen (R338). DEDUCED, log entry 30. -/
def State.preemptable (s : State) (core cls : Nat) : List Strand :=
  sortBy victimBefore (s.all.filter (fun t => t.resident && !t.dbg && t.id.core == core && decide (t.id.sid ≠ 0) && decide (cls < t.id.cls) &&
    (match t.run with | .saving _ _ => false | _ => true)))

/-- The victims for the candidates in turn: each takes what is free, and else, when it may, the release of victims that permits its grant (R338). `s` is the state as if all that is free or chosen so far were given away. -/
def State.planFrom (core : Nat) : List Cand → (s : State) → List Nat
  | [], _ => []
  | c :: r, s =>
    match s.resources core c with
    | some q => planFrom core r (s.pretend core c q)
    | none =>
      if !s.mayRequest c then planFrom core r s
      else
        match s.victimsFor core c (s.preemptable core c.key.1) [] with
        | none => planFrom core r s
        | some sids =>
          let s := s.without sids
          sids ++ planFrom core r (match s.resources core c with | some q => s.pretend core c q | none => s)

/-- The strands of a core that are to leave for others: strands that are being saved count as gone (R338). DEDUCED, log entry 30. -/
def State.plan (s : State) (core : Nat) : List Nat :=
  let going := (s.all.filter (fun t => t.id.core == core && (match t.run with | .saving _ _ => !t.dbg | _ => false))).map (fun t => t.id.sid)
  State.planFrom core (s.waiters core) (s.without going)

/-- A victim of a core's plan has no request yet (R338). -/
def State.urgent (s : State) (core : Nat) : Bool :=
  (s.plan core).any (fun sid => match s.strand sid with | some t => !t.sent && t.request.isNone | none => false)

/-- Requests that nobody needs any more are withdrawn (R340). DEDUCED, log entry 30. -/
def State.withdrawRequests (s : State) (core : Nat) : State :=
  if s.all.any (fun t => t.id.core == core && t.resident && (t.sent || t.request.isSome)) then
    let kept := s.plan core
    let back (t : Strand) : Strand :=
      if t.id.core = core ∧ t.resident ∧ (t.sent ∨ t.request.isSome) ∧ !(kept.contains t.id.sid) then
        { t with sent := false, request := none } else t
    { s with cur := back s.cur, strands := s.strands.map back }
  else s

/-- PREEMPTION_REQUEST: requests leave for the chosen victims of a core (R338). DEDUCED, log entry 30. -/
def execPreemptionRequest (core : Nat) (s : State) : Out :=
  if !coreOk core then .fault .noSuchUnit
  else .next (((s.plan core).foldl (fun s sid => s.onStrand sid (fun t => if t.request.isSome then t else { t with sent := true })) s).withdrawRequests core)

/-! ### Starting (R335, R340) -/

/-- STRAND_START (R335). -/
def execStrandStart (core : Nat) (s : State) : Out :=
  if !coreOk core then .fault .noSuchUnit else .next ((s.startOne core).withdrawRequests core)

/-- A request that has arrived at a strand in a wait takes effect there; one that arrives in a hold lets a watermark rise of its tick grant first (R63, R199, R286). DEDUCED, log entry 19. -/
def State.requestArrived (s : State) : State :=
  State.yieldInWait { s with cur := { s.cur with sent := false, request := some s.now } }

/-- PREEMPTION_REQUEST_ARRIVAL: a request arrives, or a hold that one has reached in an earlier tick ends with the pre-emption trap (R63, R199, R339). -/
def execPreemptionRequestArrival (sid : Nat) (s : State) : Out :=
  match s.strand sid with
  | none => .next s
  | some t =>
    if t.sent && t.resident && !t.dbg && !t.stepping then .next (s.asStrand sid State.requestArrived)
    else if s.holdEnds t then .next (s.asStrand sid (fun s => s.beginSave .setvl none s.cur.pc))
    else .next s

/-- A forced pre-emption is due: 8 µs after the request arrived (R339). -/
def State.forceDue (s : State) (t : Strand) : Bool :=
  match t.request with
  | some t0 => decide (t0 + 8000 ≤ s.now) && t.resident && !t.dbg && (match t.run with | .saving _ _ => false | .restoring _ _ => false | _ => true)
  | none => false

/-- FORCED_PREEMPTION (R339). -/
def execForcedPreemption (sid : Nat) (s : State) : Out :=
  match s.strand sid with
  | none => .next s
  | some t => if s.forceDue t then .next (s.asStrand sid State.force) else .next s

/-- A halted strand whose HALT bit has been cleared while it was being saved is restored once the save has gone on from PROGRESS to its end (R400, R444). -/
def State.resumeHalted (s : State) (sid : Nat) : State :=
  match s.strand sid with
  | none => s
  | some t => if t.dbg && !(s.coreAt t.id.core).dbgctl.getLsbD (24 + t.id.slot) then s.unhalt sid false else s

/-- SAVE_COMPLETE: once the strand's loads have come, the handover and the rest of the regions, then SAVED and STATE = 1, and slot and lanes are free (R394, R395); a strand halted no longer comes back (R444). -/
def execSaveComplete (sid : Nat) (s : State) : Out :=
  match s.strand sid with
  | none => .next s
  | some t =>
    match t.run with
    | .saving k w =>
      if s.loadsOut t ≠ 0 then .next s
      else
        let s := s.asStrand sid (fun s => s.saveOn (s.cur.regions s.front.modnum k w).length)
        let s := (s.saveWrite t 0x18 (toBytes 8 s.now)).saveWrite t 0x0B [1]
        .next (((s.onStrand sid (fun t => { t with run := .away k w, id := { t.id with since := s.now } })).resumeHalted sid).withdrawRequests t.id.core)
    | _ => .next s

/-- ISSUE_AGING (R337): a strand of class 1 to 3 that is ready ages, once. DESIGN CHOICE, log entry 34. -/
def execIssueAging (sid : Nat) (s : State) : Out :=
  .next (s.onStrand sid (fun t =>
    match t.run with
    | .running => if t.id.cls = 0 ∨ t.stall.isSome then t else { t with aged := some (t.aged.getD s.now) }
    | _ => t))

end Sys2Proof.Machine
end

