-- ==== Sys2Proof/Machine/Pacer.lean ====
section
/-! DEFINITION. The Pacer: expiries, cancellations, withdrawals, wake-ups and resends of waits, imprecise delivery, and the hang watchdog (R282, R286, R290, R297, R384, R431, R432, R440, R441). -/

namespace Sys2Proof.Machine

/-! ### Waits (R282, R290, R297, R431, R432) -/

/-- A wait's clock has reached its effective deadline, and the tick of the deadline, in which an event counts as first, is over (R282). -/
def State.waitDue (s : State) (t : Strand) (w : WaitRec) : Bool :=
  decide (w.deadline.tick < (if w.deadline.onRun then t.c.dclkr.toNat else s.now))

/-- The records that end a wait: of the classes of a FENCE or of the limits of a WAITC, and of a failed round of a CWAIT's slot (R240, R287, R358; DEDUCED for records that are written while the wait goes on, log entry 19). -/
def Record.endsWait (group : Nat) (w : WaitFor) (r : Record) : Bool :=
  match w with
  | .counts _ b c d => Record.ofClasses (limitMask b c d) r
  | .fence m => Record.ofClasses m.toNat r
  | .round slot => Record.ofSlots group [slot] r
  | _ => false

/-- A wait whose command has faulted takes that command's trap instead; a strand that is away executes the instruction again on resumption and takes it there (R240, R287, R384). DEDUCED, log entry 19. -/
def State.waitFault (s : State) (t : Strand) (w : WaitRec) : Option State :=
  if t.nest then none
  else
    match nextRecord (t.records.filter (Record.endsWait t.groupNum w.what)) with
    | none => none
    | some r =>
      match t.run with
      | .waiting _ => some (s.asStrand t.id.sid (fun s => (s.deliver r 1).stepDone))
      | .saving k _ => some (s.setStrand { t with run := .saving k none })
      | .away k _ => some (s.setStrand { t with run := .away k none, id := { t.id with since := s.now } })
      | .restoring k _ => some (s.setStrand { t with run := .restoring k none })
      | _ => none

/-- A refused wait tests its condition afresh at its home: what it does there, and what is left of it (R290). -/
def State.attemptAgain (s : State) (t : Strand) (w : WaitRec) : Attempt × State :=
  match s.attemptObj t.agent t.c.widbase w.what with
  | (.done e, s) => (.done e, s.clearAppended t.id.sid (appended w.what none))
  | (.left v, s) => (.left v, (s.clearAppended t.id.sid (appended w.what (some v))).onStrand t.id.sid (fun t => t.setWait { w with what := v }))
  | (.bad c, s) => (.bad c, s.ringFault t.id.sid c)

/-- WAIT_EXPIRY: a wait that the core tests ends, with its condition when that holds in this tick; for a wait at a home the message of its end leaves. A refused wait whose condition holds ends as if it had been registered (R282, R290, R431, R432). DEDUCED, log entry 19. -/
def execWaitExpiry (sid : Nat) (s : State) : Out :=
  match s.strand sid with
  | none => .next s
  | some t =>
    match t.waitRec with
    | none => .next s
    | some w =>
      if !s.waitDue t w || w.expired then .next s
      else
        match w.what.obj with
        | some o =>
          if w.refused.isNone then .next (s.setStrand (t.setWait { w with expired := true }))
          else
            match s.attemptAgain t w with
            | (.done e, s) => .next ((s.endWait sid e).serve o)
            | (.left v, s) => .next (s.onStrand sid (fun t => t.setWait { w with what := v, expired := true }))
            | (.bad _, s) => .next s
        | none =>
          match s.waitFault t w with
          | some s => .next s
          | none => .next (s.endWait sid { status := (s.localTry t w.what).getD (s.localEnd t w.what) })

/-- The home still has the waiter, or refused it (R290). -/
def State.unserved (s : State) (sid : Nat) (w : WaitRec) : Bool :=
  s.homes.waiters.any (fun q => q.sid == sid && q.put.isNone) || w.refused.isSome

/-- The expired wait of a strand at its home, still unserved; the withdrawal of a BARAW reaches it whatever has become of its registration (R297, R432). -/
def State.expiredWait (s : State) (sid : Nat) : Option (Strand × WaitRec) :=
  match s.strand sid with
  | none => none
  | some t =>
    match t.waitRec with
    | none => none
    | some w => if w.withdrawn || (w.expired && s.unserved sid w) then some (t, w) else none

/-- The home performs the cancellation of a wait; one that it had refused tests its condition first (R290, R432). -/
def State.cancelWait (s : State) (t : Strand) (w : WaitRec) : State :=
  let sid := t.id.sid
  let s := s.unregister sid
  match (if w.refused.isSome then s.attemptAgain t w else (.left w.what, s)) with
  | (.done e, s) => s.endWait sid e
  | (.left v, s) =>
    let (e, s) := s.timeoutEnd t.agent v
    s.endWait sid e
  | (.bad _, s) => s

/-- WAIT_CANCELLATION (R432). -/
def execWaitCancellation (sid : Nat) (s : State) : Out :=
  match s.expiredWait sid with
  | none => .next s
  | some (t, w) =>
    match w.what with
    | .arrival _ _ => .next s
    | _ =>
      let s := s.cancelWait t w
      .next (match w.what.obj with | some o => s.serve o | none => s)

/-- BARAW_WITHDRAWAL: what the home finds decides, and a wake-up on its way comes too late (R297, R433). -/
def execBarawWithdrawal (sid : Nat) (s : State) : Out :=
  match s.expiredWait sid with
  | none => .next s
  | some (_, w) =>
    match w.what with
    | .arrival obj p =>
      let (st, s) := ((s.dropWakes sid).unregister sid).withdraw obj p
      .next (s.endWait sid { status := st })
    | _ => .next s

/-- A wake-up that reaches the Pacer after the deadline of a BARAW: the withdrawal has left (R282, R297). -/
def State.tooLate (s : State) (t : Strand) (w : WaitRec) : Bool :=
  (match w.what with | .arrival _ _ => true | _ => false) &&
  (w.expired || decide (w.deadline.tick < (if w.deadline.onRun then t.c.dclkr.toNat else s.now)))

/-- The first wake-up on the channel and path of another, about its strand's object (R345, R346). -/
def State.firstWake (s : State) (q : Wake) : Nat :=
  let way (q : Wake) : Nat × Option (Nat × Nat × Nat × Bool) :=
    match (s.strand q.sid).bind (fun t => (t.waitRec.bind (fun w => w.what.obj)).map (fun o => (t.id.core, o / 64))) with
    | some p => (0, some (s.wayBack p.1 q.sid p.2))
    | none => (q.sid, none)
  (s.homes.wakes.findIdx? (fun r => way r == way q)).getD 0

/-- WAITER_WAKE: the first wake-up on a channel of a path reaches the Pacer and ends the wait, or is too late for a BARAW whose withdrawal has left (R282, R286, R290, R297, R346). -/
def execWaiterWake (index : Nat) (s : State) : Out :=
  match (s.homes.wakes[index]?).bind (fun r => s.homes.wakes[s.firstWake r]?) with
  | none => .next s
  | some q =>
    let s := { s with homes := { s.homes with wakes := dropAt (s.firstWake q) s.homes.wakes } }
    let e : WaitEnd := { status := q.status, datum := q.datum, elems := q.elems }
    match s.strand q.sid with
    | none => .next s
    | some t =>
      match t.waitRec with
      | some w => if s.tooLate t w then .next (s.setStrand (t.setWait { w with expired := true })) else .next (s.endWait q.sid e)
      | none => .next (s.endWait q.sid e)

/-- A refused wait tried afresh at its home: served, registered, refused again, or failed at its ring (R290, R298). -/
def State.resend (s : State) (t : Strand) (w : WaitRec) : State :=
  let sid := t.id.sid
  match s.attemptAgain t w, w.what.obj with
  | (.done e, s), some o =>
    let s := s.onStrand sid (fun t => t.setWait { w with refused := none })
    let s := { s with homes := { s.homes with wakes := s.homes.wakes ++ [Wake.mk sid e.status e.datum e.elems] } }
    s.serve o
  | (.left v, s), some o =>
    let (ok, s) := s.registerAs ⟨sid, o, none⟩
    (s.onStrand sid (fun t => t.setWait { w with what := v, refused := if ok then none else some s.now })).serve o
  | (_, s), _ => s

/-- WAITER_REFUSAL_RESEND: 1 µs after a refusal (R290). -/
def execWaiterRefusalResend (sid : Nat) (s : State) : Out :=
  match s.strand sid with
  | none => .next s
  | some t =>
    match t.waitRec with
    | none => .next s
    | some w =>
      match w.refused with
      | none => .next s
      | some t0 => if s.now < t0 + 1000 ∨ w.expired then .next s else .next (s.resend t w)

/-- A LAUNCH that waits for room tries again (R305). -/
def State.roomTry (s : State) (t : Strand) (w : WaitRec) : Option State :=
  match w.what with
  | .queueRoom n p =>
    match (s.focus t.id.sid).tryLaunch n p.bytes with
    | (some st, s') => some ((s'.focus s.cur.id.sid).endWait t.id.sid { status := st })
    | (none, _) => none
  | _ => none

/-- A wait whose command has faulted, or whose condition holds now, ends (R240, R282, R287, R293, R303, R305, R306). DEDUCED, log entry 19. -/
def State.tryWait (s : State) (t : Strand) : Option State :=
  match t.waitRec with
  | none => none
  | some w =>
    match s.waitFault t w with
    | some s => some s
    | none =>
      match s.localTry t w.what with
      | some st => some (s.endWait t.id.sid { status := st })
      | none => s.roomTry t w

/-! ### Imprecise delivery (R384, R385) -/

/-- A record that waits no longer: pending for 4 µs of DCLKR, or a parked arrival (R384). -/
def Record.late (dclkr : Nat) (r : Record) : Bool :=
  decide (r.at_ + 4000 ≤ dclkr) || (r.unit == 3 && r.cause == 0x080)

/-- The record that a strand between two instructions takes imprecisely: not while an instruction waits at issue, which runs to its own end first (R384). -/
def Strand.lateRecord (t : Strand) : Option Record :=
  match t.run with
  | .running => if t.nest || t.stall.isSome then none else nextRecord (t.records.filter (Record.late t.c.dclkr.toNat))
  | _ => none

/-- IMPRECISE_DELIVERY (R384). -/
def execImpreciseDelivery (sid : Nat) (s : State) : Out :=
  match (s.strand sid).bind Strand.lateRecord with
  | none => .next s
  | some r => .next (s.asStrand sid (fun s => s.deliver r 2))

/-! ### The hang watchdog (R440, R441) -/

/-- A strand is saved as kind 3 and lost with cause 0x3F0 (R441). -/
def State.hang (s : State) (sid : Nat) : State :=
  ((s.unregister sid).asStrand sid (fun s =>
    let s := s.beginSave .forced none s.cur.pc
    s.saveOn (s.cur.regions s.front.modnum .forced none).length)).lose sid 0x3F0

/-- A strand that the watchdog runs for, at an instruction boundary. -/
def Strand.watched (t : Strand) : Bool := !t.dbg && t.resident && (match t.run with | .saving _ _ => false | .restoring _ _ => false | _ => true)

/-- Case 1: NEST for 10 ms of residence (R440). -/
def Strand.handlerHung (t : Strand) : Bool := t.watched && t.nest && decide (t.nestAt + 10000000 ≤ t.stay)

/-- Case 3: 4,096 traps in a row at one EPC with one cause (R440). -/
def Strand.trapHung (t : Strand) : Bool := t.watched && decide (4096 ≤ t.repeats)

/-- HANDLER_WATCHDOG (R440). -/
def execHandlerWatchdog (sid : Nat) (s : State) : Out :=
  match s.strand sid with
  | none => .next s
  | some t => if t.handlerHung then .next (s.hang sid) else .next s

/-- TRAP_REPEAT_WATCHDOG (R440). -/
def execTrapRepeatWatchdog (sid : Nat) (s : State) : Out :=
  match s.strand sid with
  | none => .next s
  | some t => if t.trapHung then .next (s.hang sid) else .next s

/-- Case 2: a save or a restore has not finished within 1 ms of its start (R440). -/
def State.saveHung (s : State) (t : Strand) : Bool :=
  match t.run with
  | .saving _ _ => !t.dbg && decide (t.saveAt + 1000000 ≤ s.now)
  | .restoring _ _ => decide (t.saveAt + 1000000 ≤ s.now)
  | _ => false

/-- SAVE_RESTORE_WATCHDOG: the save goes on from PROGRESS once, the restore starts again once, and a second expiry loses the strand (R441). -/
def execSaveRestoreWatchdog (sid : Nat) (s : State) : Out :=
  match s.strand sid with
  | none => .next s
  | some t =>
    if !s.saveHung t then .next s
    else if t.again then .next (s.lose sid 0x3F0)
    else .next (s.setStrand { t with again := true, saveAt := s.now })

end Sys2Proof.Machine
end

