-- ==== Sys2Proof/Machine/Debug.lean ====
section
/-! DEFINITION. Debug controls as another party sets them (R443 to R446). -/

namespace Sys2Proof.Machine

/-- A core's DBGCTL changed. -/
def State.onDbg (s : State) (core : Nat) (f : Word → Word) : State := s.onCore core (fun k => { k with dbgctl := f k.dbgctl })

/-- A strand slot number (R41). DESIGN CHOICE, log entry 59. -/
def slotOk (slot : Nat) : Bool := decide (slot < 8)

/-- DBGCTL_HALT: the HALT bit of a slot is set and its strand stops (R444). -/
def execDbgctlHalt (core slot : Nat) (s : State) : Out :=
  if !coreOk core || !slotOk slot then .fault .noSuchUnit
  else
    let s := s.onDbg core (fun v => v ||| (1#64 <<< (24 + slot)))
    match s.inSlot core slot with
    | none => .next s
    | some t => if t.stepping then .next s else .next (s.haltStrand t.id.sid)

/-- The halted strand of a slot whose save has completed. -/
def State.haltedIn (s : State) (core slot : Nat) : Option Strand :=
  match s.inSlot core slot with
  | some t =>
    match t.run with
    | .away _ _ => if t.dbg then some t else none
    | _ => none
  | none => none

/-- DBGCTL_STEP: the STEP bit of a halted slot is set and its strand is restored for one instruction (R443, R445); for a slot that is not halted it is ignored. DEDUCED, log entry 35. -/
def execDbgctlStep (core slot : Nat) (s : State) : Out :=
  if !coreOk core || !slotOk slot then .fault .noSuchUnit
  else
    match s.haltedIn core slot with
    | none => .next s
    | some t => .next ((s.onDbg core (fun v => v ||| (1#64 <<< (16 + slot)))).unhalt t.id.sid true)

/-- DBGCTL_FREEZE (R446). -/
def execDbgctlFreeze (core : Nat) (freeze : Bool) (s : State) : Out :=
  if !coreOk core then .fault .noSuchUnit
  else .next (s.onDbg core (fun v => setField v 14 1 (if freeze then 1 else 0)))

end Sys2Proof.Machine
end

