-- ==== Sys2Proof/Machine/Alu.lean ====
section
/-! DEFINITION. The ALU, immediate and multiply-divide instructions (R179 to R184). -/

namespace Sys2Proof.Machine

/-- A shift count: bits [5:0] of the second operand (R179). -/
def shamt (b : Word) : Nat := field b 0 6

/-- ADD (R179). -/
def execAdd (d a b : Reg) (s : State) : Out := s.ret d (s.rx a + s.rx b)
/-- SUB (R179). -/
def execSub (d a b : Reg) (s : State) : Out := s.ret d (s.rx a - s.rx b)
/-- AND (R179). -/
def execAnd (d a b : Reg) (s : State) : Out := s.ret d (s.rx a &&& s.rx b)
/-- OR (R179). -/
def execOr (d a b : Reg) (s : State) : Out := s.ret d (s.rx a ||| s.rx b)
/-- XOR (R179). -/
def execXor (d a b : Reg) (s : State) : Out := s.ret d (s.rx a ^^^ s.rx b)
/-- ANDN (R179). -/
def execAndn (d a b : Reg) (s : State) : Out := s.ret d (s.rx a &&& ~~~s.rx b)
/-- SLL (R179). -/
def execSll (d a b : Reg) (s : State) : Out := s.ret d (s.rx a <<< shamt (s.rx b))
/-- SRL (R179). -/
def execSrl (d a b : Reg) (s : State) : Out := s.ret d (s.rx a >>> shamt (s.rx b))
/-- SRA (R179). -/
def execSra (d a b : Reg) (s : State) : Out := s.ret d ((s.rx a).sshiftRight (shamt (s.rx b)))
/-- SLT (R179). -/
def execSlt (d a b : Reg) (s : State) : Out := s.ret d (flagWord ((s.rx a).slt (s.rx b)))
/-- SLTU (R179). -/
def execSltu (d a b : Reg) (s : State) : Out := s.ret d (flagWord ((s.rx a).ult (s.rx b)))
/-- MIN (R179). -/
def execMin (d a b : Reg) (s : State) : Out := s.ret d (if (s.rx b).slt (s.rx a) then s.rx b else s.rx a)
/-- MAX (R179). -/
def execMax (d a b : Reg) (s : State) : Out := s.ret d (if (s.rx a).slt (s.rx b) then s.rx b else s.rx a)
/-- MINU (R179). -/
def execMinu (d a b : Reg) (s : State) : Out := s.ret d (if (s.rx b).ult (s.rx a) then s.rx b else s.rx a)
/-- MAXU (R179). -/
def execMaxu (d a b : Reg) (s : State) : Out := s.ret d (if (s.rx a).ult (s.rx b) then s.rx b else s.rx a)
/-- CLZ (R179). -/
def execClz (d a : Reg) (s : State) : Out := s.ret d (BitVec.ofNat 64 (64 - bitLen (s.rx a).toNat))
/-- CTZ (R179). -/
def execCtz (d a : Reg) (s : State) : Out := s.ret d (BitVec.ofNat 64 (ctzAux (s.rx a).toNat 64))
/-- POPC (R179). -/
def execPopc (d a : Reg) (s : State) : Out := s.ret d (BitVec.ofNat 64 (popAux (s.rx a).toNat 64))
/-- ROL (R179). -/
def execRol (d a b : Reg) (s : State) : Out := s.ret d ((s.rx a).rotateLeft (shamt (s.rx b)))
/-- ROR (R179). -/
def execRor (d a b : Reg) (s : State) : Out := s.ret d ((s.rx a).rotateRight (shamt (s.rx b)))
/-- SEXTW (R179). -/
def execSextw (d a : Reg) (s : State) : Out := s.ret d (sext64 ((s.rx a).extractLsb' 0 32))
/-- ZEXTW (R179). -/
def execZextw (d a : Reg) (s : State) : Out := s.ret d (((s.rx a).extractLsb' 0 32).setWidth 64)
/-- CMOV (R179): x[a] when x[b] is not 0, otherwise x[d] stays. -/
def execCmov (d a b : Reg) (s : State) : Out := if s.rx b = 0 then .next s.adv else s.ret d (s.rx a)

/-- ADDI (R180). -/
def execAddi (d a : Reg) (i : BitVec 16) (s : State) : Out := s.ret d (s.rx a + sext64 i)
/-- ANDI (R180). -/
def execAndi (d a : Reg) (i : BitVec 16) (s : State) : Out := s.ret d (s.rx a &&& i.setWidth 64)
/-- ORI (R180). -/
def execOri (d a : Reg) (i : BitVec 16) (s : State) : Out := s.ret d (s.rx a ||| i.setWidth 64)
/-- XORI (R180). -/
def execXori (d a : Reg) (i : BitVec 16) (s : State) : Out := s.ret d (s.rx a ^^^ i.setWidth 64)
/-- SLTI (R180). -/
def execSlti (d a : Reg) (i : BitVec 16) (s : State) : Out := s.ret d (flagWord ((s.rx a).slt (sext64 i)))
/-- SLTIU (R180). -/
def execSltiu (d a : Reg) (i : BitVec 16) (s : State) : Out := s.ret d (flagWord ((s.rx a).ult (sext64 i)))
/-- SLLI (R181). -/
def execSlli (d a : Reg) (k : BitVec 6) (s : State) : Out := s.ret d (s.rx a <<< k.toNat)
/-- SRLI (R181). -/
def execSrli (d a : Reg) (k : BitVec 6) (s : State) : Out := s.ret d (s.rx a >>> k.toNat)
/-- SRAI (R181). -/
def execSrai (d a : Reg) (k : BitVec 6) (s : State) : Out := s.ret d ((s.rx a).sshiftRight k.toNat)
/-- LUI (R182). -/
def execLui (d : Reg) (i : BitVec 21) (s : State) : Out := s.ret d (sext64 i <<< 16)
/-- ADDPC (R182). -/
def execAddpc (d : Reg) (i : BitVec 21) (s : State) : Out := s.ret d (s.cur.pc + (sext64 i <<< 16))

/-- Signed division, truncated toward zero, with the corner of R184. -/
def divS (a b : Word) : Word := if b = 0 then BitVec.allOnes 64 else a.sdiv b
/-- Unsigned division with the corner of R184. -/
def divU (a b : Word) : Word := if b = 0 then BitVec.allOnes 64 else a / b

/-- MUL (R183). -/
def execMul (d a b : Reg) (s : State) : Out := s.ret d (s.rx a * s.rx b)
/-- MULH (R183): the high half of the exact signed product. -/
def execMulh (d a b : Reg) (s : State) : Out :=
  s.ret d (((s.rx a).signExtend 128 * (s.rx b).signExtend 128).extractLsb' 64 64)
/-- MULHU (R183). -/
def execMulhu (d a b : Reg) (s : State) : Out :=
  s.ret d (((s.rx a).setWidth 128 * (s.rx b).setWidth 128).extractLsb' 64 64)
/-- DIV (R183, R184). -/
def execDiv (d a b : Reg) (s : State) : Out := s.ret d (divS (s.rx a) (s.rx b))
/-- DIVU (R183, R184). -/
def execDivu (d a b : Reg) (s : State) : Out := s.ret d (divU (s.rx a) (s.rx b))
/-- REM (R183, R184): the sign of A; A when B is 0. -/
def execRem (d a b : Reg) (s : State) : Out := s.ret d (if s.rx b = 0 then s.rx a else (s.rx a).srem (s.rx b))
/-- REMU (R183, R184). -/
def execRemu (d a b : Reg) (s : State) : Out := s.ret d (if s.rx b = 0 then s.rx a else s.rx a % s.rx b)

end Sys2Proof.Machine
end

