-- ==== Sys2Proof/Machine/Power.lean ====
section
/-! DEFINITION. The module power manager and the die power states (R16, R34 to R39, R457 to R459). -/

namespace Sys2Proof.Machine

/-- A die number (R7). -/
def dieOk (die : Nat) : Bool := decide (die < 24)

/-- Exit latency of a power state, in nanoseconds (R34). -/
def exitLatency : Nat → Nat
  | 0 => 0
  | 1 => 2000
  | 2 => 60000
  | _ => 3000000

/-- Idle time before entry of a power state, in nanoseconds (R34). -/
def idleTime : Nat → Nat
  | 0 => 0
  | 1 => 1000
  | 2 => 100000
  | _ => 10000000

/-- LATTOL permits a state to a die (R35). -/
def State.permits (s : State) (die k : Nat) : Bool :=
  decide (exitLatency k ≤ field s.front.lattol 0 32 * 1000) && (k != 3 || s.front.lattol.getLsbD (32 + die))

/-- The deepest state that LATTOL permits among those that satisfy `p`. -/
def State.deepest (s : State) (die : Nat) (p : Nat → Bool) : Nat :=
  ([3, 2, 1].find? (fun k => s.permits die k && p k)).getD 0

/-! ### Idleness (R35) -/

/-- The dies that a write on its way crosses: to its home, or to the port that sends it to another module (R8, R13). -/
def Flight.crosses (f : Flight) : List Nat :=
  match f.port with
  | none => crossed f.core (64 * f.entry.line)
  | some p => pathFor (dieOf f.core) (portDie p) (64 * f.entry.line)

/-- The dies that a credit or an enqueue crosses, its object's die among them. -/
def Credit.dies (m : Credit) : List Nat :=
  match m.line with
  | some l => crossed m.core (64 * l)
  | none => [dieOf m.core]

/-- The dies that a strand's object messages cross. -/
def State.wakeDies (s : State) (sid : Nat) : List Nat :=
  match s.strand sid with
  | none => []
  | some t =>
    match t.waitRec.bind (fun w => w.what.obj) with
    | some o => returned t.id.core o
    | none => [dieOf t.id.core]

/-- The dies with a resident strand, an engine command, a copy, a registered waiter, an operation at a home, or a message that crosses their networks: requests and acknowledgements on their way to homes, replies, invalidations and wake-ups on their way to cores (R8, R35). DEDUCED, log entry 26. A declaration names no line whose hash could give it a dimension order; it crosses columns first. DESIGN CHOICE, log entry 62. -/
def State.busyDies (s : State) : List Nat :=
  (s.all.filter Strand.resident).map (fun t => dieOf t.id.core) ++
  ((s.core :: s.cores).filter (fun k => !k.eng.isEmpty || k.chans.toList.any (fun c => !c.queue.isEmpty))).map (fun k => dieOf k.id) ++
  s.homes.waiters.map (fun w => keyDie w.obj) ++
  s.homes.wnet.flatMap Flight.crosses ++
  s.homes.loads.flatMap (fun r => match s.strand r.sid with | some t => returned t.id.core (64 * r.line) | none => []) ++
  s.homes.invals.flatMap (fun e => returned e.core (64 * e.line)) ++
  s.homes.acks.flatMap (fun e => crossed e.core (64 * e.line)) ++
  (s.homes.credits ++ s.homes.enqs).flatMap Credit.dies ++
  s.homes.wakes.flatMap (fun w => s.wakeDies w.sid) ++
  s.homes.decls.flatMap (fun d => diePath (dieOf d.core) 0 false)

/-- The dies that are busy now, or whose homes or networks the move has used, are idle from now on at the earliest (R35). DEDUCED, log entry 26. -/
def State.markBusy (s : State) : State :=
  (distinctNat (s.busyDies ++ s.mark.used.filter dieOk)).foldl (fun s n => s.onDie n (fun d => { d with idleAt := s.now })) s

/-- A die drains its outbound buffers and loses its inbound caches (R36). -/
def State.quiesce (s : State) (die : Nat) : State :=
  let s := (upto (16 * die) 16).foldl (fun s core =>
    let k := s.coreAt core
    let s := if k.outb.isEmpty then s else s.setCore { k with outb := [] }
    k.outb.foldl (fun s e => s.landEntry core e) s) s
  s.onCores (fun k => if dieOf k.id = die then { k with inb := [], icb := [] } else k)

/-- The end of a die's exit from its state may come: not before its exit latency, and not after four times that (R37, R458). DEDUCED, log entry 26. -/
def State.mayExit (s : State) (die t : Nat) : Bool :=
  decide (t + exitLatency (s.dieState die) ≤ s.now) && decide (s.now ≤ t + 4 * exitLatency (s.dieState die))

/-- A die can act on a move that needs it: it begins its return to A0, or ends it (R37). -/
def State.canRouse (s : State) (die : Nat) : Bool :=
  !s.dieAnswers die &&
  (match (s.dieAt die).phase with
   | .exiting t => s.mayExit die t
   | _ => true)

/-- An outbound buffer of a die holds a store of a strand whose stores stand still (R389). DESIGN CHOICE, log entry 79. -/
def State.storesHeld (s : State) (die : Nat) : Bool := (upto (16 * die) 16).any (fun core => (s.coreAt core).outb.any (fun e => s.outHeld e.sid))

/-- DIE_IDLE_ENTRY: an idle die begins the entry of the deepest state that its idle time and LATTOL permit (R35, R36, R457). DEDUCED, log entry 26. -/
def execDieIdleEntry (die : Nat) (s : State) : Out :=
  if !dieOk die then .fault .noSuchUnit
  else
    let d := s.dieAt die
    let k := s.deepest die (fun k => decide (d.idleAt + idleTime k ≤ s.now))
    if d.phase ≠ .steady ∨ s.busyDies.contains die ∨ s.storesHeld die ∨ s.now < d.noEntry ∨ k ≤ s.dieState die then .next s
    else .next ((s.quiesce die).onDie die (fun d => { d with phase := .entering k s.now }))

/-- DIE_STATE_ENTRY_COMPLETE: the die is in its target state, within 1 ms (R457). -/
def execDieStateEntryComplete (die : Nat) (s : State) : Out :=
  if !dieOk die then .fault .noSuchUnit
  else
    match (s.dieAt die).phase with
    | .entering k t => if s.entryLate t then .next s else .next ((s.setDieState die k).onDie die (fun d => { d with phase := .steady }))
    | _ => .next s

/-- A die begins its return to A0, or is there; an entry whose time is over has failed (R37, R457). -/
def State.wake (s : State) (die : Nat) : State :=
  let back (s : State) : State := s.onDie die (fun d => { d with phase := if s.dieState die = 0 then .steady else .exiting s.now })
  match (s.dieAt die).phase with
  | .failed => s
  | .exiting _ => s
  | .entering _ t => if s.entryLate t then s.entryFailed die else back s
  | .steady => back s

/-- A die whose exit latency has passed is in A0 (R36, R37). -/
def State.exitDone (s : State) (die : Nat) : State := (s.leaveState die 0).onDie die (fun d => { d with phase := .steady })

/-- The dies that a move needs begin their return to A0, or end it (R37). DESIGN CHOICE, log entry 61. -/
def State.rouse (s : State) (dies : List Nat) : State :=
  (distinctNat dies).foldl (fun s die =>
    if s.canRouse die then (match (s.dieAt die).phase with | .exiting _ => s.exitDone die | _ => s.wake die) else s) s

/-- DIE_WAKE: a request or a launch wakes the die and cancels an entry in progress (R37). DEDUCED, log entry 26. -/
def execDieWake (die : Nat) (s : State) : Out :=
  if !dieOk die then .fault .noSuchUnit else .next (s.wake die)

/-- DIE_EXIT_COMPLETE: after the exit latency, and within four times that, the die is in A0 (R36, R37, R458). DEDUCED, log entry 26. -/
def execDieExitComplete (die : Nat) (s : State) : Out :=
  if !dieOk die then .fault .noSuchUnit
  else
    match (s.dieAt die).phase with
    | .exiting t => if s.mayExit die t then .next (s.exitDone die) else .next s
    | _ => .next s

/-- DIE_ENTRY_FAILURE: back to A0 after 1 ms, no entry for 100 ms, KIND 7 (R457, R460). -/
def execDieEntryFailure (die : Nat) (s : State) : Out :=
  if !dieOk die then .fault .noSuchUnit
  else
    match (s.dieAt die).phase with
    | .entering _ t =>
      if s.now < t + 1000000 then .next s else .next (s.entryFailed die)
    | _ => .next s

/-- The launches with a strand that waits to start on a die. -/
def State.awaited (s : State) (die : Nat) : List Word :=
  (upto (16 * die) 16).flatMap (fun core => (s.placedOn core).map (fun e => e.1.id))

/-- DIE_EXIT_FAILURE: after four exit latencies the die has failed, and the strands placed on it, resident, away or waiting to start, are lost (R458). DEDUCED, log entry 26. -/
def execDieExitFailure (die : Nat) (s : State) : Out :=
  if !dieOk die then .fault .noSuchUnit
  else
    match (s.dieAt die).phase with
    | .exiting t =>
      if s.now < t + 4 * exitLatency (s.dieState die) then .next s
      else
        let s := s.onDie die (fun d => { d with phase := .failed })
        let s := (s.awaited die).foldl (fun s lid => s.failLaunch lid 0x301) s
        let gone := (s.all.filter (fun t => t.live && dieOf t.id.core == die)).map (fun t => t.id.sid)
        .next ((gone.foldl (fun s sid => s.lose sid 0x301) s).hosterr 7 0 (die * 2 ^ 37))
    | _ => .next s

/-- An entry under way into a state that LATTOL no longer permits ends, and one whose time is over has failed (R38, R457). -/
def State.stopEntry (s : State) (die : Nat) : State :=
  match (s.dieAt die).phase with
  | .entering k t => if s.entryLate t then s.entryFailed die else if s.permits die k then s else s.onDie die (fun d => { d with phase := .steady })
  | _ => s

/-- A die whose state LATTOL no longer permits moves to the deepest that it permits; one that is on its way back to A0 goes on (R37, R38, R458). -/
def State.relax (s : State) (die : Nat) : State :=
  let s := s.stopEntry die
  if s.dieState die = 0 ∨ s.permits die (s.dieState die) ∨ (s.dieAt die).phase ≠ .steady then s
  else
    match s.deepest die (fun k => decide (k < s.dieState die)) with
    | 0 => s.wake die
    | k => (s.leaveState die k).onDie die (fun d => { d with phase := .steady })

/-- LATTOL_WRITE (R38, R39). -/
def execLattolWrite (value : Word) (s : State) : Out :=
  if !s.front.modstat.getLsbD 0 then .next s
  else .next ((upto 0 24).foldl State.relax { s with front := { s.front with lattol := BitVec.ofNat 64 (field value 0 56) } })

/-- CAP as a write stores it (R39). -/
def capOf (v : Word) : Word := BitVec.ofNat 64 (Nat.min 16000 (Nat.max 2000 (field v 0 16)))

/-- PWRCAP_WRITE (R39). -/
def execPwrcapWrite (value : Word) (s : State) : Out :=
  if !s.front.modstat.getLsbD 0 then .next s
  else .next { s with front := { s.front with pwrcap := capOf value } }

/-- PWRSTAT (R39). -/
def pwrstatOf (power step : Nat) : Word :=
  BitVec.ofNat 64 ((if 0 < step then 2 ^ 20 else 0) + step * 2 ^ 16 + power % 2 ^ 16)

/-- The next average of module power is due: the manager averages over 100 µs (R16). -/
def Front.averageDue (f : Front) (now : Nat) : Bool :=
  match f.avgAt with
  | some t => decide (t + 100000 ≤ now)
  | none => true

/-- POWER_AVERAGE_TICK: CLKSTEP follows the average by one step in 100 µs (R16), and the time above the cap at the floor is kept (R459). -/
def execPowerAverageTick (power : BitVec 16) (s : State) : Out :=
  if !s.front.averageDue s.now then .next s
  else
  let cap := field s.front.pwrcap 0 16
  let step := field s.front.pwrstat 16 4
  let above := decide (cap < power.toNat)
  let under := decide (power.toNat * 100 < cap * 95)
  let step' := if above then Nat.min 6 (step + 1) else if under then step - 1 else step
  let f := s.front
  .next { s with front := { f with
    avgAt := some s.now
    pwrstat := pwrstatOf power.toNat step'
    overSince := if above && decide (step' = 6) then some (f.overSince.getD s.now) else none
    capHold := f.capHold && !under } }

/-- CAP_ISSUE_HOLD: above CAP for 1 ms at CLKSTEP 6, engine commands are held at issue, KIND 6 (R459, R460). -/
def execCapIssueHold (s : State) : Out :=
  match s.front.overSince with
  | some t =>
    if s.now < t + 1000000 ∨ s.front.capHold then .next s
    else .next (({ s with front := { s.front with capHold := true } }).hosterr 6 0 0)
  | none => .next s

end Sys2Proof.Machine
end

