-- ==== Sys2Proof/Machine/Boot.lean ====
section
/-! DEFINITION. The start of the module and the host interface: BAR0, launch windows, BAR2, the host links (R17 to R33, R454 to R456, R460, R461). -/

namespace Sys2Proof.Machine

/-! ### Start-up (R28 to R33, R454, R455) -/

/-- Memory after step 5 of a start: every line, or in minimal mode every line of die 0, is zero and clear (R28, R30). DESIGN CHOICE, log entries 6, 21; DEDUCED, log entry 11. -/
def State.zeroed (s : State) (minimal : Bool) : State :=
  let stays (key : Nat) : Bool := minimal && decide ((if isSpad key then keyCore key / 16 else keyDie key) ≠ 0)
  { s with mem := s.mem.filter (fun c => stays c.1), tags := s.tags.filter (fun e => stays (64 * e.1)) }

/-- BOOTCAUSE (R32). DESIGN CHOICE, log entry 21. -/
def bootcauseOf (code step attempts cause mode : Nat) : Word :=
  BitVec.ofNat 64 (code % 2 ^ 16 * 2 ^ 16 + step % 16 * 2 ^ 12 + attempts % 16 * 2 ^ 8 + cause % 16 * 2 ^ 4 + mode % 4)

/-- Everything but memory, the flash count, what the host has received and the schedule is as reset leaves it. DESIGN CHOICE, log entry 21. -/
def State.restarted (s : State) (cause : Nat) (keepCode : Bool) : State :=
  let n := s.front.failed
  let mode := if 3 ≤ n then 1 else 0
  let b := s.front.bootcause
  { State.reset with
    mem := s.mem, tags := s.tags, sched := s.sched, fresh := s.fresh, nextSid := s.nextSid
    front := { Front.reset with
      failed := n
      toHost := s.front.toHost
      bootcause := bootcauseOf (if keepCode then field b 16 16 else 0) (if keepCode then field b 12 4 else 0) n cause mode
      modstat := BitVec.ofNat 64 (2 * mode) } }

/-- A start has failed (R454, R455). DESIGN CHOICE, log entry 21. -/
def State.startFailed (s : State) (step code : Nat) : State :=
  let b := s.front.bootcause
  { s with front := { s.front with
    bootcause := bootcauseOf code step (field b 8 4) (field b 4 4) (field b 0 2)
    failed := Nat.min 3 (s.front.failed + 1)
    phase := if s.minimal then .terminal else .failed s.now } }

/-- The ports that step 6 of a start leaves up: those with a partner, and none in minimal mode (R28, R30). DESIGN CHOICE, log entry 22. -/
def State.trained (s : State) : List Port :=
  if s.minimal then [] else ((upto 0 48).filter Config.partner).map (fun p => ⟨p, 1, 0, [], 0⟩)

/-- Step 6 of a start has completed: outside minimal mode FABRIC is 1 and the ports are trained (R28, R31). DESIGN CHOICE, log entry 22. -/
def State.fabricTrained (s : State) : State :=
  { s with front := { s.front with modstat := if s.minimal then 2 else 4, ports := s.trained } }

/-- A start has set READY, after step 6 (R28 step 7, R30, R31): host link 0 is up. DESIGN CHOICE, log entries 21, 22. -/
def State.startDone (s : State) : State :=
  let s := s.fabricTrained
  { s with front := { s.front with
    modstat := if s.minimal then 3 else 5
    failed := if s.minimal then s.front.failed else 0
    phase := .done
    linkUp := s.front.linkUp.set 0 true
    linkWas := s.front.linkWas.set 0 true } }

/-- The codes with which a step of a start fails (R454). DESIGN CHOICE, log entry 21. -/
def codeOf (step code : Nat) : Bool :=
  match step with
  | 1 => decide (0x0101 ≤ code) && decide (code ≤ 0x0103)
  | 2 => decide (0x0201 ≤ code) && decide (code ≤ 0x0203)
  | 3 => decide (code / 256 = 3) && decide (code % 256 ≤ 0x17)
  | 4 => decide (code / 256 = 4) && decide (code % 256 ≤ 0x17)
  | 5 => decide (code / 256 = 5) && decide (code % 256 ≤ 0x17)
  | _ => false

/-- A start: `failStep` 0 sets READY; 1 to 5 report a failure of that step with a code of R454 for it, and with any other code hang in it until START_TIMEOUT; 6 and 7, which report none, hang there, after step 5 has zeroed memory, and 7 after step 6 has trained the fabric (R28, R29, R31, R454). DESIGN CHOICE, log entry 21. -/
def State.start (s : State) (cause : Nat) (keepCode : Bool) (failStep : Nat) (failCode : BitVec 16) : State :=
  let s := s.restarted cause keepCode
  if failStep = 0 then (s.zeroed s.minimal).startDone
  else if failStep ≤ 5 then (if codeOf failStep failCode.toNat then s.startFailed failStep failCode.toNat else s)
  else if failStep = 6 then s.zeroed s.minimal
  else (s.zeroed s.minimal).fabricTrained

/-- POWER_ON_RESET (R28, R32). -/
def execPowerOnReset (failStep : Nat) (failCode : BitVec 16) (s : State) : Out := .next (s.start 0 false failStep failCode)
/-- HOST_LINK_RESET (R32). -/
def execHostLinkReset (failStep : Nat) (failCode : BitVec 16) (s : State) : Out := .next (s.start 1 false failStep failCode)
/-- MODCTL_RESET (R33, R456). DEDUCED, log entry 23. -/
def execModctlReset (failStep : Nat) (failCode : BitVec 16) (s : State) : Out := .next (s.start 2 false failStep failCode)
/-- MODCTL_FULLSTART, in BAR0 or in its mirror (R30, R33, R455); BOOTCAUSE.RESET of the start that follows is 2, which R32 lists for MODCTL.RESET alone. DESIGN CHOICE, log entry 68. -/
def execModctlFullstart (failStep : Nat) (failCode : BitVec 16) (s : State) : Out :=
  .next (({ s with front := { s.front with failed := 0 } }).start 2 false failStep failCode)
/-- HEARTBEAT_WATCHDOG (R442, R456). -/
def execHeartbeatWatchdog (failStep : Nat) (failCode : BitVec 16) (s : State) : Out := .next (s.start 3 false failStep failCode)

/-- START_TIMEOUT: READY is not set within 2 s of reset release, from which DCLKW counts (R29, R454). -/
def execStartTimeout (s : State) : Out :=
  match s.front.phase with
  | .resetReleased => if s.now < 2000000000 then .next s else .next (s.startFailed 0 0x0700)
  | _ => .next s

/-- START_RETRY: after 100 ms the boot controller starts again and keeps RESET (R454). -/
def execStartRetry (failStep : Nat) (failCode : BitVec 16) (s : State) : Out :=
  match s.front.phase with
  | .failed t =>
    if s.now < t + 100000000 then .next s
    else .next (s.start (field s.front.bootcause 4 4) true failStep failCode)
  | _ => .next s

/-! ### BAR0 (R18, R19, R20, R23, R351, R460) -/

/-- MODSTAT.READY (R31). -/
def State.ready (s : State) : Bool := s.front.modstat.getLsbD 0

/-- A host access through a link reaches the module's registers and memory (R29, R461). -/
def State.hostOn (s : State) (link : Nat) : Bool := s.ready && s.front.linkUp.getD link false

/-- A host link number (R17). -/
def linkOk (link : Nat) : Bool := decide (link < 2)

/-- MODNUM_WRITE (R19). DEDUCED, log entry 25. -/
def execModnumWrite (value : Word) (s : State) : Out :=
  if s.ready ∧ s.starter.live = [] ∧ s.starter.queued = [] then
    .next { s with front := { s.front with modnum := value.extractLsb' 0 18, assigned := true } }
  else .next s

/-- MODID (R19). DESIGN CHOICE, log entry 5. -/
def State.modid (s : State) : Word :=
  BitVec.ofNat 64 (0x5624 * 2 ^ 48 + (Config.stepping.val + 1) * 2 ^ 40 + (if s.front.assigned then 2 ^ 18 else 0) + s.front.modnum.toNat)

/-- RTCTL_FLUSH: every held route entry is dropped (R351). -/
def execRtctlFlush (s : State) : Out :=
  if s.ready then .next { s with dies := s.dies.map (fun d => { d with routes := [] }) } else .next s

/-- HOSTERR_WRITE (R460). -/
def execHosterrWrite (s : State) : Out :=
  if s.ready then .next { s with front := { s.front with hosterr := 0 } } else .next s

/-- An access of a host link to a line goes from its die to the line's home, whose slice decodes the line (R37, R426, R464). -/
def State.hostTo (s : State) (link l source : Nat) : State :=
  ((s.touch (64 * l)).passes (pathFor (linkDie link) (homeDie (64 * l)) (64 * l) ++ pathFor (homeDie (64 * l)) (linkDie link) (64 * l))).decodes l source (BitVec.ofNat 12 (0xF80 + link))

/-- Acceptance through a link turns at G every line that the link has written, whatever the module's number was then (R24, R97). -/
def State.turnHost (s : State) (link : Nat) : State :=
  let mine := s.front.wrote.filter (fun e => e.link == link)
  let w := BitVec.ofNat 12 (0xF80 + link)
  let s := { s with front := { s.front with wrote := s.front.wrote.filter (fun e => e.link != link) } }
  mine.foldl (fun s e =>
    let s := s.hostTo link e.line 2
    (s.setTag e.line (turnTag e.wmod w 4 e.line (s.tag e.line))).invalidateAll e.line (e.line + 1)) s

/-- The bytes of a window's PKT. -/
def Window.bytes (w : Window) : List Byte := w.pkt.toList.flatMap (fun v => toBytes 8 v.toNat)

/-- A submission that the Starter rejects: WINSTAT.LAST (R26). -/
def State.reject (s : State) (w : Window) (last : BitVec 3) : State := s.setWindow { w with last := last }

/-- A doorbell: the checks of R24 in their order, then acceptance (R26, R329). -/
def State.doorbell (s : State) (link n : Nat) : State :=
  let w := s.window link n
  match s.context n with
  | (.error e, s) => s.reject w (BitVec.ofNat 3 e)
  | (.ok c, s) =>
    if s.malformed w.bytes then s.reject w 2
    else if s.credits n = 0 then s.reject w 1
    else
      let (id, s) := (s.turnHost link).accept n c w.bytes (some link)
      s.setWindow { (s.window link n) with lastId := id.extractLsb' 0 32, last := 0 }

/-- DOORBELL_WRITE (R24 to R26). -/
def execDoorbellWrite (link window : Nat) (s : State) : Out :=
  if !linkOk link || decide (256 ≤ window) then .fault .noSuchUnit
  else if s.hostOn link then .next (s.doorbell link window) else .next s

/-- The size of a link's BAR2: as the host has resized it, else the implementation's (R17, R20). DESIGN CHOICE, log entry 5. -/
def State.bar2Size (s : State) (link : Nat) : Nat :=
  2 ^ (28 + ((s.front.bar2.getD link none).getD (if link = 0 then (Config.bar2Extra 0).val else (Config.bar2Extra 1).val)))

/-- BAR2BASE for a value: the multiple of both links' BAR2 sizes at or below it (R20). DESIGN CHOICE, log entry 5. -/
def State.bar2Of (s : State) (v : Word) : Word :=
  let n := Nat.max (s.bar2Size 0) (s.bar2Size 1)
  BitVec.ofNat 64 (field v 0 42 / n * n)

/-- The host resizes the BAR2 of a link to 2 ^ (28 + n) bytes, 256 MiB to 4 TiB, and BAR2BASE stays a multiple of it (R17, R20). DESIGN CHOICE, log entry 5. -/
def State.resizeBar2 (s : State) (link n : Nat) : State :=
  if 14 < n then s
  else
    let s := { s with front := { s.front with bar2 := s.front.bar2.setIfInBounds link (some n) } }
    { s with front := { s.front with bar2base := s.bar2Of s.front.bar2base } }

/-- WINSTAT of a window as a link reads it: its own LASTID and LAST, and the queue's CREDITS (R25, R26). -/
def State.winstat (s : State) (w : Window) : Word :=
  BitVec.ofNat 64 (w.lastId.toNat * 2 ^ 32 + s.credits w.queue * 2 ^ 8 + w.last.toNat)

/-- A register of a launch window as a link reads it: PKT and DOORBELL read 0 (R23). -/
def State.windowRead (s : State) (link n off : Nat) : Word :=
  if off = 0x88 then s.winstat (s.window link n)
  else if off = 0x90 then (s.window link n).cmpaddr
  else 0

/-- A register of BAR0 as a link reads it: MODCTL, RTCTL and reserved offsets read 0, and before READY every offset does (R18, R29, R33, R351). -/
def State.registerRead (s : State) (link : Nat) (offset : BitVec 26) : Word :=
  let o := offset.toNat
  if !s.ready then 0
  else if 0x100000 ≤ o ∧ o < 0x200000 then s.windowRead link ((o - 0x100000) / 0x1000) (o % 0x1000)
  else
    match o with
    | 0x00000 => s.modid
    | 0x00008 => s.front.modstat
    | 0x00010 => s.front.bootcause
    | 0x10000 => s.front.lattol
    | 0x10008 => s.front.pwrcap
    | 0x10010 => s.front.pwrstat
    | 0x10018 => s.front.diestate
    | 0x20000 => s.front.bar2base
    | 0x20008 => s.front.hosterr
    | _ => 0

/-- The mirror of MODSTAT, BOOTCAUSE and MODCTL in configuration space (R455). -/
def State.mirrorRead (s : State) (off : Nat) : Word :=
  match off with
  | 0x0C => s.front.modstat
  | 0x14 => s.front.bootcause
  | _ => 0

/-- A configuration request completes on a link: after READY, and on link 0 after a start that ended for good (R29, R455). -/
def State.configOn (s : State) (link : Nat) : Bool := s.ready || (decide (s.front.phase = .terminal) && link == 0)

/-- A register of a launch window written (R23). -/
def State.windowWrite (s : State) (link n off : Nat) (v : Word) : State :=
  let w := s.window link n
  if off < 0x80 then s.setWindow { w with pkt := w.pkt.setIfInBounds (off / 8) v }
  else if off = 0x80 then s.doorbell link n
  else if off = 0x90 then s.setWindow { w with cmpaddr := v }
  else s

/-- REGISTER_WRITE: PKT, CMPADDR and BAR2BASE store the value; a register with a behaviour has it; reserved and read-only offsets ignore the write (R18, R20, R23). DEDUCED, log entry 23. R18 gives no access width: a write is of the 64 bits of one register, and one at an offset that is no multiple of 8 is ignored. DESIGN CHOICE, log entry 68. -/
def execRegisterWrite (link : Nat) (offset : BitVec 26) (value : Word) (s : State) : Out :=
  if !linkOk link then .fault .noSuchUnit
  else if !s.hostOn link then .next s
  else
    let o := offset.toNat
    if o % 8 ≠ 0 then .next s
    else if 0x100000 ≤ o ∧ o < 0x200000 then .next (s.windowWrite link ((o - 0x100000) / 0x1000) (o % 0x1000) value)
    else
      match o with
      | 0x00000 => execModnumWrite value s
      | 0x00018 =>
        if value.getLsbD 1 then execModctlFullstart 0 0 s
        else if value.getLsbD 0 then execModctlReset 0 0 s
        else .next s
      | 0x10000 => execLattolWrite value s
      | 0x10008 => execPwrcapWrite value s
      | 0x20000 => .next { s with front := { s.front with bar2base := s.bar2Of value } }
      | 0x20008 => execHosterrWrite s
      | 0x30000 => if value.getLsbD 0 then execRtctlFlush s else .next s
      | _ => .next s

/-- CONFIGURATION_REQUEST: Retry Status until READY, or until a terminal start for link 0 (R29, R455). -/
def execConfigurationRequest (link : Nat) (s : State) : Out :=
  if !linkOk link then .fault .noSuchUnit
  else if !s.front.linkUp.getD link false then .next s
  else
    .next (s.hostEvent (.config link !(s.configOn link)))

/-! ### BAR2 (R20 to R22) -/

/-- The module physical address of a BAR2 offset (R20). DESIGN CHOICE, log entry 5. -/
def State.bar2 (s : State) (offset : BitVec 42) : Nat := (s.front.bar2base.toNat + offset.toNat) % 2 ^ 42

/-- The pieces of a byte range, cut where a line ends: address and length. -/
def linePieces : (fuel : Nat) → (pa : Nat) → (n : Nat) → List (Nat × Nat)
  | 0, _, _ => []
  | f + 1, pa, n =>
    if n = 0 then []
    else
      let k := Nat.min n (64 - pa % 64)
      (pa, k) :: linePieces f (pa + k) (n - k)

/-- The kind of HOSTERR event that a piece of an access is, none when it is none: 1 a die above 23, 2 a read of a line neither clear nor turned at G (R20, R22). -/
def State.pieceError (s : State) (read : Bool) (pa : Nat) : Option Nat :=
  if 24 ≤ keyDie pa then some 1
  else if !read || decide ((s.dieAt (keyDie pa)).phase = .failed) then none
  else if (s.tag (pa / 64)).state = 5 ∨ (s.tag (pa / 64)).state = 4 ∨ (s.tag (pa / 64)).state = 7 then none
  else some 2

/-- HOSTERR records an access once: its first piece that is an event (R20, R22, R460). DESIGN CHOICE, log entry 24. -/
def State.accessError (s : State) (link : Nat) (read : Bool) (ps : List (Nat × Nat)) : State :=
  match ps.findSome? (fun p => (s.pieceError read (p.1 % 2 ^ 42)).map (fun k => (k, p.1 % 2 ^ 42))) with
  | some (k, pa) => s.hosterr k link pa
  | none => s

/-- One piece of a host write: un-turned under the link's writer id, or dropped for a die above 23 (R20, R21, R88). In minimal mode the memory of dies 1 to 23 is reached as in full mode; R30 does not say. DESIGN CHOICE, log entry 24. -/
def State.hostPiece (s : State) (link pa : Nat) (bs : List Byte) : State :=
  if 24 ≤ keyDie pa then s
  else if (s.dieAt (keyDie pa)).phase = .failed then s
  else
    let l := pa / 64
    let sh := pa % 64
    let r := (s.hostTo link l 2).landAt l (BitVec.ofNat 12 (0xF80 + link)) (byteMask sh bs.length) (BitVec.ofNat 512 (ofBytes bs) <<< (8 * sh))
    let e : HostWrite := ⟨link, l, s.front.modnum⟩
    { r.2 with front := { r.2.front with wrote := if r.2.front.wrote.contains e then r.2.front.wrote else e :: r.2.front.wrote } }

/-- BAR2_HOST_WRITE (R20, R21); an access that leaves the link's BAR2 is none to it. -/
def execBar2HostWrite (link : Nat) (offset : BitVec 42) (data : List Byte) (s : State) : Out :=
  if !linkOk link then .fault .noSuchUnit
  else if !s.hostOn link || decide (s.bar2Size link < offset.toNat + data.length) then .next s
  else
    let pa := s.bar2 offset
    let ps := linePieces (data.length / 64 + 2) pa data.length
    .next ((ps.foldl (fun s p => s.hostPiece link (p.1 % 2 ^ 42) ((data.drop (p.1 - pa)).take p.2)) s).accessError link false ps)

/-- One piece of a host read: its bytes, and whether the line is poisoned (R20, R22). DESIGN CHOICE, log entry 24. -/
def State.hostRead (s : State) (pa n : Nat) : List Byte × Bool :=
  let ones := List.replicate n (0xFF : Byte)
  if 24 ≤ keyDie pa then (ones, false)
  else if (s.dieAt (keyDie pa)).phase = .failed then (ones, false)
  else
    let t := s.tag (pa / 64)
    if t.state = 5 ∨ t.state = 4 then (Memory.bytes s.mem pa n, false)
    else if t.state = 7 then (Memory.bytes s.mem pa n, true)
    else (ones, false)

/-- A host read goes to the homes of its pieces (R37). -/
def State.touchAll (s : State) (link : Nat) (ps : List (Nat × Nat)) : State :=
  ps.foldl (fun s p => if 24 ≤ keyDie (p.1 % 2 ^ 42) then s else s.hostTo link (p.1 % 2 ^ 42 / 64) 0) s

/-- BAR2_HOST_READ (R22); before READY it reads as a reserved offset, zero (R18, R29); an access that leaves the link's BAR2 is none to it. -/
def execBar2HostRead (link : Nat) (offset : BitVec 42) (len : Nat) (s : State) : Out :=
  if !linkOk link then .fault .noSuchUnit
  else if !s.front.linkUp.getD link false || decide (s.bar2Size link < offset.toNat + len) then .next s
  else if !s.ready then .next (s.hostEvent (.data link (List.replicate len 0) false))
  else
    let ps := linePieces (len / 64 + 2) (s.bar2 offset) len
    let s := s.touchAll link ps
    let bs := ps.map (fun p => s.hostRead (p.1 % 2 ^ 42) p.2)
    .next ((s.accessError link true ps).hostEvent (.data link (bs.flatMap Prod.fst) (bs.any Prod.snd)))

/-! ### Host links (R460, R461) -/

/-- HOST_LINK_DOWN (R461): KIND 4. -/
def execHostLinkDown (link : Nat) (s : State) : Out :=
  if !linkOk link then .fault .noSuchUnit
  else if !s.front.linkUp.getD link false then .next s
  else .next (({ s with front := { s.front with linkUp := s.front.linkUp.setIfInBounds link false } }).hosterr 4 link 0)

/-- HOST_LINK_UP: a link that was up before has retrained, KIND 3 (R460, R461); link 1 stays down in minimal mode (R30). DESIGN CHOICE, log entry 22. -/
def execHostLinkUp (link : Nat) (s : State) : Out :=
  if !linkOk link then .fault .noSuchUnit
  else if s.front.linkUp.getD link false ∨ (link = 1 ∧ s.minimal) then .next s
  else
    let s' := { s with front := { s.front with
      linkUp := s.front.linkUp.setIfInBounds link true, linkWas := s.front.linkWas.setIfInBounds link true } }
    .next (if s.front.linkWas.getD link false then s'.hosterr 3 link 0 else s')

end Sys2Proof.Machine
end

