-- ==== Sys2Proof/Machine/Engine.lean ====
section
/-! DEFINITION. The engine retires commands in issue order (R257, R258), and the clearing of a released tile store (R255). -/

namespace Sys2Proof.Machine

/-- The record of a faulted engine command (R258, R389). -/
def EngCmd.record (c : EngCmd) (x : XFault) : Record where
  cause := x.cause
  tval := x.tval
  pc := c.pc
  word := c.word
  unit := 2
  chan := 0
  seq := BitVec.ofNat 16 c.seq
  opa := c.opa
  opb := c.opb
  opc := c.opc
  opd := c.opd
  vl := c.vl
  vtype := c.vtype
  tshape := c.tshape.setWidth 32
  extra := c.tpitch
  pos := c.pos
  at_ := 0
  ring := 16
  given := false

/-- One command run whole: the state after its effects, or the fault with the state that its reads leave (R257, R258). DESIGN CHOICE, log entry 85. -/
def State.runCmd (s : State) (core : Nat) (c : EngCmd) : Except XFault State × State :=
  match c.op with
  | .tzero => (.ok (s.onCore core (fun k => k.runTzero c)), s)
  | .tmac => s.runTmac core c false
  | .tmacw => s.runTmac core c true
  | .tld => s.runTld core c
  | .tst => (.ok (s.runTst core c), s)
  | .tadd => (.ok (s.onCore core (fun k => k.runTadd c)), s)
  | .siginit => (.ok (s.onCore core (fun k => k.runSig c)), s)
  | .sigupd => (.ok (s.onCore core (fun k => k.runSig c)), s)
  | .siglog => (.ok (s.onCore core (fun k => k.runSig c)), s)
  | .sigjoin => s.runImage core c (fun q r => Tensor.mul (sigD c.sigcfg) (sigN c.sigcfg) q r) true
  | .sigjoinl => s.runImage core c (fun q r => Tensor.mul (sigD c.sigcfg) (sigN c.sigcfg) r q) true
  | .sigld => s.runImage core c (fun _ r => r) false
  | .sigst => (.ok (s.runSigst core c), s)

/-- The oldest command of a core runs and retires; a fault changes no cell, and the strand's later commands are discarded (R258). DESIGN CHOICE, log entry 85. -/
def State.retireCmd (s : State) (core : Nat) : State :=
  match (s.coreAt core).eng with
  | [] => s
  | c :: r =>
    let s := s.onCore core (fun k => { k with eng := r })
    match s.runCmd core c with
    | (.ok s, _) => s
    | (.error x, s) =>
      let s := s.onCore core (fun k => { k with eng := k.eng.filter (fun e => e.sid != c.sid) })
      s.addRecord c.sid (c.record x)

/-- The engine holds a record that waits for an entry of a strand's ring, and stands still (R389). -/
def State.engHeld (s : State) (core : Nat) : Bool := s.unitHeld core [2]

/-- ENGINE_COMMAND_RETIRE (R257, R258, R389, R446). -/
def execEngineCommandRetire (core : Nat) (s : State) : Out :=
  if !coreOk core then .fault .noSuchUnit
  else
    match (s.coreAt core).eng with
    | [] => .next s
    | c :: _ => .next (if s.frozen core c.sid || s.engHeld core then s else s.retireCmd core)

/-- TILE_STORE_CLEAR_END: after the release's commands have retired, every cell and L0 is +0 and the store is free (R255). -/
def execTileStoreClearEnd (core : Nat) (s : State) : Out :=
  if !coreOk core then .fault .noSuchUnit
  else .next (s.onCore core (fun k => if k.clearing && k.eng.isEmpty then { k with clearing := false, cells := [], l0 := 0 } else k))

end Sys2Proof.Machine
end

