-- ==== Sys2Proof/Machine/Fabric.lean ====
section
/-! DEFINITION. Fabric ports, packets lost on the way, routes and DCLKW synchronisation (R280, R345 to R353, R462, R463). -/

namespace Sys2Proof.Machine

/-- A fabric port number (R13). -/
def portOk (p : Nat) : Bool := decide (p < 48)

/-- `f` applied to a port that is not down. -/
def State.onPort (s : State) (p : Nat) (f : Port → Port) : State :=
  { s with front := { s.front with ports := s.front.ports.map (fun q => if q.id = p then f q else q) } }

/-- FLIT_CHECK_FAIL: the oldest flit without acknowledgement is replayed from the retry buffer (R349, R462). -/
def execFlitCheckFail (port : Nat) (s : State) : Out :=
  if !portOk port then .fault .noSuchUnit
  else .next (s.onPort port (fun q => if q.retry.isEmpty then q else { q with replays := Nat.min 16 (q.replays + 1) }))

/-- The partner port acknowledges the oldest flit of a port: it leaves the retry buffer, with its packet when it is the last, and the next has not been replayed (R349, R462). DESIGN CHOICE, log entry 60. -/
def State.flitAck (s : State) (port : Nat) : State :=
  s.onPort port (fun q => { q with
    replays := 0
    retry := match q.retry with
      | k :: r => if k.flits ≤ 1 then r else { k with flits := k.flits - 1 } :: r
      | [] => [] })

/-- FABRIC_PORT_RETRAIN: 16 replays without acknowledgement make the port retrain (R462). -/
def execFabricPortRetrain (port : Nat) (s : State) : Out :=
  if !portOk port then .fault .noSuchUnit
  else .next (s.onPort port (fun q => if 16 ≤ q.replays ∧ q.status ≠ 2 then { q with status := 2, since := s.now } else q))

/-- A port has retrained for longer than the 50 ms that R462 gives it: its retrain has failed. DESIGN CHOICE, log entry 63. -/
def Port.late (q : Port) (now : Nat) : Bool := q.status == 2 && decide (q.since + 50000000 < now)

/-- The packets of a list are lost, in their order (R462, R463). DESIGN CHOICE, log entry 63. -/
def State.loseAll (s : State) (fs : List Flight) : State :=
  fs.foldl (fun s f =>
    let (landed, s) := s.loss
    s.losePacket f landed) s

/-- FABRIC_RETRAIN_END: the port is up, as it is when a start has trained it; or, when the retrain fails or takes more than 50 ms, it is down and its packets are lost (R28 step 6, R462). DESIGN CHOICE, log entry 22. -/
def execFabricRetrainEnd (port : Nat) (ok : Bool) (s : State) : Out :=
  if !portOk port then .fault .noSuchUnit
  else if !s.front.modstat.getLsbD 2 then .next s
  else
    let others := s.front.ports.filter (fun q => q.id != port)
    if ok && !s.front.ports.any (fun q => q.id == port && q.late s.now) then
      .next { s with front := { s.front with ports := insertBy (fun a b => decide (a.id < b.id)) ⟨port, 1, 0, [], 0⟩ others } }
    else if !(s.front.ports.any (fun q => q.id == port && q.status == 2)) then .next s
    else
      let lost := s.homes.wnet.filter (fun f => f.port == some port)
      let s := { s with
        front := { s.front with ports := others }
        homes := { s.homes with wnet := s.homes.wnet.filter (fun f => f.port != some port) } }
      .next (s.loseAll lost)

/-- A packet on a fabric port. -/
def State.packet (s : State) (n : Nat) : Option Flight :=
  match s.homes.wnet[n]? with
  | some f => if f.port.isSome then some f else none
  | none => none

/-- A packet is lost on its way: when its bytes have landed, what stood ahead of it on its channel and path, and its strand's earlier writes to its line, have landed before it (R314, R315, R346, R463). DESIGN CHOICE, log entry 63. -/
def State.loseAt (s : State) (i : Nat) (f : Flight) : State :=
  let (landed, s) := s.loss
  let (come, stay) := if landed then arriving (fun g => g.ahead f) (s.homes.wnet.take i) else ([], s.homes.wnet.take i)
  let s := { s with homes := { s.homes with wnet := stay ++ s.homes.wnet.drop (i + 1) } }
  (come.foldl State.landFlight s).losePacket f landed

/-- LOSS_NOTICE (R462, R463). -/
def execLossNotice (packet : Nat) (s : State) : Out :=
  match s.packet packet with
  | none => .next s
  | some f => .next (s.loseAt packet f)

/-- FABRIC_REPLY_TIMEOUT: no acknowledgement 1 ms after local completion (R462). -/
def execFabricReplyTimeout (packet : Nat) (s : State) : Out :=
  match s.packet packet with
  | none => .next s
  | some f =>
    match f.local_ with
    | some t =>
      if s.now < t + 1000000 then .next s else .next (s.loseAt packet f)
    | none => .next s

/-- `f` applied to the n-th element. -/
def updAt {α : Type} (f : α → α) : Nat → List α → List α
  | _, [] => []
  | 0, a :: r => f a :: r
  | n + 1, a :: r => a :: updAt f n r

/-- LOCAL_COMPLETION: the packet's last flit is in the retry buffer of its port (R353). -/
def execLocalCompletion (packet : Nat) (s : State) : Out :=
  match s.packet packet with
  | none => .next s
  | some _ => .next { s with homes := { s.homes with
      wnet := updAt (fun f => { f with local_ := some (f.local_.getD s.now) }) packet s.homes.wnet } }

/-- ROUTE_ENTRY_READ: a perimeter die reads the entry of a module that it does not hold (R351); the own module's is never read. -/
def execRouteEntryRead (die target : Nat) (s : State) : Out :=
  if !dieOk die then .fault .noSuchUnit
  else if target = s.front.modnum.toNat ∨ 2 ^ 18 ≤ target ∨ !perimeter.contains die then .next s
  else .next (s.routeEntry die target).2

/-- ROUTE_UPDATE: the frame is received (R352); the route table itself is written by the runtime (R351). -/
def execRouteUpdate (target : Nat) (entry : Word) (s : State) : Out :=
  if s.front.modstat.getLsbD 2 then .next { s with front := { s.front with frames := s.front.frames ++ [(target, entry)] } }
  else .next s

/-- DCLKW_SYNCHRONISATION: a management frame sets the wall clock, never back (R280, R314, R352). DESIGN CHOICE, log entry 57. -/
def execDclkwSynchronisation (tick : BitVec 63) (s : State) : Out :=
  if s.front.modstat.getLsbD 2 && decide (s.now ≤ tick.toNat) then .next { s with dclkw := tick } else .next s

end Sys2Proof.Machine
end

