-- ==== Sys2Proof/Machine/Fps.lean ====
section
/-! DEFINITION. Scalar floating point on FP32 (R188 to R191). -/

namespace Sys2Proof.Machine

/-- The FP32 pattern of a register: bits [31:0] (R188). -/
def State.rf (s : State) (r : Reg) : Nat := field (s.rx r) 0 32

/-- The value of that pattern. -/
def State.rfp (s : State) (r : Reg) : Fp := FP32.decode (s.rf r)

/-- The rounding mode in force (R113). -/
def State.rm (s : State) : RMode := rmOf s.cur.c.fcsr

/-- A result and its flags: bits above an FP32 result are zero, the flags enter FCSR (R115, R188). -/
def State.retF (s : State) (d : Reg) (r : Nat × FFlags) : Out :=
  (s.setC { s.cur.c with fcsr := orFlags s.cur.c.fcsr r.2 }).ret d (BitVec.ofNat 64 r.1)

/-- FADD (R188, R189). -/
def execFadd (d a b : Reg) (s : State) : Out := s.retF d (FP32.add s.rm (s.rfp a) (s.rfp b))
/-- FSUB (R188, R189). -/
def execFsub (d a b : Reg) (s : State) : Out := s.retF d (FP32.sub s.rm (s.rfp a) (s.rfp b))
/-- FMUL (R188, R189). -/
def execFmul (d a b : Reg) (s : State) : Out := s.retF d (FP32.mul s.rm (s.rfp a) (s.rfp b))
/-- FDIV (R188, R189). -/
def execFdiv (d a b : Reg) (s : State) : Out := s.retF d (FP32.div s.rm (s.rfp a) (s.rfp b))
/-- FSQRT (R188, R189). -/
def execFsqrt (d a : Reg) (s : State) : Out := s.retF d (FP32.sqrt s.rm (s.rfp a))
/-- FMIN (R117, R188). -/
def execFmin (d a b : Reg) (s : State) : Out := s.retF d (FP32.minmax false (s.rf a) (s.rf b))
/-- FMAX (R117, R188). -/
def execFmax (d a b : Reg) (s : State) : Out := s.retF d (FP32.minmax true (s.rf a) (s.rf b))

/-- A comparison's 1 or 0 with its flags. -/
def cmpRes (r : Bool × FFlags) : Nat × FFlags := (if r.1 then 1 else 0, r.2)

/-- FEQ: quiet (R117, R188). -/
def execFeq (d a b : Reg) (s : State) : Out := s.retF d (cmpRes (fpEq (s.rfp a) (s.rfp b)))
/-- FLT: signalling (R117, R188). -/
def execFlt (d a b : Reg) (s : State) : Out := s.retF d (cmpRes (fpLt (s.rfp a) (s.rfp b)))
/-- FLE: signalling (R117, R188). -/
def execFle (d a b : Reg) (s : State) : Out := s.retF d (cmpRes (fpLe (s.rfp a) (s.rfp b)))
/-- FCVTFI: FP32 to I64 under RM (R119, R188, R189). -/
def execFcvtfi (d a : Reg) (s : State) : Out :=
  let r := fpToInt s.rm (-(2 ^ 63 : Nat)) ((2 ^ 63 - 1 : Nat)) (s.rfp a)
  s.retF d (ofInt 64 r.1, r.2)
/-- FCVTIF: I64 to FP32 under RM (R119, R188). -/
def execFcvtif (d a : Reg) (s : State) : Out := s.retF d (FP32.convert s.rm (intFp (s.rx a).toInt))

/-- FSGNJ: bits [30:0] of a with bit 31 of b (R188). -/
def execFsgnj (d a b : Reg) (s : State) : Out :=
  s.ret d (BitVec.ofNat 64 (s.rf a % 2 ^ 31 + s.rf b / 2 ^ 31 * 2 ^ 31))
/-- FNEG: bit 31 inverted (R188). -/
def execFneg (d a : Reg) (s : State) : Out := s.ret d (BitVec.ofNat 64 (s.rf a ^^^ 2 ^ 31))
/-- FABS: bit 31 cleared (R188). -/
def execFabs (d a : Reg) (s : State) : Out := s.ret d (BitVec.ofNat 64 (s.rf a % 2 ^ 31))

/-- KIND of the class word (R190). -/
def classKind (v : Nat) : Nat :=
  let e := v / 2 ^ 23 % 256
  let f := v % 2 ^ 23
  if e = 0 then (if f = 0 then 0 else 1)
  else if e = 255 then (if f = 0 then 3 else if 2 ^ 22 ≤ f then 4 else 5)
  else 2

/-- FCLASS (R190). -/
def execFclass (d a : Reg) (s : State) : Out :=
  let v := s.rf a
  s.ret d (BitVec.ofNat 64 (v / 2 ^ 23 % 256 * 256 + v / 2 ^ 31 * 16 + classKind v))

/-- FMA: a × b + c (R191). -/
def execFma (d a b c : Reg) (s : State) : Out := s.retF d (FP32.fma s.rm false (s.rfp a) (s.rfp b) (s.rfp c))
/-- FNMA: −(a × b) − c, the negations inside the terms (R191). -/
def execFnma (d a b c : Reg) (s : State) : Out := s.retF d (FP32.fma s.rm true (s.rfp a) (s.rfp b) (s.rfp c).neg)
/-- FMS: a × b − c (R191). -/
def execFms (d a b c : Reg) (s : State) : Out := s.retF d (FP32.fma s.rm false (s.rfp a) (s.rfp b) (s.rfp c).neg)

end Sys2Proof.Machine
end

