-- ==== Sys2Proof/Machine/HomeEv.lean ====
section
/-! DEFINITION. What happens at the homes between instructions: writes and reads that arrive, soft errors of vault lines, invalidations, table walks, object operations (R78, R83, R88, R89, R95, R187, R290, R426, R427). -/

namespace Sys2Proof.Machine

/-! ### Soft errors (R426, R427) -/

/-- The next entry of the error log: KIND, STRUCT, the core of the structure, ADDR, COUNT, SOURCE and WRITER, 0xFFFF for an id that is no strand's (R87, R427). -/
def State.logEvent (s : State) (kind struct core addr count source : Nat) (writer : BitVec 12) : State :=
  let seq := s.front.logSeq
  let e := toBytes 8 seq ++ toBytes 8 s.now ++ toBytes 8 addr ++ toBytes 1 kind ++ toBytes 1 struct ++
    toBytes 1 (dieOf core) ++ toBytes 1 (core % 16) ++ toBytes 1 count ++ toBytes 1 source ++
    toBytes 2 (if 24 ≤ writer.toNat / 128 then 0xFFFF else writer.toNat) ++ toBytes 32 0
  let s := { s with front := { s.front with logSeq := seq + 1 } }
  s.writeTurned 0 0xF01 (0x20000 + 64 * ((seq - 1) % 1024)) e

/-- An entry of the error log for a vault line (R427). -/
def State.logError (s : State) (kind key count source : Nat) (writer : BitVec 12) : State :=
  s.logEvent kind 0 (keyCore key) (globalOf s.front.modnum key) count source writer

/-- A line is poisoned: zero data, STATE 7, WRITER 0, GEN 0, cached copies invalidated, and the poison count of its vault or scratchpad raised (R426, R428, R429). -/
def State.poison (s : State) (l : Nat) : State :=
  let m := if isSpad (64 * l) then (s.tag l).wmod else BitVec.ofNat 18 (keyModule (64 * l)) ^^^ s.front.modnum
  let s := { s with mem := Memory.setMasked s.mem (64 * l) (2 ^ 64 - 1) 0 64, tags := Tags.set s.tags l ⟨7, 0, 0, m⟩ }
  let s := s.invalidateAll l (l + 1)
  if keyModule (64 * l) = 0 then s.onCore (keyCore (64 * l)) (fun k => { k with poison := k.poison + 1 })
  else
    let v := 64 * l / 2 ^ 33
    { s with homes := { s.homes with poisons := (v, s.farPoisons (64 * l) + 1) :: s.homes.poisons.filter (fun e => e.1 != v) } }

/-- A codeword of a vault line decoded with some bytes in error: 1 to 3 are corrected, 4 and 5 poison, more go undetected (R426). DESIGN CHOICE, log entry 27. -/
def State.scrub (s : State) (l badBytes source : Nat) (writer : BitVec 12) : State :=
  if isSpad (64 * l) ∨ keyModule (64 * l) ≠ 0 ∨ badBytes = 0 ∨ 5 < badBytes then s
  else if badBytes ≤ 3 then s.logError 0 (64 * l) badBytes source writer
  else (s.poison l).logError 1 (64 * l) 0 source writer

/-- PATROL_SCRUB: the next line of a vault is read, whatever stands in error there (R426). DESIGN CHOICE, log entry 27. -/
def execPatrolScrub (core badBytes : Nat) (s : State) : Out :=
  if !coreOk core then .fault .noSuchUnit
  else
    let n := (s.coreAt core).patrol
    let l := (core * 2 ^ 33) / 64 + n
    let s := (s.decodes l 1 0xFFF).scrub l badBytes 1 0xFFF
    .next (s.onCore core (fun k => { k with patrol := (n + 1) % 2 ^ 27 }))

/-! ### Writes (R83, R85, R88) -/

/-- The entry of a core's outbound buffer that leaves next: the first whose 4 µs are over, else the oldest; one that must wait for an older write of its strand to its line is passed over, and so is one whose strand has a record of a store waiting for an entry of its ring (R83, R315, R389). DESIGN CHOICE, log entry 2. -/
def State.nextOut (s : State) (k : Core) : Option Nat :=
  match k.outb.findIdx? (fun e => decide (e.last + 4000 ≤ s.now) && !s.blocked k.id e && !s.outHeld e.sid) with
  | some i => some i
  | none => k.outb.findIdx? (fun e => !s.blocked k.id e && !s.outHeld e.sid)

/-- OUTBOUND_DRAIN_TIMEOUT: an entry of a core's outbound buffer leaves for its home (R83, R350). -/
def execOutboundDrainTimeout (core : Nat) (s : State) : Out :=
  if !coreOk core then .fault .noSuchUnit
  else
    let k := s.coreAt core
    match s.nextOut k with
    | none => .next s
    | some i =>
      match k.outb[i]? with
      | none => .next s
      | some e => .next ((s.onCore core (fun k => { k with outb := dropAt i k.outb })).send core e)

/-- HOME_WRITE: a write arrives, the first on its channel of its path; one strand's writes to one line arrive in order (R85, R88, R346). -/
def execHomeWrite (index badBytes : Nat) (s : State) : Out :=
  match s.homes.wnet[index]? with
  | none => .next s
  | some f =>
    match s.homes.wnet.findIdx? (fun g => g.ahead f) with
    | none => .next s
    | some i =>
      match s.homes.wnet[i]? with
      | none => .next s
      | some g =>
        if s.held g then .next s
        else
          let s := { s with homes := { s.homes with wnet := dropAt i s.homes.wnet } }
          .next ((s.scrub g.entry.line badBytes 2 g.entry.writer).landFlight g)

/-! ### Reads (R95, R187) -/

/-- HOME_READ: a read of a doubleword for a strand resolves at the home; its data starts back, or its fault is taken (R95, R187). DESIGN CHOICE, log entries 27, 75. -/
def execHomeRead (sid : Nat) (address : BitVec 61) (d : Reg) (badBytes : Nat) (s : State) : Out :=
  match s.strand sid with
  | none => .next s
  | some t =>
    match t.run with
    | .running =>
      let key := address.toNat / 8 * 8
      let l := key / 64
      let s := s.scrub l badBytes 0 t.writer
      match s.readHome t.id.core t.writer l with
      | (.error c, s) =>
        let g := BitVec.ofNat 64 (globalOf s.front.modnum key)
        .next (s.asStrand sid (fun s => s.trapEntry c 0 false s.cur.pc g 0 s.cur.pc))
      | (.ok data, s) =>
        let v : Word := data.extractLsb' (8 * (key % 64)) 64
        .next { s with homes := { s.homes with loads := s.homes.loads ++ [⟨sid, d, v, l, some data⟩] } }
    | _ => .next s

/-- The first reply on the channel and path of another (R346). -/
def State.firstReply (s : State) (r : Reply) : Nat :=
  let way (q : Reply) : Nat × Nat × Nat × Bool := s.wayBack (((s.strand q.sid).map (fun t => t.id.core)).getD 0) q.sid q.line
  (s.homes.loads.findIdx? (fun q => way q == way r)).getD 0

/-- LOAD_REPLY: the first reply on a channel of a path arrives: the register takes the data, and the cache is filled when the line as it stands now may be (R83, R95, R187, R346). DEDUCED, log entry 28. -/
def execLoadReply (index : Nat) (s : State) : Out :=
  match (s.homes.loads[index]?).bind (fun q => s.homes.loads[s.firstReply q]?) with
  | none => .next s
  | some r =>
    let s := { s with homes := { s.homes with loads := dropAt (s.firstReply r) s.homes.loads } }
    match s.strand r.sid with
    | none => .next s
    | some t =>
      let fills := match resolve (s.tag r.line) (s.distTo t.writer r.line (s.tag r.line)) with
        | .ok f => f && !isSpad (64 * r.line) && decide (keyModule (64 * r.line) = 0) && r.fill == some (s.line r.line)
        | .error _ => false
      let s := match fills, r.fill with
        | true, some data =>
          let (n, s) := s.draw
          s.onCore t.id.core (fun k => if (k.cached r.line).isSome then k else k.fill n r.line data)
        | _, _ => s
      .next (match t.run with
        | .away _ _ => (s.saveReg t r.d r.data).setStrand (t.wx r.d r.data)
        | .saving _ _ => (s.saveReg t r.d r.data).setStrand (t.wx r.d r.data)
        | .restoring _ _ => (s.saveReg t r.d r.data).setStrand (t.wx r.d r.data)
        | _ => s.onStrand r.sid (fun t => t.wx r.d r.data))

/-! ### Invalidations (R89, R246) -/

/-- TURN_INVALIDATION: the first invalidation on its way to a core's inbound cache arrives and is acknowledged (R89, R346). -/
def execTurnInvalidation (core : Nat) (s : State) : Out :=
  if !coreOk core then .fault .noSuchUnit
  else
    match s.homes.invals.findIdx? (fun e => e.core == core) with
    | none => .next s
    | some i =>
      match s.homes.invals[i]? with
      | none => .next s
      | some e =>
        let s := { s with homes := { s.homes with invals := dropAt i s.homes.invals, acks := s.homes.acks ++ [e] } }
        .next (s.onCore core (fun k => k.drop e.line (e.line + 1)))

/-- The first acknowledgement on the channel and path of another (R346). -/
def State.firstAck (s : State) (e : Inval) : Nat :=
  (s.homes.acks.findIdx? (fun q => s.wayBack q.core q.sid q.line == s.wayBack e.core e.sid e.line)).getD 0

/-- INVALIDATION_ACK: the first acknowledgement on a channel of a path arrives (R89 step 4, R246, R346). -/
def execInvalidationAck (index : Nat) (s : State) : Out :=
  match s.homes.acks[index]? with
  | none => .next s
  | some e => .next { s with homes := { s.homes with acks := dropAt (s.firstAck e) s.homes.acks } }

/-! ### Table walks (R78, R418) -/

/-- The need of an access code: 0 read, 1 write, 2 fetch. -/
def accessNeed : Nat → Need
  | 0 => .read
  | 1 => .write
  | _ => .exec

/-- TABLE_WALK_COMPLETE: the walk of a running strand's access fills the translation buffer, or its fault is taken (R77, R78). DESIGN CHOICE, log entry 27. -/
def execTableWalkComplete (sid : Nat) (address : Word) (access : Nat) (s : State) : Out :=
  match s.strand sid with
  | none => .next s
  | some t =>
    match t.run with
    | .running =>
      match s.translate t.agent address (accessNeed access) with
      | (.ok _, s) => .next s
      | (.error x, s) => .next (s.asStrand sid (fun s => s.trapEntry x.cause 0 false s.cur.pc x.tval 0 s.cur.pc))
    | _ => .next s

/-! ### Object operations of other parties (R290) -/

/-- A reader that is no strand of this module: its writer id here names no die, so that every writer is at distance G from it (R3). -/
def elsewhere : BitVec 12 := 0xC00

/-- The agent of a party on another module. -/
def partyAgent : Agent := ⟨0, 0, elsewhere, true, 0, 0⟩

/-- A line here for a message that a port brings: from the port's die to the home's, when the fabric carries it from another module; none otherwise (R19, R30, R37, R87, R464). DESIGN CHOICE, log entries 9, 29. -/
def State.arrives (s : State) (a : Party) (l : Nat) : Option State :=
  if !s.portOk a.port || !s.fabricUp || a.module == s.front.modnum || isSpad (64 * l) || keyModule (64 * l) != 0 || (s.dieAt (homeDie (64 * l))).phase = .failed then none
  else some ((s.touch (64 * l)).passes (pathFor (portDie a.port) (homeDie (64 * l)) (64 * l)))

/-- The object line for a party on another module, read at its home at distance G, with the checks of R289; none when its request does not come through or the operation fails there. Either way a request that has come is answered (R95, R352, R464). DESIGN CHOICE, log entry 29. -/
def State.partyObj (s : State) (a : Party) (key type : Nat) : Option Line × State :=
  match s.arrives a (key / 64) with
  | none => (none, s)
  | some s =>
    let s := (s.decodes (key / 64) 0 a.writer).answer a key 64
    match resolve (s.tag (key / 64)) 4 with
    | .ok _ => (if key % 64 = 0 ∧ objOk type (s.line (key / 64)) then some (s.line (key / 64)) else none, s)
    | .error _ => (none, s)

/-- HOME_OBJECT_OPERATION: an operation of a strand of another module reaches the home and is performed whole. `op`: 0 an arrival, 1 the withdrawal of an arrival in phase `value`, 2 an expectation of `value` bytes, 3 a credit of `value` bytes, 4 an entry `value` for a queue, 5 the removal of a queue's head (R19, R290, R295 to R299). DESIGN CHOICE, log entry 29. -/
def execHomeObjectOperation (op : Nat) (object : BitVec 61) (value : Word) (party : Party) (s : State) : Out :=
  let key := object.toNat
  if op ≤ 3 then
    match s.partyObj party key 1 with
    | (none, s) => .next s
    | (some d, s) =>
      match op with
      | 0 =>
        match arrive d with
        | none => .next s
        | some d' => .next (s.putBarrier key d')
      | 1 => .next (s.withdraw key (value.extractLsb' 0 32)).2
      | 2 =>
        let pend := Nat.min (lfield d 0x18 8 + value.toNat) (2 ^ 64 - 1)
        .next (s.putBarrier key (lset (lset d 0x18 8 pend) 2 2 0))
      | _ =>
        let pend := lfield d 0x18 8
        if value.toNat ≤ pend then .next (s.putBarrier key (lset d 0x18 8 (pend - value.toNat)))
        else .next (s.putBarrier key (lset (lset d 0x18 8 0) 2 2 1))
  else if op ≤ 5 then
    match s.partyObj party key 2 with
    | (none, s) => .next s
    | (some d, s) =>
      if op = 4 then
        (if qCap d ≤ qCount d then .next s
        else
          match s.qPush partyAgent key d value with
          | (.ok _, s) => .next (s.serve key)
          | (.error _, s) => .next s)
      else if qCount d = 0 then .next s
      else
        match s.qPop partyAgent key d with
        | (.ok _, s) => .next (s.serve key)
        | (.error _, s) => .next s
  else .next s

end Sys2Proof.Machine
end

