-- ==== Sys2Proof/Machine/LoadStore.lean ====
section
/-! DEFINITION. Scalar loads and stores (R185 to R187). -/

namespace Sys2Proof.Machine

/-- EA = x[a] + Sext(off13, 13) (R185). -/
def State.ea (s : State) (a : Reg) (o : BitVec 13) : Word := s.rx a + sext64 o

/-- LB (R185 to R187). -/
def execLb (d a : Reg) (o : BitVec 13) (s : State) : Out := s.scalarLoad (s.ea a o) 1 d (fun v => sext64 (BitVec.ofNat 8 v))
/-- LH (R185 to R187). -/
def execLh (d a : Reg) (o : BitVec 13) (s : State) : Out := s.scalarLoad (s.ea a o) 2 d (fun v => sext64 (BitVec.ofNat 16 v))
/-- LW (R185 to R187). -/
def execLw (d a : Reg) (o : BitVec 13) (s : State) : Out := s.scalarLoad (s.ea a o) 4 d (fun v => sext64 (BitVec.ofNat 32 v))
/-- LD (R185 to R187). -/
def execLd (d a : Reg) (o : BitVec 13) (s : State) : Out := s.scalarLoad (s.ea a o) 8 d (fun v => BitVec.ofNat 64 v)
/-- LBU (R185 to R187). -/
def execLbu (d a : Reg) (o : BitVec 13) (s : State) : Out := s.scalarLoad (s.ea a o) 1 d (fun v => BitVec.ofNat 64 v)
/-- LHU (R185 to R187). -/
def execLhu (d a : Reg) (o : BitVec 13) (s : State) : Out := s.scalarLoad (s.ea a o) 2 d (fun v => BitVec.ofNat 64 v)
/-- LWU (R185 to R187). -/
def execLwu (d a : Reg) (o : BitVec 13) (s : State) : Out := s.scalarLoad (s.ea a o) 4 d (fun v => BitVec.ofNat 64 v)
/-- SB (R185 to R187). -/
def execSb (d a : Reg) (o : BitVec 13) (s : State) : Out := s.scalarStore (s.ea a o) 1 (s.rx d) (mkM 0x0D d a 0 o)
/-- SH (R185 to R187). -/
def execSh (d a : Reg) (o : BitVec 13) (s : State) : Out := s.scalarStore (s.ea a o) 2 (s.rx d) (mkM 0x0D d a 1 o)
/-- SW (R185 to R187). -/
def execSw (d a : Reg) (o : BitVec 13) (s : State) : Out := s.scalarStore (s.ea a o) 4 (s.rx d) (mkM 0x0D d a 2 o)
/-- SD (R185 to R187). -/
def execSd (d a : Reg) (o : BitVec 13) (s : State) : Out := s.scalarStore (s.ea a o) 8 (s.rx d) (mkM 0x0D d a 3 o)

end Sys2Proof.Machine
end

