-- ==== Sys2Proof/Machine/Plane.lean ====
section
/-! DEFINITION. Plane stores: A-groups and B-groups built in the scratchpad (R123 to R125, R226 to R228). -/

namespace Sys2Proof.Machine

/-- The exponent of a group, emax of R124: none when a value is NaN or infinite; zero values do not count. -/
def groupMax : List Fp → Option (Option Int)
  | [] => some none
  | .fin _ a e :: r =>
    match groupMax r with
    | none => none
    | some m =>
      if a = 0 then some m
      else
        let x := e + (bitLen a : Int) - 1
        some (some (match m with | some y => (if y < x then x else y) | none => x))
  | _ :: _ => none

/-- x · 2^k truncated toward zero (R124). -/
def truncScaled (x : Fp) (k : Int) : Int :=
  match x with
  | .fin n a e =>
    let m := (roundAt .rtz n a (e + k) false 0).1
    if n then -(m : Int) else m
  | _ => 0

/-- The exponent byte, the integers q_k of precision P, and the flags of a group (R124). -/
def planeGroup (p : Nat) (xs : List Fp) : Nat × List Int × FFlags :=
  match groupMax xs with
  | none => (255, xs.map (fun _ => 0), fNV)
  | some none => (0, xs.map (fun _ => 0), 0)
  | some (some m) =>
    let emax := if m < -127 then -127 else m
    ((emax + 127).toNat, xs.map (fun x => truncScaled x ((p : Int) - 2 - emax)), 0)

/-- Plane word `k`: bit i is bit k of q_i in two's complement of `p` bits (R124). -/
def planeWord (p k : Nat) (qs : List Int) : Nat :=
  ofDigits (qs.map (fun q => ofInt p q / 2 ^ k % 2)) where
  ofDigits : List Nat → Nat
    | [] => 0
    | b :: r => b + 2 * ofDigits r

/-- The bytes of an A-group record (R227). -/
def aRecord (p : Nat) (xs : List Fp) : List Byte × FFlags :=
  let g := planeGroup p xs
  ((upto 0 p).flatMap (fun k => toBytes 4 (planeWord p k g.2.1)) ++ toBytes 4 g.1, g.2.2)

/-- The bytes of an integer B-group record (R125, R227). -/
def bRecord (xs : List Fp) : List Byte × FFlags :=
  let g := planeGroup 16 xs
  (g.2.1.flatMap (fun q => toBytes 2 (ofInt 16 q)) ++ toBytes 4 g.1, g.2.2)

/-- The bytes of a DPW8 B-group record: a block-scaled store of one block of 32 (R125, R227). -/
def dpRecord (xs : List Fp) : List Byte × FFlags :=
  let q := blockStore 9 xs
  (q.2.1.map (BitVec.ofNat 8) ++ toBytes 4 q.1, q.2.2)

/-- A record written into the own scratchpad: stores of the strand, cut where a block ends (R83, R228). -/
def State.storeBytes (s : State) (key : Nat) (w : InsnWord) : List Byte → State
  | [] => s
  | b :: r => (s.store key 1 b.toNat w).storeBytes (key + 1) w r

/-- Groups stored one after another; a record that crosses the end of the scratchpad traps for group 0 and trims VL for a later one (R228). -/
def State.planeGroups (s : State) (w : InsnWord) (a : Reg) (rec : List Fp → List Byte × FFlags) (val : Nat → Fp) :
    List Nat → Out
  | [] => .next ({ s with cur := s.cur.vdone }).adv
  | g :: r =>
    let xs := (upto (32 * g) 32).map val
    let q := rec xs
    let va := s.rx a + BitVec.ofNat 64 (g * field s.cur.c.tpitch 0 24)
    if spadOutside va ∨ 2 ^ 23 < field va 0 23 + q.1.length then
      (if g = 0 then s.trap 0x0A0 va
       else
         let s := s.setC { s.cur.c with vl := BitVec.ofNat 64 (32 * g) }
         .next ({ s with cur := s.cur.vdone }).adv)
    else
      let s := s.storeBytes (spadKey s.cur.id.core (field va 0 23)) w q.1
      (s.setC { s.cur.c with fcsr := orFlags s.cur.c.fcsr q.2 }).planeGroups w a rec val r

/-- A plane store (R228); `rec` builds the record of a group. -/
def State.planeStore (s : State) (w : InsnWord) (v a : Reg) (needP : Bool) (rec : State → List Fp → List Byte × FFlags) : Out :=
  if s.cur.ew = 64 then s.trap 0x101 s.cur.c.vtype
  else if needP && decide (field s.cur.c.tprec 0 5 < 2) then s.trap 0x281 s.cur.c.tprec
  else if selector (s.rx a) ≠ 0xE0 then s.trap 0x0A1 (s.rx a)
  else if (s.rx a).toNat % 4 ≠ 0 then s.trap 0x086 (s.rx a)
  else s.withSources [v] none (fun s rd =>
    let s := s.bump
    let act := s.cur.active
    let val (i : Nat) : Fp :=
      if act.contains i then (regFmt s.cur.ew).decode (rd v i) else .fin false 0 0
    let n := (s.cur.vl + 31) / 32
    let g0 := if s.cur.resuming then s.cur.firstBlock 32 else s.cur.vstart / 32
    let all := upto g0 (n - g0)
    let k := match s.limit with | some m => (m + 31) / 32 | none => all.length
    if k < all.length then
      (match s.planeGroups w a (rec s) val (all.take k) with
       | .next t =>
         if s.completed t then ({ t with cur := { t.cur with pc := s.cur.pc } }).stopHere (upto (32 * (g0 + k)) (t.cur.vl - 32 * (g0 + k))) 32
         else .next t
       | o => o)
    else s.planeGroups w a (rec s) val all)

/-- PLSTA (R124, R228). -/
def execPlsta (v a : Reg) (s : State) : Out :=
  s.planeStore (mkVM 0x21 v a 0 0 0x40) v a true (fun s => aRecord (field s.cur.c.tprec 0 5))
/-- PLSTB (R125, R228). -/
def execPlstb (v a : Reg) (s : State) : Out := s.planeStore (mkVM 0x21 v a 0 0 0x50) v a false (fun _ => bRecord)
/-- PLSTB.DPW8 (R121, R125, R228). -/
def execPlstbDpw8 (v a : Reg) (s : State) : Out := s.planeStore (mkVM 0x21 v a 0 9 0x50) v a false (fun _ => dpRecord)

end Sys2Proof.Machine
end

