-- ==== Sys2Proof/Machine/Vatom.lean ====
section
/-! DEFINITION. VGLK, VSCC and VAPND (R242 to R247, R412, R429). -/

namespace Sys2Proof.Machine

/-- A format that needs no conversion at the width (R243). A nibble format in indexed mode is both what R220 refuses with 0x001 and what R243 and R410 refuse with 0x101; it takes 0x101. DESIGN CHOICE, log entry 65. -/
def nativeFmt (f : BitVec 4) (ew : Nat) : Bool :=
  (f == 1 && ew == 16) || ((f == 0 || f == 10) && ew == 32) || (f == 11 && ew == 64)

/-- PEPOCH of the vault slice of a line: its poison count, and of a vault of another module the part of it that this module has made (R428, R429). DEDUCED, log entry 50. -/
def State.epochAt (s : State) (key : Nat) : BitVec 15 :=
  if keyModule key = 0 then (s.coreAt (keyCore key)).poison else s.farPoisons key

/-- The link entry for an element whose line was read (R244, R429). DEDUCED, log entry 50; DESIGN CHOICE, log entry 87. -/
def State.linkEntry (s : State) (i key : Nat) : LinkEntry :=
  let l := key / 64
  ⟨i, 64 * l, (s.tag l).gen, s.epochAt key, BitVec.ofNat 48 s.now⟩

/-- One VGLK element: read at its home, never through a cache (R244). DEDUCED, log entry 50. -/
def State.vglkElem (s : State) (va : Word) (n : Nat) : Except XFault (Nat × Nat) × State :=
  match s.elemKey va n .read with
  | (.error x, s) => (.error x, s)
  | (.ok key, s) =>
    match s.readHome s.cur.id.core s.cur.writer (key / 64) with
    | (.error c, s) => (.error ⟨c, s.readTval c va key, va⟩, s)
    | (.ok d, s) => (.ok (key, d.toNat / 2 ^ (8 * (key % 64)) % 2 ^ (8 * n)), s)

/-- VGLK's elements up to the first fault, each with its link entry. -/
def State.vglkLoop (s : State) (n : Nat) (addr : Nat → Word) : List Nat → List (Nat × Nat) × Option XFault × State
  | [] => ([], none, s)
  | i :: r =>
    match s.vglkElem (addr i) n with
    | (.error x, s) => ([], some x, s)
    | (.ok (key, v), s) =>
      let e := s.linkEntry i key
      let s := { s with cur := { s.cur with link := e :: s.cur.link.filter (fun q => q.elem != i) } }
      let q := s.vglkLoop n addr r
      ((i, v) :: q.1, q.2.1, q.2.2)

/-- VGLK (R244): the record is cleared as the instruction begins, not as a stopped one goes on. -/
def execVglk (v a b : Reg) (f : BitVec 4) (s : State) : Out :=
  if !nativeFmt f s.cur.ew then s.trap 0x101 s.cur.c.vtype
  else if (s.rx a).toNat % fmtSize f ≠ 0 then s.trap 0x086 (s.rx a)
  else s.withSources [b] (some v) (fun s rd =>
    let addr (i : Nat) : Word := indexAddr (s.rx a) s.cur.ew (rd b i)
    match s.trimSpad (fun i => [addr i]) s.cur.active with
    | (.error x, s) => s.trapX x
    | (.ok act, s) =>
      let s := if s.cur.resuming then s else { s with cur := { s.cur with link := [] } }
      let now := (s.portion (s.attempt act)).1
      let (done, x, s) := s.slipDone.vglkLoop (fmtSize f) addr now
      let left := act.filter (fun i => !(done.any (fun e => e.1 == i)))
      let s := s.writePart v done 0
      let s := if left.isEmpty then s.writeGroup v else s
      match x with
      | some x => .next (s.stopElem x left 1)
      | none => s.vmemEnd left)

/-- Whether a link entry still matches the home's line (R245, R429). DEDUCED, log entry 50. -/
def State.linkMatches (s : State) (i key : Nat) : Bool :=
  let l := key / 64
  match s.cur.link.find? (fun e => e.elem == i) with
  | none => false
  | some e =>
    e.line == 64 * l && decide ((s.now + 2 ^ 48 - e.tick.toNat) % 2 ^ 48 < 640) && e.gen == (s.tag l).gen &&
    e.epoch == s.epochAt key && (s.tag l).state != 7

/-- A successful element at its home: the bytes, GEN + 1, the line turned at SCOPE, and an invalidation to every cache in scope that holds the line (R88, R89, R245). -/
def State.vsccWrite (s : State) (key n v : Nat) : State :=
  let l := key / 64
  let scope := field s.cur.c.vtype 2 3
  let m := if isSpad key then (s.tag l).wmod else s.front.modnum
  let s := s.setBytes key (toBytes n v)
  let s := s.setTag l ⟨BitVec.ofNat 3 scope, s.cur.writer, (s.tag l).gen + 1, m⟩
  let due := ((s.core :: s.cores).filter (fun k => within scope s.cur.id.core k.id && k.holds l)).map
    (fun k => Inval.mk k.id l s.cur.id.sid s.cur.pos)
  { s with
    cur := { s.cur with wlog := logWrite s.front.modnum s.cur.wlog l }
    homes := { s.homes with invals := s.homes.invals ++ due } }

/-- Whether a VSCC request that was sent and then lost took effect at its home, as the schedule says; one with no route never does (R466). DESIGN CHOICE, log entry 63. -/
def State.landed (s : State) (key : Nat) : Bool × State :=
  match s.reachable s.cur.id.core key with
  | (false, s) => (false, s)
  | (true, s) => s.loss

/-- The record of a VSCC element that a failed die refuses, as that of a store (R389, R404, R410, R458). -/
def State.vsccRecord (s : State) (word : InsnWord) (l : Nat) : Record :=
  (OutEntry.record ⟨s.cur.id.sid, s.cur.writer, l, 0, 0, s.cur.pc, word, 0, s.cur.pos, []⟩ 0x301 (globalOf s.front.modnum (64 * l)))

/-- One VSCC element: whether it succeeded (R245); on a failed die it has no effect and leaves a record (R458). The strand's earlier stores to the line arrive first (R85, R315). DEDUCED, log entry 50. -/
def State.vsccElem (s : State) (word : InsnWord) (i : Nat) (va : Word) (n v : Nat) : Except XFault Bool × State :=
  match s.elemKey va n .write with
  | (.error x, s) => (.error x, s)
  | (.ok key, s) =>
    let g := BitVec.ofNat 64 (globalOf s.front.modnum (64 * (key / 64)))
    let s := ((s.touch key).decodes (key / 64) 2 s.cur.writer).drain s.cur.id.sid (fun l => l == key / 64)
    let s := if s.olderWrites s.cur.id.core s.cur.id.sid s.cur.pos (key / 64) then s.waitNet else s
    match s.crosses s.cur.id.core s.cur.writer key 64 with
    | (false, s) =>
      let (landed, s) := s.landed key
      (.error ⟨0x300, g, g⟩, if landed && s.linkMatches i key then s.vsccWrite key n v else s)
    | (true, s) =>
      if keyModule key = 0 ∧ (s.dieAt (homeDie key)).phase = .failed then
        (.ok false, s.addRecord s.cur.id.sid (s.vsccRecord word (key / 64)))
      else if s.linkMatches i key then (.ok true, s.vsccWrite key n v)
      else (.ok false, s)

/-- VSCC's elements up to the first fault: each with its success. -/
def State.vsccLoop (s : State) (word : InsnWord) (n : Nat) (addr : Nat → Word) (data : Nat → Nat) :
    List Nat → List (Nat × Bool) × Option XFault × State
  | [] => ([], none, s)
  | i :: r =>
    match s.vsccElem word i (addr i) n (data i) with
    | (.error x, s) => ([], some x, s)
    | (.ok ok, s) =>
      let q := s.vsccLoop word n addr data r
      ((i, ok) :: q.1, q.2.1, q.2.2)

/-- VSCC (R245, R412). -/
def execVscc (v a b : Reg) (f : BitVec 4) (s : State) : Out :=
  let word := mkVM 0x22 v a b f 0x21
  let m := s.cur.c.vm.extractLsb' 0 5
  if !nativeFmt f s.cur.ew then s.trap 0x101 s.cur.c.vtype
  else if !s.cur.c.vm.getLsbD 5 then s.trapWord 0x005 word
  else if v = m then s.trapWord 0x003 word
  else if (s.rx a).toNat % fmtSize f ≠ 0 then s.trap 0x086 (s.rx a)
  else s.withSources [v, b] none (fun s rd =>
    let addr (i : Nat) : Word := indexAddr (s.rx a) s.cur.ew (rd b i)
    match s.trimSpad (fun i => [addr i]) s.cur.active with
    | (.error x, s) => s.trapX x
    | (.ok act, s) =>
      let now := (s.portion (s.storeOrder (s.elemLine (fmtSize f) .write) (fun i => [addr i]) act)).1
      let (done, x, s) := s.slipDone.bump.vsccLoop word (fmtSize f) addr (fun i => rd v i) now
      let s := { s with cur := s.cur.setElems m ((done.filter (fun (e : Nat × Bool) => e.2)).map (fun (e : Nat × Bool) => (e.1, 0))) }
      let left := act.filter (fun i => !(done.any (fun e => e.1 == i)))
      match x with
      | some x => .next (s.stopElem x left 1)
      | none =>
        let s := if left.isEmpty then { s with cur := { s.cur with link := [] } } else s
        s.vmemEnd left)

/-- A VAPND whose object cannot be read: the trap, before any effect; where nothing answers it, it waits, and clears VSTART at its end (R176, R384, R458). DESIGN CHOICE, log entry 69. -/
def State.vapndFault (s : State) (word : InsnWord) (d : Reg) (op : Word) (x : XFault) : Out :=
  (if x.cause = 0x301 && s.isPoll op then { s with cur := s.cur.vdone } else s).objFault word d op x

/-- VAPND (R247): VSTART is cleared with the first element that it appends or at its end, and a ring that refuses it traps before that (R176, R384). -/
def execVapnd (d a b : Reg) (s : State) : Out :=
  let va := s.rx a
  let word := mkVM 0x22 d a b 11 2
  let op := s.rx b
  match s.readObj s.me va 3 with
  | (.error x, s) => s.vapndFault word d op x
  | (.ok (_, line), s) =>
    let lvl := oLvl line
    s.turning op s.engStores (fun s => .next (({ s with cur := s.cur.vdone }).finish d (status oTIMEOUT 0 0) (s.isPoll op))) (fun s =>
      match s.turnLog lvl (s.spent op) with
      | (_, false, s) => .next (({ s with cur := s.cur.vdone }).finish d (status oTIMEOUT 0 0) (s.isPoll op))
      | (_, true, s) =>
        match s.readObj s.me va 3 with
        | (.error x, s) => s.vapndFault word d op x
        | (.ok (key, line), s) =>
          if lvl < oLvl line then s.trap 0x186 va
          else
            let es := s.cur.active
            s.objWaitOn word d op (.append key es es.length) Strand.vdone (fun s w => s.timeoutEnd s.me w))

end Sys2Proof.Machine
end

