-- ==== Sys2Proof/Machine/Vf.lean ====
section
/-! DEFINITION. Vector floating point: VF and VFM (R207 to R210). -/

namespace Sys2Proof.Machine

/-- A floating-point vector instruction: cause 0x100 at EW 64 (R207), else element-wise in the element format under RM. -/
def State.vfloat (s : State) (srcs : List Reg) (d : Reg)
    (op : FFmt → RMode → (Reg → Nat → Nat) → Nat → Nat × FFlags) : Out :=
  if s.cur.ew = 64 then s.trap 0x100 s.cur.c.vtype
  else s.elementWise srcs d (op (regFmt s.cur.ew) (rmOf s.cur.c.fcsr))

/-- A binary operation on the values of element i of v[a] and of the operand (R208). -/
def State.vf2 (s : State) (d a : Reg) (b : VOp) (op : FFmt → RMode → Nat → Nat → Nat × FFlags) : Out :=
  s.vfloat (a :: b.regs) d (fun f rm rd i => op f rm (rd a i) (s.operand b rd i))

/-- A unary operation on element i of v[a] (R208, R209). -/
def State.vf1 (s : State) (d a : Reg) (op : FFmt → RMode → Nat → Nat × FFlags) : Out :=
  s.vfloat [a] d (fun f rm rd i => op f rm (rd a i))

/-- Arithmetic on the values of two codes. -/
def onValues (g : FFmt → RMode → Fp → Fp → Nat × FFlags) (f : FFmt) (rm : RMode) (x y : Nat) : Nat × FFlags :=
  g f rm (f.decode x) (f.decode y)

/-- A comparison of the values of two codes, as 1 or 0 (R208). -/
def onCompare (g : Fp → Fp → Bool × FFlags) (f : FFmt) (_ : RMode) (x y : Nat) : Nat × FFlags :=
  let r := g (f.decode x) (f.decode y)
  (if r.1 then 1 else 0, r.2)

/-- The sign bit of a code's format. -/
def FFmt.top (f : FFmt) : Nat := 2 ^ (f.ew + f.fw)

/-- VFADD.VV (R208). -/
def execVfaddVv (d a b : Reg) (s : State) : Out := s.vf2 d a (.v b) (onValues FFmt.add)
/-- VFADD.VX (R208). -/
def execVfaddVx (d a x : Reg) (s : State) : Out := s.vf2 d a (.x x) (onValues FFmt.add)
/-- VFSUB.VV (R208). -/
def execVfsubVv (d a b : Reg) (s : State) : Out := s.vf2 d a (.v b) (onValues FFmt.sub)
/-- VFSUB.VX (R208). -/
def execVfsubVx (d a x : Reg) (s : State) : Out := s.vf2 d a (.x x) (onValues FFmt.sub)
/-- VFMUL.VV (R208). -/
def execVfmulVv (d a b : Reg) (s : State) : Out := s.vf2 d a (.v b) (onValues FFmt.mul)
/-- VFMUL.VX (R208). -/
def execVfmulVx (d a x : Reg) (s : State) : Out := s.vf2 d a (.x x) (onValues FFmt.mul)
/-- VFDIV.VV (R208). -/
def execVfdivVv (d a b : Reg) (s : State) : Out := s.vf2 d a (.v b) (onValues FFmt.div)
/-- VFDIV.VX (R208). -/
def execVfdivVx (d a x : Reg) (s : State) : Out := s.vf2 d a (.x x) (onValues FFmt.div)
/-- VFMIN.VV (R208). -/
def execVfminVv (d a b : Reg) (s : State) : Out := s.vf2 d a (.v b) (fun f _ x y => f.minmax false x y)
/-- VFMIN.VX (R208). -/
def execVfminVx (d a x : Reg) (s : State) : Out := s.vf2 d a (.x x) (fun f _ x y => f.minmax false x y)
/-- VFMAX.VV (R208). -/
def execVfmaxVv (d a b : Reg) (s : State) : Out := s.vf2 d a (.v b) (fun f _ x y => f.minmax true x y)
/-- VFMAX.VX (R208). -/
def execVfmaxVx (d a x : Reg) (s : State) : Out := s.vf2 d a (.x x) (fun f _ x y => f.minmax true x y)
/-- VFSGNJ.VV (R208). -/
def execVfsgnjVv (d a b : Reg) (s : State) : Out := s.vf2 d a (.v b) (fun f _ x y => (x % f.top + y / f.top * f.top, 0))
/-- VFSGNJ.VX (R208). -/
def execVfsgnjVx (d a x : Reg) (s : State) : Out := s.vf2 d a (.x x) (fun f _ x y => (x % f.top + y / f.top * f.top, 0))
/-- VFRSUB.VV (R208). -/
def execVfrsubVv (d a b : Reg) (s : State) : Out := s.vf2 d a (.v b) (onValues (fun f rm x y => f.sub rm y x))
/-- VFRSUB.VX (R208). -/
def execVfrsubVx (d a x : Reg) (s : State) : Out := s.vf2 d a (.x x) (onValues (fun f rm x y => f.sub rm y x))
/-- VFEQ.VV (R208). -/
def execVfeqVv (d a b : Reg) (s : State) : Out := s.vf2 d a (.v b) (onCompare fpEq)
/-- VFEQ.VX (R208). -/
def execVfeqVx (d a x : Reg) (s : State) : Out := s.vf2 d a (.x x) (onCompare fpEq)
/-- VFNE.VV (R208). -/
def execVfneVv (d a b : Reg) (s : State) : Out := s.vf2 d a (.v b) (onCompare (fun x y => (!(fpEq x y).1, (fpEq x y).2)))
/-- VFNE.VX (R208). -/
def execVfneVx (d a x : Reg) (s : State) : Out := s.vf2 d a (.x x) (onCompare (fun x y => (!(fpEq x y).1, (fpEq x y).2)))
/-- VFLT.VV (R208). -/
def execVfltVv (d a b : Reg) (s : State) : Out := s.vf2 d a (.v b) (onCompare fpLt)
/-- VFLT.VX (R208). -/
def execVfltVx (d a x : Reg) (s : State) : Out := s.vf2 d a (.x x) (onCompare fpLt)
/-- VFLE.VV (R208). -/
def execVfleVv (d a b : Reg) (s : State) : Out := s.vf2 d a (.v b) (onCompare fpLe)
/-- VFLE.VX (R208). -/
def execVfleVx (d a x : Reg) (s : State) : Out := s.vf2 d a (.x x) (onCompare fpLe)
/-- vfsqrt (R208). -/
def execVfsqrt (d a : Reg) (s : State) : Out := s.vf1 d a (fun f rm x => f.sqrt rm (f.decode x))
/-- vfabs (R208). -/
def execVfabs (d a : Reg) (s : State) : Out := s.vf1 d a (fun f _ x => (x % f.top, 0))
/-- vfneg (R208). -/
def execVfneg (d a : Reg) (s : State) : Out := s.vf1 d a (fun f _ x => (x ^^^ f.top, 0))
/-- vfcvtFi (R209, R119). -/
def execVfcvtFi (d a : Reg) (s : State) : Out := s.vf1 d a (fun f rm x =>
  let r := fpToInt rm (-(2 ^ (f.width - 1) : Nat)) ((2 ^ (f.width - 1) - 1 : Nat)) (f.decode x)
  (ofInt f.width r.1, r.2))
/-- vfcvtFiU (R209, R119). -/
def execVfcvtFiU (d a : Reg) (s : State) : Out := s.vf1 d a (fun f rm x =>
  let r := fpToInt rm 0 ((2 ^ f.width - 1 : Nat)) (f.decode x)
  (ofInt f.width r.1, r.2))
/-- vfcvtIf (R209, R119). -/
def execVfcvtIf (d a : Reg) (s : State) : Out := s.vf1 d a (fun f rm x => f.convert rm (intFp (toInt f.width x)))
/-- vfcvtIfU (R209, R119). -/
def execVfcvtIfU (d a : Reg) (s : State) : Out := s.vf1 d a (fun f rm x => f.convert rm (intFp x))

/-- BF16 elements of a register that is widened in place: each as it stands when its turn comes, and the FP32 element that then overwrites its lane (R202, R209). -/
def widenLoop (g : Nat) : VReg → List Nat → List (Nat × Nat × FFlags)
  | _, [] => []
  | v, i :: r =>
    let x := FP32.convert .rne (BF16.decode (getE g 16 v i))
    (i, x) :: widenLoop g (setE g 32 v i x.1) r

/-- VFWIDEN (R209): element i of v[a] at width 16 as BF16, converted exactly to FP32; EW 32 only. Of an input stream, which brings elements of EW 32, the low 16 bits of each are the BF16 code. DESIGN CHOICE, log entry 76. -/
def execVfwiden (d a : Reg) (s : State) : Out :=
  if s.cur.ew ≠ 32 then s.trap 0x100 s.cur.c.vtype
  else s.elementWise [a] d (fun rd i =>
    if (s.cur.stream a).isSome then FP32.convert .rne (BF16.decode (rd a i % 2 ^ 16))
    else if a = d then
      match (widenLoop s.cur.grant (s.cur.vr a) s.cur.active).find? (fun e => e.1 == i) with
      | some e => e.2
      | none => (0, 0)
    else FP32.convert .rne (BF16.decode (getE s.cur.grant 16 (s.cur.vr a) i)))

/-- VFNARROW (R209): FP32 element i rounded under RM to BF16, written to element i of v[d] at width 16; EW 32 only. An output stream receives the BF16 code as its element. DESIGN CHOICE, log entry 76. -/
def execVfnarrow (d a : Reg) (s : State) : Out :=
  if s.cur.ew ≠ 32 then s.trap 0x100 s.cur.c.vtype
  else if (s.cur.stream d).isSome then
    s.elementWise [a] d (fun rd i => BF16.convert (rmOf s.cur.c.fcsr) (FP32.decode (rd a i)))
  else s.withSources [a] none (fun s rd =>
    let (now, left) := s.portion s.cur.active
    let rs := now.map (fun i => (i, BF16.convert (rmOf s.cur.c.fcsr) (FP32.decode (rd a i))))
    let t := s.cur.setV d (writeElems s.cur.grant 16 (s.cur.vr d) (rs.map (fun r => (r.1, r.2.1))))
    let t := { t with c := { t.c with fcsr := orFlags t.c.fcsr (rs.foldl (fun (f : FFlags) (r : Nat × Nat × FFlags) => f ||| r.2.2) 0) } }
    if left.isEmpty then .next ({ s with cur := t.vdone }).adv
    else ({ s with cur := t }).stopHere left 1)

/-- VFMA: a × b + c (R210, R191). -/
def execVfma (d a b c : Reg) (s : State) : Out :=
  s.vfloat [a, b, c] d (fun f rm rd i => f.fma rm false (f.decode (rd a i)) (f.decode (rd b i)) (f.decode (rd c i)))
/-- VFNMA: −(a × b) − c (R210, R191). -/
def execVfnma (d a b c : Reg) (s : State) : Out :=
  s.vfloat [a, b, c] d (fun f rm rd i => f.fma rm true (f.decode (rd a i)) (f.decode (rd b i)) (f.decode (rd c i)).neg)
/-- VFMS: a × b − c (R210, R191). -/
def execVfms (d a b c : Reg) (s : State) : Out :=
  s.vfloat [a, b, c] d (fun f rm rd i => f.fma rm false (f.decode (rd a i)) (f.decode (rd b i)) (f.decode (rd c i)).neg)
/-- VFMA.VX: a × x[b] + c (R210). -/
def execVfmaVx (d a x c : Reg) (s : State) : Out :=
  s.vfloat [a, c] d (fun f rm rd i => f.fma rm false (f.decode (rd a i)) (f.decode (s.operand (.x x) rd i)) (f.decode (rd c i)))

end Sys2Proof.Machine
end

