-- ==== Sys2Proof/Machine/Vint.lean ====
section
/-! DEFINITION. Vector integer arithmetic: VINT (R211, R212). -/

namespace Sys2Proof.Machine

/-- A binary integer instruction (R211): element-wise on EW-bit numbers, no flag. -/
def State.vi2 (s : State) (d a : Reg) (b : VOp) (op : Nat → Nat → Nat → Nat) : Out :=
  s.elementWise (a :: b.regs) d (fun rd i => (op s.cur.ew (rd a i) (s.operand b rd i), 0))

/-- An integer clamped to the signed range of w bits. -/
def clampS (w : Nat) (z : Int) : Nat :=
  let hi : Int := ((2 ^ (w - 1) - 1 : Nat) : Int)
  let lo : Int := -((2 ^ (w - 1) : Nat) : Int)
  ofInt w (if z < lo then lo else if hi < z then hi else z)

/-- 1 or 0 as an element. -/
def bit01 (b : Bool) : Nat := if b then 1 else 0

/-- The element of vadd (R211). -/
def elVadd (w x y : Nat) : Nat := (x + y) % 2 ^ w
/-- vadd.vv (R211). -/
def execVaddVv (d a b : Reg) (s : State) : Out := s.vi2 d a (.v b) elVadd
/-- vadd.vx (R211). -/
def execVaddVx (d a x : Reg) (s : State) : Out := s.vi2 d a (.x x) elVadd
/-- vadd.vi (R211). -/
def execVaddVi (d a : Reg) (i : BitVec 5) (s : State) : Out := s.vi2 d a (.i i) elVadd
/-- The element of vaddSat (R211). -/
def elVaddSat (w x y : Nat) : Nat := clampS w (toInt w x + toInt w y)
/-- vaddSat.vv (R211). -/
def execVaddSatVv (d a b : Reg) (s : State) : Out := s.vi2 d a (.v b) elVaddSat
/-- vaddSat.vx (R211). -/
def execVaddSatVx (d a x : Reg) (s : State) : Out := s.vi2 d a (.x x) elVaddSat
/-- vaddSat.vi (R211). -/
def execVaddSatVi (d a : Reg) (i : BitVec 5) (s : State) : Out := s.vi2 d a (.i i) elVaddSat
/-- The element of vaddUsat (R211). -/
def elVaddUsat (w x y : Nat) : Nat := Nat.min (x + y) (2 ^ w - 1)
/-- vaddUsat.vv (R211). -/
def execVaddUsatVv (d a b : Reg) (s : State) : Out := s.vi2 d a (.v b) elVaddUsat
/-- vaddUsat.vx (R211). -/
def execVaddUsatVx (d a x : Reg) (s : State) : Out := s.vi2 d a (.x x) elVaddUsat
/-- vaddUsat.vi (R211). -/
def execVaddUsatVi (d a : Reg) (i : BitVec 5) (s : State) : Out := s.vi2 d a (.i i) elVaddUsat
/-- The element of vsub (R211). -/
def elVsub (w x y : Nat) : Nat := ofInt w ((x : Int) - y)
/-- vsub.vv (R211). -/
def execVsubVv (d a b : Reg) (s : State) : Out := s.vi2 d a (.v b) elVsub
/-- vsub.vx (R211). -/
def execVsubVx (d a x : Reg) (s : State) : Out := s.vi2 d a (.x x) elVsub
/-- vsub.vi (R211). -/
def execVsubVi (d a : Reg) (i : BitVec 5) (s : State) : Out := s.vi2 d a (.i i) elVsub
/-- The element of vsubSat (R211). -/
def elVsubSat (w x y : Nat) : Nat := clampS w (toInt w x - toInt w y)
/-- vsubSat.vv (R211). -/
def execVsubSatVv (d a b : Reg) (s : State) : Out := s.vi2 d a (.v b) elVsubSat
/-- vsubSat.vx (R211). -/
def execVsubSatVx (d a x : Reg) (s : State) : Out := s.vi2 d a (.x x) elVsubSat
/-- vsubSat.vi (R211). -/
def execVsubSatVi (d a : Reg) (i : BitVec 5) (s : State) : Out := s.vi2 d a (.i i) elVsubSat
/-- The element of vsubUsat (R211). -/
def elVsubUsat (_ x y : Nat) : Nat := x - y
/-- vsubUsat.vv (R211). -/
def execVsubUsatVv (d a b : Reg) (s : State) : Out := s.vi2 d a (.v b) elVsubUsat
/-- vsubUsat.vx (R211). -/
def execVsubUsatVx (d a x : Reg) (s : State) : Out := s.vi2 d a (.x x) elVsubUsat
/-- vsubUsat.vi (R211). -/
def execVsubUsatVi (d a : Reg) (i : BitVec 5) (s : State) : Out := s.vi2 d a (.i i) elVsubUsat
/-- The element of vmul (R211). -/
def elVmul (w x y : Nat) : Nat := x * y % 2 ^ w
/-- vmul.vv (R211). -/
def execVmulVv (d a b : Reg) (s : State) : Out := s.vi2 d a (.v b) elVmul
/-- vmul.vx (R211). -/
def execVmulVx (d a x : Reg) (s : State) : Out := s.vi2 d a (.x x) elVmul
/-- vmul.vi (R211). -/
def execVmulVi (d a : Reg) (i : BitVec 5) (s : State) : Out := s.vi2 d a (.i i) elVmul
/-- The element of vmulh (R211). -/
def elVmulh (w x y : Nat) : Nat := ofInt w (toInt w x * toInt w y / ((2 ^ w : Nat) : Int))
/-- vmulh.vv (R211). -/
def execVmulhVv (d a b : Reg) (s : State) : Out := s.vi2 d a (.v b) elVmulh
/-- vmulh.vx (R211). -/
def execVmulhVx (d a x : Reg) (s : State) : Out := s.vi2 d a (.x x) elVmulh
/-- vmulh.vi (R211). -/
def execVmulhVi (d a : Reg) (i : BitVec 5) (s : State) : Out := s.vi2 d a (.i i) elVmulh
/-- The element of vmulhU (R211). -/
def elVmulhU (w x y : Nat) : Nat := x * y / 2 ^ w
/-- vmulhU.vv (R211). -/
def execVmulhUVv (d a b : Reg) (s : State) : Out := s.vi2 d a (.v b) elVmulhU
/-- vmulhU.vx (R211). -/
def execVmulhUVx (d a x : Reg) (s : State) : Out := s.vi2 d a (.x x) elVmulhU
/-- vmulhU.vi (R211). -/
def execVmulhUVi (d a : Reg) (i : BitVec 5) (s : State) : Out := s.vi2 d a (.i i) elVmulhU
/-- The element of vand (R211). -/
def elVand (_ x y : Nat) : Nat := x &&& y
/-- vand.vv (R211). -/
def execVandVv (d a b : Reg) (s : State) : Out := s.vi2 d a (.v b) elVand
/-- vand.vx (R211). -/
def execVandVx (d a x : Reg) (s : State) : Out := s.vi2 d a (.x x) elVand
/-- vand.vi (R211). -/
def execVandVi (d a : Reg) (i : BitVec 5) (s : State) : Out := s.vi2 d a (.i i) elVand
/-- The element of vor (R211). -/
def elVor (_ x y : Nat) : Nat := x ||| y
/-- vor.vv (R211). -/
def execVorVv (d a b : Reg) (s : State) : Out := s.vi2 d a (.v b) elVor
/-- vor.vx (R211). -/
def execVorVx (d a x : Reg) (s : State) : Out := s.vi2 d a (.x x) elVor
/-- vor.vi (R211). -/
def execVorVi (d a : Reg) (i : BitVec 5) (s : State) : Out := s.vi2 d a (.i i) elVor
/-- The element of vxor (R211). -/
def elVxor (_ x y : Nat) : Nat := x ^^^ y
/-- vxor.vv (R211). -/
def execVxorVv (d a b : Reg) (s : State) : Out := s.vi2 d a (.v b) elVxor
/-- vxor.vx (R211). -/
def execVxorVx (d a x : Reg) (s : State) : Out := s.vi2 d a (.x x) elVxor
/-- vxor.vi (R211). -/
def execVxorVi (d a : Reg) (i : BitVec 5) (s : State) : Out := s.vi2 d a (.i i) elVxor
/-- The element of vsll (R211). -/
def elVsll (w x y : Nat) : Nat := x * 2 ^ (y % w) % 2 ^ w
/-- vsll.vv (R211). -/
def execVsllVv (d a b : Reg) (s : State) : Out := s.vi2 d a (.v b) elVsll
/-- vsll.vx (R211). -/
def execVsllVx (d a x : Reg) (s : State) : Out := s.vi2 d a (.x x) elVsll
/-- vsll.vi (R211). -/
def execVsllVi (d a : Reg) (i : BitVec 5) (s : State) : Out := s.vi2 d a (.i i) elVsll
/-- The element of vsrl (R211). -/
def elVsrl (w x y : Nat) : Nat := x / 2 ^ (y % w)
/-- vsrl.vv (R211). -/
def execVsrlVv (d a b : Reg) (s : State) : Out := s.vi2 d a (.v b) elVsrl
/-- vsrl.vx (R211). -/
def execVsrlVx (d a x : Reg) (s : State) : Out := s.vi2 d a (.x x) elVsrl
/-- vsrl.vi (R211). -/
def execVsrlVi (d a : Reg) (i : BitVec 5) (s : State) : Out := s.vi2 d a (.i i) elVsrl
/-- The element of vsra (R211). -/
def elVsra (w x y : Nat) : Nat := ofInt w (toInt w x / ((2 ^ (y % w) : Nat) : Int))
/-- vsra.vv (R211). -/
def execVsraVv (d a b : Reg) (s : State) : Out := s.vi2 d a (.v b) elVsra
/-- vsra.vx (R211). -/
def execVsraVx (d a x : Reg) (s : State) : Out := s.vi2 d a (.x x) elVsra
/-- vsra.vi (R211). -/
def execVsraVi (d a : Reg) (i : BitVec 5) (s : State) : Out := s.vi2 d a (.i i) elVsra
/-- The element of vmin (R211). -/
def elVmin (w x y : Nat) : Nat := if toInt w y < toInt w x then y else x
/-- vmin.vv (R211). -/
def execVminVv (d a b : Reg) (s : State) : Out := s.vi2 d a (.v b) elVmin
/-- vmin.vx (R211). -/
def execVminVx (d a x : Reg) (s : State) : Out := s.vi2 d a (.x x) elVmin
/-- vmin.vi (R211). -/
def execVminVi (d a : Reg) (i : BitVec 5) (s : State) : Out := s.vi2 d a (.i i) elVmin
/-- The element of vmax (R211). -/
def elVmax (w x y : Nat) : Nat := if toInt w x < toInt w y then y else x
/-- vmax.vv (R211). -/
def execVmaxVv (d a b : Reg) (s : State) : Out := s.vi2 d a (.v b) elVmax
/-- vmax.vx (R211). -/
def execVmaxVx (d a x : Reg) (s : State) : Out := s.vi2 d a (.x x) elVmax
/-- vmax.vi (R211). -/
def execVmaxVi (d a : Reg) (i : BitVec 5) (s : State) : Out := s.vi2 d a (.i i) elVmax
/-- The element of vminu (R211). -/
def elVminu (_ x y : Nat) : Nat := Nat.min x y
/-- vminu.vv (R211). -/
def execVminuVv (d a b : Reg) (s : State) : Out := s.vi2 d a (.v b) elVminu
/-- vminu.vx (R211). -/
def execVminuVx (d a x : Reg) (s : State) : Out := s.vi2 d a (.x x) elVminu
/-- vminu.vi (R211). -/
def execVminuVi (d a : Reg) (i : BitVec 5) (s : State) : Out := s.vi2 d a (.i i) elVminu
/-- The element of vmaxu (R211). -/
def elVmaxu (_ x y : Nat) : Nat := Nat.max x y
/-- vmaxu.vv (R211). -/
def execVmaxuVv (d a b : Reg) (s : State) : Out := s.vi2 d a (.v b) elVmaxu
/-- vmaxu.vx (R211). -/
def execVmaxuVx (d a x : Reg) (s : State) : Out := s.vi2 d a (.x x) elVmaxu
/-- vmaxu.vi (R211). -/
def execVmaxuVi (d a : Reg) (i : BitVec 5) (s : State) : Out := s.vi2 d a (.i i) elVmaxu
/-- The element of veq (R211). -/
def elVeq (_ x y : Nat) : Nat := bit01 (decide (x = y))
/-- veq.vv (R211). -/
def execVeqVv (d a b : Reg) (s : State) : Out := s.vi2 d a (.v b) elVeq
/-- veq.vx (R211). -/
def execVeqVx (d a x : Reg) (s : State) : Out := s.vi2 d a (.x x) elVeq
/-- veq.vi (R211). -/
def execVeqVi (d a : Reg) (i : BitVec 5) (s : State) : Out := s.vi2 d a (.i i) elVeq
/-- The element of vne (R211). -/
def elVne (_ x y : Nat) : Nat := bit01 (decide (x ≠ y))
/-- vne.vv (R211). -/
def execVneVv (d a b : Reg) (s : State) : Out := s.vi2 d a (.v b) elVne
/-- vne.vx (R211). -/
def execVneVx (d a x : Reg) (s : State) : Out := s.vi2 d a (.x x) elVne
/-- vne.vi (R211). -/
def execVneVi (d a : Reg) (i : BitVec 5) (s : State) : Out := s.vi2 d a (.i i) elVne
/-- The element of vlt (R211). -/
def elVlt (w x y : Nat) : Nat := bit01 (decide (toInt w x < toInt w y))
/-- vlt.vv (R211). -/
def execVltVv (d a b : Reg) (s : State) : Out := s.vi2 d a (.v b) elVlt
/-- vlt.vx (R211). -/
def execVltVx (d a x : Reg) (s : State) : Out := s.vi2 d a (.x x) elVlt
/-- vlt.vi (R211). -/
def execVltVi (d a : Reg) (i : BitVec 5) (s : State) : Out := s.vi2 d a (.i i) elVlt
/-- The element of vltu (R211). -/
def elVltu (_ x y : Nat) : Nat := bit01 (decide (x < y))
/-- vltu.vv (R211). -/
def execVltuVv (d a b : Reg) (s : State) : Out := s.vi2 d a (.v b) elVltu
/-- vltu.vx (R211). -/
def execVltuVx (d a x : Reg) (s : State) : Out := s.vi2 d a (.x x) elVltu
/-- vltu.vi (R211). -/
def execVltuVi (d a : Reg) (i : BitVec 5) (s : State) : Out := s.vi2 d a (.i i) elVltu
/-- The element of vle (R211). -/
def elVle (w x y : Nat) : Nat := bit01 (decide (toInt w x ≤ toInt w y))
/-- vle.vv (R211). -/
def execVleVv (d a b : Reg) (s : State) : Out := s.vi2 d a (.v b) elVle
/-- vle.vx (R211). -/
def execVleVx (d a x : Reg) (s : State) : Out := s.vi2 d a (.x x) elVle
/-- vle.vi (R211). -/
def execVleVi (d a : Reg) (i : BitVec 5) (s : State) : Out := s.vi2 d a (.i i) elVle

/-- VID: i as an EW-bit integer (R212). -/
def execVid (d : Reg) (s : State) : Out := s.elementWise [] d (fun _ i => (i % 2 ^ s.cur.ew, 0))

/-- VBCAST: the operand in every active element (R212). -/
def State.vbcast (s : State) (d : Reg) (b : VOp) : Out := s.elementWise b.regs d (fun rd i => (s.operand b rd i, 0))

/-- VBCAST.VV (R212). -/
def execVbcastVv (d b : Reg) (s : State) : Out := s.vbcast d (.v b)
/-- VBCAST.VX (R212). -/
def execVbcastVx (d x : Reg) (s : State) : Out := s.vbcast d (.x x)
/-- VBCAST.VI (R212). -/
def execVbcastVi (d : Reg) (i : BitVec 5) (s : State) : Out := s.vbcast d (.i i)

/-- VMERGE (R212): v[VM.REG] selects whatever VM.EN holds, also where it is bound to a stream, and every element from the start to VL − 1 is written. DESIGN CHOICE, log entry 76. -/
def State.vmerge (s : State) (d a : Reg) (b : VOp) : Out :=
  let all (t : Strand) : List Nat := (upto 0 t.vl).filter t.begun
  s.withOperands all (a :: b.regs) [d] (fun s rd =>
    let (now, left) := s.portion (all s.cur)
    let sel (i : Nat) : Bool := decide (s.cur.elem (s.cur.c.vm.extractLsb' 0 5) i % 2 = 1)
    let s := s.writePart d (now.map (fun i => (i, if sel i then s.operand b rd i else rd a i))) 0
    if left.isEmpty then
      let s := s.writeGroup d
      .next ({ s with cur := s.cur.vdone }).adv
    else s.stopHere left 1)

/-- VMERGE.VV (R212). -/
def execVmergeVv (d a b : Reg) (s : State) : Out := s.vmerge d a (.v b)
/-- VMERGE.VX (R212). -/
def execVmergeVx (d a x : Reg) (s : State) : Out := s.vmerge d a (.x x)
/-- VMERGE.VI (R212). -/
def execVmergeVi (d a : Reg) (i : BitVec 5) (s : State) : Out := s.vmerge d a (.i i)

end Sys2Proof.Machine
end

