-- ==== Sys2Proof/Machine/Dispatch.lean ====
section
/-! DEFINITION. exec: one arm per constructor of Instr, each one call of its meaning. -/

namespace Sys2Proof.Machine

/-- The meaning of an instruction of the issuing strand, or of an event of the module. -/
def exec (i : Instr) (s : State) : Host.Outcome State Fault Refusal :=
  match i with
  | .doorbellWrite a1 a2 => Sys2Proof.Machine.execDoorbellWrite a1 a2 s
  | .modnumWrite a1 => Sys2Proof.Machine.execModnumWrite a1 s
  | .modctlReset a1 a2 => Sys2Proof.Machine.execModctlReset a1 a2 s
  | .modctlFullstart a1 a2 => Sys2Proof.Machine.execModctlFullstart a1 a2 s
  | .lattolWrite a1 => Sys2Proof.Machine.execLattolWrite a1 s
  | .pwrcapWrite a1 => Sys2Proof.Machine.execPwrcapWrite a1 s
  | .rtctlFlush => Sys2Proof.Machine.execRtctlFlush s
  | .hosterrWrite => Sys2Proof.Machine.execHosterrWrite s
  | .registerWrite a1 a2 a3 => Sys2Proof.Machine.execRegisterWrite a1 a2 a3 s
  | .bar2HostWrite a1 a2 a3 => Sys2Proof.Machine.execBar2HostWrite a1 a2 a3 s
  | .bar2HostRead a1 a2 a3 => Sys2Proof.Machine.execBar2HostRead a1 a2 a3 s
  | .configurationRequest a1 => Sys2Proof.Machine.execConfigurationRequest a1 s
  | .powerOnReset a1 a2 => Sys2Proof.Machine.execPowerOnReset a1 a2 s
  | .hostLinkReset a1 a2 => Sys2Proof.Machine.execHostLinkReset a1 a2 s
  | .startTimeout => Sys2Proof.Machine.execStartTimeout s
  | .startRetry a1 a2 => Sys2Proof.Machine.execStartRetry a1 a2 s
  | .powerAverageTick a1 => Sys2Proof.Machine.execPowerAverageTick a1 s
  | .capIssueHold => Sys2Proof.Machine.execCapIssueHold s
  | .dieIdleEntry a1 => Sys2Proof.Machine.execDieIdleEntry a1 s
  | .dieWake a1 => Sys2Proof.Machine.execDieWake a1 s
  | .dieExitComplete a1 => Sys2Proof.Machine.execDieExitComplete a1 s
  | .dieEntryFailure a1 => Sys2Proof.Machine.execDieEntryFailure a1 s
  | .dieExitFailure a1 => Sys2Proof.Machine.execDieExitFailure a1 s
  | .hostLinkDown a1 => Sys2Proof.Machine.execHostLinkDown a1 s
  | .flitCheckFail a1 => Sys2Proof.Machine.execFlitCheckFail a1 s
  | .fabricPortRetrain a1 => Sys2Proof.Machine.execFabricPortRetrain a1 s
  | .fabricRetrainEnd a1 a2 => Sys2Proof.Machine.execFabricRetrainEnd a1 a2 s
  | .lossNotice a1 => Sys2Proof.Machine.execLossNotice a1 s
  | .fabricReplyTimeout a1 => Sys2Proof.Machine.execFabricReplyTimeout a1 s
  | .localCompletion a1 => Sys2Proof.Machine.execLocalCompletion a1 s
  | .routeEntryRead a1 a2 => Sys2Proof.Machine.execRouteEntryRead a1 a2 s
  | .dclkwSynchronisation a1 => Sys2Proof.Machine.execDclkwSynchronisation a1 s
  | .homeWrite a1 a2 => Sys2Proof.Machine.execHomeWrite a1 a2 s
  | .homeRead a1 a2 a3 a4 => Sys2Proof.Machine.execHomeRead a1 a2 a3 a4 s
  | .loadReply a1 => Sys2Proof.Machine.execLoadReply a1 s
  | .outboundDrainTimeout a1 => Sys2Proof.Machine.execOutboundDrainTimeout a1 s
  | .turnInvalidation a1 => Sys2Proof.Machine.execTurnInvalidation a1 s
  | .invalidationAck a1 => Sys2Proof.Machine.execInvalidationAck a1 s
  | .tableWalkComplete a1 a2 a3 => Sys2Proof.Machine.execTableWalkComplete a1 a2 a3 s
  | .patrolScrub a1 a2 => Sys2Proof.Machine.execPatrolScrub a1 a2 s
  | .harrierFill a1 a2 a3 => Sys2Proof.Machine.execHarrierFill a1 a2 a3 s
  | .copyRetire a1 a2 => Sys2Proof.Machine.execCopyRetire a1 a2 s
  | .barrierCredit a1 => Sys2Proof.Machine.execBarrierCredit a1 s
  | .putqEnqueue a1 => Sys2Proof.Machine.execPutqEnqueue a1 s
  | .putqEnqueueExpiry a1 => Sys2Proof.Machine.execPutqEnqueueExpiry a1 s
  | .parkedCopyRetry a1 a2 => Sys2Proof.Machine.execParkedCopyRetry a1 a2 s
  | .parkedCopyDiscard a1 a2 => Sys2Proof.Machine.execParkedCopyDiscard a1 a2 s
  | .streamFill a1 a2 => Sys2Proof.Machine.execStreamFill a1 a2 s
  | .remoteGroupDelivery a1 a2 => Sys2Proof.Machine.execRemoteGroupDelivery a1 a2 s
  | .streamBudgetExpiry a1 => Sys2Proof.Machine.execStreamBudgetExpiry a1 s
  | .engineCommandRetire a1 => Sys2Proof.Machine.execEngineCommandRetire a1 s
  | .tileStoreClearEnd a1 => Sys2Proof.Machine.execTileStoreClearEnd a1 s
  | .waitExpiry a1 => Sys2Proof.Machine.execWaitExpiry a1 s
  | .homeObjectOperation a1 a2 a3 a4 => Sys2Proof.Machine.execHomeObjectOperation a1 a2 a3 a4 s
  | .waiterWake a1 => Sys2Proof.Machine.execWaiterWake a1 s
  | .waitCancellation a1 => Sys2Proof.Machine.execWaitCancellation a1 s
  | .barawWithdrawal a1 => Sys2Proof.Machine.execBarawWithdrawal a1 s
  | .waiterRefusalResend a1 => Sys2Proof.Machine.execWaiterRefusalResend a1 s
  | .watermarkDeclaration a1 => Sys2Proof.Machine.execWatermarkDeclaration a1 s
  | .watermarkRise a1 => Sys2Proof.Machine.execWatermarkRise a1 s
  | .dependenceHoldExpiry a1 => Sys2Proof.Machine.execDependenceHoldExpiry a1 s
  | .launchTake => Sys2Proof.Machine.execLaunchTake s
  | .strandStart a1 => Sys2Proof.Machine.execStrandStart a1 s
  | .launchRetire a1 => Sys2Proof.Machine.execLaunchRetire a1 s
  | .preemptionRequest a1 => Sys2Proof.Machine.execPreemptionRequest a1 s
  | .preemptionRequestArrival a1 => Sys2Proof.Machine.execPreemptionRequestArrival a1 s
  | .forcedPreemption a1 => Sys2Proof.Machine.execForcedPreemption a1 s
  | .saveComplete a1 => Sys2Proof.Machine.execSaveComplete a1 s
  | .issueAging a1 => Sys2Proof.Machine.execIssueAging a1 s
  | .impreciseDelivery a1 => Sys2Proof.Machine.execImpreciseDelivery a1 s
  | .handlerWatchdog a1 => Sys2Proof.Machine.execHandlerWatchdog a1 s
  | .saveRestoreWatchdog a1 => Sys2Proof.Machine.execSaveRestoreWatchdog a1 s
  | .trapRepeatWatchdog a1 => Sys2Proof.Machine.execTrapRepeatWatchdog a1 s
  | .heartbeatWatchdog a1 a2 => Sys2Proof.Machine.execHeartbeatWatchdog a1 a2 s
  | .relayRoundComplete a1 a2 => Sys2Proof.Machine.execRelayRoundComplete a1 a2 s
  | .parkedArrivalRetry a1 => Sys2Proof.Machine.execParkedArrivalRetry a1 s
  | .dbgctlHalt a1 a2 => Sys2Proof.Machine.execDbgctlHalt a1 a2 s
  | .dbgctlStep a1 a2 => Sys2Proof.Machine.execDbgctlStep a1 a2 s
  | .dbgctlFreeze a1 a2 => Sys2Proof.Machine.execDbgctlFreeze a1 a2 s
  | .tenSet => Sys2Proof.Machine.execTenSet s
  | .tenClear => Sys2Proof.Machine.execTenClear s
  | .reservedEncoding a1 => Sys2Proof.Machine.execReservedEncoding a1 s
  | .instructionFetchFault a1 a2 => Sys2Proof.Machine.execInstructionFetchFault a1 a2 s
  | .hostLinkUp a1 => Sys2Proof.Machine.execHostLinkUp a1 s
  | .dieStateEntryComplete a1 => Sys2Proof.Machine.execDieStateEntryComplete a1 s
  | .routeUpdate a1 a2 => Sys2Proof.Machine.execRouteUpdate a1 a2 s
  | .lineMarker a1 => Sys2Proof.Machine.execLineMarker a1 s
  | .nop => Sys2Proof.Machine.execNop s
  | .trap a1 => Sys2Proof.Machine.execTrap a1 s
  | .brk a1 => Sys2Proof.Machine.execBrk a1 s
  | .eret => Sys2Proof.Machine.execEret s
  | .yield => Sys2Proof.Machine.execYield s
  | .halt => Sys2Proof.Machine.execHalt s
  | .tlbinv a1 a2 => Sys2Proof.Machine.execTlbinv a1 a2 s
  | .tlbinvall => Sys2Proof.Machine.execTlbinvall s
  | .add a1 a2 a3 => Sys2Proof.Machine.execAdd a1 a2 a3 s
  | .sub a1 a2 a3 => Sys2Proof.Machine.execSub a1 a2 a3 s
  | .and a1 a2 a3 => Sys2Proof.Machine.execAnd a1 a2 a3 s
  | .or a1 a2 a3 => Sys2Proof.Machine.execOr a1 a2 a3 s
  | .xor a1 a2 a3 => Sys2Proof.Machine.execXor a1 a2 a3 s
  | .andn a1 a2 a3 => Sys2Proof.Machine.execAndn a1 a2 a3 s
  | .sll a1 a2 a3 => Sys2Proof.Machine.execSll a1 a2 a3 s
  | .srl a1 a2 a3 => Sys2Proof.Machine.execSrl a1 a2 a3 s
  | .sra a1 a2 a3 => Sys2Proof.Machine.execSra a1 a2 a3 s
  | .slt a1 a2 a3 => Sys2Proof.Machine.execSlt a1 a2 a3 s
  | .sltu a1 a2 a3 => Sys2Proof.Machine.execSltu a1 a2 a3 s
  | .min a1 a2 a3 => Sys2Proof.Machine.execMin a1 a2 a3 s
  | .max a1 a2 a3 => Sys2Proof.Machine.execMax a1 a2 a3 s
  | .minu a1 a2 a3 => Sys2Proof.Machine.execMinu a1 a2 a3 s
  | .maxu a1 a2 a3 => Sys2Proof.Machine.execMaxu a1 a2 a3 s
  | .clz a1 a2 => Sys2Proof.Machine.execClz a1 a2 s
  | .ctz a1 a2 => Sys2Proof.Machine.execCtz a1 a2 s
  | .popc a1 a2 => Sys2Proof.Machine.execPopc a1 a2 s
  | .rol a1 a2 a3 => Sys2Proof.Machine.execRol a1 a2 a3 s
  | .ror a1 a2 a3 => Sys2Proof.Machine.execRor a1 a2 a3 s
  | .sextw a1 a2 => Sys2Proof.Machine.execSextw a1 a2 s
  | .zextw a1 a2 => Sys2Proof.Machine.execZextw a1 a2 s
  | .cmov a1 a2 a3 => Sys2Proof.Machine.execCmov a1 a2 a3 s
  | .addi a1 a2 a3 => Sys2Proof.Machine.execAddi a1 a2 a3 s
  | .andi a1 a2 a3 => Sys2Proof.Machine.execAndi a1 a2 a3 s
  | .ori a1 a2 a3 => Sys2Proof.Machine.execOri a1 a2 a3 s
  | .xori a1 a2 a3 => Sys2Proof.Machine.execXori a1 a2 a3 s
  | .slti a1 a2 a3 => Sys2Proof.Machine.execSlti a1 a2 a3 s
  | .sltiu a1 a2 a3 => Sys2Proof.Machine.execSltiu a1 a2 a3 s
  | .slli a1 a2 a3 => Sys2Proof.Machine.execSlli a1 a2 a3 s
  | .srli a1 a2 a3 => Sys2Proof.Machine.execSrli a1 a2 a3 s
  | .srai a1 a2 a3 => Sys2Proof.Machine.execSrai a1 a2 a3 s
  | .lui a1 a2 => Sys2Proof.Machine.execLui a1 a2 s
  | .addpc a1 a2 => Sys2Proof.Machine.execAddpc a1 a2 s
  | .mul a1 a2 a3 => Sys2Proof.Machine.execMul a1 a2 a3 s
  | .mulh a1 a2 a3 => Sys2Proof.Machine.execMulh a1 a2 a3 s
  | .mulhu a1 a2 a3 => Sys2Proof.Machine.execMulhu a1 a2 a3 s
  | .div a1 a2 a3 => Sys2Proof.Machine.execDiv a1 a2 a3 s
  | .divu a1 a2 a3 => Sys2Proof.Machine.execDivu a1 a2 a3 s
  | .rem a1 a2 a3 => Sys2Proof.Machine.execRem a1 a2 a3 s
  | .remu a1 a2 a3 => Sys2Proof.Machine.execRemu a1 a2 a3 s
  | .lb a1 a2 a3 => Sys2Proof.Machine.execLb a1 a2 a3 s
  | .lh a1 a2 a3 => Sys2Proof.Machine.execLh a1 a2 a3 s
  | .lw a1 a2 a3 => Sys2Proof.Machine.execLw a1 a2 a3 s
  | .ld a1 a2 a3 => Sys2Proof.Machine.execLd a1 a2 a3 s
  | .lbu a1 a2 a3 => Sys2Proof.Machine.execLbu a1 a2 a3 s
  | .lhu a1 a2 a3 => Sys2Proof.Machine.execLhu a1 a2 a3 s
  | .lwu a1 a2 a3 => Sys2Proof.Machine.execLwu a1 a2 a3 s
  | .sb a1 a2 a3 => Sys2Proof.Machine.execSb a1 a2 a3 s
  | .sh a1 a2 a3 => Sys2Proof.Machine.execSh a1 a2 a3 s
  | .sw a1 a2 a3 => Sys2Proof.Machine.execSw a1 a2 a3 s
  | .sd a1 a2 a3 => Sys2Proof.Machine.execSd a1 a2 a3 s
  | .fadd a1 a2 a3 => Sys2Proof.Machine.execFadd a1 a2 a3 s
  | .fsub a1 a2 a3 => Sys2Proof.Machine.execFsub a1 a2 a3 s
  | .fmul a1 a2 a3 => Sys2Proof.Machine.execFmul a1 a2 a3 s
  | .fdiv a1 a2 a3 => Sys2Proof.Machine.execFdiv a1 a2 a3 s
  | .fsqrt a1 a2 => Sys2Proof.Machine.execFsqrt a1 a2 s
  | .fmin a1 a2 a3 => Sys2Proof.Machine.execFmin a1 a2 a3 s
  | .fmax a1 a2 a3 => Sys2Proof.Machine.execFmax a1 a2 a3 s
  | .feq a1 a2 a3 => Sys2Proof.Machine.execFeq a1 a2 a3 s
  | .flt a1 a2 a3 => Sys2Proof.Machine.execFlt a1 a2 a3 s
  | .fle a1 a2 a3 => Sys2Proof.Machine.execFle a1 a2 a3 s
  | .fcvtfi a1 a2 => Sys2Proof.Machine.execFcvtfi a1 a2 s
  | .fcvtif a1 a2 => Sys2Proof.Machine.execFcvtif a1 a2 s
  | .fsgnj a1 a2 a3 => Sys2Proof.Machine.execFsgnj a1 a2 a3 s
  | .fneg a1 a2 => Sys2Proof.Machine.execFneg a1 a2 s
  | .fabs a1 a2 => Sys2Proof.Machine.execFabs a1 a2 s
  | .fclass a1 a2 => Sys2Proof.Machine.execFclass a1 a2 s
  | .fma a1 a2 a3 a4 => Sys2Proof.Machine.execFma a1 a2 a3 a4 s
  | .fnma a1 a2 a3 a4 => Sys2Proof.Machine.execFnma a1 a2 a3 a4 s
  | .fms a1 a2 a3 a4 => Sys2Proof.Machine.execFms a1 a2 a3 a4 s
  | .beq a1 a2 a3 => Sys2Proof.Machine.execBeq a1 a2 a3 s
  | .bne a1 a2 a3 => Sys2Proof.Machine.execBne a1 a2 a3 s
  | .blt a1 a2 a3 => Sys2Proof.Machine.execBlt a1 a2 a3 s
  | .bge a1 a2 a3 => Sys2Proof.Machine.execBge a1 a2 a3 s
  | .bltu a1 a2 a3 => Sys2Proof.Machine.execBltu a1 a2 a3 s
  | .bgeu a1 a2 a3 => Sys2Proof.Machine.execBgeu a1 a2 a3 s
  | .jmp a1 => Sys2Proof.Machine.execJmp a1 s
  | .call a1 => Sys2Proof.Machine.execCall a1 s
  | .jr a1 => Sys2Proof.Machine.execJr a1 s
  | .callr a1 => Sys2Proof.Machine.execCallr a1 s
  | .csrr a1 a2 => Sys2Proof.Machine.execCsrr a1 a2 s
  | .csrw a1 a2 a3 => Sys2Proof.Machine.execCsrw a1 a2 a3 s
  | .csrs a1 a2 a3 => Sys2Proof.Machine.execCsrs a1 a2 a3 s
  | .csrc a1 a2 a3 => Sys2Proof.Machine.execCsrc a1 a2 a3 s
  | .csrwi a1 a2 a3 => Sys2Proof.Machine.execCsrwi a1 a2 a3 s
  | .setvl a1 a2 => Sys2Proof.Machine.execSetvl a1 a2 s
  | .setvlmax a1 => Sys2Proof.Machine.execSetvlmax a1 s
  | .settype a1 a2 => Sys2Proof.Machine.execSettype a1 a2 s
  | .settypei a1 a2 => Sys2Proof.Machine.execSettypei a1 a2 s
  | .vfaddVv a1 a2 a3 => Sys2Proof.Machine.execVfaddVv a1 a2 a3 s
  | .vfaddVx a1 a2 a3 => Sys2Proof.Machine.execVfaddVx a1 a2 a3 s
  | .vfsubVv a1 a2 a3 => Sys2Proof.Machine.execVfsubVv a1 a2 a3 s
  | .vfsubVx a1 a2 a3 => Sys2Proof.Machine.execVfsubVx a1 a2 a3 s
  | .vfmulVv a1 a2 a3 => Sys2Proof.Machine.execVfmulVv a1 a2 a3 s
  | .vfmulVx a1 a2 a3 => Sys2Proof.Machine.execVfmulVx a1 a2 a3 s
  | .vfdivVv a1 a2 a3 => Sys2Proof.Machine.execVfdivVv a1 a2 a3 s
  | .vfdivVx a1 a2 a3 => Sys2Proof.Machine.execVfdivVx a1 a2 a3 s
  | .vfminVv a1 a2 a3 => Sys2Proof.Machine.execVfminVv a1 a2 a3 s
  | .vfminVx a1 a2 a3 => Sys2Proof.Machine.execVfminVx a1 a2 a3 s
  | .vfmaxVv a1 a2 a3 => Sys2Proof.Machine.execVfmaxVv a1 a2 a3 s
  | .vfmaxVx a1 a2 a3 => Sys2Proof.Machine.execVfmaxVx a1 a2 a3 s
  | .vfsqrt a1 a2 => Sys2Proof.Machine.execVfsqrt a1 a2 s
  | .vfabs a1 a2 => Sys2Proof.Machine.execVfabs a1 a2 s
  | .vfneg a1 a2 => Sys2Proof.Machine.execVfneg a1 a2 s
  | .vfsgnjVv a1 a2 a3 => Sys2Proof.Machine.execVfsgnjVv a1 a2 a3 s
  | .vfsgnjVx a1 a2 a3 => Sys2Proof.Machine.execVfsgnjVx a1 a2 a3 s
  | .vfrsubVv a1 a2 a3 => Sys2Proof.Machine.execVfrsubVv a1 a2 a3 s
  | .vfrsubVx a1 a2 a3 => Sys2Proof.Machine.execVfrsubVx a1 a2 a3 s
  | .vfeqVv a1 a2 a3 => Sys2Proof.Machine.execVfeqVv a1 a2 a3 s
  | .vfeqVx a1 a2 a3 => Sys2Proof.Machine.execVfeqVx a1 a2 a3 s
  | .vfneVv a1 a2 a3 => Sys2Proof.Machine.execVfneVv a1 a2 a3 s
  | .vfneVx a1 a2 a3 => Sys2Proof.Machine.execVfneVx a1 a2 a3 s
  | .vfltVv a1 a2 a3 => Sys2Proof.Machine.execVfltVv a1 a2 a3 s
  | .vfltVx a1 a2 a3 => Sys2Proof.Machine.execVfltVx a1 a2 a3 s
  | .vfleVv a1 a2 a3 => Sys2Proof.Machine.execVfleVv a1 a2 a3 s
  | .vfleVx a1 a2 a3 => Sys2Proof.Machine.execVfleVx a1 a2 a3 s
  | .vfcvtFi a1 a2 => Sys2Proof.Machine.execVfcvtFi a1 a2 s
  | .vfcvtFiU a1 a2 => Sys2Proof.Machine.execVfcvtFiU a1 a2 s
  | .vfcvtIf a1 a2 => Sys2Proof.Machine.execVfcvtIf a1 a2 s
  | .vfcvtIfU a1 a2 => Sys2Proof.Machine.execVfcvtIfU a1 a2 s
  | .vfwiden a1 a2 => Sys2Proof.Machine.execVfwiden a1 a2 s
  | .vfnarrow a1 a2 => Sys2Proof.Machine.execVfnarrow a1 a2 s
  | .vfma a1 a2 a3 a4 => Sys2Proof.Machine.execVfma a1 a2 a3 a4 s
  | .vfnma a1 a2 a3 a4 => Sys2Proof.Machine.execVfnma a1 a2 a3 a4 s
  | .vfms a1 a2 a3 a4 => Sys2Proof.Machine.execVfms a1 a2 a3 a4 s
  | .vfmaVx a1 a2 a3 a4 => Sys2Proof.Machine.execVfmaVx a1 a2 a3 a4 s
  | .vaddVv a1 a2 a3 => Sys2Proof.Machine.execVaddVv a1 a2 a3 s
  | .vaddVx a1 a2 a3 => Sys2Proof.Machine.execVaddVx a1 a2 a3 s
  | .vaddVi a1 a2 a3 => Sys2Proof.Machine.execVaddVi a1 a2 a3 s
  | .vaddSatVv a1 a2 a3 => Sys2Proof.Machine.execVaddSatVv a1 a2 a3 s
  | .vaddSatVx a1 a2 a3 => Sys2Proof.Machine.execVaddSatVx a1 a2 a3 s
  | .vaddSatVi a1 a2 a3 => Sys2Proof.Machine.execVaddSatVi a1 a2 a3 s
  | .vaddUsatVv a1 a2 a3 => Sys2Proof.Machine.execVaddUsatVv a1 a2 a3 s
  | .vaddUsatVx a1 a2 a3 => Sys2Proof.Machine.execVaddUsatVx a1 a2 a3 s
  | .vaddUsatVi a1 a2 a3 => Sys2Proof.Machine.execVaddUsatVi a1 a2 a3 s
  | .vsubVv a1 a2 a3 => Sys2Proof.Machine.execVsubVv a1 a2 a3 s
  | .vsubVx a1 a2 a3 => Sys2Proof.Machine.execVsubVx a1 a2 a3 s
  | .vsubVi a1 a2 a3 => Sys2Proof.Machine.execVsubVi a1 a2 a3 s
  | .vsubSatVv a1 a2 a3 => Sys2Proof.Machine.execVsubSatVv a1 a2 a3 s
  | .vsubSatVx a1 a2 a3 => Sys2Proof.Machine.execVsubSatVx a1 a2 a3 s
  | .vsubSatVi a1 a2 a3 => Sys2Proof.Machine.execVsubSatVi a1 a2 a3 s
  | .vsubUsatVv a1 a2 a3 => Sys2Proof.Machine.execVsubUsatVv a1 a2 a3 s
  | .vsubUsatVx a1 a2 a3 => Sys2Proof.Machine.execVsubUsatVx a1 a2 a3 s
  | .vsubUsatVi a1 a2 a3 => Sys2Proof.Machine.execVsubUsatVi a1 a2 a3 s
  | .vmulVv a1 a2 a3 => Sys2Proof.Machine.execVmulVv a1 a2 a3 s
  | .vmulVx a1 a2 a3 => Sys2Proof.Machine.execVmulVx a1 a2 a3 s
  | .vmulVi a1 a2 a3 => Sys2Proof.Machine.execVmulVi a1 a2 a3 s
  | .vmulhVv a1 a2 a3 => Sys2Proof.Machine.execVmulhVv a1 a2 a3 s
  | .vmulhVx a1 a2 a3 => Sys2Proof.Machine.execVmulhVx a1 a2 a3 s
  | .vmulhVi a1 a2 a3 => Sys2Proof.Machine.execVmulhVi a1 a2 a3 s
  | .vmulhUVv a1 a2 a3 => Sys2Proof.Machine.execVmulhUVv a1 a2 a3 s
  | .vmulhUVx a1 a2 a3 => Sys2Proof.Machine.execVmulhUVx a1 a2 a3 s
  | .vmulhUVi a1 a2 a3 => Sys2Proof.Machine.execVmulhUVi a1 a2 a3 s
  | .vandVv a1 a2 a3 => Sys2Proof.Machine.execVandVv a1 a2 a3 s
  | .vandVx a1 a2 a3 => Sys2Proof.Machine.execVandVx a1 a2 a3 s
  | .vandVi a1 a2 a3 => Sys2Proof.Machine.execVandVi a1 a2 a3 s
  | .vorVv a1 a2 a3 => Sys2Proof.Machine.execVorVv a1 a2 a3 s
  | .vorVx a1 a2 a3 => Sys2Proof.Machine.execVorVx a1 a2 a3 s
  | .vorVi a1 a2 a3 => Sys2Proof.Machine.execVorVi a1 a2 a3 s
  | .vxorVv a1 a2 a3 => Sys2Proof.Machine.execVxorVv a1 a2 a3 s
  | .vxorVx a1 a2 a3 => Sys2Proof.Machine.execVxorVx a1 a2 a3 s
  | .vxorVi a1 a2 a3 => Sys2Proof.Machine.execVxorVi a1 a2 a3 s
  | .vsllVv a1 a2 a3 => Sys2Proof.Machine.execVsllVv a1 a2 a3 s
  | .vsllVx a1 a2 a3 => Sys2Proof.Machine.execVsllVx a1 a2 a3 s
  | .vsllVi a1 a2 a3 => Sys2Proof.Machine.execVsllVi a1 a2 a3 s
  | .vsrlVv a1 a2 a3 => Sys2Proof.Machine.execVsrlVv a1 a2 a3 s
  | .vsrlVx a1 a2 a3 => Sys2Proof.Machine.execVsrlVx a1 a2 a3 s
  | .vsrlVi a1 a2 a3 => Sys2Proof.Machine.execVsrlVi a1 a2 a3 s
  | .vsraVv a1 a2 a3 => Sys2Proof.Machine.execVsraVv a1 a2 a3 s
  | .vsraVx a1 a2 a3 => Sys2Proof.Machine.execVsraVx a1 a2 a3 s
  | .vsraVi a1 a2 a3 => Sys2Proof.Machine.execVsraVi a1 a2 a3 s
  | .vminVv a1 a2 a3 => Sys2Proof.Machine.execVminVv a1 a2 a3 s
  | .vminVx a1 a2 a3 => Sys2Proof.Machine.execVminVx a1 a2 a3 s
  | .vminVi a1 a2 a3 => Sys2Proof.Machine.execVminVi a1 a2 a3 s
  | .vmaxVv a1 a2 a3 => Sys2Proof.Machine.execVmaxVv a1 a2 a3 s
  | .vmaxVx a1 a2 a3 => Sys2Proof.Machine.execVmaxVx a1 a2 a3 s
  | .vmaxVi a1 a2 a3 => Sys2Proof.Machine.execVmaxVi a1 a2 a3 s
  | .vminuVv a1 a2 a3 => Sys2Proof.Machine.execVminuVv a1 a2 a3 s
  | .vminuVx a1 a2 a3 => Sys2Proof.Machine.execVminuVx a1 a2 a3 s
  | .vminuVi a1 a2 a3 => Sys2Proof.Machine.execVminuVi a1 a2 a3 s
  | .vmaxuVv a1 a2 a3 => Sys2Proof.Machine.execVmaxuVv a1 a2 a3 s
  | .vmaxuVx a1 a2 a3 => Sys2Proof.Machine.execVmaxuVx a1 a2 a3 s
  | .vmaxuVi a1 a2 a3 => Sys2Proof.Machine.execVmaxuVi a1 a2 a3 s
  | .veqVv a1 a2 a3 => Sys2Proof.Machine.execVeqVv a1 a2 a3 s
  | .veqVx a1 a2 a3 => Sys2Proof.Machine.execVeqVx a1 a2 a3 s
  | .veqVi a1 a2 a3 => Sys2Proof.Machine.execVeqVi a1 a2 a3 s
  | .vneVv a1 a2 a3 => Sys2Proof.Machine.execVneVv a1 a2 a3 s
  | .vneVx a1 a2 a3 => Sys2Proof.Machine.execVneVx a1 a2 a3 s
  | .vneVi a1 a2 a3 => Sys2Proof.Machine.execVneVi a1 a2 a3 s
  | .vltVv a1 a2 a3 => Sys2Proof.Machine.execVltVv a1 a2 a3 s
  | .vltVx a1 a2 a3 => Sys2Proof.Machine.execVltVx a1 a2 a3 s
  | .vltVi a1 a2 a3 => Sys2Proof.Machine.execVltVi a1 a2 a3 s
  | .vltuVv a1 a2 a3 => Sys2Proof.Machine.execVltuVv a1 a2 a3 s
  | .vltuVx a1 a2 a3 => Sys2Proof.Machine.execVltuVx a1 a2 a3 s
  | .vltuVi a1 a2 a3 => Sys2Proof.Machine.execVltuVi a1 a2 a3 s
  | .vleVv a1 a2 a3 => Sys2Proof.Machine.execVleVv a1 a2 a3 s
  | .vleVx a1 a2 a3 => Sys2Proof.Machine.execVleVx a1 a2 a3 s
  | .vleVi a1 a2 a3 => Sys2Proof.Machine.execVleVi a1 a2 a3 s
  | .vid a1 => Sys2Proof.Machine.execVid a1 s
  | .vbcastVv a1 a2 => Sys2Proof.Machine.execVbcastVv a1 a2 s
  | .vbcastVx a1 a2 => Sys2Proof.Machine.execVbcastVx a1 a2 s
  | .vbcastVi a1 a2 => Sys2Proof.Machine.execVbcastVi a1 a2 s
  | .vmergeVv a1 a2 a3 => Sys2Proof.Machine.execVmergeVv a1 a2 a3 s
  | .vmergeVx a1 a2 a3 => Sys2Proof.Machine.execVmergeVx a1 a2 a3 s
  | .vmergeVi a1 a2 a3 => Sys2Proof.Machine.execVmergeVi a1 a2 a3 s
  | .vslideup a1 a2 a3 a4 => Sys2Proof.Machine.execVslideup a1 a2 a3 a4 s
  | .vslidedn a1 a2 a3 a4 => Sys2Proof.Machine.execVslidedn a1 a2 a3 a4 s
  | .vgather a1 a2 a3 a4 => Sys2Proof.Machine.execVgather a1 a2 a3 a4 s
  | .vcompress a1 a2 => Sys2Proof.Machine.execVcompress a1 a2 s
  | .vmvxs a1 a2 a3 => Sys2Proof.Machine.execVmvxs a1 a2 a3 s
  | .vmvsx a1 a2 a3 => Sys2Proof.Machine.execVmvsx a1 a2 a3 s
  | .vmand a1 a2 a3 => Sys2Proof.Machine.execVmand a1 a2 a3 s
  | .vmor a1 a2 a3 => Sys2Proof.Machine.execVmor a1 a2 a3 s
  | .vmxor a1 a2 a3 => Sys2Proof.Machine.execVmxor a1 a2 a3 s
  | .vmnot a1 a2 => Sys2Proof.Machine.execVmnot a1 a2 s
  | .vmcnt a1 a2 => Sys2Proof.Machine.execVmcnt a1 a2 s
  | .vmlead a1 a2 => Sys2Proof.Machine.execVmlead a1 a2 s
  | .vmrank a1 a2 => Sys2Proof.Machine.execVmrank a1 a2 s
  | .vfredsum a1 a2 => Sys2Proof.Machine.execVfredsum a1 a2 s
  | .vfredmax a1 a2 => Sys2Proof.Machine.execVfredmax a1 a2 s
  | .vfredmin a1 a2 => Sys2Proof.Machine.execVfredmin a1 a2 s
  | .vredsum a1 a2 => Sys2Proof.Machine.execVredsum a1 a2 s
  | .vredmax a1 a2 => Sys2Proof.Machine.execVredmax a1 a2 s
  | .vredmin a1 a2 => Sys2Proof.Machine.execVredmin a1 a2 s
  | .vld a1 a2 a3 a4 => Sys2Proof.Machine.execVld a1 a2 a3 a4 s
  | .vlds a1 a2 a3 a4 => Sys2Proof.Machine.execVlds a1 a2 a3 a4 s
  | .vldx a1 a2 a3 a4 => Sys2Proof.Machine.execVldx a1 a2 a3 a4 s
  | .vsegld2 a1 a2 a3 a4 => Sys2Proof.Machine.execVsegld2 a1 a2 a3 a4 s
  | .vsegld3 a1 a2 a3 a4 => Sys2Proof.Machine.execVsegld3 a1 a2 a3 a4 s
  | .vsegld4 a1 a2 a3 a4 => Sys2Proof.Machine.execVsegld4 a1 a2 a3 a4 s
  | .vsegld5 a1 a2 a3 a4 => Sys2Proof.Machine.execVsegld5 a1 a2 a3 a4 s
  | .vsegld6 a1 a2 a3 a4 => Sys2Proof.Machine.execVsegld6 a1 a2 a3 a4 s
  | .vsegld7 a1 a2 a3 a4 => Sys2Proof.Machine.execVsegld7 a1 a2 a3 a4 s
  | .vsegld8 a1 a2 a3 a4 => Sys2Proof.Machine.execVsegld8 a1 a2 a3 a4 s
  | .vst a1 a2 a3 a4 => Sys2Proof.Machine.execVst a1 a2 a3 a4 s
  | .vsts a1 a2 a3 a4 => Sys2Proof.Machine.execVsts a1 a2 a3 a4 s
  | .vstx a1 a2 a3 a4 => Sys2Proof.Machine.execVstx a1 a2 a3 a4 s
  | .vsegst2 a1 a2 a3 a4 => Sys2Proof.Machine.execVsegst2 a1 a2 a3 a4 s
  | .vsegst3 a1 a2 a3 a4 => Sys2Proof.Machine.execVsegst3 a1 a2 a3 a4 s
  | .vsegst4 a1 a2 a3 a4 => Sys2Proof.Machine.execVsegst4 a1 a2 a3 a4 s
  | .vsegst5 a1 a2 a3 a4 => Sys2Proof.Machine.execVsegst5 a1 a2 a3 a4 s
  | .vsegst6 a1 a2 a3 a4 => Sys2Proof.Machine.execVsegst6 a1 a2 a3 a4 s
  | .vsegst7 a1 a2 a3 a4 => Sys2Proof.Machine.execVsegst7 a1 a2 a3 a4 s
  | .vsegst8 a1 a2 a3 a4 => Sys2Proof.Machine.execVsegst8 a1 a2 a3 a4 s
  | .plsta a1 a2 => Sys2Proof.Machine.execPlsta a1 a2 s
  | .plstb a1 a2 => Sys2Proof.Machine.execPlstb a1 a2 s
  | .plstbDpw8 a1 a2 => Sys2Proof.Machine.execPlstbDpw8 a1 a2 s
  | .vglk a1 a2 a3 a4 => Sys2Proof.Machine.execVglk a1 a2 a3 a4 s
  | .vscc a1 a2 a3 a4 => Sys2Proof.Machine.execVscc a1 a2 a3 a4 s
  | .vapnd a1 a2 a3 => Sys2Proof.Machine.execVapnd a1 a2 a3 s
  | .sbind a1 a2 => Sys2Proof.Machine.execSbind a1 a2 s
  | .sunbind a1 => Sys2Proof.Machine.execSunbind a1 s
  | .spos a1 a2 => Sys2Proof.Machine.execSpos a1 a2 s
  | .turn a1 a2 a3 a4 a5 => Sys2Proof.Machine.execTurn a1 a2 a3 a4 a5 s
  | .turnall a1 a2 a3 => Sys2Proof.Machine.execTurnall a1 a2 a3 s
  | .fence a1 a2 a3 => Sys2Proof.Machine.execFence a1 a2 a3 s
  | .publish a1 a2 => Sys2Proof.Machine.execPublish a1 a2 s
  | .copy a1 a2 a3 => Sys2Proof.Machine.execCopy a1 a2 a3 s
  | .copyb a1 a2 a3 a4 => Sys2Proof.Machine.execCopyb a1 a2 a3 a4 s
  | .putq a1 a2 a3 a4 => Sys2Proof.Machine.execPutq a1 a2 a3 a4 s
  | .settile a1 a2 a3 => Sys2Proof.Machine.execSettile a1 a2 a3 s
  | .tzero a1 => Sys2Proof.Machine.execTzero a1 s
  | .tmac a1 a2 a3 a4 => Sys2Proof.Machine.execTmac a1 a2 a3 a4 s
  | .tmacw a1 a2 a3 a4 => Sys2Proof.Machine.execTmacw a1 a2 a3 a4 s
  | .tmovr a1 a2 a3 => Sys2Proof.Machine.execTmovr a1 a2 a3 s
  | .tmovc a1 a2 a3 => Sys2Proof.Machine.execTmovc a1 a2 a3 s
  | .tld a1 a2 a3 => Sys2Proof.Machine.execTld a1 a2 a3 s
  | .tst a1 a2 a3 => Sys2Proof.Machine.execTst a1 a2 a3 s
  | .tadd a1 a2 => Sys2Proof.Machine.execTadd a1 a2 s
  | .sigcfg a1 a2 a3 => Sys2Proof.Machine.execSigcfg a1 a2 a3 s
  | .siginit => Sys2Proof.Machine.execSiginit s
  | .sigupd a1 => Sys2Proof.Machine.execSigupd a1 s
  | .sigjoin a1 => Sys2Proof.Machine.execSigjoin a1 s
  | .sigjoinl a1 => Sys2Proof.Machine.execSigjoinl a1 s
  | .siglog => Sys2Proof.Machine.execSiglog s
  | .sigld a1 => Sys2Proof.Machine.execSigld a1 s
  | .sigst a1 => Sys2Proof.Machine.execSigst a1 s
  | .waitc a1 a2 a3 a4 a5 a6 => Sys2Proof.Machine.execWaitc a1 a2 a3 a4 a5 a6 s
  | .waitw a1 a2 a3 a4 => Sys2Proof.Machine.execWaitw a1 a2 a3 a4 s
  | .barw a1 a2 a3 a4 => Sys2Proof.Machine.execBarw a1 a2 a3 a4 s
  | .bara a1 a2 a3 => Sys2Proof.Machine.execBara a1 a2 a3 s
  | .baraw a1 a2 a3 => Sys2Proof.Machine.execBaraw a1 a2 a3 s
  | .barexp a1 a2 a3 a4 => Sys2Proof.Machine.execBarexp a1 a2 a3 a4 s
  | .qsend a1 a2 a3 a4 => Sys2Proof.Machine.execQsend a1 a2 a3 a4 s
  | .qrecv a1 a2 a3 a4 => Sys2Proof.Machine.execQrecv a1 a2 a3 a4 s
  | .taskadd a1 a2 a3 a4 => Sys2Proof.Machine.execTaskadd a1 a2 a3 a4 s
  | .tasktake a1 a2 a3 a4 => Sys2Proof.Machine.execTasktake a1 a2 a3 a4 s
  | .tasksteal a1 a2 a3 a4 => Sys2Proof.Machine.execTasksteal a1 a2 a3 a4 s
  | .apwait a1 a2 a3 a4 => Sys2Proof.Machine.execApwait a1 a2 a3 a4 s
  | .cwait a1 a2 a3 => Sys2Proof.Machine.execCwait a1 a2 a3 s
  | .launch a1 a2 a3 a4 => Sys2Proof.Machine.execLaunch a1 a2 a3 a4 s
  | .lwait a1 a2 a3 => Sys2Proof.Machine.execLwait a1 a2 a3 s
  | .lcancel a1 a2 a3 => Sys2Proof.Machine.execLcancel a1 a2 a3 s

end Sys2Proof.Machine
end

