-- ==== Sys2Proof/Machine/Sram.lean ====
section
/-! DEFINITION. Errors in the on-die stores (R418, R428). -/

namespace Sys2Proof.Machine

/-- STRUCT of an error log entry (R427). -/
def SramStore.struct : SramStore → Nat
  | .scratchpad => 1
  | .scratchpadTag => 1
  | .inbound => 2
  | .outbound => 3
  | .cell => 4
  | .code => 5
  | .register => 6
  | .translation => 7

/-- ADDR of an error log entry: the offset of what failed within its structure (R427). DESIGN CHOICE, log entry 60. -/
def SramStore.offset (st : SramStore) (at_ : Nat) : Nat :=
  match st with
  | .scratchpad => 64 * at_
  | .scratchpadTag => 64 * at_
  | .inbound => 64 * at_
  | .outbound => 64 * at_
  | .cell => 16 * at_
  | .code => 64 * at_
  | .register => at_
  | .translation => at_

/-- The entry of the error log for an error in a store of a core: KIND 2 with one bit corrected, or KIND 3 (R427, R428). -/
def State.logSram (s : State) (st : SramStore) (core at_ : Nat) (hard : Bool) (source : Nat) (writer : BitVec 12) : State :=
  s.logEvent (if hard then 3 else 2) st.struct core (st.offset at_) (if hard then 0 else 1) source writer

/-- A block of a core's scratchpad is poisoned (R428). -/
def State.spadError (s : State) (core at_ : Nat) : State := s.poison (spadKey core (64 * (at_ % 131072)) / 64)

/-- An outbound entry drains as a poisoning write, behind what its strand wrote to the line before it: its line is in STATE 7, and its strand has a record of 0x380; one for another module goes there as a write does, and like a write it may find no route, be lost, or find a failed die (R85, R350, R428, R458, R462). -/
def State.outboundError (s : State) (core at_ : Nat) : State :=
  match (s.coreAt core).outb[at_]? with
  | none => s
  | some e =>
    let key := 64 * e.line
    let s := s.onCore core (fun k => { k with outb := dropAt at_ k.outb })
    let fails (s : State) (c : BitVec 10) : State := s.addRecord e.sid (e.record c (globalOf s.front.modnum key))
    match ((s.touch key).olderFirst core e.sid e.pos e.line).crosses core e.writer key 64 with
    | (false, s) => fails s 0x300
    | (true, s) =>
      if keyModule key = 0 ∧ (s.dieAt (homeDie key)).phase = .failed then fails s 0x301 else fails (s.poison e.line) 0x380

/-- The record of a cell that a command found in error: that of the oldest command, when there is one (R389, R428). DESIGN CHOICE, log entry 60. -/
def Core.cellRecord (k : Core) (t : Strand) (at_ : Nat) : Record :=
  let x : XFault := ⟨0x380, BitVec.ofNat 64 at_, 0⟩
  match k.eng with
  | c :: _ => c.record x
  | [] => { OutEntry.record ⟨t.id.sid, t.writer, 0, 0, 0, t.pc, 0, 0, t.pos, []⟩ 0x380 0 with tval := x.tval, opa := 0, unit := 2 }

/-- A cell, or L0 as cell 65,536, becomes the canonical binary128 NaN; the holder of the tile store has a record (R428). -/
def State.cellError (s : State) (core at_ : Nat) : State :=
  let nan : BitVec 128 := BitVec.ofNat 128 B128.nan
  let k := s.coreAt core
  if 65536 < at_ then s
  else
    let s := s.setCore (if at_ = 65536 then { k with l0 := nan } else k.setCell at_ nan)
    match k.holder.bind s.strand with
    | none => s
    | some t => if k.eng.isEmpty then s.addReached t.id.sid (k.cellRecord t at_) else s.addRecord t.id.sid (k.cellRecord t at_)

/-- An instruction of the strand in a slot reads a register in error: cause 0x380, precise, TVAL 0, at a SETVL that holds and at an instruction that waits, which gives its wait up, as well (R428). A strand whose registers are being saved or restored executes none. DESIGN CHOICE, log entry 60. -/
def State.registerError (s : State) (core slot : Nat) : State :=
  let trap (s : State) : State := (s.trapEntry 0x380 0 false s.cur.pc 0 0 s.cur.pc).stepDone
  match s.inSlot core slot with
  | none => s
  | some t =>
    match t.run with
    | .running => s.asStrand t.id.sid trap
    | .holding => s.asStrand t.id.sid (fun s => trap { s with cur := { s.cur with run := .running } })
    | .waiting w => s.asStrand t.id.sid (fun s => trap (s.abandon w))
    | _ => s

/-- An entry of a core's translation buffer is dropped, or one of its die's translation cache, numbered after them (R428). -/
def State.dropTranslation (s : State) (k : Core) (at_ : Nat) : State :=
  if at_ < k.tlb.length then s.setCore { k with tlb := dropAt at_ k.tlb }
  else
    let d := s.dieAt (dieOf k.id)
    s.setDie { d with tlb := dropAt (at_ - k.tlb.length) d.tlb }

/-- Which strand's access found an error: the one that the finder names, of whichever core, or else the strand to which the place belongs, or none (R427). DESIGN CHOICE, log entry 60. -/
def finderOf (finder : Option (BitVec 12)) (owner : BitVec 12) : BitVec 12 :=
  match finder with
  | some w => if w.toNat < 3072 then w else owner
  | none => owner

/-- An error in a protected store of a core, corrected or not: `at_` is a scratchpad block, an entry of a cache, buffer or translation buffer, a cell number, or a slot; `source` and `finder` are what found it (R418, R427, R428). DESIGN CHOICE, log entry 60. -/
def State.sramError (s : State) (st : SramStore) (core at_ : Nat) (hard : Bool) (source : Nat) (finder : Option (BitVec 12)) : State :=
  if !coreOk core then s
  else
    let k := s.coreAt core
    let log (s : State) (hard : Bool) (owner : BitVec 12) : State := s.logSram st core at_ hard (source % 3) (finderOf finder owner)
    match st with
    | .scratchpad => log (if hard then s.spadError core at_ else s) hard 0xFFF
    | .scratchpadTag => log (if hard then s.spadError core at_ else s) hard 0xFFF
    | .inbound => log (s.setCore { k with inb := dropAt at_ k.inb }) hard 0xFFF
    | .code => log (s.setCore { k with icb := dropAt at_ k.icb }) hard 0xFFF
    | .outbound => log (if hard then s.outboundError core at_ else s) hard ((k.outb[at_]?.map OutEntry.writer).getD 0xFFF)
    | .cell => log (if hard then s.cellError core at_ else s) hard 0xFFF
    | .register => log (if hard then s.registerError core at_ else s) hard (writerId core at_)
    | .translation => log (s.dropTranslation k at_) false 0xFFF

end Sys2Proof.Machine
end

