-- ==== Sys2Proof/Machine/Schedule.lean ====
section
/-! DEFINITION. Which move comes next, when the agenda names none: what is due by a clock, whose instruction issues (R337), what the units do behind the strands; what arrives from outside; fetching and issuing one instruction (R163, R164, R167, R401); the clocks (R280). -/

namespace Sys2Proof.Machine

/-- An event of the module, which has no word: the first 86 constructors. DESIGN CHOICE, log entry 1. -/
def isEvent (i : Instr) : Bool := decide (i.ctorIdx < 86)

/-! ### What is due (R62, R69, R105, R252, R282, R290, R297, R339, R362, R384, R424, R432, R440) -/

/-- What is due for a strand. -/
def State.strandDue (s : State) (t : Strand) : Option Instr :=
  let sid := t.id.sid
  if (s.holdMet t).isSome then some (.watermarkRise sid)
  else if s.holdEnds t then some (.preemptionRequestArrival sid)
  else if (s.holdOver t).isSome then some (.dependenceHoldExpiry sid)
  else if s.forceDue t then some (.forcedPreemption sid)
  else if (s.budgetOver t).isSome then some (.streamBudgetExpiry sid)
  else if t.handlerHung then some (.handlerWatchdog sid)
  else if t.trapHung then some (.trapRepeatWatchdog sid)
  else if s.saveHung t then some (.saveRestoreWatchdog sid)
  else if t.lateRecord.isSome then some (.impreciseDelivery sid)
  else
    match t.waitRec with
    | none => none
    | some w =>
      if s.waitDue t w && !w.expired then some (.waitExpiry sid)
      else
        match w.refused with
        | some t0 => if t0 + 1000 ≤ s.now ∧ !w.expired then some (.waiterRefusalResend sid) else none
        | none => none

/-- What is due for a channel of a core: a parked copy tries again every 10 µs and is discarded at DLCAP (R424); a command that a fault stopped goes once its record is delivered (R389). -/
def State.chanDue (s : State) (k : Core) (ch : Nat) : Option Instr :=
  match (k.chans.getD ch Chan.reset).queue with
  | [] => none
  | c :: _ =>
    match c.park with
    | none => if c.dead && s.recordGone c then some (.copyRetire k.id ch) else none
    | some (t0, _) =>
      if s.harrierHeld k.id then none
      else if t0 + field k.dlcap 0 63 ≤ s.now then some (.parkedCopyDiscard k.id ch)
      else if c.tried + 10000 ≤ s.now then some (.parkedCopyRetry k.id ch)
      else none

/-- What is due for a core: the drain of a line 4 µs after its last write (R83), and its channels. -/
def State.coreDue (s : State) (k : Core) : List Instr :=
  (if k.outb.any (fun e => decide (e.last + 4000 ≤ s.now) && !s.blocked k.id e && !s.outHeld e.sid) then [.outboundDrainTimeout k.id] else []) ++
  (upto 0 8).filterMap (s.chanDue k)

/-- The parked arrivals that have waited 10 µs since their latest try (R362). -/
def State.parkedDue (s : State) : List Instr :=
  let ps := s.allParked
  ((upto 0 ps.length).zip ps).filterMap (fun e =>
    if !e.2.2.rest && decide (e.2.2.at_ + 10000 ≤ s.now) && !s.relayHeld e.2.2.sid then some (.parkedArrivalRetry e.1) else none)

/-- The launches that have been cancelled or have failed (R67, R69). -/
def State.stopped (s : State) : List Instr :=
  ((s.starter.live ++ s.starter.queued).filter (fun l => l.stop.isSome)).map (fun l => .launchRetire l.id)

/-- The ports whose retraining has taken more than 50 ms, and the packets without an acknowledgement for more than 1 ms (R462). DESIGN CHOICE, log entry 2. -/
def State.fabricDue (s : State) : List Instr :=
  s.front.ports.filterMap (fun q => if q.late s.now then some (.fabricRetrainEnd q.id false) else none) ++
  ((upto 0 s.homes.wnet.length).zip s.homes.wnet).filterMap (fun e => if e.2.overdue s.now then some (.fabricReplyTimeout e.1) else none)

/-- What a clock makes due, and what must come before any other instruction: the launches that stop, the issuing strand, the other strands, the cores, the dies, the fabric, and the enqueues that have waited DLCAP (R252). DESIGN CHOICE, log entry 2. -/
def State.clockDue (s : State) : List Instr :=
  s.stopped ++ s.all.filterMap s.strandDue ++ (s.core :: s.cores).flatMap s.coreDue ++ s.parkedDue ++ s.fabricDue ++
  ((upto 0 s.homes.enqs.length).zip s.homes.enqs).filterMap (fun e =>
    if e.2.at_ + e.2.cmd.dlcap ≤ s.now then some (.putqEnqueueExpiry e.1) else none)

/-! ### What the units do behind the strands -/

/-- What the Starter can do at a core: a start, requests for pre-emption, the waking of its die (R37, R335, R338, R458). -/
def State.starterAt (s : State) (c : Nat) : List Instr :=
  match (s.dieAt (dieOf c)).phase with
  | .failed => if (s.placedOn c).isEmpty then [] else [.strandStart c]
  | .exiting _ => []
  | .entering _ _ => if (s.waitList c).isEmpty && (s.placedOn c).isEmpty then [] else [.dieWake (dieOf c)]
  | .steady =>
    if s.dieRuns (dieOf c) then
      (if (s.pick c (s.waitList c) []).isSome then [.strandStart c] else []) ++ (if s.urgent c then [.preemptionRequest c] else [])
    else if (s.waitList c).isEmpty && (s.placedOn c).isEmpty then [] else [.dieWake (dieOf c)]

/-- The Starter: retirements, a taking, then its cores (R67, R333, R335). DESIGN CHOICE, log entry 2. -/
def State.starterMoves (s : State) : List Instr :=
  ((s.starter.live ++ s.starter.queued).filter (fun l => decide (l.left = 0))).map (fun l => .launchRetire l.id) ++
  (if s.nextLaunch.isSome then [.launchTake] else []) ++
  (if s.starter.live.isEmpty && !s.all.any Strand.readyAway then [] else (upto 0 384).flatMap s.starterAt)

/-- A save that can end, a request on its way, and groups of remote streams (R233, R339, R395). -/
def State.strandMoves (s : State) (t : Strand) : List Instr :=
  match t.run with
  | .saving _ _ => if s.loadsOut t = 0 then [.saveComplete t.id.sid] else []
  | _ =>
    if t.sent && t.resident && !t.dbg && !t.stepping then [.preemptionRequestArrival t.id.sid]
    else
      ((upto 0 4).filter (fun i =>
        match t.streams.getD i none, (s.pairOf t i).bind s.strand with
        | some b, some u => decide (b.kind = 2) && b.group.isNone && ((u.streams.getD b.reg none).bind Stream.group).isSome
        | _, _ => false)).map (fun i => Instr.remoteGroupDelivery t.id.sid i)

/-- A running command's blocks, in order, or its end (R99, R251). -/
def State.chanMoves (s : State) (k : Core) (ch : Nat) : List Instr :=
  match (k.chans.getD ch Chan.reset).queue with
  | [] => []
  | c :: _ =>
    if c.dead || c.park.isSome || s.frozen k.id c.sid || s.harrierHeld k.id || decide (c.step = 1) then []
    else if c.step = 2 ∨ c.bytes ≤ c.landed then [.copyRetire k.id ch]
    else
      ((upto 0 c.pieces.length).zip c.pieces).filterMap (fun e =>
        if c.done.contains e.2.1 || c.sent.contains e.2.1 then none else some (.harrierFill k.id ch e.1))

/-- The engine and the channels of a core. -/
def State.coreMoves (s : State) (k : Core) : List Instr :=
  (match k.eng with
   | c :: _ => if s.frozen k.id c.sid || s.engHeld k.id then [] else [.engineCommandRetire k.id]
   | [] => if k.clearing then [.tileStoreClearEnd k.id] else []) ++
  (upto 0 8).flatMap (s.chanMoves k)

/-- The withdrawal or the cancellation of a strand's wait that is on its way to its home (R297, R432). -/
def State.endMove (s : State) (t : Strand) : Option Instr :=
  match t.waitRec with
  | none => none
  | some w =>
    if w.withdrawn then some (.barawWithdrawal t.id.sid)
    else if w.expired && s.unserved t.id.sid w then some (.waitCancellation t.id.sid)
    else none

/-- The messages that a home or a core can take in now (R59, R89, R95, R252, R290, R297, R346, R432). -/
def State.homeMoves (s : State) : List Instr :=
  let h := s.homes
  s.all.filterMap s.endMove ++
  (upto 0 h.wakes.length).map .waiterWake ++
  (upto 0 h.decls.length).map .watermarkDeclaration ++
  (upto 0 h.loads.length).map .loadReply ++
  ((upto 0 h.wnet.length).zip h.wnet).filterMap (fun e =>
    if s.held e.2 || (h.wnet.take e.1).any (fun g => g.ahead e.2) then none
    else some (.homeWrite e.1 0)) ++
  h.invals.map (fun e => .turnInvalidation e.core) ++
  (upto 0 h.acks.length).map .invalidationAck ++
  (upto 0 h.credits.length).map .barrierCredit ++
  ((upto 0 h.enqs.length).zip h.enqs).filterMap (fun e =>
    if s.putWaits e.2 then none
    else
      match (s.readObj (e.2.cmd.agent e.2.core) e.2.cmd.obj 2).1 with
      | .ok (key, d) => if qCount d < qCap d ∨ !s.waitersFull key then some (.putqEnqueue e.1) else none
      | .error _ => some (.putqEnqueue e.1))

/-- Rounds that are complete, or whose contributions do not agree (R357, R358), and that neither a full record ring nor a frozen strand holds back (R389, R446). -/
def State.relayMoves (s : State) : List Instr :=
  s.rounds.filterMap (fun r =>
    match r.parts, (s.roundGroup r).1 with
    | c0 :: _, some g =>
      if r.ready g c0 && !r.parts.any (fun c => s.relayHeld c.sid) && !s.roundFrozen r && s.ranksFree g r then some (.relayRoundComplete r.group r.slot) else none
    | _, _ => none)

/-- The dies whose exit latency has passed, or that reach their power states; or that have failed to (R37, R457, R458). DEDUCED, log entry 26. -/
def State.dieMoves (s : State) : List Instr :=
  s.dies.filterMap (fun d =>
    match d.phase with
    | .exiting t =>
      if s.mayExit d.id t then some (.dieExitComplete d.id)
      else if t + 4 * exitLatency (s.dieState d.id) ≤ s.now then some (.dieExitFailure d.id)
      else none
    | .entering _ t => some (if t + 1000000 < s.now then .dieEntryFailure d.id else .dieStateEntryComplete d.id)
    | _ => none)

/-- Elements of output streams and lines of outbound buffers leave before they must. -/
def State.drainMoves (s : State) : List Instr :=
  s.all.flatMap (fun t => (upto 0 4).filterMap (fun i =>
    match t.streams.getD i none with
    | some b => if t.resident && !b.pend.isEmpty then some (.streamFill t.id.sid i) else none
    | none => none)) ++
  ((s.core :: s.cores).filter (fun k => (s.nextOut k).isSome)).map (fun k => .outboundDrainTimeout k.id)

/-- What the units have to do, in the order in which they are tried. DESIGN CHOICE, log entry 2. -/
def State.unitMoves (s : State) : List Instr :=
  s.homeMoves ++ s.all.flatMap s.strandMoves ++ (s.core :: s.cores).flatMap s.coreMoves ++ s.relayMoves ++ s.starterMoves ++
  s.dieMoves ++ s.drainMoves

/-! ### Making a move -/

/-- Nothing keeps a move from happening. -/
def Mark.free (m : Mark) : Bool := m.dies.isEmpty && !m.net && m.soft.isEmpty

/-- The codewords in error that a move would decode are corrected or poisoned, before the move is made (R426). DESIGN CHOICE, log entry 27. -/
def State.decodeSoft (s : State) (es : List (Nat × Nat × BitVec 12)) : State :=
  es.foldl (fun s e =>
    match s.sched.soft.find? (fun q => q.1 == e.1) with
    | none => s
    | some q => ({ s with sched := { s.sched with soft := s.sched.soft.filter (fun r => r.1 != e.1) } }).scrub e.1 q.2 e.2.1 e.2.2) s

/-- What comes first when something keeps a move from happening: the decoding of the codewords in error that it reaches, or the return to A0, begun or ended, of the dies that it needs (R37, R426); none when it can only wait. DESIGN CHOICE, log entry 61. -/
def State.firstOf (s : State) (m : Mark) : Option State :=
  if m.dies.any s.canRouse then some (s.rouse m.dies)
  else if m.soft.isEmpty || !m.dies.isEmpty then none
  else
    let u := s.decodeSoft m.soft
    if u.mark.soft.isEmpty then
      (if u.mark.dies.isEmpty then some u else if u.mark.dies.any s.canRouse then some (s.rouse u.mark.dies) else none)
    else some (s.decodeSoft u.mark.soft)

/-- A move as it is made: with all its effects when nothing keeps it from happening; else with none of them, and what must come before it; none when it can only wait. `s` is the state before it. DESIGN CHOICE, log entry 61. -/
def State.made (s : State) (o : Out) : Option Out :=
  match o with
  | .next t => if t.mark.free then some (.next t) else (s.firstOf t.mark).map (fun u => .next u)
  | o => some o

/-- The first event of a list that can be made. -/
noncomputable def State.makeFirst (s : State) (es : List Instr) : Option Out := es.findSome? (fun e => s.made (exec e s))

/-- What must move before a strand issues: what a clock makes due, and once in 64 ns of DCLKW what the units have to do. DESIGN CHOICE, log entry 2. -/
noncomputable def State.due (s : State) : Option Out :=
  s.makeFirst (s.clockDue ++ (if s.now % 64 = 63 then s.unitMoves else []))

/-- What the units do when no strand issues. DESIGN CHOICE, log entry 2. -/
noncomputable def State.behind (s : State) : Out := (s.makeFirst s.unitMoves).getD (.next s)

/-- The first wait whose condition holds, ended (R282). DESIGN CHOICE, log entry 2. -/
noncomputable def State.pacer (s : State) : Option Out :=
  s.all.findSome? (fun t => (s.tryWait t).bind (fun u => s.made (.next u)))

/-- The first strand whose save area is being read comes back (R395, R440). DESIGN CHOICE, log entry 78. -/
noncomputable def State.restorer (s : State) : Option Out :=
  s.all.findSome? (fun t => match t.run with | .restoring _ _ => s.made (.next (s.restoreEnd t)) | _ => none)

/-! ### Whose instruction issues (R337) -/

/-- The launch of a strand has been cancelled or has failed: the strand stops at its instruction boundary (R69). -/
def State.ceases (s : State) (t : Strand) : Bool :=
  match s.launch t.id.lid with
  | some l => l.stop.isSome
  | none => false

/-- The strand may issue: resident and running on a die in A0, not halted, its launch not stopped. -/
def State.canIssue (s : State) (t : Strand) : Bool :=
  (match t.run with | .running => true | _ => false) && !t.dbg && s.dieRuns (dieOf t.id.core) && !s.ceases t

/-- The word at the program counter: a supervisor strand that enters a line finds its marker there, or cause 0x011; one that transferred into a line whose marker could not be read reads that first (R164, R167, R194, R401). DEDUCED, log entries 33, 52. -/
def State.fetchWord (s : State) : Except XFault InsnWord × State :=
  let (m, s) := if s.cur.entry then s.target s.me s.cur.pc else (.marked, s)
  match m with
  | .refused => (.error ⟨0x011, s.cur.pc, s.cur.pc⟩, s)
  | .unread =>
    match s.fetch s.me (markedLine s.cur.pc) with
    | (.error x, s) => (.error x, s)
    | (.ok _, s) => (.error ⟨0x011, markedLine s.cur.pc, s.cur.pc⟩, s)
  | .marked =>
    let s := { s with cur := { s.cur with entry := false } }
    match s.fetch s.me s.cur.pc with
    | (.error x, s) => (.error x, s)
    | (.ok w, s) =>
      if s.cur.sup ∧ s.cur.pc.toNat % 128 = 0 ∧ !isMarker w then (.error ⟨0x011, s.cur.pc, s.cur.pc⟩, s) else (.ok w, s)

/-- Fetch, decode and execute the instruction at the program counter. -/
noncomputable def State.issueWord (s : State) : Out :=
  match s.fetchWord with
  | (.error x, s) => exec (.instructionFetchFault x.cause x.tval) s
  | (.ok w, s) =>
    match decodeWord w with
    | .ok i => exec i s
    | .error _ => exec (.reservedEncoding w) s

/-- The escalation trap that waited for resumption: TPC is the instruction that met its deadline (R285, R388). -/
def State.escalate (s : State) (p : Word) : State :=
  ({ s with cur := { s.cur with escal := none } }).trapEntry 0x180 0 false p s.cur.c.tocnt 0 s.cur.pc

/-- The issuing strand's next move: an escalation trap first (R285). -/
noncomputable def State.attemptIssue (s : State) : Out :=
  match s.cur.escal with
  | some p => .next (s.escalate p)
  | none => s.issueWord

/-- A strand that waits at issue would go on waiting: its instruction waits still, for the same stream if for any, and nothing can come first that it needs. It takes no issue slot (R337, R436). -/
noncomputable def State.waitsOn (s : State) (t : Strand) : Bool :=
  t.stall.isSome &&
  (match (s.focus t.id.sid).attemptIssue with
   | .next u => (u.mark.idle && u.cur.blockedOn == t.blockedOn) || (!u.mark.free && (s.firstOf u.mark).isNone)
   | _ => false)

/-- The strand is ready to issue (R337). -/
noncomputable def State.mayIssue (s : State) (t : Strand) : Bool := s.canIssue t && !s.waitsOn t

/-- The order within a core (R337): class 0, aged strands with the oldest first, then by class; round-robin within one. DESIGN CHOICE, log entry 34. -/
def issueKey (k : Core) (t : Strand) : Nat × Nat × Nat :=
  let last := ((k.lastIss.find? (fun e => e.1 == t.id.cls)).map Prod.snd).getD 7
  let rr := (t.id.slot + 7 - last) % 8
  if t.id.cls = 0 then (0, 0, rr)
  else
    match t.aged with
    | some a => (1, a, rr)
    | none => (1 + t.id.cls, 0, rr)

/-- One key lies before another. -/
def keyBefore (x y : Nat × Nat × Nat) : Bool :=
  decide (x.1 < y.1) || (decide (x.1 = y.1) && (decide (x.2.1 < y.2.1) || (decide (x.2.1 = y.2.1) && decide (x.2.2 < y.2.2))))

/-- The strand of a core that issues next: at most four a cycle, each strand at most once (R337). DESIGN CHOICE, log entries 2, 34. -/
noncomputable def State.corePick (s : State) (core : Nat) : Option Strand :=
  let k := s.coreAt core
  let ready := s.all.filter (fun t => t.id.core == core && s.mayIssue t)
  let fresh := ready.filter (fun t => !k.cycle.contains t.id.slot)
  let pool := if 4 ≤ k.cycle.length ∨ fresh.isEmpty then ready else fresh
  (sortBy (fun a b => keyBefore (issueKey k a) (issueKey k b)) pool).head?

/-- The strand that issues next over all cores: the cores take turns. DESIGN CHOICE, log entry 2. -/
noncomputable def State.nextIssuer (s : State) : Option Strand :=
  let dist (t : Strand) : Nat := (t.id.core + 383 - s.cur.id.core) % 384
  match (sortBy (fun a b => decide (dist a < dist b)) (s.all.filter s.mayIssue)).head? with
  | none => none
  | some t => s.corePick t.id.core

/-- The turn goes to the next strand. -/
noncomputable def State.rotate (s : State) : State :=
  match s.nextIssuer with
  | some t => s.focus t.id.sid
  | none => s

/-! ### One instruction -/

/-- What an issue leaves: the strand is no longer aged, the core remembers it, a wait at issue is over, and a debug step ends (R337, R445); an instruction that waits at issue has not issued. -/
def State.issued (s : State) (t : Strand) : State :=
  if s.mark.idle then s
  else s.asStrand t.id.sid (fun s =>
    let slot := t.id.slot
    let s := { s with cur := { s.cur with aged := none, stall := none, due := none, blockedOn := none } }
    let s := s.onCore t.id.core (fun k => { k with
      lastIss := (t.id.cls, slot) :: k.lastIss.filter (fun e => e.1 != t.id.cls)
      cycle := if 4 ≤ k.cycle.length ∨ k.cycle.contains slot then [slot] else slot :: k.cycle })
    match s.cur.run with
    | .running => if s.cur.stepping then s.stepEnd else s
    | _ => s)

/-- An instruction that something keeps from happening waits at issue with no effect, and what must come first does (R37, R85, R426). DESIGN CHOICE, log entry 61. -/
def State.holdBack (s : State) (m : Mark) : State :=
  let s := (s.firstOf m).getD s
  { s with cur := { s.cur with stall := some (s.cur.stall.getD s.now) }, mark := { s.mark with idle := true } }

/-- `k` after a move that went on. -/
def andThen (o : Out) (k : State → Out) : Out :=
  match o with
  | .next s => k s
  | .fault f => .fault f
  | .refused r => .refused r

/-- The issuing strand's turn. -/
noncomputable def State.issue (s : State) : Out :=
  let t := s.cur
  andThen s.attemptIssue (fun u =>
    let u := if u.mark.free then u else s.holdBack u.mark
    .next (u.issued t).rotate)

/-- In the very tick at which a forced pre-emption falls due, a strand at a SETVL or a wait reaches the point first, and the save is of kind 0 or 1 (R339, R343, R400). DESIGN CHOICE, log entry 2. -/
noncomputable def State.lastPoint (s : State) : Option Strand :=
  s.all.find? (fun t => s.forceDue t && (match t.request with | some t0 => decide (s.now = t0 + 8000) | none => false) && s.canIssue t &&
    (match (s.focus t.id.sid).attemptIssue with
     | .next u => u.mark.free && (match u.cur.run with | .saving .forced _ => false | .saving _ _ => true | _ => false)
     | _ => false))

/-! ### What arrives from outside (R17, R18, R67, R87, R92, R357, R395, R428, R455) -/

/-- The level of an object that the issuing strand's instruction names (R289). -/
def State.objLevel (s : State) (va : Word) (type : Nat) : Option Nat × State :=
  match s.readObj s.me va type with
  | (.ok (_, line), s) => (some (oLvl line), s)
  | (.error _, s) => (none, s)

/-- The level at which the instruction at the program counter is about to turn the write log; none for one that turns no log, or that a pending record or a standing request comes before (R66, R239, R241, R247, R291, R305, R401). -/
def State.logLevel (s : State) (i : Instr) : Option Nat × State :=
  let record := !s.cur.nest && (nextRecord s.cur.records).isSome
  match i with
  | .turnall _ _ l => (some l.toNat, s)
  | .publish _ _ => (some s.cur.id.publvl, s)
  | .halt => (if record || s.cur.mustYield then none else some s.cur.id.publvl, s)
  | .launch _ _ b _ => (if s.cur.mustYield || decide ((s.rx b).toNat % 64 ≠ 0) then none else some 3, s)
  | .vapnd _ a _ => s.objLevel (s.rx a) 3
  | .bara _ _ b => if record || s.cur.mustYield then (none, s) else s.objLevel (s.rx b) 1
  | .baraw _ _ b => if record || s.cur.mustYield then (none, s) else s.objLevel (s.rx b) 1
  | .qsend _ _ b _ => if s.cur.mustYield then (none, s) else s.objLevel (s.rx b) 2
  | .taskadd _ _ b _ => if s.cur.mustYield then (none, s) else s.objLevel (s.rx b) 4
  | _ => (none, s)

/-- The turning instruction at the issuing strand's program counter has turned the first `n` lines of its region or of the write log (R92, R318). DESIGN CHOICE, log entry 3. -/
noncomputable def State.turnProgress (s : State) (n : Nat) : State :=
  match s.cur.run, s.fetchWord with
  | .running, (.ok w, s) =>
    match decodeWord w with
    | .ok (.turn _ a b _ l) => s.turnFirst (s.rx a) (field (s.rx b) 0 63) ((s.rx b).getLsbD 63) l.toNat n
    | .ok i =>
      match s.logLevel i with
      | (some l, s) => s.logFirst l n
      | (none, s) => s
    | _ => s
  | _, _ => s

/-- A write of another module arrives over the fabric and is acknowledged (R87, R88, R352). DESIGN CHOICE, log entry 9. -/
def State.fabricWrite (s : State) (a : Party) (l : Nat) (mask : BitVec 64) (data : Line) : State :=
  match s.arrives a l with
  | none => s
  | some s => (s.landFrom a.module l a.writer mask data).2.answer a (64 * l) 64

/-- A turn of another module's strand reaches a line homed here: steps 2 and 3 of R89, the invalidations at G, and the acknowledgement (R87, R89, R94, R464). DESIGN CHOICE, log entry 60. -/
def State.fabricTurnLine (s : State) (a : Party) (lvl : Nat) (all : Bool) (l : Nat) : State :=
  match s.arrives a l with
  | none => s
  | some s =>
    let s := s.decodes l 2 a.writer
    let s := s.setTag l (turnedTag a.module a.writer lvl all l (s.tag l))
    let s := if lvl = 4 then s.invalidateAll l (l + 1) else s
    s.answer a (64 * l) 64

/-- `n` lines from a first one on. DESIGN CHOICE, log entry 60. -/
def State.fabricTurn (s : State) (a : Party) (lvl : Nat) (all : Bool) (l n : Nat) : State :=
  if 4 < lvl then s else (upto l n).foldl (fun s l => s.fabricTurnLine a lvl all l) s

/-- Bytes of the codeword of a vault line of the module go bad (R426). DESIGN CHOICE, log entries 27, 60. -/
def State.softError (s : State) (l bytes : Nat) : State :=
  if isSpad (64 * l) ∨ keyModule (64 * l) ≠ 0 ∨ 24 ≤ keyDie (64 * l) then s
  else { s with sched := { s.sched with soft := (l, bytes) :: s.sched.soft.filter (fun e => e.1 != l) } }

/-- What reaches the module from outside and has no row in the opcode table. DESIGN CHOICE, log entry 60. -/
noncomputable def State.outside (s : State) : Outside → State
  | .registerRead link off =>
    if linkOk link && s.front.linkUp.getD link false then s.hostEvent (.data link (toBytes 8 (s.registerRead link off).toNat) false) else s
  | .mirrorRead link off =>
    if !(linkOk link && s.front.linkUp.getD link false) then s
    else if s.configOn link then s.hostEvent (.data link (toBytes 8 (s.mirrorRead off).toNat) false)
    else s.hostEvent (.config link true)
  | .bar2Resize link n => if linkOk link then s.resizeBar2 link n else s
  | .fatal sid cause =>
    match s.strand sid with
    | some t => if t.live then s.failLaunch t.id.lid cause else s
    | none => s
  | .fabricWrite a l mask data => s.fabricWrite a l mask data
  | .fabricTurn a lvl all l n => s.fabricTurn a lvl all l n
  | .flitAck port => s.flitAck port
  | .softError l bytes => s.softError l bytes
  | .saveProgress sid n =>
    match s.strand sid with
    | some t => if s.loadsOut t = 0 then s.asStrand sid (fun s => s.saveOn n) else s
    | none => s
  | .turnProgress sid n => s.asStrand sid (fun s => s.turnProgress n)
  | .copyProgress core channel n => if coreOk core && decide (channel < 8) then s.copyFirst core channel n else s
  | .sram st core at_ hard source finder => s.sramError st core at_ hard source finder
  | .contribution c group slot => s.contributed c group slot
  | .chunkSent group slot rank => s.sendChunk group slot rank

/-! ### The move and the clocks -/

/-- An entry of the agenda. DESIGN CHOICE, log entry 1. -/
noncomputable def State.enter (s : State) (m : Move) : Out :=
  match m with
  | .event i => if isEvent i then exec i s else .next s
  | .outside o => .next (s.outside o)

/-- What comes next without the agenda: a wait that ends, a strand that comes back, what is due, an instruction, or what the units do. DESIGN CHOICE, log entry 2. -/
noncomputable def State.own (s : State) : Out :=
  match s.pacer with
  | some o => o
  | none =>
  match s.restorer with
  | some o => o
  | none =>
    match s.lastPoint with
    | some t => (s.focus t.id.sid).issue
    | none =>
      match s.due with
      | some o => o
      | none =>
        if s.mayIssue s.cur then s.issue
        else
          match s.nextIssuer with
          | some t => .next (s.focus t.id.sid)
          | none => s.behind

/-- One move: the head of the agenda, which stays there while it cannot be made and the module goes on behind it, or the module's own. DESIGN CHOICE, log entries 1, 2, 61. -/
noncomputable def State.move (s : State) : Out :=
  match s.sched.agenda with
  | m :: r =>
    match s.made (({ s with sched := { s.sched with agenda := r } }).enter m) with
    | some o => o
    | none => (s.due).getD s.behind
  | [] => s.own

/-- A strand's run clock goes on while it is resident (R280, R444). DESIGN CHOICE, log entry 3. -/
def Strand.tick (n : Nat) (t : Strand) : Strand :=
  if t.resident && !t.dbg then { t with stay := t.stay + n, c := { t.c with dclkr := t.c.dclkr + BitVec.ofNat 63 n } } else t

/-- Both clocks go on by the nanoseconds that the schedule gives the move, 1 when it gives none (R280); the bounds that have risen are noted, and nothing is kept from happening any more. DESIGN CHOICE, log entries 3, 57, 61. -/
def State.tick (s : State) : State :=
  let n := s.sched.elapse.headD 1
  let s := s.markBusy.noteRises
  { s with
    cur := s.cur.tick n
    strands := s.strands.map (Strand.tick n)
    dclkw := s.dclkw + BitVec.ofNat 63 n
    sched := { s.sched with elapse := s.sched.elapse.drop 1 }
    mark := Mark.clear }

/-- A move and the time that it takes. DESIGN CHOICE, log entry 57. -/
noncomputable def State.advance (s : State) : Out := andThen s.move (fun s => .next s.tick)

/-! ### Placing an instruction where the next step fetches it -/

/-- The address at which a placed instruction stands, virtual and physical: clear of the tables that the spec places at the foot of core 0's vault (R327, R351, R355, R427). PRESUMED, log entry 7. -/
def programBase : Nat := 0x800000

/-- The page that stands for a loaded program: its address mapped to the same physical address of the own module for ASID 0, with user access, fetch, loads and stores. PRESUMED, log entry 7. -/
def programPage (own : BitVec 18) : TlbEntry :=
  ⟨programBase, 65536, 0, BitVec.ofNat 64 (own.toNat * 2 ^ 42 + programBase + 0x79)⟩

/-- The issuing strand as a running user strand; one that is no strand yet gets a name, slot 0 of core 0, and a save area in core 0's vault. PRESUMED, log entry 7. -/
def programStrand (t : Strand) : Strand :=
  { t with
    id := if t.id.sid = 0 then { t.id with sid := 1, core := 0, slot := 0, save := 0xF000000004000000#64 } else t.id
    pc := BitVec.ofNat 64 programBase, run := .running, stall := none, due := none, blockedOn := none, entry := false, dbg := false, escal := none, stepping := false
    c := { t.c with asid := 0, sstatus := 0 } }

/-- The state with a word placed at the program counter of a running strand. PRESUMED, log entry 7. -/
def State.placeWord (s : State) (w : InsnWord) : State :=
  let t := programStrand s.cur
  let l := programBase / 64
  { s with
    cur := t
    core := { s.core with
      tlb := programPage s.front.modnum :: s.core.tlb
      inb := s.core.inb.filter (fun e => e.1 != l)
      icb := s.core.icb.filter (fun e => e.1 != l) }
    mem := Memory.setBytes s.mem programBase (bytesOfWord w)
    tags := Tags.set s.tags l Tag.clear
    sched := { s.sched with agenda := [] }
    mark := Mark.clear }

end Sys2Proof.Machine
end

