-- ==== Sys2Proof/Machine/Step.lean ====
section
/-! DEFINITION. One step of the module. -/

namespace Sys2Proof.Machine

/-- One step: the move that State.sched and the clocks call for (log entries 1 to 3), and the time it takes. -/
noncomputable def step : State → Host.Outcome State Fault Refusal := fun s => s.advance

/-- The state with one instruction where step fetches its next one: a running strand whose code is in memory (log entry 7). -/
def State.withFetchWord (s : State) (nbits w : Nat) : State := s.placeWord (BitVec.ofNat 32 (w % 2 ^ nbits))

end Sys2Proof.Machine
end

