-- ==== Sys2Proof/Safety.lean ====
section
/-! DEFINITION. What counts as a safe move: it goes on, and it keeps the shape of the data that the spec and the memory's canonical form give. -/

namespace Sys2Proof.Machine

/-- A move that goes on. -/
def Goes (o : Out) : Prop := ∃ s, o = .next s

/-- The invariant of memory: its cells are in canonical form (log entry 6). -/
def Inv (s : State) : Prop := Memory.wf s.mem = true

/-- A run of `n` steps that always goes on. -/
def SafeFor : Nat → State → Prop
  | 0, _ => True
  | n + 1, s => ∃ s', step s = .next s' ∧ SafeFor n s'

end Sys2Proof.Machine
end

