-- ==== Sys2Proof/Certificates/Slice0/Obligations.lean ====
section
/-! DEFINITION. The statements about the model, from the numbered rules of the specification (OBLIGATIONS.json lists them). -/


/-! ### What the statements are written with -/

namespace Sys2Proof.Claim
open Machine

/-- The state after x[d] has been written with `v` and the program counter has gone on by 4; nothing else differs. A write to x0 is discarded (R177). -/
def wrote (s : State) (d : Reg) (v : Word) : State :=
  { s with cur := { s.cur with
      pc := s.cur.pc + 4
      x := if d = 0 then s.cur.x else s.cur.x.set d.toNat v d.isLt } }

/-- The state after the program counter has gone on by 4; nothing else differs. -/
def went (s : State) : State := { s with cur := { s.cur with pc := s.cur.pc + 4 } }

/-- The state with the program counter at `p`; nothing else differs. -/
def atPc (s : State) (p : Word) : State := { s with cur := { s.cur with pc := p } }

/-- `wrote` with flags entered in FCSR (R115). -/
def wroteF (s : State) (d : Reg) (r : Nat × FFlags) : State :=
  wrote { s with cur := { s.cur with c := { s.cur.c with fcsr := s.cur.c.fcsr ||| r.2.setWidth 64 } } } d (BitVec.ofNat 64 r.1)

/-- The shift count of a register shift (R179). -/
def count (w : Word) : Nat := w.toNat % 64

end Sys2Proof.Claim

open Sys2Proof Machine Claim

/-! ### Scalar integers -/

/-- R179, R177: the arithmetic, shift and comparison instructions of the ALU, by the integers that their operands stand for. Only x[d] and the program counter change; with d = 0 only the program counter. -/
def Sys2Proof.Claim.AluResultsByIntegers : Prop :=
  ∀ (s : State) (d a b : Reg), let A := s.rx a; let B := s.rx b
    exec (.add d a b) s = .next (wrote s d (BitVec.ofInt 64 (A.toInt + B.toInt))) ∧
    exec (.sub d a b) s = .next (wrote s d (BitVec.ofInt 64 (A.toInt - B.toInt))) ∧
    exec (.sll d a b) s = .next (wrote s d (BitVec.ofNat 64 (A.toNat * 2 ^ count B))) ∧
    exec (.srl d a b) s = .next (wrote s d (BitVec.ofNat 64 (A.toNat / 2 ^ count B))) ∧
    exec (.sra d a b) s = .next (wrote s d (BitVec.ofInt 64 (A.toInt / (2 ^ count B : Nat)))) ∧
    exec (.slt d a b) s = .next (wrote s d (if A.toInt < B.toInt then 1 else 0)) ∧
    exec (.sltu d a b) s = .next (wrote s d (if A.toNat < B.toNat then 1 else 0)) ∧
    exec (.min d a b) s = .next (wrote s d (BitVec.ofInt 64 (min A.toInt B.toInt))) ∧
    exec (.max d a b) s = .next (wrote s d (BitVec.ofInt 64 (max A.toInt B.toInt))) ∧
    exec (.minu d a b) s = .next (wrote s d (BitVec.ofNat 64 (min A.toNat B.toNat))) ∧
    exec (.maxu d a b) s = .next (wrote s d (BitVec.ofNat 64 (max A.toNat B.toNat)))

/-- R179: the logical instructions bit by bit, the counts by what they count, the rotations by where each bit goes, the extensions and CMOV. -/
def Sys2Proof.Claim.AluResultsByBits : Prop :=
  ∀ (s : State) (d a b : Reg), let A := s.rx a; let B := s.rx b
    (∃ v, exec (.and d a b) s = .next (wrote s d v) ∧ ∀ i < 64, v.getLsbD i = (A.getLsbD i && B.getLsbD i)) ∧
    (∃ v, exec (.or d a b) s = .next (wrote s d v) ∧ ∀ i < 64, v.getLsbD i = (A.getLsbD i || B.getLsbD i)) ∧
    (∃ v, exec (.xor d a b) s = .next (wrote s d v) ∧ ∀ i < 64, v.getLsbD i = (A.getLsbD i != B.getLsbD i)) ∧
    (∃ v, exec (.andn d a b) s = .next (wrote s d v) ∧ ∀ i < 64, v.getLsbD i = (A.getLsbD i && !B.getLsbD i)) ∧
    (∃ n, exec (.clz d a) s = .next (wrote s d (BitVec.ofNat 64 n)) ∧ n ≤ 64 ∧
      (∀ i < n, A.getLsbD (63 - i) = false) ∧ (n < 64 → A.getLsbD (63 - n) = true)) ∧
    (∃ n, exec (.ctz d a) s = .next (wrote s d (BitVec.ofNat 64 n)) ∧ n ≤ 64 ∧
      (∀ i < n, A.getLsbD i = false) ∧ (n < 64 → A.getLsbD n = true)) ∧
    exec (.popc d a) s = .next (wrote s d (BitVec.ofNat 64 ((List.range 64).countP (fun i => A.getLsbD i)))) ∧
    (∃ v, exec (.rol d a b) s = .next (wrote s d v) ∧ ∀ i < 64, v.getLsbD ((i + count B) % 64) = A.getLsbD i) ∧
    (∃ v, exec (.ror d a b) s = .next (wrote s d v) ∧ ∀ i < 64, v.getLsbD i = A.getLsbD ((i + count B) % 64)) ∧
    (∃ v, exec (.sextw d a) s = .next (wrote s d v) ∧ ∀ i < 64, v.getLsbD i = A.getLsbD (min i 31)) ∧
    (∃ v, exec (.zextw d a) s = .next (wrote s d v) ∧ ∀ i < 64, v.getLsbD i = (decide (i < 32) && A.getLsbD i)) ∧
    (B ≠ 0 → exec (.cmov d a b) s = .next (wrote s d A)) ∧
    (B = 0 → exec (.cmov d a b) s = .next (went s))

/-- R180, R181, R182: the immediate instructions by integers. -/
def Sys2Proof.Claim.ImmediateResults : Prop :=
  ∀ (s : State) (d a : Reg) (i : BitVec 16) (k : BitVec 6) (u : BitVec 21), let A := s.rx a
    exec (.addi d a i) s = .next (wrote s d (BitVec.ofInt 64 (A.toInt + i.toInt))) ∧
    exec (.slti d a i) s = .next (wrote s d (if A.toInt < i.toInt then 1 else 0)) ∧
    exec (.sltiu d a i) s = .next (wrote s d (if A.toNat < (BitVec.ofInt 64 i.toInt).toNat then 1 else 0)) ∧
    (∃ v, exec (.andi d a i) s = .next (wrote s d v) ∧ ∀ j < 64, v.getLsbD j = (A.getLsbD j && i.getLsbD j)) ∧
    (∃ v, exec (.ori d a i) s = .next (wrote s d v) ∧ ∀ j < 64, v.getLsbD j = (A.getLsbD j || i.getLsbD j)) ∧
    (∃ v, exec (.xori d a i) s = .next (wrote s d v) ∧ ∀ j < 64, v.getLsbD j = (A.getLsbD j != i.getLsbD j)) ∧
    exec (.slli d a k) s = .next (wrote s d (BitVec.ofNat 64 (A.toNat * 2 ^ k.toNat))) ∧
    exec (.srli d a k) s = .next (wrote s d (BitVec.ofNat 64 (A.toNat / 2 ^ k.toNat))) ∧
    exec (.srai d a k) s = .next (wrote s d (BitVec.ofInt 64 (A.toInt / (2 ^ k.toNat : Nat)))) ∧
    exec (.lui d u) s = .next (wrote s d (BitVec.ofInt 64 (u.toInt * 65536))) ∧
    exec (.addpc d u) s = .next (wrote s d (BitVec.ofInt 64 (s.cur.pc.toInt + u.toInt * 65536)))

/-- R183: the products and the ordinary quotients, by integers. -/
def Obligations.ProductsAndQuotients : Prop :=
  ∀ (s : State) (d a b : Reg), let A := s.rx a; let B := s.rx b
    exec (.mul d a b) s = .next (wrote s d (BitVec.ofInt 64 (A.toInt * B.toInt))) ∧
    exec (.mulh d a b) s = .next (wrote s d (BitVec.ofInt 64 (A.toInt * B.toInt / 2 ^ 64))) ∧
    exec (.mulhu d a b) s = .next (wrote s d (BitVec.ofNat 64 (A.toNat * B.toNat / 2 ^ 64))) ∧
    (B ≠ 0 →
      exec (.div d a b) s = .next (wrote s d (BitVec.ofInt 64 (A.toInt.tdiv B.toInt))) ∧
      exec (.divu d a b) s = .next (wrote s d (BitVec.ofNat 64 (A.toNat / B.toNat))) ∧
      exec (.rem d a b) s = .next (wrote s d (BitVec.ofInt 64 (A.toInt - B.toInt * A.toInt.tdiv B.toInt))) ∧
      exec (.remu d a b) s = .next (wrote s d (BitVec.ofNat 64 (A.toNat - B.toNat * (A.toNat / B.toNat)))))

/-- R184: the borderline divisions. -/
def Obligations.BorderlineDivisions : Prop :=
  ∀ (s : State) (d a b : Reg),
    (s.rx b = 0 →
      exec (.div d a b) s = .next (wrote s d 0xFFFFFFFFFFFFFFFF#64) ∧
      exec (.divu d a b) s = .next (wrote s d 0xFFFFFFFFFFFFFFFF#64) ∧
      exec (.rem d a b) s = .next (wrote s d (s.rx a)) ∧
      exec (.remu d a b) s = .next (wrote s d (s.rx a))) ∧
    (s.rx a = 0x8000000000000000#64 ∧ s.rx b = 0xFFFFFFFFFFFFFFFF#64 →
      exec (.div d a b) s = .next (wrote s d 0x8000000000000000#64) ∧
      exec (.divu d a b) s = .next (wrote s d 0) ∧
      exec (.rem d a b) s = .next (wrote s d 0) ∧
      exec (.remu d a b) s = .next (wrote s d (s.rx a)))

/-! ### Scalar floating point -/

/-- R188, R191, R115: the FP32 arithmetic, comparisons and conversions write the result of the exact operation rounded once under FCSR.RM with zeros above bit 31 and enter their flags in FCSR; nothing else changes but the program counter. -/
def Sys2Proof.Claim.ScalarFloatResults : Prop :=
  ∀ (s : State) (d a b c : Reg),
    let va := (s.rx a).toNat % 2 ^ 32; let vb := (s.rx b).toNat % 2 ^ 32; let vc := (s.rx c).toNat % 2 ^ 32
    let x := FP32.decode va; let y := FP32.decode vb; let z := FP32.decode vc
    let rm := rmOf s.cur.c.fcsr
    let bit (r : Bool × FFlags) : Nat × FFlags := (if r.1 then 1 else 0, r.2)
    exec (.fadd d a b) s = .next (wroteF s d (FP32.add rm x y)) ∧
    exec (.fsub d a b) s = .next (wroteF s d (FP32.add rm x y.neg)) ∧
    exec (.fmul d a b) s = .next (wroteF s d (FP32.mul rm x y)) ∧
    exec (.fdiv d a b) s = .next (wroteF s d (FP32.div rm x y)) ∧
    exec (.fsqrt d a) s = .next (wroteF s d (FP32.sqrt rm x)) ∧
    exec (.fmin d a b) s = .next (wroteF s d (FP32.minmax false va vb)) ∧
    exec (.fmax d a b) s = .next (wroteF s d (FP32.minmax true va vb)) ∧
    exec (.feq d a b) s = .next (wroteF s d (bit (fpEq x y))) ∧
    exec (.flt d a b) s = .next (wroteF s d (bit (fpLt x y))) ∧
    exec (.fle d a b) s = .next (wroteF s d (bit (fpLe x y))) ∧
    exec (.fcvtfi d a) s = .next (wroteF s d
      (ofInt 64 (fpToInt rm (-9223372036854775808) 9223372036854775807 x).1, (fpToInt rm (-9223372036854775808) 9223372036854775807 x).2)) ∧
    exec (.fcvtif d a) s = .next (wroteF s d (FP32.convert rm (intFp (s.rx a).toInt))) ∧
    exec (.fma d a b c) s = .next (wroteF s d (FP32.fma rm false x y z)) ∧
    exec (.fnma d a b c) s = .next (wroteF s d (FP32.fma rm true x y z.neg)) ∧
    exec (.fms d a b c) s = .next (wroteF s d (FP32.fma rm false x y z.neg))

/-- R188, R189, R190: the moves of FP32 bits and the class word raise no flag, whatever the pattern. -/
def Sys2Proof.Claim.ScalarFloatMoves : Prop :=
  ∀ (s : State) (d a b : Reg), let A := s.rx a; let B := s.rx b
    (∃ v, exec (.fsgnj d a b) s = .next (wrote s d v) ∧
      ∀ i < 64, v.getLsbD i = (if i < 31 then A.getLsbD i else if i = 31 then B.getLsbD 31 else false)) ∧
    (∃ v, exec (.fneg d a) s = .next (wrote s d v) ∧
      ∀ i < 64, v.getLsbD i = (if i < 31 then A.getLsbD i else if i = 31 then !A.getLsbD 31 else false)) ∧
    (∃ v, exec (.fabs d a) s = .next (wrote s d v) ∧ ∀ i < 64, v.getLsbD i = (decide (i < 31) && A.getLsbD i)) ∧
    (∃ v, exec (.fclass d a) s = .next (wrote s d v) ∧
      v.extractLsb' 16 48 = 0 ∧ v.extractLsb' 8 8 = A.extractLsb' 23 8 ∧ v.extractLsb' 5 3 = 0 ∧ v.getLsbD 4 = A.getLsbD 31 ∧
      (v.extractLsb' 0 4).toNat =
        (if A.extractLsb' 23 8 = 0 then (if A.extractLsb' 0 23 = 0 then 0 else 1)
         else if A.extractLsb' 23 8 = 255 then (if A.extractLsb' 0 23 = 0 then 3 else if A.getLsbD 22 then 4 else 5)
         else 2))

/-- The rational number of a finite value. -/
def Sys2Proof.Claim.valueOf (neg : Bool) (m : Nat) (e : Int) : ℚ := (if neg then -1 else 1) * (m : ℚ) * 2 ^ e

/-- R114, R189, R191: what the FP32 operations hand to the one rounding is the exact result: the sum, the product and the fused sum as a rational number, a quotient and a root by their leading 26 or more bits and whether anything lies below them; an integer is converted from its exact value, and comparisons compare the exact values. -/
def Sys2Proof.Claim.ScalarFloatExact : Prop :=
  ∀ (rm : RMode) (n1 n2 n3 : Bool) (a b c : Nat) (e1 e2 e3 : Int),
    let x := Fp.fin n1 a e1; let y := Fp.fin n2 b e2; let z := Fp.fin n3 c e3
    let X := valueOf n1 a e1; let Y := valueOf n2 b e2; let Z := valueOf n3 c e3
    (∃ n m e, FP32.add rm x y = FP32.round rm n m e false ∧ valueOf n m e = X + Y) ∧
    (∃ n m e, FP32.mul rm x y = FP32.round rm n m e false ∧ valueOf n m e = X * Y) ∧
    (∃ n m e, FP32.fma rm false x y z = FP32.round rm n m e false ∧ valueOf n m e = X * Y + Z) ∧
    (∃ n m e, FP32.fma rm true x y z = FP32.round rm n m e false ∧ valueOf n m e = Z - X * Y) ∧
    (a ≠ 0 → b ≠ 0 → ∃ m e st, FP32.div rm x y = FP32.round rm (n1 != n2) m e st ∧ 2 ^ 25 ≤ m ∧
      (m : ℚ) * 2 ^ e ≤ |X / Y| ∧ |X / Y| < ((m : ℚ) + 1) * 2 ^ e ∧ (st = false ↔ (m : ℚ) * 2 ^ e = |X / Y|)) ∧
    (a ≠ 0 → n1 = false → ∃ m e st, FP32.sqrt rm x = FP32.round rm false m e st ∧ 2 ^ 25 ≤ m ∧
      ((m : ℚ) * 2 ^ e) ^ 2 ≤ X ∧ X < (((m : ℚ) + 1) * 2 ^ e) ^ 2 ∧ (st = false ↔ ((m : ℚ) * 2 ^ e) ^ 2 = X)) ∧
    (∀ i : Int, ∃ n m e, FP32.convert rm (intFp i) = FP32.round rm n m e false ∧ valueOf n m e = i) ∧
    (x.cmp y < 0 ↔ X < Y) ∧ (x.cmp y = 0 ↔ X = Y) ∧ (0 < x.cmp y ↔ Y < X)

/-- R114, R113 (round to nearest, ties to even): a rounded finite result in FP32, BF16 or FP16 lies no further from the exact value than any other finite code of the format, and when the exact value is a code's own it is that code with no flag. -/
def Obligations.RoundingIsNearest : Prop :=
  ∀ (f : FFmt) (num : Nat) (exp : Int) (c : Nat) (fl : FFlags), f = FP32 ∨ f = BF16 ∨ f = FP16 →
    f.round .rne false num exp false = (c, fl) → c ≤ f.maxCode →
    (∀ c' ≤ f.maxCode, ∀ (m m' : Nat) (e e' : Int), f.decode c = .fin false m e → f.decode c' = .fin false m' e' →
      |(m : ℚ) * 2 ^ e - num * 2 ^ exp| ≤ |(m' : ℚ) * 2 ^ e' - num * 2 ^ exp|) ∧
    (∀ c' ≤ f.maxCode, ∀ (m' : Nat) (e' : Int), f.decode c' = .fin false m' e' → (m' : ℚ) * 2 ^ e' = num * 2 ^ exp → c = c' ∧ fl = 0)

namespace Sys2Proof.Claim
open Machine

/-- The effective address of a scalar access: x[a] plus the signed offset, modulo 2^64 (R185). -/
def address (s : State) (a : Reg) (o : BitVec 13) : Word := BitVec.ofInt 64 ((s.rx a).toInt + o.toInt)

/-- A state whose memory, line tags, strands and front end are those of `s`: a read may change what the caches, the translation entries and the route entries hold and what packets the ports have sent, and nothing else; `mark` says what the move uses and waits for, and `lost` is the schedule of lost packets (log entries 61, 63). -/
def SameButCaches (s t : State) : Prop :=
  t = { s with
    core := t.core, cores := t.cores, dies := t.dies, fresh := t.fresh, mark := t.mark
    front := { s.front with ports := t.front.ports }, sched := { s.sched with lost := t.sched.lost } } ∧
  t.front.ports.map (fun p => { p with retry := [] }) = s.front.ports.map (fun p => { p with retry := [] }) ∧
  (∀ n, let k := s.coreAt n; t.coreAt n = { k with inb := (t.coreAt n).inb, tlb := (t.coreAt n).tlb }) ∧
  (∀ n, let d := s.dieAt n; t.dieAt n = { d with tlb := (t.dieAt n).tlb, routes := (t.dieAt n).routes })

/-- The byte `k` of an outbound buffer's bytes for a line of a strand, when the buffer holds it. -/
def pending (s : State) (core sid key : Nat) : Option Byte :=
  match (s.coreAt core).outb.find? (fun e => e.sid == sid && e.line == key / 64) with
  | some e => if e.mask.getLsbD (key % 64) then some (e.data.extractLsb' (8 * (key % 64)) 8) else none
  | none => none

/-- An instruction beyond the coming store has written the byte `key` of the outbound buffer already, as a command's data may not (R315). -/
def younger (s : State) (key : Nat) : Bool :=
  match (s.coreAt s.cur.id.core).outb.find? (fun e => e.sid == s.cur.id.sid && e.line == key / 64) with
  | some e => e.ops.any (fun o => decide (s.cur.pos + 1 < o.1) && o.2.getLsbD (key % 64))
  | none => false

/-- An instruction beyond position `pos` has written the byte `key` that a strand's outbound buffer holds (R315). -/
def writtenBeyond (s : State) (core sid pos key : Nat) : Bool :=
  match (s.coreAt core).outb.find? (fun e => e.sid == sid && e.line == key / 64) with
  | some e => e.ops.any (fun o => decide (pos < o.1) && o.2.getLsbD (key % 64))
  | none => false

/-- The outbound buffer of the strand's core has room for a store to the line of `key`; a packet that has left keeps its entry until its local completion (R353). -/
def HasRoom (s : State) (key : Nat) : Prop :=
  (s.coreAt s.cur.id.core).outb.length +
    (s.homes.wnet.filter (fun f => f.core == s.cur.id.core && f.port.isSome && f.local_.isNone && f.block.isNone)).length < 4096 ∨
  (s.coreAt s.cur.id.core).outb.any (fun e => e.sid == s.cur.id.sid && e.line == key / 64) = true

/-- What a store of `n` bytes of `v` at `key` leaves, from the state `s1` after the address was resolved: the bytes wait in the outbound buffer under the strand unless a younger instruction wrote them, every other byte that waited still waits, memory and tags are as they were, the line stands in the write log un-turned, and of the strand only the program counter, the write log and the position in program order have changed. -/
def Stored (s1 t : State) (key n : Nat) (v : Nat) : Prop :=
  t.mem = s1.mem ∧ t.tags = s1.tags ∧
  t.cur = { s1.cur with pc := s1.cur.pc + 4, wlog := t.cur.wlog, pos := s1.cur.pos + 1 } ∧
  t = { s1 with cur := t.cur, core := t.core, cores := t.cores } ∧
  (∀ k < n, younger s1 (key + k) = false → pending t s1.cur.id.core s1.cur.id.sid (key + k) = some (BitVec.ofNat 8 (v / 2 ^ (8 * k)))) ∧
  (∀ c sid a, (c ≠ s1.cur.id.core ∨ sid ≠ s1.cur.id.sid ∨ a < key ∨ key + n ≤ a) → pending t c sid a = pending s1 c sid a) ∧
  (∃ sp ∈ t.cur.wlog, sp.base ≤ key / 64 * 64 ∧ key / 64 * 64 < sp.base + sp.size ∧ sp.level = none)

/-- `p` is a target position of a supervisor line whose word 0 is `m`: word 2i of the line for a set mark bit i, bits [1:0] of the address ignored (R150, R166, R167). -/
def Marked (m : InsnWord) (p : Word) : Prop :=
  m.extractLsb' 16 16 = 0x03E0#16 ∧ m.getLsbD 0 = false ∧ ∃ i, 1 ≤ i ∧ i ≤ 15 ∧ m.getLsbD i = true ∧ p.toNat % 128 / 4 = 2 * i

/-- The 64-byte block of an instruction, and the target `n` blocks on (R152). -/
def blockAt (p : Word) (n : Int) : Word := BitVec.ofInt 64 ((p.toNat / 64 * 64 : Nat) + 64 * n)

end Sys2Proof.Claim

/-! ### Loads and stores -/

/-- R185, R186, R187: a scalar load at an aligned address that resolves and may be read writes the value, extended as its mnemonic says; memory, line tags, the write log and every register but x[d] keep their values. -/
def Obligations.LoadResults : Prop :=
  ∀ (s s1 : State) (d a : Reg) (o : BitVec 13) (v : Nat), let E := address s a o
    (s.loadAt s.me E 1 = (.ok v, s1) →
      SameButCaches s s1 ∧
      exec (.lb d a o) s = .next (wrote s1 d (BitVec.ofInt 64 (toInt 8 v))) ∧
      exec (.lbu d a o) s = .next (wrote s1 d (BitVec.ofNat 64 v))) ∧
    (E.toNat % 2 = 0 → s.loadAt s.me E 2 = (.ok v, s1) →
      SameButCaches s s1 ∧
      exec (.lh d a o) s = .next (wrote s1 d (BitVec.ofInt 64 (toInt 16 v))) ∧
      exec (.lhu d a o) s = .next (wrote s1 d (BitVec.ofNat 64 v))) ∧
    (E.toNat % 4 = 0 → s.loadAt s.me E 4 = (.ok v, s1) →
      SameButCaches s s1 ∧
      exec (.lw d a o) s = .next (wrote s1 d (BitVec.ofInt 64 (toInt 32 v))) ∧
      exec (.lwu d a o) s = .next (wrote s1 d (BitVec.ofNat 64 v))) ∧
    (E.toNat % 8 = 0 → s.loadAt s.me E 8 = (.ok v, s1) →
      SameButCaches s s1 ∧ exec (.ld d a o) s = .next (wrote s1 d (BitVec.ofNat 64 v)))

/-- R95, R82, R5: a load from the own scratchpad resolves by the block's tag and the distance from the reader to the writer, returns the bytes little-endian from memory alone, and changes nothing but what the move is marked to have used, when the die answers and no earlier write, credit or enqueue of the strand to the block is on its way; otherwise the same result waits for those (R37, R85; log entries 27, 61). The writer 0xFFF stands at distance G from every reader (DEDUCED, log entry 46). -/
def Obligations.ScratchpadLoadByTag : Prop :=
  ∀ (s : State) (off n : Nat), n = 1 ∨ n = 2 ∨ n = 4 ∨ n = 8 → off % n = 0 → off + n ≤ 2 ^ 23 → s.cur.id.core < 384 →
    (s.dieAt (s.cur.id.core / 16)).phase ≠ .failed → s.cur.id.slot < 8 →
    let key := spadKey s.cur.id.core off
    let va : Word := BitVec.ofNat 64 (0xE0 * 2 ^ 56 + off)
    let T := s.tag (key / 64)
    let data : Except XFault Nat := .ok (ofBytes (Memory.bytes s.mem key n))
    let bad (c : BitVec 10) : Except XFault Nat := .error ⟨c, va, va⟩
    let r := s.loadAt s.me va n
    (s.coreAt s.cur.id.core).early key = false →
    r.2 = { s with mark := r.2.mark } ∧
    (s.dieAnswers (s.cur.id.core / 16) = true → (s.homes.wnet.any fun f => f.entry.writer == s.cur.writer && f.entry.line == key / 64) = false →
      ((s.homes.credits ++ s.homes.enqs).any fun m => !m.there && m.line == some (key / 64) && m.cmd.writer == s.cur.writer) = false →
      (s.sched.soft.any fun e => e.1 == key / 64) = false → r.2.mark = { s.mark with used := r.2.mark.used }) ∧
    (T.state = 5 → r.1 = data) ∧
    (T.state.toNat ≤ 4 → distance s.cur.writer T.writer true ≤ T.state.toNat → r.1 = data) ∧
    (T.state.toNat ≤ 4 → T.state.toNat < distance s.cur.writer T.writer true → r.1 = bad 0x091) ∧
    (T.state = 6 → T.writer ≠ 0xFFF → r.1 = bad 0x090) ∧
    (T.state = 6 → T.writer = 0xFFF → r.1 = bad 0x092) ∧
    (T.state = 7 → r.1 = bad 0x380)

/-- R186 step 1: a scalar access whose address is no multiple of its width traps with cause 0x085 and TVAL the address, and nothing else of it takes place. -/
def Sys2Proof.Claim.MisalignedScalarTraps : Prop :=
  ∀ (s : State) (d a : Reg) (o : BitVec 13), let E := address s a o
    let trapped : Out := .next (s.trapEntry 0x085 0 false s.cur.pc E 0 s.cur.pc)
    (E.toNat % 2 ≠ 0 → exec (.lh d a o) s = trapped ∧ exec (.lhu d a o) s = trapped ∧ exec (.sh d a o) s = trapped) ∧
    (E.toNat % 4 ≠ 0 → exec (.lw d a o) s = trapped ∧ exec (.lwu d a o) s = trapped ∧ exec (.sw d a o) s = trapped) ∧
    (E.toNat % 8 ≠ 0 → exec (.ld d a o) s = trapped ∧ exec (.sd d a o) s = trapped)

/-- R185, R186, R187, R83: a scalar store whose address is aligned and resolves, with room in the outbound buffer, puts its bytes there little-endian; resolving the address changes caches alone, and memory and every line tag stay as they were. -/
def Sys2Proof.Claim.StoreEntersOutboundBuffer : Prop :=
  ∀ (s s1 : State) (d a : Reg) (o : BitVec 13) (key : Nat), let E := address s a o
    s.resolveAddr s.me E .write = (.ok key, s1) → HasRoom s1 key →
    SameButCaches s s1 ∧
    (∃ t, exec (.sb d a o) s = .next t ∧ Stored s1 t key 1 ((s.rx d).toNat % 2 ^ 8)) ∧
    (E.toNat % 2 = 0 → key % 2 = 0 → ∃ t, exec (.sh d a o) s = .next t ∧ Stored s1 t key 2 ((s.rx d).toNat % 2 ^ 16)) ∧
    (E.toNat % 4 = 0 → key % 4 = 0 → ∃ t, exec (.sw d a o) s = .next t ∧ Stored s1 t key 4 ((s.rx d).toNat % 2 ^ 32)) ∧
    (E.toNat % 8 = 0 → key % 8 = 0 → ∃ t, exec (.sd d a o) s = .next t ∧ Stored s1 t key 8 (s.rx d).toNat)

/-- R88: the tag that a write leaves, by the tag before it, the writer and whether the whole line is written; a partial write to a poisoned line is discarded. A landed write replaces exactly the masked bytes of its line and no other byte of memory; the mark says which die it uses, whether that sleeps, and whether the line has a codeword to correct first (R37, R426; log entries 27, 61). That a tag holds the number of the module that wrote it is read from R10 and R87 (log entry 14). -/
def Obligations.LandedWrite : Prop :=
  ∀ (s : State) (l : Nat) (w : BitVec 12) (mask : BitVec 64) (data : Line), isSpad (64 * l) = false →
    let T := s.tag l
    let own := s.front.modnum
    let whole : Prop := mask = BitVec.allOnes 64
    let m := ((s.touch (64 * l)).decodes l 2 w).mark
    let put (t : State) (wr : BitVec 12) : Prop :=
      s.landAt l w mask data = (true, t) ∧ t = { s with mem := t.mem, tags := t.tags, mark := m } ∧
      t.tag l = ⟨6, wr, T.gen + 1, own⟩ ∧ (∀ m, m ≠ l → t.tag m = s.tag m) ∧
      ∀ a, t.byte a = (if a / 64 = l ∧ mask.getLsbD (a % 64) = true then data.extractLsb' (8 * (a % 64)) 8 else s.byte a)
    Inv s →
    (T.state.toNat ≤ 5 → ∃ t, put t w) ∧
    (T.state = 6 → (whole ∨ (T.writer = w ∧ T.wmod = own)) → ∃ t, put t w) ∧
    (T.state = 6 → ¬ whole → ¬ (T.writer = w ∧ T.wmod = own) → ∃ t, put t 0xFFF) ∧
    (T.state = 7 → whole → ∃ t, put t w) ∧
    (T.state = 7 → ¬ whole → s.landAt l w mask data = (false, { s with mark := m }))

/-! ### Branches, jumps and calls -/

/-- R192: a branch of any strand whose condition does not hold goes on to the next word, whatever its target. -/
def Sys2Proof.Claim.BranchesNotTaken : Prop :=
  ∀ (s : State) (a b : Reg) (o : BitVec 13), let A := s.rx a; let B := s.rx b
    (A ≠ B → exec (.beq a b o) s = .next (went s)) ∧
    (A = B → exec (.bne a b o) s = .next (went s)) ∧
    (B.toInt ≤ A.toInt → exec (.blt a b o) s = .next (went s)) ∧
    (A.toInt < B.toInt → exec (.bge a b o) s = .next (went s)) ∧
    (B.toNat ≤ A.toNat → exec (.bltu a b o) s = .next (went s)) ∧
    (A.toNat < B.toNat → exec (.bgeu a b o) s = .next (went s))

/-- R192, R152: in a user strand a conditional branch goes to its block target when its condition holds and to the next word when it does not; JMP always goes. Nothing but the program counter changes. -/
def Sys2Proof.Claim.UserBranches : Prop :=
  ∀ (s : State) (a b : Reg) (o : BitVec 13) (j : BitVec 26), s.cur.sup = false →
    let A := s.rx a; let B := s.rx b
    let go (c : Prop) [Decidable c] : Out := .next (if c then atPc s (blockAt s.cur.pc o.toInt) else went s)
    exec (.beq a b o) s = go (A = B) ∧
    exec (.bne a b o) s = go (A ≠ B) ∧
    exec (.blt a b o) s = go (A.toInt < B.toInt) ∧
    exec (.bge a b o) s = go (B.toInt ≤ A.toInt) ∧
    exec (.bltu a b o) s = go (A.toNat < B.toNat) ∧
    exec (.bgeu a b o) s = go (B.toNat ≤ A.toNat) ∧
    exec (.jmp j) s = .next (atPc s (blockAt s.cur.pc j.toInt))

/-- R193, R194, R165: user calls and register jumps: x31 receives the next block, CALLR reads x[a] before it writes x31, and a target that is no multiple of 64 traps with cause 0x010 and changes neither x31 nor the program counter otherwise. -/
def Sys2Proof.Claim.UserCallsAndReturns : Prop :=
  ∀ (s : State) (a : Reg) (j : BitVec 26), s.cur.sup = false →
    let link (t : State) : State := { t with cur := { t.cur with x := t.cur.x.set 31 (blockAt s.cur.pc 1) } }
    exec (.call j) s = .next (atPc (link s) (blockAt s.cur.pc j.toInt)) ∧
    ((s.rx a).toNat % 64 = 0 →
      exec (.jr a) s = .next (atPc s (s.rx a)) ∧ exec (.callr a) s = .next (atPc (link s) (s.rx a))) ∧
    ((s.rx a).toNat % 64 ≠ 0 →
      exec (.jr a) s = .next (s.trapEntry 0x010 0 false s.cur.pc (s.rx a) 0 s.cur.pc) ∧
      exec (.callr a) s = .next (s.trapEntry 0x010 0 false s.cur.pc (s.rx a) 0 s.cur.pc))

/-- R167: a supervisor transfer is permitted exactly when its target is word 2i of a line whose marker sets bit i, i ≥ 1; a target that is no such word is refused whatever the line holds. -/
def Sys2Proof.Claim.MarkedTargets : Prop :=
  ∀ (s s1 : State) (p : Word) (m : InsnWord),
    (p.toNat % 128 / 4 % 2 ≠ 0 ∨ p.toNat % 128 / 4 = 0 → s.target s.me p = (.refused, s)) ∧
    (p.toNat % 128 / 4 % 2 = 0 → p.toNat % 128 / 4 ≠ 0 → s.fetch s.me (p &&& ~~~127#64) = (.ok m, s1) →
      (Marked m p → s.target s.me p = (.marked, s1)) ∧ (¬ Marked m p → s.target s.me p = (.refused, s1)))

/-- R167, R193, R194: a supervisor transfer to a permitted target completes, a call with the next target position after it in x31; one to any other target traps with cause 0x011 and TVAL the target (the line address where the line has no marker), with x31 and the program counter as they were. A target whose marker cannot be read lets the transfer complete, and the fetch there takes the fault. -/
def Sys2Proof.Claim.SupervisorTransfers : Prop :=
  ∀ (s s1 : State) (a b : Reg) (o : BitVec 13) (j : BitVec 26), s.cur.sup = true →
    let w := s.cur.pc.toNat % 128 / 4
    let ret : Word := if 29 < w then (s.cur.pc &&& ~~~127#64) + 136 else (s.cur.pc &&& ~~~127#64) + BitVec.ofNat 64 (8 * (w / 2 + 1))
    let link (t : State) : State := { t with cur := { t.cur with x := t.cur.x.set 31 ret } }
    let tval (p : Word) : Word :=
      match (s.fetch s.me (p &&& ~~~127#64)).1 with
      | .ok m => if isMarker m then p else p &&& ~~~127#64
      | .error _ => p
    let no (t : State) (p : Word) : Out := .next (t.trapEntry 0x011 0 false s.cur.pc (tval p) 0 s.cur.pc)
    let into (t : State) (p : Word) (l : Landing) : State :=
      { t with cur := { t.cur with pc := p &&& ~~~3#64, entry := decide (l = .unread) } }
    ∀ l, l ≠ .refused →
    (∀ p, p = blockAt s.cur.pc o.toInt → ∀ go, (s.target s.me p = (l, s1) ∧ go = .next (into s1 p l)) ∨ (s.target s.me p = (.refused, s1) ∧ go = no s1 p) →
      (s.rx a = s.rx b → exec (.beq a b o) s = go) ∧
      (s.rx a ≠ s.rx b → exec (.bne a b o) s = go) ∧
      ((s.rx a).toInt < (s.rx b).toInt → exec (.blt a b o) s = go) ∧
      ((s.rx b).toInt ≤ (s.rx a).toInt → exec (.bge a b o) s = go) ∧
      ((s.rx a).toNat < (s.rx b).toNat → exec (.bltu a b o) s = go) ∧
      ((s.rx b).toNat ≤ (s.rx a).toNat → exec (.bgeu a b o) s = go)) ∧
    (∀ p, p = blockAt s.cur.pc j.toInt →
      (s.target s.me p = (l, s1) → exec (.jmp j) s = .next (into s1 p l) ∧ exec (.call j) s = .next (into (link s1) p l)) ∧
      (s.target s.me p = (.refused, s1) → exec (.jmp j) s = no s1 p ∧ exec (.call j) s = no s1 p)) ∧
    (∀ p, p = s.rx a →
      (s.target s.me p = (l, s1) → exec (.jr a) s = .next (into s1 p l) ∧ exec (.callr a) s = .next (into (link s1) p l)) ∧
      (s.target s.me p = (.refused, s1) → exec (.jr a) s = no s1 p ∧ exec (.callr a) s = no s1 p))

namespace Sys2Proof.Claim
open Machine

/-- A precise trap of the issuing strand's instruction with a cause of class 0x000: TVAL is its word, and it has had no effect (R163, R386). -/
def refused (s : State) (code : BitVec 10) (i : Instr) : Out :=
  .next (s.trapEntry code 0 false s.cur.pc ((encode i).setWidth 64) 0 s.cur.pc)

/-- The CSR numbers of R170, by who may read and write them. -/
def userAndSupervisor : List Nat := [0x001, 0x002, 0x003, 0x004, 0x011, 0x012, 0x013, 0x020, 0x021, 0x022, 0x040, 0x041, 0x060]
def supervisorWrites : List Nat := [0x000, 0x010, 0x018, 0x031, 0x032, 0x033, 0x034, 0x068, 0x069]
def nobodyWrites : List Nat :=
  [0x005, 0x006, 0x030, 0x042, 0x050, 0x051, 0x052, 0x053, 0x054, 0x055, 0x056, 0x057, 0x058, 0x059, 0x05A, 0x05B, 0x05C, 0x05D, 0x05E, 0x05F]
def supervisorOnly : List Nat :=
  [0x100, 0x101, 0x102, 0x103, 0x104, 0x105, 0x106, 0x108, 0x109, 0x10A, 0x10B, 0x10C, 0x10D, 0x10E, 0x10F, 0x110, 0x111, 0x200]

/-- A strand that nothing interrupts at issue: no record waits for delivery and no pre-emption request stands. -/
def Undisturbed (s : State) : Prop := s.cur.records = [] ∧ s.cur.request = none

/-- The entry frame, x12 to x19 of the interrupted context, 64 bytes at offset 0x40 of the save area (R393). -/
def frameKey (s : State) : Nat := s.cur.id.save.toNat % 2 ^ 42 + 0x40

/-- The register that frame byte `k` belongs to holds `x` there. -/
def FrameHolds (t : State) (x : Vector Word 32) : Prop :=
  ∀ i < 8, ∀ k < 8, t.byte (frameKey t + 8 * i + k) = (x.getD (12 + i) 0).extractLsb' (8 * k) 8

/-- A translation entry that covers an address under an ASID. -/
def covers (e : TlbEntry) (va : Nat) (asid : BitVec 16) (any : Bool) : Bool :=
  decide (e.va ≤ va) && decide (va < e.va + e.size) && (any || e.asid == asid || e.leaf.getLsbD 7)

/-- Nothing of a die waits for a page: no Relay arrival and no copy command of its cores is parked (R362, R424). -/
def NothingParked (s : State) (die : Nat) : Prop :=
  (s.dieAt die).parked = [] ∧
  ∀ core ch, core / 16 = die → ((s.chanAt core ch).queue.head?).bind CopyCmd.park = none

end Sys2Proof.Claim

/-! ### Control and status registers -/

/-- R170, R171, R405: who may access which CSR. An unassigned number is cause 0x001; a supervisor register is cause 0x002 to a user strand whatever the value written, and so is a user's write of one that only the supervisor may write; a write of one that nobody may write is cause 0x001. CSRS and CSRC of x0 count as reads. Each is precise, with TVAL the instruction word. -/
def Sys2Proof.Claim.CsrAccessRules : Prop :=
  ∀ (s : State) (d a i : BitVec 5) (c : BitVec 12),
    let writes (code : BitVec 10) : Prop :=
      exec (.csrw d a c) s = refused s code (.csrw d a c) ∧
      exec (.csrwi d i c) s = refused s code (.csrwi d i c) ∧
      (a ≠ 0 → exec (.csrs d a c) s = refused s code (.csrs d a c) ∧ exec (.csrc d a c) s = refused s code (.csrc d a c))
    let reads (code : BitVec 10) : Prop :=
      exec (.csrr d c) s = refused s code (.csrr d c) ∧
      exec (.csrs d 0 c) s = refused s code (.csrs d 0 c) ∧
      exec (.csrc d 0 c) s = refused s code (.csrc d 0 c)
    (c.toNat ∉ userAndSupervisor ++ supervisorWrites ++ nobodyWrites ++ supervisorOnly → reads 0x001 ∧ writes 0x001) ∧
    (c.toNat ∈ supervisorOnly → s.cur.sup = false → reads 0x002 ∧ writes 0x002) ∧
    (c.toNat ∈ supervisorWrites → s.cur.sup = false → writes 0x002) ∧
    (c.toNat ∈ nobodyWrites → writes 0x001)

/-- R196, R170: a permitted read writes the CSR's value to x[d]; a permitted write also stores the new value, formed from the value before the instruction, when it puts no reserved code into a field, and x[d] receives the old value; a reserved code is cause 0x001 and stores nothing. TEN and DBGCTL have statements of their own. A lane-group counter beyond the grant reads 0 (R390). -/
def Sys2Proof.Claim.CsrReadsAndWrites : Prop :=
  ∀ (s : State) (d a i : BitVec 5) (c : BitVec 12), let old := s.csrRead c; let A := s.rx a
    let put (v : Word) (w : Instr) : Out := if csrCodeOk c v then .next (wrote (s.csrStore c v) d old) else refused s 0x001 w
    (c.toNat ∈ userAndSupervisor ++ supervisorWrites ++ nobodyWrites ∨ (s.cur.sup = true ∧ c.toNat ∈ supervisorOnly) →
      exec (.csrr d c) s = .next (wrote s d old) ∧
      exec (.csrs d 0 c) s = .next (wrote s d old) ∧
      exec (.csrc d 0 c) s = .next (wrote s d old)) ∧
    (c.toNat ∈ userAndSupervisor ∨ (s.cur.sup = true ∧ c.toNat ∈ supervisorWrites ++ supervisorOnly) → c ≠ 0x011 → c ≠ 0x200 →
      exec (.csrw d a c) s = put A (.csrw d a c) ∧
      exec (.csrwi d i c) s = put (i.setWidth 64) (.csrwi d i c) ∧
      (a ≠ 0 → exec (.csrs d a c) s = put (old ||| A) (.csrs d a c)) ∧
      (a ≠ 0 → exec (.csrc d a c) s = put (old &&& ~~~A) (.csrc d a c))) ∧
    (s.cur.sup = true → ∀ g < 8, (s.cur.grant + 15) / 16 ≤ g → exec (.csrr d (0x108 + BitVec.ofNat 12 g)) s = .next (wrote s d 0))

/-- R170, R388 to R390, R443: what each CSR reads as. VLMAX follows from the grant and EW (R44), DCLKR has bit 63 set, SSTATUS counts the records in the ring in bits [9:4], and DBGCTL shows in bits [7:0] the slots whose strands stand halted and saved and in [23:16] those in a debug step. -/
def Sys2Proof.Claim.CsrValuesRead : Prop :=
  ∀ (s : State), let r := s.cur.c
    let in_ (k : Nat) (p : Strand → Bool) : Bool := s.all.any (fun t => p t && t.id.core == s.core.id && t.id.slot == k)
    (s.csrRead 0x000 = r.vl ∧ s.csrRead 0x001 = r.vtype ∧ s.csrRead 0x002 = r.vm ∧ s.csrRead 0x003 = r.vstr ∧ s.csrRead 0x004 = r.vstart ∧
      s.csrRead 0x005 = BitVec.ofNat 64 (s.cur.grant * 64 / (16 * 2 ^ (r.vtype.extractLsb' 0 2).toNat)) ∧
      s.csrRead 0x006 = BitVec.ofNat 64 s.cur.grant) ∧
    (s.csrRead 0x010 = r.tshape ∧ s.csrRead 0x011 = r.ten ∧ s.csrRead 0x012 = r.tpitch ∧ s.csrRead 0x013 = r.tprec ∧
      s.csrRead 0x018 = r.sigcfg ∧ s.csrRead 0x020 = r.cgroup ∧ s.csrRead 0x021 = r.cop ∧ s.csrRead 0x022 = r.cstride) ∧
    (s.csrRead 0x030 = s.dclkw.setWidth 64 ∧ (s.csrRead 0x031).getLsbD 63 = true ∧ (s.csrRead 0x031).extractLsb' 0 63 = r.dclkr ∧
      s.csrRead 0x032 = s.core.dlcap ∧ s.csrRead 0x033 = s.core.escal ∧ s.csrRead 0x034 = r.tocnt ∧
      s.csrRead 0x040 = r.widbase ∧ s.csrRead 0x041 = r.widcnt ∧ s.csrRead 0x042 = r.launchid ∧
      s.csrRead 0x060 = r.fcsr ∧ s.csrRead 0x068 = s.core.vlbase ∧ s.csrRead 0x069 = s.core.vlsize) ∧
    (∀ k : Fin 8, s.csrRead (0x050 + BitVec.ofNat 12 k.val) = s.core.chans[k].wm ∧ s.csrRead (0x058 + BitVec.ofNat 12 k.val) = s.core.chans[k].rng ∧
      (k.val < (s.cur.grant + 15) / 16 → s.csrRead (0x108 + BitVec.ofNat 12 k.val) = r.tlg[k])) ∧
    (s.csrRead 0x100 = r.tcause ∧ s.csrRead 0x101 = r.tpc ∧ s.csrRead 0x102 = r.tval ∧ s.csrRead 0x103 = r.trec ∧ s.csrRead 0x105 = r.tvec ∧
      s.csrRead 0x106 = r.epc ∧ s.csrRead 0x110 = r.ptroot ∧ s.csrRead 0x111 = r.asid) ∧
    ((s.csrRead 0x104).extractLsb' 4 6 = BitVec.ofNat 6 (s.cur.records.countP (fun q => decide (q.ring < 16))) ∧
      ∀ i, i < 4 ∨ 10 ≤ i → (s.csrRead 0x104).getLsbD i = r.sstatus.getLsbD i) ∧
    (∀ k < 8,
      (s.csrRead 0x200).getLsbD k = in_ k (fun t => t.dbg && (match t.run with | .away _ _ => true | _ => false)) ∧
      (s.csrRead 0x200).getLsbD (8 + k) = s.core.dbgctl.getLsbD (8 + k) ∧
      (s.csrRead 0x200).getLsbD (16 + k) = (s.core.dbgctl.getLsbD (16 + k) && in_ k (fun t => t.live && t.stepping)) ∧
      (s.csrRead 0x200).getLsbD (24 + k) = s.core.dbgctl.getLsbD (24 + k))

/-- The configurations of the table of R271: N, DC, CELLS. -/
def Sys2Proof.Claim.signatureTable : List (Nat × Nat × Nat) :=
  [(0, 0, 0), (1, 0, 64), (1, 1, 64), (1, 2, 64), (1, 3, 64), (2, 0, 128), (2, 1, 128), (2, 2, 128), (2, 3, 320), (3, 0, 192), (3, 1, 192), (3, 2, 640)] ++
  [(3, 3, 4416), (4, 0, 256), (4, 1, 448), (4, 2, 4736), (5, 0, 320), (5, 1, 1472), (5, 2, 37504), (6, 0, 384), (6, 1, 5568), (7, 0, 512), (7, 1, 21952), (8, 0, 768)]

/-- R173, R226, R262, R271, R301, R388: the values that put a reserved code into a field: EW 3 and SCOPE above 4 of VTYPE, a shape beyond 64, 64 and 256 of TSHAPE, P outside 2 to 16 of TPREC, a signature that the table of R271 does not hold of SIGCFG, FMT above 1 and OP above 6 of COP, DELIV 3 of TCAUSE; no value of another CSR. -/
def Sys2Proof.Claim.ReservedCsrCodes : Prop :=
  ∀ (v : Word), let f (lo len : Nat) : Nat := v.toNat / 2 ^ lo % 2 ^ len
    (csrCodeOk 0x001 v = true ↔ f 0 2 ≠ 3 ∧ f 2 3 ≤ 4) ∧
    (csrCodeOk 0x010 v = true ↔ f 0 7 ≤ 64 ∧ f 8 7 ≤ 64 ∧ f 16 9 % 32 = 0 ∧ f 16 9 ≤ 256) ∧
    (csrCodeOk 0x013 v = true ↔ 2 ≤ f 0 5 ∧ f 0 5 ≤ 16) ∧
    (csrCodeOk 0x018 v = true ↔ (f 0 4, f 8 2, f 16 17) ∈ signatureTable) ∧
    (csrCodeOk 0x021 v = true ↔ f 4 2 ≤ 1 ∧ f 0 4 ≤ 6) ∧
    (csrCodeOk 0x100 v = true ↔ f 11 2 ≠ 3) ∧
    (∀ c : BitVec 12, c ≠ 0x001 → c ≠ 0x010 → c ≠ 0x013 → c ≠ 0x018 → c ≠ 0x021 → c ≠ 0x100 → csrCodeOk c v = true)

/-- R173, R196, R226, R262, R271, R280, R301, R388, R390: what a CSR write stores: the value with reserved and read-only bits as they must be, in that register and nowhere else. -/
def Sys2Proof.Claim.CsrStoredValues : Prop :=
  ∀ (s : State) (v : Word),
    let r := s.cur.c
    let put (c : Csrs) : State := { s with cur := { s.cur with c := c } }
    s.csrStore 0x002 v = put { r with vm := v &&& 0x3F#64 } ∧
    s.csrStore 0x003 v = put { r with vstr := v } ∧
    s.csrStore 0x004 v = put { r with vstart := v &&& 0x3FF#64 } ∧
    s.csrStore 0x010 v = put { r with tshape := v &&& 0x01FF7F7F#64 } ∧
    s.csrStore 0x012 v = put { r with tpitch := v &&& 0x0000FFFFFCFFFFFC#64 } ∧
    s.csrStore 0x013 v = put { r with tprec := v &&& 0x1F#64 } ∧
    s.csrStore 0x018 v = put { r with sigcfg := v &&& 0x1FFFF030F#64 } ∧
    s.csrStore 0x020 v = { s with cur := { s.cur with c := { r with cgroup := v &&& 0xFFFFFFFF07FFFFFF#64 }, group := none } } ∧
    s.csrStore 0x021 v = put { r with cop := v &&& 0x07FFFFFF0000003F#64 } ∧
    s.csrStore 0x022 v = put { r with cstride := v &&& 0xFFFFFFC0#64 } ∧
    s.csrStore 0x031 v = put { r with dclkr := v.extractLsb' 0 63 } ∧
    s.csrStore 0x032 v = { s with core := { s.core with dlcap := v &&& 0x7FFFFFFFFFFFFFFF#64 } } ∧
    s.csrStore 0x033 v = { s with core := { s.core with escal := v &&& 0xFFFFFFFF#64 } } ∧
    s.csrStore 0x034 v = put { r with tocnt := v &&& 0xFFFFFFFF#64 } ∧
    s.csrStore 0x040 v = put { r with widbase := v } ∧
    s.csrStore 0x041 v = put { r with widcnt := v } ∧
    s.csrStore 0x060 v = put { r with fcsr := if (v.extractLsb' 5 3).toNat ≤ 4 then v &&& 0xFF#64 else v &&& 0x1F#64 } ∧
    s.csrStore 0x100 v = put { r with tcause := v &&& 0x1FFF#64 } ∧
    s.csrStore 0x101 v = put { r with tpc := v } ∧
    s.csrStore 0x102 v = put { r with tval := v } ∧
    s.csrStore 0x103 v = put { r with trec := v } ∧
    s.csrStore 0x104 v = put { r with sstatus := (r.sstatus &&& ~~~0xA#64) ||| (v &&& 0xA#64) } ∧
    s.csrStore 0x105 v = put { r with tvec := v &&& ~~~3#64 } ∧
    s.csrStore 0x106 v = put { r with epc := v } ∧
    s.csrStore 0x110 v = put { r with ptroot := v &&& 0x0FFFFFFFFFFF0000#64 } ∧
    s.csrStore 0x111 v = put { r with asid := v &&& 0xFFFF#64 } ∧
    (∀ g : Fin 8, s.csrStore (0x108 + BitVec.ofNat 12 g.val) v = put { r with tlg := r.tlg.set g.val (v &&& 0x80000000000003FF#64) })

/-- R73: VLBASE and VLSIZE keep multiples of 64 below 8 GiB and up to 8 GiB, and a write of either trims VLSIZE so that the vault window never ends beyond the vault's 8 GiB; nothing else changes. -/
def Sys2Proof.Claim.VaultWindowWrites : Prop :=
  ∀ (s : State) (v : Word),
    let put (base size : Word) : State :=
      { s with core := { s.core with vlbase := base, vlsize := if base.toNat + size.toNat ≤ 2 ^ 33 then size else BitVec.ofNat 64 (2 ^ 33 - base.toNat) } }
    s.csrStore 0x068 v = put (v &&& 0x1FFFFFFC0#64) s.core.vlsize ∧
    s.csrStore 0x069 v = put s.core.vlbase (v &&& 0x3FFFFFFC0#64)

/-- R443, R444: a write of DBGCTL by a supervisor strand, with no other strand in the core: bits [15:13] and the HALT bits but the writer's own are stored, the writer's own stays as it stood and so does the bit of its own step, every other bit is zero, and x[d] receives the old value; a HALT bit of a slot with no strand does nothing more. With another strand resident in a slot whose HALT bit is set, running outside a handler and not halted before, that strand is being saved as kind 3 and keeps its slot. -/
def Sys2Proof.Claim.DbgctlWrites : Prop :=
  ∀ (s : State) (d a : Reg), s.cur.sup = true → s.cur.run = .running → s.cur.id.core = s.core.id → s.cur.id.slot < 8 → s.cur.id.sid ≠ 0 →
    let own : Word := 1#64 <<< (24 + s.cur.id.slot)
    let step : Word := if s.cur.stepping = true ∧ s.core.dbgctl &&& own ≠ 0 then s.core.dbgctl &&& (1#64 <<< (16 + s.cur.id.slot)) else 0
    let new : Word := (s.rx a &&& 0xFF00E000#64 &&& ~~~own) ||| (s.core.dbgctl &&& own) ||| step
    let put : State := { s with core := { s.core with dbgctl := new } }
    ((∀ u ∈ s.strands, u.id.core ≠ s.core.id) → exec (.csrw d a 0x200) s = .next (wrote put d (s.csrRead 0x200))) ∧
    (∀ u, s.strands = [u] → u.id.core = s.core.id → u.id.slot < 8 → u.id.slot ≠ s.cur.id.slot → u.id.sid ≠ s.cur.id.sid → u.id.sid ≠ 0 →
      u.run = .running → u.nest = false → u.dbg = false → u.stepping = false → u.areaOk = true →
      ((s.rx a).getLsbD (24 + u.id.slot) = false → exec (.csrw d a 0x200) s = .next (wrote put d (s.csrRead 0x200))) ∧
      ((s.rx a).getLsbD (24 + u.id.slot) = true → ∃ t u', exec (.csrw d a 0x200) s = .next t ∧ t.core.dbgctl = new ∧
        t.strand u.id.sid = some u' ∧ u'.dbg = true ∧ u'.run = .saving .forced none ∧ u'.pc = u.pc ∧ u'.x = u.x ∧ u'.v = u.v ∧ t.mem = s.mem))

/-- R173, R174, R44: a write of VL stores at most VLMAX; a write of VTYPE that changes EW recomputes VLMAX and trims VL to it, and one that leaves EW leaves VL. -/
def Sys2Proof.Claim.VectorLengthWrites : Prop :=
  ∀ (s : State) (v : Word),
    let lim (t : Word) : Nat := s.cur.grant * 64 / (16 * 2 ^ (t.extractLsb' 0 2).toNat)
    (∃ t, s.csrStore 0x000 v = t ∧ t.cur.c.vl.toNat = min (v.extractLsb' 0 10).toNat (lim s.cur.c.vtype) ∧
      t = { s with cur := { s.cur with c := { s.cur.c with vl := t.cur.c.vl } } }) ∧
    (∃ t, s.csrStore 0x001 v = t ∧ t.cur.c.vtype = v &&& 0xFF#64 ∧
      (v.extractLsb' 0 2 = s.cur.c.vtype.extractLsb' 0 2 → t.cur.c.vl = s.cur.c.vl) ∧
      (v.extractLsb' 0 2 ≠ s.cur.c.vtype.extractLsb' 0 2 → lim v < (s.cur.c.vl.extractLsb' 0 10).toNat → t.cur.c.vl.toNat = lim v) ∧
      (v.extractLsb' 0 2 ≠ s.cur.c.vtype.extractLsb' 0 2 → (s.cur.c.vl.extractLsb' 0 10).toNat ≤ lim v → t.cur.c.vl = s.cur.c.vl) ∧
      t = { s with cur := { s.cur with c := { s.cur.c with vtype := t.cur.c.vtype, vl := t.cur.c.vl } } })

/-- R41, R254, R255, R399: a write that sets TEN.EN takes a free tile store; a user strand that sets it while another strand holds the store takes cause 0x284 with TVAL the holder's writer id; a write that clears it gives the store up once the strand has no engine command. -/
def Sys2Proof.Claim.TileStoreHolding : Prop :=
  ∀ (s : State) (d a : Reg),
    ((s.rx a).getLsbD 0 = true → s.cur.c.ten.getLsbD 0 = false → s.core.clearing = false → s.core.holder = none →
      exec (.csrw d a 0x011) s =
        .next (wrote { s with cur := { s.cur with c := { s.cur.c with ten := 1 } }, core := { s.core with holder := some s.cur.id.sid } } d s.cur.c.ten)) ∧
    (∀ h, (s.rx a).getLsbD 0 = true → s.cur.c.ten.getLsbD 0 = false → s.core.clearing = false → s.core.holder.bind s.strand = some h →
      s.cur.sup = false →
      exec (.csrw d a 0x011) s = .next (s.trapEntry 0x284 0 false s.cur.pc (h.writer.setWidth 64) 0 s.cur.pc)) ∧
    ((s.rx a).getLsbD 0 = false → s.cur.c.ten.getLsbD 0 = true → s.cur.records = [] → s.tilesOut s.cur = 0 →
      exec (.csrw d a 0x011) s =
        .next (wrote { s with cur := { s.cur with c := { s.cur.c with ten := 0 } }, core := { s.core with holder := none } } d s.cur.c.ten))

/-! ### Vector configuration -/

/-- R55, R198, R60: SETVL grants the smaller of the requested count and VLMAX, SETVLMAX grants VLMAX: VL and x[d] receive the grant and VSTART becomes 0, when no request stands and no watermark holds the strand back. -/
def Sys2Proof.Claim.SetvlGrants : Prop :=
  ∀ (s : State) (d a : Reg), s.cur.request = none → s.cur.run = .running →
    let lim : Nat := s.cur.grant * 64 / (16 * 2 ^ (s.cur.c.vtype.extractLsb' 0 2).toNat)
    let free (g : Nat) : Prop := s.cur.id.producer = 0 ∨ g = 0 ∨ s.cur.c.widbase.toNat + g ≤ (s.producerW s.cur.id.producer).1
    let granted (g : Nat) : Out := .next (wrote { s with cur := { s.cur with
        c := { s.cur.c with vl := BitVec.ofNat 64 g, vstart := 0 }, hold := none } } d (BitVec.ofNat 64 g))
    (free (min (s.rx a).toNat lim) → exec (.setvl d a) s = granted (min (s.rx a).toNat lim)) ∧
    (free lim → exec (.setvlmax d) s = granted lim)

/-- R60, R62, R64, R198: a strand whose producer's watermark has not reached WIDBASE + g is held at its SETVL with VL, VSTART and x[d] unchanged, or traps with cause 0x182 at once when the producer has failed. -/
def Sys2Proof.Claim.SetvlHolds : Prop :=
  ∀ (s : State) (d a : Reg), s.cur.request = none →
    let g := min (s.rx a).toNat (s.cur.grant * 64 / (16 * 2 ^ (s.cur.c.vtype.extractLsb' 0 2).toNat))
    let need := s.cur.c.widbase.toNat + g
    s.cur.id.producer ≠ 0 → g ≠ 0 → (s.producerW s.cur.id.producer).1 < need →
    ((s.producerW s.cur.id.producer).2 = true →
      exec (.setvl d a) s = .next ({ s with cur := { s.cur with hold := none, run := .running } }.trapEntry 0x182 0 false s.cur.pc (BitVec.ofNat 64 need) 0 s.cur.pc)) ∧
    ((s.producerW s.cur.id.producer).2 = false → s.cur.hold = none → 0 < min (s.cur.id.depdl.toNat % 2 ^ 63) (s.core.dlcap.toNat % 2 ^ 63) →
      ∃ t h, exec (.setvl d a) s = .next t ∧ t = { s with cur := { s.cur with hold := some h, run := .holding } } ∧
        h.widbase = s.cur.c.widbase ∧ h.need = need ∧
        h.deadline.onRun = s.cur.id.depdl.getLsbD 63 ∧
        h.deadline.tick = (if s.cur.id.depdl.getLsbD 63 then s.cur.c.dclkr.toNat else s.dclkw.toNat) +
          min (s.cur.id.depdl.toNat % 2 ^ 63) (s.core.dlcap.toNat % 2 ^ 63))

/-- R201, R171: SETTYPE and SETTYPEI write VTYPE as a CSR write does and return the new VLMAX; a reserved EW or SCOPE is cause 0x001 and changes nothing. -/
def Sys2Proof.Claim.SettypeResults : Prop :=
  ∀ (s : State) (d a : Reg) (i : BitVec 8),
    let okay (v : BitVec 8) : Prop := v.extractLsb' 0 2 ≠ 3 ∧ (v.extractLsb' 2 3).toNat ≤ 4
    let lim (v : BitVec 8) : Word := BitVec.ofNat 64 (s.cur.grant * 64 / (16 * 2 ^ (v.extractLsb' 0 2).toNat))
    (okay ((s.rx a).extractLsb' 0 8) →
      exec (.settype d a) s = .next (wrote (s.csrStore 0x001 (((s.rx a).extractLsb' 0 8).setWidth 64)) d (lim ((s.rx a).extractLsb' 0 8)))) ∧
    (okay i → exec (.settypei d i) s = .next (wrote (s.csrStore 0x001 (i.setWidth 64)) d (lim i))) ∧
    (¬ okay ((s.rx a).extractLsb' 0 8) → exec (.settype d a) s = refused s 0x001 (.settype d a)) ∧
    (¬ okay i → exec (.settypei d i) s = refused s 0x001 (.settypei d i))

/-! ### Traps and the SYS instructions -/

/-- What trap entry saves of a state before it goes to TVEC (R386, R393): TCAUSE, TPC, TVAL, TREC and EPC; PPRIV takes PRIV, PRIV and NEST become 1 and TLGV takes ELEM; x12 to x19 stand in the entry frame of the save area. No other byte of memory changes, and no register but these; whatever the strand waited for at issue is over. -/
def Sys2Proof.Claim.EntrySaved (s u : State) (code : BitVec 10) (deliv : Nat) (elem : Bool) (tpc tval rec resume : Word) : Prop :=
  u.cur.c.tcause.toNat = deliv * 2048 + (if elem then 1024 else 0) + code.toNat ∧
  u.cur.c.sstatus.getLsbD 0 = true ∧ u.cur.c.sstatus.getLsbD 1 = s.cur.c.sstatus.getLsbD 0 ∧
  u.cur.c.sstatus.getLsbD 2 = true ∧ u.cur.c.sstatus.getLsbD 3 = elem ∧
  (∀ i, 4 ≤ i → u.cur.c.sstatus.getLsbD i = s.cur.c.sstatus.getLsbD i) ∧
  u.cur = { s.cur with
    c := { s.cur.c with tcause := u.cur.c.tcause, tpc := tpc, tval := tval, trec := rec, epc := resume, sstatus := u.cur.c.sstatus }
    run := .running, stall := none, due := none, entry := false, blockedOn := none, haltTurned := 0, nestAt := s.cur.stay
    repeats := u.cur.repeats, repEpc := resume, repCode := code } ∧
  FrameHolds u s.cur.x ∧
  (∀ a, a < frameKey s ∨ frameKey s + 64 ≤ a → u.byte a = s.byte a)

/-- R386, R393, R168, R67: trap entry in a strand that is not in a handler saves what EntrySaved says; then the strand runs on at TVEC when TVEC is a permitted target position or its marker cannot be read, and when TVEC is refused it is lost with cause 0x011: it has stopped, and its launch, unless that had stopped before, has failed with 0x011. Reading the marker changes neither the strand nor memory. That the strand runs on when TVEC's marker cannot be read is the model's reading (DEDUCED, log entry 52). -/
def Sys2Proof.Claim.TrapEntrySaves : Prop :=
  ∀ (s : State) (code : BitVec 10) (deliv : Nat) (elem : Bool) (tpc tval rec resume : Word),
    s.cur.nest = false → s.cur.id.sid ≠ 0 → deliv < 3 → Inv s →
    let t := s.trapEntry code deliv elem tpc tval rec resume
    ∃ u v l, EntrySaved s u code deliv elem tpc tval rec resume ∧
      u.target u.me s.cur.c.tvec = (l, v) ∧ v.cur = u.cur ∧ v.mem = u.mem ∧
      (l ≠ .refused → t = { v with cur := { u.cur with pc := s.cur.c.tvec &&& ~~~3#64, entry := decide (l = .unread) } }) ∧
      (l = .refused → t.cur = { u.cur with run := .lost 0x011, stepping := false } ∧
        ∀ q, s.starter.live.find? (fun q => q.id == s.cur.id.lid) = some q →
          t.starter.live.find? (fun q => q.id == s.cur.id.lid) =
            some (if q.stop = none then { q with stop := some (false, 0x011) } else q))

/-- R386, R67: a trap in a handler loses the strand with cause 0x3F1: the strand is stopped with its registers as they stood, and its launch, unless that had stopped before, has failed with that cause. -/
def Sys2Proof.Claim.LostStrands : Prop :=
  ∀ (s : State) (code : BitVec 10) (deliv : Nat) (elem : Bool) (tpc tval rec resume : Word),
    s.cur.id.sid ≠ 0 → s.cur.nest = true →
    let t := s.trapEntry code deliv elem tpc tval rec resume
    t.cur = { s.cur with run := .lost 0x3F1, stepping := false } ∧
    ∀ q, s.starter.live.find? (fun q => q.id == s.cur.id.lid) = some q →
      t.starter.live.find? (fun q => q.id == s.cur.id.lid) =
        some (if q.stop = none then { q with stop := some (false, 0x3F1) } else q)

/-- R307, R447: TRAP and BRK trap with their code in TVAL and EPC at the next instruction; with BRKSUP set BRK takes no trap and halts its strand, to go on at the next instruction. -/
def Sys2Proof.Claim.SoftwareTraps : Prop :=
  ∀ (s : State) (code : BitVec 10),
    exec (.trap code) s = .next (s.trapEntry 0x0F0 0 false s.cur.pc (code.setWidth 64) 0 (s.cur.pc + 4)) ∧
    (s.core.dbgctl.getLsbD 13 = false →
      exec (.brk code) s = .next (s.trapEntry 0x3F8 0 false s.cur.pc (code.setWidth 64) 0 (s.cur.pc + 4))) ∧
    (s.core.dbgctl.getLsbD 13 = true → s.cur.areaOk = true → ∃ t, exec (.brk code) s = .next t ∧
      t.cur.dbg = true ∧ t.cur.run = .saving .forced none ∧ t.cur.pc = s.cur.pc + 4)

/-- R387, R389: in a handler of a supervisor strand ERET takes x12 to x19 from the entry frame, restores PRIV from PPRIV, clears NEST and goes on at EPC with bits [1:0] ignored (R150), when none of the strand's writes to the frame is outstanding and no record has been delivered or waits for an entry; nothing else changes but the count of repeated traps of R440. The check of ERET to word 0 of a supervisor line at the fetch is log entry 33. -/
def Obligations.EretReturns : Prop :=
  ∀ (s : State), s.cur.sup = true → s.cur.nest = true → s.cur.records = [] → s.cur.id.sid ≠ 0 →
    (s.coreAt s.cur.id.core).outb = [] → s.homes.wnet = [] →
    ∃ t, exec .eret s = .next t ∧
      t.cur.pc = s.cur.c.epc &&& ~~~3#64 ∧ t.mem = s.mem ∧ t.tags = s.tags ∧
      (∀ i : Fin 32, t.cur.x[i] = if 12 ≤ i.val ∧ i.val < 20 then
          BitVec.ofNat 64 (ofBytes (Memory.bytes s.mem (frameKey s + 8 * (i.val - 12)) 8)) else s.cur.x[i]) ∧
      t.cur.c = { s.cur.c with sstatus := t.cur.c.sstatus } ∧
      t.cur.c.sstatus.getLsbD 0 = s.cur.c.sstatus.getLsbD 1 ∧ t.cur.c.sstatus.getLsbD 2 = false ∧
      (∀ i, i ≠ 0 → i ≠ 2 → t.cur.c.sstatus.getLsbD i = s.cur.c.sstatus.getLsbD i) ∧
      t.cur = { s.cur with pc := t.cur.pc, x := t.cur.x, c := t.cur.c, repeats := t.cur.repeats, entry := false }

/-- R163, R307, R404: ERET, TLBINV and TLBINVALL are privileged: a user strand takes cause 0x002. ERET outside a handler takes cause 0x006. -/
def Sys2Proof.Claim.PrivilegedInstructions : Prop :=
  ∀ (s : State) (a b : Reg),
    (s.cur.sup = false → exec .eret s = refused s 0x002 .eret ∧ exec (.tlbinv a b) s = refused s 0x002 (.tlbinv a b) ∧
      exec .tlbinvall s = refused s 0x002 .tlbinvall) ∧
    (s.cur.sup = true → s.cur.nest = false → exec .eret s = refused s 0x006 .eret)

/-- R178, R166, R167, R307: NOP, a marker at word 0 of a supervisor line, and YIELD with no standing request only go on; a marker word anywhere else is a reserved encoding. -/
def Sys2Proof.Claim.NopMarkerYield : Prop :=
  ∀ (s : State) (m : BitVec 15),
    exec .nop s = .next (went s) ∧
    (s.cur.request = none → exec .yield s = .next (went s)) ∧
    (s.cur.sup = true → s.cur.pc.toNat % 128 = 0 → exec (.lineMarker m) s = .next (went s)) ∧
    (¬ (s.cur.sup = true ∧ s.cur.pc.toNat % 128 = 0) → exec (.lineMarker m) s = refused s 0x001 (.lineMarker m))

/-- R307: TLBINV removes from every translation buffer and from the translation cache of the issuing die the entries that cover x[a] under the ASID of x[b], or under any ASID when its bit 16 is set, global entries included; TLBINVALL removes them all. Other dies keep theirs. -/
def Obligations.TranslationInvalidation : Prop :=
  ∀ (s : State) (a b : Reg), s.cur.sup = true → NothingParked s (s.cur.id.core / 16) →
    let die := s.cur.id.core / 16
    let gone (all : Bool) (e : TlbEntry) : Bool := all || covers e (s.rx a).toNat ((s.rx b).extractLsb' 0 16) ((s.rx b).getLsbD 16)
    let after (all : Bool) (t : State) : Prop :=
      t = { went s with core := t.core, cores := t.cores, dies := t.dies } ∧
      (∀ n, t.coreAt n = { s.coreAt n with
        tlb := if n / 16 = die then (s.coreAt n).tlb.filter (fun e => !gone all e) else (s.coreAt n).tlb }) ∧
      (∀ n, t.dieAt n = { s.dieAt n with
        tlb := if n = die then (s.dieAt n).tlb.filter (fun e => !gone all e) else (s.dieAt n).tlb })
    (∃ t, exec (.tlbinv a b) s = .next t ∧ after false t) ∧ (∃ t, exec .tlbinvall s = .next t ∧ after true t)

/-- R66, R67, R255, R307: HALT of a strand with no outstanding write, binding, record, request or command ends it: it is no longer live, its launch counts one strand less, and a tile store that it holds is released for clearing. Memory does not change. -/
def Obligations.HaltEnds : Prop :=
  ∀ (s : State), Undisturbed s → s.cur.streams = Vector.replicate 4 none → s.cur.wlog = [] →
    s.engStores = false → s.homes.invals = [] → s.homes.acks = [] → s.tilesOut s.cur = 0 → s.copiesOut s.cur = 0 →
    ∃ t, exec .halt s = .next t ∧ t.cur.run = .ended ∧ t.mem = s.mem ∧ t.tags = s.tags ∧ t.cur.x = s.cur.x ∧ t.cur.c = s.cur.c ∧
      ((s.coreAt s.cur.id.core).holder = some s.cur.id.sid →
        (t.coreAt s.cur.id.core).holder = none ∧ (t.coreAt s.cur.id.core).clearing = true) ∧
      (∀ l, (s.starter.live).find? (fun q => q.id == s.cur.id.lid) = some l →
        (t.starter.live).find? (fun q => q.id == s.cur.id.lid) = some { l with left := l.left - 1 })

namespace Sys2Proof.Claim
open Machine

/-- No stream register is bound, and the step does not end within the instruction: neither a single-element debug step nor a forced pre-emption falls in it. -/
def Plain (s : State) : Prop := s.cur.streams = Vector.replicate 4 none ∧ s.limit = none

/-- A vector instruction's ordinary end, from the strand `t` with its results: the waits of the issue stage are over, VSTART is 0 (R176, R392) and the program counter has gone on. -/
def finished (s : State) (t : Strand) : Out :=
  .next (went { s with cur := { t with stall := none, due := none, blockedOn := none }.vdone })

/-- The element results `f` written to the active elements of v[d] and nowhere else, their flags entered in FCSR (R202, R115). -/
def lanes (s : State) (d : Reg) (f : Nat → Nat × FFlags) : Out :=
  finished s ({ s.cur with c := { s.cur.c with
      fcsr := s.cur.c.fcsr ||| ((s.cur.active.map (fun i => (f i).2)).foldl (· ||| ·) 0).setWidth 64 } }.setElems d
    (s.cur.active.map (fun i => (i, (f i).1))))

/-- Element `i` of v[r] as an EW-bit vector. -/
def el (s : State) (r : Reg) (i : Nat) : BitVec s.cur.ew := BitVec.ofNat s.cur.ew (s.cur.elem r i)

/-- The three forms of a binary VINT instruction and what it computes at a width. -/
abbrev IntRow := (Reg → Reg → Reg → Instr) × (Reg → Reg → Reg → Instr) × (Reg → Reg → BitVec 5 → Instr) × ((w : Nat) → BitVec w → BitVec w → BitVec w)

/-- An integer clamped to a range. -/
def clamp (lo hi z : Int) : Int := max lo (min hi z)

/-- 1 or 0 of a width. -/
def truth (w : Nat) (p : Prop) [Decidable p] : BitVec w := if p then 1#w else 0#w

/-- The table of R211. -/
noncomputable def intTable : List IntRow := [
  (.vaddVv, .vaddVx, .vaddVi, fun _ a b => a + b),
  (.vaddSatVv, .vaddSatVx, .vaddSatVi, fun w a b => BitVec.ofInt w (clamp (-(2 ^ (w - 1))) (2 ^ (w - 1) - 1) (a.toInt + b.toInt))),
  (.vaddUsatVv, .vaddUsatVx, .vaddUsatVi, fun w a b => BitVec.ofNat w (min (2 ^ w - 1) (a.toNat + b.toNat))),
  (.vsubVv, .vsubVx, .vsubVi, fun _ a b => a - b),
  (.vsubSatVv, .vsubSatVx, .vsubSatVi, fun w a b => BitVec.ofInt w (clamp (-(2 ^ (w - 1))) (2 ^ (w - 1) - 1) (a.toInt - b.toInt))),
  (.vsubUsatVv, .vsubUsatVx, .vsubUsatVi, fun w a b => if a.toNat < b.toNat then 0 else BitVec.ofNat w (a.toNat - b.toNat)),
  (.vmulVv, .vmulVx, .vmulVi, fun _ a b => a * b),
  (.vmulhVv, .vmulhVx, .vmulhVi, fun w a b => BitVec.ofInt w (a.toInt * b.toInt / 2 ^ w)),
  (.vmulhUVv, .vmulhUVx, .vmulhUVi, fun w a b => BitVec.ofNat w (a.toNat * b.toNat / 2 ^ w)),
  (.vandVv, .vandVx, .vandVi, fun _ a b => a &&& b),
  (.vorVv, .vorVx, .vorVi, fun _ a b => a ||| b),
  (.vxorVv, .vxorVx, .vxorVi, fun _ a b => a ^^^ b),
  (.vsllVv, .vsllVx, .vsllVi, fun w a b => a <<< (b.toNat % w)),
  (.vsrlVv, .vsrlVx, .vsrlVi, fun w a b => a >>> (b.toNat % w)),
  (.vsraVv, .vsraVx, .vsraVi, fun w a b => a.sshiftRight (b.toNat % w)),
  (.vminVv, .vminVx, .vminVi, fun w a b => BitVec.ofInt w (min a.toInt b.toInt)),
  (.vmaxVv, .vmaxVx, .vmaxVi, fun w a b => BitVec.ofInt w (max a.toInt b.toInt)),
  (.vminuVv, .vminuVx, .vminuVi, fun w a b => BitVec.ofNat w (min a.toNat b.toNat)),
  (.vmaxuVv, .vmaxuVx, .vmaxuVi, fun w a b => BitVec.ofNat w (max a.toNat b.toNat)),
  (.veqVv, .veqVx, .veqVi, fun w a b => truth w (a = b)),
  (.vneVv, .vneVx, .vneVi, fun w a b => truth w (a ≠ b)),
  (.vltVv, .vltVx, .vltVi, fun w a b => truth w (a.toInt < b.toInt)),
  (.vltuVv, .vltuVx, .vltuVi, fun w a b => truth w (a.toNat < b.toNat)),
  (.vleVv, .vleVx, .vleVi, fun w a b => truth w (a.toInt ≤ b.toInt))]

/-- The two forms of a binary VF instruction and what it computes on two codes of the element format. -/
abbrev FloatRow := (Reg → Reg → Reg → Instr) × (Reg → Reg → Reg → Instr) × (FFmt → RMode → Nat → Nat → Nat × FFlags)

/-- A comparison's result as an element. -/
def asBit (r : Bool × FFlags) : Nat × FFlags := (if r.1 then 1 else 0, r.2)

/-- The binary rows of the table of R208. -/
noncomputable def floatTable : List FloatRow := [
  (.vfaddVv, .vfaddVx, fun f rm x y => f.add rm (f.decode x) (f.decode y)),
  (.vfsubVv, .vfsubVx, fun f rm x y => f.add rm (f.decode x) (f.decode y).neg),
  (.vfmulVv, .vfmulVx, fun f rm x y => f.mul rm (f.decode x) (f.decode y)),
  (.vfdivVv, .vfdivVx, fun f rm x y => f.div rm (f.decode x) (f.decode y)),
  (.vfminVv, .vfminVx, fun f _ x y => f.minmax false x y),
  (.vfmaxVv, .vfmaxVx, fun f _ x y => f.minmax true x y),
  (.vfsgnjVv, .vfsgnjVx, fun f _ x y => (x % 2 ^ (f.width - 1) + y / 2 ^ (f.width - 1) * 2 ^ (f.width - 1), 0)),
  (.vfrsubVv, .vfrsubVx, fun f rm x y => f.add rm (f.decode y) (f.decode x).neg),
  (.vfeqVv, .vfeqVx, fun f _ x y => asBit (fpEq (f.decode x) (f.decode y))),
  (.vfneVv, .vfneVx, fun f _ x y => asBit (!(fpEq (f.decode x) (f.decode y)).1, (fpEq (f.decode x) (f.decode y)).2)),
  (.vfltVv, .vfltVx, fun f _ x y => asBit (fpLt (f.decode x) (f.decode y))),
  (.vfleVv, .vfleVx, fun f _ x y => asBit (fpLe (f.decode x) (f.decode y)))]

/-- The fused rows of the table of R210, on three codes. -/
noncomputable def fusedTable : List ((Reg → Reg → Reg → Reg → Instr) × (FFmt → RMode → Nat → Nat → Nat → Nat × FFlags)) := [
  (.vfma, fun f rm x y z => f.fma rm false (f.decode x) (f.decode y) (f.decode z)),
  (.vfnma, fun f rm x y z => f.fma rm true (f.decode x) (f.decode y) (f.decode z).neg),
  (.vfms, fun f rm x y z => f.fma rm false (f.decode x) (f.decode y) (f.decode z).neg)]

/-- The floating-point element format at a width of 16 or 32 bits (R114). -/
def floatFormat (ew : Nat) : FFmt := if ew = 16 then BF16 else FP32

/-- A trap of the issuing instruction with no effect. -/
def trapped (s : State) (code : BitVec 10) (tval : Word) : Out := .next (s.trapEntry code 0 false s.cur.pc tval 0 s.cur.pc)

/-- A whole instruction's active elements, VSTART disregarded (R205). -/
def wholeActive (s : State) : List Nat := (List.range s.cur.vl).filter s.cur.maskBit

/-- A whole instruction's vector result (R205). -/
def wholeLanes (s : State) (d : Reg) (es : List (Nat × Nat)) : Out := finished s (s.cur.setElems d es)

/-- A whole instruction's scalar result with flags (R205). -/
def wholeScalar (s : State) (d : Reg) (v : Word) (fl : FFlags) : Out :=
  finished s ({ s.cur with c := { s.cur.c with fcsr := s.cur.c.fcsr ||| fl.setWidth 64 } }.wx d v)

/-- The elements that a reduction combines: element order, inactive ones replaced by the identity (R129). -/
def reduced (s : State) (a : Reg) (id : Nat) : List Nat :=
  (List.range s.cur.vl).map (fun i => if s.cur.maskBit i then s.cur.elem a i else id)

/-- One level of the tree of R129: neighbours combined, a leftover passed up; with the flags of the combinations. -/
def level (op : Nat → Nat → Nat × FFlags) (l : List Nat) : List Nat × FFlags :=
  ((List.range ((l.length + 1) / 2)).map (fun j => if 2 * j + 1 < l.length then (op (l.getD (2 * j) 0) (l.getD (2 * j + 1) 0)).1 else l.getD (2 * j) 0),
   ((List.range (l.length / 2)).map (fun j => (op (l.getD (2 * j) 0) (l.getD (2 * j + 1) 0)).2)).foldl (· ||| ·) 0)

/-- The tree's result: levels until one value remains; the identity for no value (R129). -/
def tree (op : Nat → Nat → Nat × FFlags) : Nat → List Nat × FFlags → Nat → Nat × FFlags
  | 0, q, id => (q.1.headD id, q.2)
  | n + 1, q, id => if q.1.length ≤ 1 then (q.1.headD id, q.2) else tree op n ((level op q.1).1, q.2 ||| (level op q.1).2) id

end Sys2Proof.Claim

/-! ### Vector elements, masks and operands -/

/-- R44: element i of a vector register is EW bits of it: lane i mod G, slot i div G, its slot's bits of the lane's 64. Writing an element changes those bits alone, so that each element below VLMAX reads what was last written to it. -/
def Sys2Proof.Claim.ElementPlacement : Prop :=
  ∀ (t : Strand) (r q : Reg) (i j x : Nat), 0 < t.grant → t.grant ≤ 128 → i < t.vlmax → j < t.vlmax → t.c.vtype.extractLsb' 0 2 ≠ 3 →
    t.vlmax = t.grant * 64 / t.ew ∧
    (∀ k < t.ew, Nat.testBit (t.elem r i) k = (t.vr r).getLsbD (64 * (i % t.grant) + t.ew * (i / t.grant) + k)) ∧ t.elem r i < 2 ^ t.ew ∧
    (t.setElems r [(i, x)]).elem r i = x % 2 ^ t.ew ∧
    (j ≠ i → (t.setElems r [(i, x)]).elem r j = t.elem r j) ∧
    (q ≠ r → (t.setElems r [(i, x)]).vr q = t.vr q) ∧
    (t.setElems r [(i, x)]).x = t.x

/-- R175, R176, R202, R392: which elements an element-processing instruction performs: those from VSTART, or while the lane-group counters decide from the element's counter, to VL − 1 whose mask bit is 1 while VM.EN is 1; in ascending order, each once. -/
def Sys2Proof.Claim.ActiveElements : Prop :=
  ∀ (t : Strand),
    let byCounter : Bool := t.c.sstatus.getLsbD 3 && !t.c.sstatus.getLsbD 2
    let start (i : Nat) : Nat := if byCounter then ((t.c.tlg.getD (i % t.grant / 16) 0).extractLsb' 0 10).toNat else (t.c.vstart.extractLsb' 0 10).toNat
    (∀ i, i ∈ t.active ↔ start i ≤ i ∧ i < (t.c.vl.extractLsb' 0 10).toNat ∧
      (t.c.vm.getLsbD 5 = true → Nat.testBit (t.elem (t.c.vm.extractLsb' 0 5) i) 0 = true)) ∧
    t.active.Pairwise (· < ·)

/-- R176, R202, R203, R392: what a binary VINT instruction leaves besides its results: it completes with VSTART 0, and after a resumption by the counters TLGV and every VALID bit are 0; no register but v[d], no byte and no tag changes; where no element is active it writes no element and raises no flag. -/
def Sys2Proof.Claim.VectorCompletion : Prop :=
  ∀ row ∈ intTable, ∀ (s : State) (d a b : Reg), Plain s → ∃ t, exec (row.1 d a b) s = .next t ∧
    t.cur.c.vstart = 0 ∧ t.cur.pc = s.cur.pc + 4 ∧ t.cur.x = s.cur.x ∧ t.mem = s.mem ∧ t.tags = s.tags ∧
    (∀ r, r ≠ d → t.cur.vr r = s.cur.vr r) ∧ t.cur.c.fcsr = s.cur.c.fcsr ∧
    (s.cur.active = [] → t.cur.vr d = s.cur.vr d) ∧
    (s.cur.c.sstatus.getLsbD 3 = true → s.cur.c.sstatus.getLsbD 2 = false →
      t.cur.c.sstatus.getLsbD 3 = false ∧ ∀ h : Fin 8, t.cur.c.tlg[h].getLsbD 63 = false) ∧
    (s.cur.c.sstatus.getLsbD 3 = false ∨ s.cur.c.sstatus.getLsbD 2 = true → t.cur.c = { s.cur.c with vstart := 0 })

/-! ### Vector integers -/

/-- R211, R202: every binary VINT instruction in its three forms, element by element at the current width, from the vectors, from x[b] cut to EW bits, or from the immediate sign-extended to EW bits; no flag. -/
def Sys2Proof.Claim.VectorIntegerResults : Prop :=
  ∀ row ∈ intTable, ∀ (s : State) (d a b : Reg) (i : BitVec 5), Plain s →
    exec (row.1 d a b) s = lanes s d (fun k => ((row.2.2.2 s.cur.ew (el s a k) (el s b k)).toNat, 0)) ∧
    exec (row.2.1 d a b) s = lanes s d (fun k => ((row.2.2.2 s.cur.ew (el s a k) ((s.rx b).setWidth s.cur.ew)).toNat, 0)) ∧
    exec (row.2.2.1 d a i) s = lanes s d (fun k => ((row.2.2.2 s.cur.ew (el s a k) (i.signExtend s.cur.ew)).toNat, 0))

/-- R212: VID writes the element number, VBCAST its operand, VMERGE the operand where bit 0 of the element of v[VM.REG] is 1 and element of v[a] elsewhere, whatever VM.EN holds. -/
def Sys2Proof.Claim.VectorMovesAndMerge : Prop :=
  ∀ (s : State) (d a b : Reg) (i : BitVec 5), Plain s →
    let sel (k : Nat) : Bool := Nat.testBit (s.cur.elem (s.cur.c.vm.extractLsb' 0 5) k) 0
    let all : List Nat := (List.range s.cur.vl).filter s.cur.begun
    let merged (y : Nat → Nat) : Out := finished s (s.cur.setElems d (all.map (fun k => (k, if sel k then y k else s.cur.elem a k))))
    exec (.vid d) s = lanes s d (fun k => (k % 2 ^ s.cur.ew, 0)) ∧
    exec (.vbcastVv d b) s = lanes s d (fun k => (s.cur.elem b k, 0)) ∧
    exec (.vbcastVx d b) s = lanes s d (fun _ => (((s.rx b).setWidth s.cur.ew).toNat, 0)) ∧
    exec (.vbcastVi d i) s = lanes s d (fun _ => ((i.signExtend s.cur.ew).toNat, 0)) ∧
    exec (.vmergeVv d a b) s = merged (s.cur.elem b) ∧
    exec (.vmergeVx d a b) s = merged (fun _ => ((s.rx b).setWidth s.cur.ew).toNat) ∧
    exec (.vmergeVi d a i) s = merged (fun _ => (i.signExtend s.cur.ew).toNat)

/-! ### Vector floating point -/

/-- R208, R207, R114: every binary VF instruction in its two forms, element by element in BF16 at EW 16 and FP32 at EW 32 under FCSR.RM; at EW 64 it takes cause 0x100 and has no effect. -/
def Sys2Proof.Claim.VectorFloatResults : Prop :=
  ∀ row ∈ floatTable, ∀ (s : State) (d a b : Reg), Plain s →
    let f := floatFormat s.cur.ew
    let op := row.2.2 f (rmOf s.cur.c.fcsr)
    (s.cur.ew ≠ 64 →
      exec (row.1 d a b) s = lanes s d (fun i => op (s.cur.elem a i) (s.cur.elem b i)) ∧
      exec (row.2.1 d a b) s = lanes s d (fun i => op (s.cur.elem a i) (((s.rx b).setWidth s.cur.ew).toNat))) ∧
    (s.cur.ew = 64 → exec (row.1 d a b) s = trapped s 0x100 s.cur.c.vtype ∧ exec (row.2.1 d a b) s = trapped s 0x100 s.cur.c.vtype)

/-- R208, R209, R119: the unary VF instructions and the conversions; VFWIDEN in place reads each element as it stands when its turn comes (R202). -/
def Sys2Proof.Claim.VectorFloatUnary : Prop :=
  ∀ (s : State) (d a : Reg), Plain s →
    let f := floatFormat s.cur.ew; let w := f.width; let rm := rmOf s.cur.c.fcsr
    let A (i : Nat) : Nat := s.cur.elem a i
    let toI (lo hi : Int) (i : Nat) : Nat × FFlags := ((fpToInt rm lo hi (f.decode (A i))).1 % 2 ^ w |>.toNat, (fpToInt rm lo hi (f.decode (A i))).2)
    (s.cur.ew = 16 ∨ s.cur.ew = 32 →
      exec (.vfsqrt d a) s = lanes s d (fun i => f.sqrt rm (f.decode (A i))) ∧
      exec (.vfabs d a) s = lanes s d (fun i => (A i % 2 ^ (w - 1), 0)) ∧
      exec (.vfneg d a) s = lanes s d (fun i => ((el s a i ^^^ BitVec.twoPow s.cur.ew (w - 1)).toNat, 0)) ∧
      exec (.vfcvtFi d a) s = lanes s d (toI (-(2 ^ (w - 1))) (2 ^ (w - 1) - 1)) ∧
      exec (.vfcvtFiU d a) s = lanes s d (toI 0 (2 ^ w - 1)) ∧
      exec (.vfcvtIf d a) s = lanes s d (fun i => f.convert rm (intFp (el s a i).toInt)) ∧
      exec (.vfcvtIfU d a) s = lanes s d (fun i => f.convert rm (intFp (A i)))) ∧
    (s.cur.ew = 32 →
      (d ≠ a → exec (.vfwiden d a) s = lanes s d (fun i => FP32.convert .rne (BF16.decode (getE s.cur.grant 16 (s.cur.vr a) i)))) ∧
      (d = a → ∃ g, exec (.vfwiden d a) s = lanes s d g ∧ ∀ i ∈ s.cur.active,
        let before : VReg := (s.cur.active.filter (fun j => j < i)).foldl (fun v j => setE s.cur.grant 32 v j (g j).1) (s.cur.vr a)
        g i = FP32.convert .rne (BF16.decode (getE s.cur.grant 16 before i))) ∧
      (let rs : List (Nat × Nat × FFlags) := s.cur.active.map (fun i => (i, BF16.convert rm (FP32.decode (A i))))
       exec (.vfnarrow d a) s = finished s ({ s.cur with c := { s.cur.c with
          fcsr := s.cur.c.fcsr ||| ((rs.map (fun (r : Nat × Nat × FFlags) => r.2.2)).foldl (· ||| ·) 0).setWidth 64 } }.setV d
            (writeElems s.cur.grant 16 (s.cur.vr d) (rs.map (fun (r : Nat × Nat × FFlags) => (r.1, r.2.1))))))) ∧
    (s.cur.ew ≠ 32 → exec (.vfwiden d a) s = trapped s 0x100 s.cur.c.vtype ∧ exec (.vfnarrow d a) s = trapped s 0x100 s.cur.c.vtype) ∧
    (s.cur.ew = 64 → ∀ i ∈ [Instr.vfsqrt d a, .vfabs d a, .vfneg d a, .vfcvtFi d a, .vfcvtFiU d a, .vfcvtIf d a, .vfcvtIfU d a],
      exec i s = trapped s 0x100 s.cur.c.vtype)

/-- R210, R191, R207: the fused instructions round a × b + c, its negation and a × b − c once per element; VFMA.VX takes b from x[b]. -/
def Sys2Proof.Claim.VectorFusedResults : Prop :=
  ∀ (s : State) (d a b c : Reg), Plain s →
    let f := floatFormat s.cur.ew; let rm := rmOf s.cur.c.fcsr
    (∀ row ∈ fusedTable,
      (s.cur.ew ≠ 64 → exec (row.1 d a b c) s = lanes s d (fun i => row.2 f rm (s.cur.elem a i) (s.cur.elem b i) (s.cur.elem c i))) ∧
      (s.cur.ew = 64 → exec (row.1 d a b c) s = trapped s 0x100 s.cur.c.vtype)) ∧
    (s.cur.ew ≠ 64 → exec (.vfmaVx d a b c) s = lanes s d (fun i =>
      f.fma rm false (f.decode (s.cur.elem a i)) (f.decode (((s.rx b).setWidth s.cur.ew).toNat)) (f.decode (s.cur.elem c i)))) ∧
    (s.cur.ew = 64 → exec (.vfmaVx d a b c) s = trapped s 0x100 s.cur.c.vtype)

/-! ### Masks, permutations, moves and reductions -/

/-- R213, R205, R203: the mask logic on bit 0 of each element; VMCNT counts the active ones, VMLEAD finds the least or answers −1, VMRANK counts those before each active element. -/
def Sys2Proof.Claim.MaskResults : Prop :=
  ∀ (s : State) (d a b : Reg), Plain s →
    let m (r : Reg) (i : Nat) : Bool := Nat.testBit (s.cur.elem r i) 0
    let num (p : Bool) : Nat := if p then 1 else 0
    let ones : List Nat := (wholeActive s).filter (m a)
    exec (.vmand d a b) s = lanes s d (fun i => (num (m a i && m b i), 0)) ∧
    exec (.vmor d a b) s = lanes s d (fun i => (num (m a i || m b i), 0)) ∧
    exec (.vmxor d a b) s = lanes s d (fun i => (num (m a i != m b i), 0)) ∧
    exec (.vmnot d a) s = lanes s d (fun i => (num (!m a i), 0)) ∧
    exec (.vmcnt d a) s = wholeScalar s d (BitVec.ofNat 64 ones.length) 0 ∧
    exec (.vmlead d a) s = wholeScalar s d (match ones with | i :: _ => BitVec.ofNat 64 i | [] => -1) 0 ∧
    (d ≠ a → exec (.vmrank d a) s = wholeLanes s d ((wholeActive s).map (fun i => (i, (ones.filter (fun j => j < i)).length))))

/-- R214, R205: the slides, the gather and the compression of active elements, whatever VSTART holds. -/
def Sys2Proof.Claim.PermutationResults : Prop :=
  ∀ (s : State) (d a b c : Reg), Plain s → d ≠ a →
    let n := (s.rx b).toNat
    let f := ((s.rx c).setWidth s.cur.ew).toNat
    exec (.vslideup d a b c) s = wholeLanes s d ((wholeActive s).map (fun i => (i, if n ≤ i then s.cur.elem a (i - n) else f))) ∧
    exec (.vslidedn d a b c) s = wholeLanes s d ((wholeActive s).map (fun i => (i, if i + n < s.cur.vl then s.cur.elem a (i + n) else f))) ∧
    (d ≠ b → exec (.vgather d a b c) s = wholeLanes s d ((wholeActive s).map (fun i =>
      (i, if s.cur.elem b i < s.cur.vl then s.cur.elem a (s.cur.elem b i) else f)))) ∧
    exec (.vcompress d a) s = wholeLanes s d ((wholeActive s).zipIdx.map (fun p => (p.2, s.cur.elem a p.1)))

/-- R205, R386: a whole instruction whose vector destination is one of its vector sources takes cause 0x003 with TVAL its word. -/
def Sys2Proof.Claim.WholeOverlapTraps : Prop :=
  ∀ (s : State) (d b c : Reg),
    exec (.vmrank d d) s = refused s 0x003 (.vmrank d d) ∧
    exec (.vslideup d d b c) s = refused s 0x003 (.vslideup d d b c) ∧
    exec (.vslidedn d d b c) s = refused s 0x003 (.vslidedn d d b c) ∧
    exec (.vgather d d b c) s = refused s 0x003 (.vgather d d b c) ∧
    exec (.vgather d b d c) s = refused s 0x003 (.vgather d b d c) ∧
    exec (.vcompress d d) s = refused s 0x003 (.vcompress d d)

/-- R214, R407: VMVXS and VMVSX move one element whatever VL, VM and VSTART hold, which they leave; beyond VLMAX VMVXS answers 0 and VMVSX does nothing. -/
def Sys2Proof.Claim.SingleElementMoves : Prop :=
  ∀ (s : State) (d a b : Reg), Plain s → let n := (s.rx b).toNat
    (n < s.cur.vlmax →
      exec (.vmvxs d a b) s = .next (wrote s d (BitVec.ofInt 64 (el s a n).toInt)) ∧
      exec (.vmvsx d a b) s = .next (went { s with cur := s.cur.setElems d [(n, ((s.rx a).setWidth s.cur.ew).toNat)] })) ∧
    (s.cur.vlmax ≤ n → exec (.vmvxs d a b) s = .next (wrote s d 0) ∧ exec (.vmvsx d a b) s = .next (went s))

/-- R129, R215, R203: the integer reductions: the sum of the active elements modulo 2^EW, the largest and the smallest of them or the identity, sign-extended. -/
def Sys2Proof.Claim.IntegerReductions : Prop :=
  ∀ (s : State) (d a : Reg), Plain s → let w := s.cur.ew
    let vals : List Int := (wholeActive s).map (fun i => (el s a i).toInt)
    exec (.vredsum d a) s = wholeScalar s d ((BitVec.ofInt w vals.sum).signExtend 64) 0 ∧
    exec (.vredmax d a) s = wholeScalar s d (BitVec.ofInt 64 (vals.foldl max (-(2 ^ (w - 1))))) 0 ∧
    exec (.vredmin d a) s = wholeScalar s d (BitVec.ofInt 64 (vals.foldl min (2 ^ (w - 1) - 1))) 0

/-- R129, R215, R207: the floating-point reductions combine neighbours level by level, an inactive element as the identity, each sum rounded under FCSR.RM; the flags are those of every combination. -/
def Sys2Proof.Claim.FloatReductions : Prop :=
  ∀ (s : State) (d a : Reg), Plain s →
    let f := floatFormat s.cur.ew; let rm := rmOf s.cur.c.fcsr
    let answer (id : Nat) (op : Nat → Nat → Nat × FFlags) : Out :=
      wholeScalar s d (BitVec.ofNat 64 (tree op 10 (reduced s a id, 0) id).1) (tree op 10 (reduced s a id, 0) id).2
    (s.cur.ew ≠ 64 →
      exec (.vfredsum d a) s = answer (f.zero true) (fun x y => f.add rm (f.decode x) (f.decode y)) ∧
      exec (.vfredmax d a) s = answer (f.inf true) (f.minmax true) ∧
      exec (.vfredmin d a) s = answer (f.inf false) (f.minmax false)) ∧
    (s.cur.ew = 64 → ∀ i ∈ [Instr.vfredsum d a, .vfredmax d a, .vfredmin d a], exec i s = trapped s 0x100 s.cur.c.vtype)

/-! ### Streams as operands -/

/-- R206: an instruction that reads an output stream, writes an input stream, or writes an output stream while VM.EN is 1 takes cause 0x201 with TVAL the register, before any effect. -/
def Sys2Proof.Claim.StreamMisuse : Prop :=
  ∀ (s : State) (d a : Reg) (b : Stream), s.cur.ew ≠ 64 →
    let kind := (b.desc.getD 0 0).extractLsb' 0 2
    (s.cur.stream a = some b → kind = 1 ∨ kind = 3 →
      exec (.vbcastVv d a) s = trapped s 0x201 (a.setWidth 64) ∧ exec (.vfabs d a) s = trapped s 0x201 (a.setWidth 64) ∧
      exec (.vmcnt d a) s = trapped s 0x201 (a.setWidth 64)) ∧
    (s.cur.stream a = none → s.cur.stream d = some b → kind = 0 ∨ kind = 2 ∨ s.cur.c.vm.getLsbD 5 = true →
      exec (.vbcastVv d a) s = trapped s 0x201 (d.setWidth 64) ∧ exec (.vfabs d a) s = trapped s 0x201 (d.setWidth 64) ∧
      exec (.vid d) s = trapped s 0x201 (d.setWidth 64))

/-- R104, R115, R206, R232: an affine input whose next VL elements have arrived supplies them, converted from the stream's format, and moves on by VL; an affine output receives VL elements for its next addresses, at the instruction's position in program order (R312), and moves on by VL; the conversions' flags enter FCSR. Memory does not change. -/
def Sys2Proof.Claim.StreamElements : Prop :=
  ∀ (s : State) (d a : Reg) (b : Stream) (isF : Bool), s.limit = none → s.cur.resuming = false → d ≠ a →
    fmtKind b.fmt s.cur.ew false = some isF → b.count + s.cur.vl ≤ b.total → b.partner = none →
    (s.cur.stream a = some b → s.cur.stream d = none → b.kind = 0 → s.cur.vl ≤ b.ahead.length →
      (∀ e ∈ b.ahead.take s.cur.vl, e.2 = none) →
      ∃ t, exec (.vbcastVv d a) s = .next t ∧ t.mem = s.mem ∧ t.cur.pc = s.cur.pc + 4 ∧
        t.cur.vr d = (s.cur.setElems d (s.cur.active.map (fun i => (i, (loadConvert b.fmt isF s.cur.ew (b.ahead.getD i (0, none)).1.toNat).1)))).vr d ∧
        (∀ r, r ≠ d → t.cur.vr r = s.cur.vr r) ∧
        t.cur.c.fcsr = s.cur.c.fcsr |||
          ((s.cur.active.map (fun i => (loadConvert b.fmt isF s.cur.ew (b.ahead.getD i (0, none)).1.toNat).2)).foldl (· ||| ·) 0).setWidth 64 ∧
        ∃ b', t.cur.stream a = some b' ∧ b'.count = b.count + s.cur.vl ∧ b'.ahead = b.ahead.drop s.cur.vl ∧ b'.desc = b.desc) ∧
    (s.cur.stream d = some b → s.cur.stream a = none → b.kind = 1 → s.cur.c.vm.getLsbD 5 = false → s.cur.c.vstart = 0 →
      0 < s.cur.grant → s.cur.grant ≤ 128 → s.cur.vl ≤ s.cur.vlmax → s.cur.c.vtype.extractLsb' 0 2 ≠ 3 →
      ∃ t, exec (.vbcastVv d a) s = .next t ∧ t.mem = s.mem ∧ t.cur.pc = s.cur.pc + 4 ∧ (∀ r, r ≠ d → t.cur.vr r = s.cur.vr r) ∧
        t.cur.c.fcsr = s.cur.c.fcsr |||
          (((List.range s.cur.vl).map (fun i => (storeConvert b.fmt isF s.cur.ew (rmOf s.cur.c.fcsr) (s.cur.elem a i)).2)).foldl (· ||| ·) 0).setWidth 64 ∧
        ∃ b', t.cur.stream d = some b' ∧ b'.count = b.count + s.cur.vl ∧ b'.desc = b.desc ∧
          b'.pend = b.pend ++ (List.range s.cur.vl).map (fun i => PendElem.mk (s.cur.pos + 1) (b.addr (b.count + i)) (fmtSize b.fmt)
            (BitVec.ofNat 64 (storeConvert b.fmt isF s.cur.ew (rmOf s.cur.c.fcsr) (s.cur.elem a i)).1)))

namespace Sys2Proof.Claim
open Machine

/-- A strand that nothing holds at issue, in an ordinary state: no stream bound, no end of the step within the instruction, no wait of the issue stage, no schedule of lane groups. -/
def Ready (s : State) : Prop := Plain s ∧ s.cur.stall = none ∧ s.cur.due = none ∧ s.cur.blockedOn = none ∧ s.sched.slip = []

/-- Nothing that an access over the active elements touches lies outside the scratchpad's range. -/
def InRange (s : State) (addrs : Nat → List Word) : Prop := ∀ i ∈ s.cur.active, ∀ a ∈ addrs i, spadOutside a = false

/-- Element i's address in the three modes of one address (R217). -/
def unit (s : State) (a : Reg) (f : BitVec 4) (i : Nat) : Word := BitVec.ofInt 64 ((s.rx a).toInt + (if fmtBits f = 4 then ((i / 2 : Nat) : Int) else (i : Int) * fmtSize f))
def strided (s : State) (a : Reg) (i : Nat) : Word := BitVec.ofInt 64 ((s.rx a).toInt + i * s.cur.c.vstr.toInt)
def indexed (s : State) (a b : Reg) (i : Nat) : Word := BitVec.ofInt 64 ((s.rx a).toInt + (el s b i).toInt)

/-- The address of field `k` of segment `i` with `n` fields (R217). -/
def field' (s : State) (a : Reg) (f : BitVec 4) (n i k : Nat) : Word := BitVec.ofInt 64 ((s.rx a).toInt + ((i * n + k) * fmtSize f : Nat))

/-- The code of element `i` in the byte or bytes that were read: a nibble format's own nibble (R220). -/
def code (f : BitVec 4) (i c : Nat) : Nat := if fmtBits f = 4 then (if i % 2 = 0 then c % 16 else c / 16) else c

/-- The flags of a list of results. -/
def orAll (l : List FFlags) : FFlags := l.foldl (· ||| ·) 0

/-- A strand with flags entered in FCSR. -/
def flagged (t : Strand) (fl : FFlags) : Strand := { t with c := { t.c with fcsr := t.c.fcsr ||| fl.setWidth 64 } }

/-- What a store writes of element `i` in a format that is no nibble format (R218). -/
def stored (s : State) (f : BitVec 4) (isF : Bool) (r : Reg) (i : Nat) : Nat × FFlags :=
  storeConvert f isF s.cur.ew (rmOf s.cur.c.fcsr) (s.cur.elem r i)

/-- What a unit or strided store writes for element `i`: a nibble format's byte takes element i + 1 above when it is active, else 0 there, and the odd element of a pair writes nothing of its own (R220); each raises the flags of its own conversion (the odd one of a pair that writes nothing as well: log entry 77). -/
def storedAt (s : State) (f : BitVec 4) (isF : Bool) (r : Reg) (i : Nat) : List Nat × FFlags :=
  (if fmtBits f = 4 then
    if i % 2 = 1 then []
    else if i + 1 ∈ s.cur.active then [(stored s f isF r i).1 + 16 * (stored s f isF r (i + 1)).1]
    else [(stored s f isF r i).1]
  else [(stored s f isF r i).1], (stored s f isF r i).2)

/-- The segmented loads and stores with their field counts (R223). -/
noncomputable def segmented : List ((Reg → Reg → Reg → BitVec 4 → Instr) × (Reg → Reg → Reg → BitVec 4 → Instr) × Nat) := [
  (.vsegld2, .vsegst2, 2), (.vsegld3, .vsegst3, 3), (.vsegld4, .vsegst4, 4), (.vsegld5, .vsegst5, 5),
  (.vsegld6, .vsegst6, 6), (.vsegld7, .vsegst7, 7), (.vsegld8, .vsegst8, 8)]

/-- The register of field `k` of a segmented access: v + k, or v + p_k by the permutation register (R224). -/
def segReg (s : State) (v b : Reg) (k : Nat) : Reg := if b = 0 then v + BitVec.ofNat 5 k else v + BitVec.ofNat 5 (s.cur.elem b k)

/-- What a segmented store writes of segment `i`: one code a field, and the flags of them all (R224). -/
def storedFields (s : State) (f : BitVec 4) (isF : Bool) (v b : Reg) (n i : Nat) : List Nat × FFlags :=
  ((List.range n).map (fun k => (stored s f isF (segReg s v b k) i).1), orAll ((List.range n).map (fun k => (stored s f isF (segReg s v b k) i).2)))

/-- The values p_0 to p_(n−1) are a permutation of 0 to n − 1, all of them held by the register (R224). -/
def Permutes (s : State) (b : Reg) (n : Nat) : Prop := b = 0 ∨ (n ≤ s.cur.vlmax ∧ ∀ f < n, ∃ k < n, s.cur.elem b k = f)

/-- The state as the permutation has been read. -/
def drawn (s : State) (b : Reg) : State := if b = 0 then s else { s with fresh := s.fresh + 1 }

/-- The magnitude of a finite value. -/
def mag : Fp → ℚ
  | .fin _ m e => m * 2 ^ e
  | _ => 0

/-- The signed value of a finite value. -/
def val : Fp → ℚ
  | .fin n m e => (if n then -1 else 1) * (m * 2 ^ e)
  | _ => 0

def finite : Fp → Bool
  | .fin _ _ _ => true
  | _ => false

/-- F of R121. -/
def largest (f : BitVec 4) : ℚ :=
  match f.toNat with | 3 => 448 | 4 => 57344 | 5 => 6 | 6 => 127 | 7 => 255 | 8 => 7 | _ => 128

end Sys2Proof.Claim

/-! ### Vector memory -/

/-- R217, R218, R220, R221, R222, R223, R115: VLD, VLDS and VLDX whose elements can all be read: each active element is read at its address, converted and written to its place; the flags of the conversions enter FCSR; nothing else of the strand and no byte of memory changes. -/
def Sys2Proof.Claim.VectorLoads : Prop :=
  ∀ (s s1 : State) (v a b : Reg) (f : BitVec 4) (isF : Bool) (done : List (Nat × List Nat)), Ready s → blockScaled s.cur.c.vtype f = false →
    fmtKind f s.cur.ew false = some isF → (s.rx a).toNat % fmtSize f = 0 →
    let runs (ad : Nat → Word) : Prop := InRange s (fun i => [ad i]) ∧ s.loadLoop (fmtSize f) (fun i => [ad i]) s.cur.active = (done, none, s1)
    let res (pick : Nat → Nat → Nat) : List (Nat × Nat × FFlags) := done.map (fun e => (e.1, loadConvert f isF s.cur.ew (pick e.1 (e.2.headD 0))))
    let completes (pick : Nat → Nat → Nat) : Out := finished s1 ((flagged s1.cur (orAll ((res pick).map (fun e => e.2.2)))).setElems v ((res pick).map (fun e => (e.1, e.2.1))))
    let whole : Prop := done.map (·.1) = s.cur.active ∧ SameButCaches s s1
    (s.isCollective a f = false → runs (unit s a f) → whole ∧ exec (.vld v a 0 f) s = completes (code f)) ∧
    (s.cur.c.vstr.toNat % fmtSize f = 0 → fmtBits f ≠ 4 → runs (strided s a) → whole ∧ exec (.vlds v a 0 f) s = completes (fun _ c => c)) ∧
    (fmtBits f ≠ 4 → runs (indexed s a b) → whole ∧ exec (.vldx v a b f) s = completes (fun _ c => c))

/-- R217, R223, R224: a segmented load of n fields whose elements can all be read writes field k of each active segment to register v + k, or v + p_k; no other vector register changes. -/
def Sys2Proof.Claim.SegmentedLoads : Prop :=
  ∀ row ∈ segmented, ∀ (s s1 : State) (v a b : Reg) (f : BitVec 4) (isF : Bool) (done : List (Nat × List Nat)), Ready s →
    let n := row.2.2
    blockScaled s.cur.c.vtype f = false → fmtKind f s.cur.ew false = some isF → (s.rx a).toNat % fmtSize f = 0 → v.toNat + n ≤ 32 →
    (b = 0 ∨ b.toNat < v.toNat ∨ v.toNat + n ≤ b.toNat) → Permutes s b n →
    let ads (i : Nat) : List Word := (List.range n).map (field' s a f n i)
    InRange s ads → (drawn s b).loadLoop (fmtSize f) ads s.cur.active = (done, none, s1) →
    let col (k : Nat) : List (Nat × Nat × FFlags) := done.map (fun e => (e.1, loadConvert f isF s.cur.ew (e.2.getD k 0)))
    done.map (·.1) = s.cur.active ∧ SameButCaches s s1 ∧
    ∃ t, exec (row.1 v a b f) s = .next t ∧ t.mem = s.mem ∧ t.tags = s.tags ∧ t.cur.x = s.cur.x ∧ t.cur.pc = s.cur.pc + 4 ∧
      (∀ k < n, t.cur.vr (segReg s v b k) = (s.cur.setElems (segReg s v b k) ((col k).map (fun e => (e.1, e.2.1)))).vr (segReg s v b k)) ∧
      (∀ r, (∀ k < n, r ≠ segReg s v b k) → t.cur.vr r = s.cur.vr r) ∧
      t.cur.c = ((flagged s1.cur (orAll ((List.range n).flatMap (fun k => (col k).map (fun e => e.2.2))))).vdone).c

/-- R217, R218, R220, R222, R223: VST, VSTS and VSTX whose elements can all be written: each active element is checked, and, converted under R218, stored at its address in element order; the registers keep their values, and the conversions' flags enter FCSR. -/
def Sys2Proof.Claim.VectorStores : Prop :=
  ∀ (s s1 : State) (v a b : Reg) (f : BitVec 4) (isF : Bool) (done : List Nat) (fl : FFlags), Ready s → blockScaled s.cur.c.vtype f = false →
    fmtKind f s.cur.ew false = some isF → (s.rx a).toNat % fmtSize f = 0 →
    let runs (i : Instr) (ad : Nat → Word) : Prop := InRange s (fun i => [ad i]) ∧
      s.bump.storeLoop (encode i) (fmtSize f) (fun i => [ad i]) (storedAt s f isF v) s.cur.active = (done, fl, none, s1)
    let completes : Out := finished s1 (flagged s1.cur fl)
    let kept : Prop := s.outUsed s.cur.id.core + s.cur.vl ≤ 4096 → s1.cur = { s.cur with wlog := s1.cur.wlog, pos := s.cur.pos + 1 } ∧ s1.mem = s.mem ∧ s1.tags = s.tags
    (s.isCollective a f = false → runs (.vst v a 0 f) (unit s a f) → kept ∧ exec (.vst v a 0 f) s = completes) ∧
    (s.cur.c.vstr.toNat % fmtSize f = 0 → fmtBits f ≠ 4 → runs (.vsts v a 0 f) (strided s a) → kept ∧ exec (.vsts v a 0 f) s = completes) ∧
    (fmtBits f ≠ 4 → runs (.vstx v a b f) (indexed s a b) → kept ∧ exec (.vstx v a b f) s = completes)

/-- R217, R223, R224: a segmented store of n fields whose elements can all be written stores field k of each active segment from register v + k, or v + p_k, at the segment's k-th address. -/
def Sys2Proof.Claim.SegmentedStores : Prop :=
  ∀ row ∈ segmented, ∀ (s s1 : State) (v a b : Reg) (f : BitVec 4) (isF : Bool) (done : List Nat) (fl : FFlags), Ready s →
    let n := row.2.2
    blockScaled s.cur.c.vtype f = false → fmtKind f s.cur.ew false = some isF → (s.rx a).toNat % fmtSize f = 0 → v.toNat + n ≤ 32 → Permutes s b n →
    let ads (i : Nat) : List Word := (List.range n).map (field' s a f n i)
    InRange s ads →
    (drawn s b).bump.storeLoop (encode (row.2.1 v a b f)) (fmtSize f) ads (storedFields s f isF v b n) s.cur.active = (done, fl, none, s1) →
    done = s.cur.active ∧ exec (row.2.1 v a b f) s = finished s1 (flagged s1.cur fl)

/-- R88, R83, R217, R222: a unit store of whole bytes to the strand's own scratchpad leaves the bytes of every active element waiting in the outbound buffer at its place unless a younger instruction wrote them, each other waiting byte as it was, and memory and tags as they were. -/
def Sys2Proof.Claim.ScratchpadVectorStore : Prop :=
  ∀ (s : State) (v a : Reg) (f : BitVec 4) (isF : Bool) (off : Nat), Ready s → blockScaled s.cur.c.vtype f = false →
    fmtKind f s.cur.ew false = some isF → fmtBits f ≠ 4 → off % fmtSize f = 0 → s.rx a = BitVec.ofNat 64 (0xE0 * 2 ^ 56 + off) →
    off + s.cur.vl * fmtSize f ≤ 2 ^ 23 → s.outUsed s.cur.id.core + s.cur.vl ≤ 4096 → s.cur.id.core < 384 →
    let key (i : Nat) : Nat := spadKey s.cur.id.core off + i * fmtSize f
    ∃ t, exec (.vst v a 0 f) s = .next t ∧ t.mem = s.mem ∧ t.tags = s.tags ∧ t.cur.v = s.cur.v ∧ t.cur.x = s.cur.x ∧
      (∀ i ∈ s.cur.active, ∀ k < fmtSize f, younger s (key i + k) = false →
        pending t s.cur.id.core s.cur.id.sid (key i + k) = some (BitVec.ofNat 8 ((stored s f isF v i).1 / 2 ^ (8 * k)))) ∧
      (∀ c sid x, (c ≠ s.cur.id.core ∨ sid ≠ s.cur.id.sid ∨ ∀ i ∈ s.cur.active, x < key i ∨ key i + fmtSize f ≤ x) →
        pending t c sid x = pending s c sid x)

/-- An access stops at a faulting element: with the strand `t` as what it had done leaves it, the lane-group counters record the least element of each group among those of `left`, VSTART is 0, and the element's cause is taken as a trap with ELEM set, EPC at the instruction and TVAL the fault's (R221, R390). -/
def Sys2Proof.Claim.StopsAt (s s1 : State) (t : Strand) (left : List Nat) (x : XFault) (i : Instr) : Prop :=
  left ≠ [] ∧
  ∃ tlg : Vector Word 8,
    (∀ h : Fin 8, tlg[h] = if 16 * h.val < s.cur.grant then
        (1#64 <<< 63) ||| BitVec.ofNat 64 ((left.filter (fun i => i % s.cur.grant / 16 == h.val)).headD s.cur.vl) else 0) ∧
    exec i s = .next ({ s1 with cur := { t with c := { t.c with tlg := tlg, vstart := 0 } } }.trapEntry x.cause 0 true s.cur.pc x.tval 0 s.cur.pc)

/-- R221, R130, R390: a vector load or store in unit, strided or indexed mode that faults at an element keeps what it had done, with the flags of the elements done alone, and stops there. -/
def Sys2Proof.Claim.VectorAccessStops : Prop :=
  ∀ (s s1 : State) (v a b : Reg) (f : BitVec 4) (isF : Bool) (x : XFault), Ready s → blockScaled s.cur.c.vtype f = false →
    fmtKind f s.cur.ew false = some isF → (s.rx a).toNat % fmtSize f = 0 →
    let loads (i : Instr) (ad : Nat → Word) (pick : Nat → Nat → Nat) : Prop := ∀ done : List (Nat × List Nat), InRange s (fun i => [ad i]) →
      s.loadLoop (fmtSize f) (fun i => [ad i]) s.cur.active = (done, some x, s1) →
      let res : List (Nat × Nat × FFlags) := done.map (fun e => (e.1, loadConvert f isF s.cur.ew (pick e.1 (e.2.headD 0))))
      done.map (·.1) = s.cur.active.take done.length ∧
      StopsAt s s1 ((flagged s1.cur (orAll (res.map (fun (e : Nat × Nat × FFlags) => e.2.2)))).setElems v (res.map (fun (e : Nat × Nat × FFlags) => (e.1, e.2.1)))) (s.cur.active.drop done.length) x i
    let stores (i : Instr) (ad : Nat → Word) : Prop := ∀ (done : List Nat) (fl : FFlags), InRange s (fun i => [ad i]) →
      s.bump.storeLoop (encode i) (fmtSize f) (fun i => [ad i]) (storedAt s f isF v) s.cur.active = (done, fl, some x, s1) →
      done = s.cur.active.take done.length ∧ StopsAt s s1 (flagged s1.cur fl) (s.cur.active.drop done.length) x i
    (s.isCollective a f = false → loads (.vld v a 0 f) (unit s a f) (code f) ∧ stores (.vst v a 0 f) (unit s a f)) ∧
    (s.cur.c.vstr.toNat % fmtSize f = 0 → fmtBits f ≠ 4 →
      loads (.vlds v a 0 f) (strided s a) (fun _ c => c) ∧ stores (.vsts v a 0 f) (strided s a)) ∧
    (fmtBits f ≠ 4 → loads (.vldx v a b f) (indexed s a b) (fun _ c => c) ∧ stores (.vstx v a b f) (indexed s a b))

/-- R221, R224, R390: a segmented load or store that faults at a field of a segment keeps the segments before it, every field of them, and stops at that segment. -/
def Sys2Proof.Claim.SegmentedAccessStops : Prop :=
  ∀ row ∈ segmented, ∀ (s s1 : State) (v a b : Reg) (f : BitVec 4) (isF : Bool) (x : XFault), Ready s →
    let n := row.2.2
    blockScaled s.cur.c.vtype f = false → fmtKind f s.cur.ew false = some isF → (s.rx a).toNat % fmtSize f = 0 → v.toNat + n ≤ 32 →
    Permutes s b n →
    let ads (i : Nat) : List Word := (List.range n).map (field' s a f n i)
    InRange s ads →
    (b = 0 ∨ b.toNat < v.toNat ∨ v.toNat + n ≤ b.toNat → ∀ done : List (Nat × List Nat),
      (drawn s b).loadLoop (fmtSize f) ads s.cur.active = (done, some x, s1) →
      let col (k : Nat) : List (Nat × Nat × FFlags) := done.map (fun e => (e.1, loadConvert f isF s.cur.ew (e.2.getD k 0)))
      done.map (·.1) = s.cur.active.take done.length ∧
      ∃ t : Strand, t = { flagged s1.cur (orAll ((List.range n).flatMap (fun k => (col k).map (fun e => e.2.2)))) with v := t.v } ∧
        (∀ k < n, t.vr (segReg s v b k) = (s.cur.setElems (segReg s v b k) ((col k).map (fun e => (e.1, e.2.1)))).vr (segReg s v b k)) ∧
        (∀ r, (∀ k < n, r ≠ segReg s v b k) → t.vr r = s.cur.vr r) ∧
        StopsAt s s1 t (s.cur.active.drop done.length) x (row.1 v a b f)) ∧
    (∀ (done : List Nat) (fl : FFlags),
      (drawn s b).bump.storeLoop (encode (row.2.1 v a b f)) (fmtSize f) ads (storedFields s f isF v b n) s.cur.active = (done, fl, some x, s1) →
      done = s.cur.active.take done.length ∧ StopsAt s s1 (flagged s1.cur fl) (s.cur.active.drop done.length) x (row.2.1 v a b f))

/-- R81, R221, R420: when the first active element of a vector load or store with an address outside the scratchpad's range is element k > 0, VL becomes k and the access is that of k elements; when it is element 0, the access traps with cause 0x0A0 and TVAL the address. In every mode, segmented accesses included. -/
def Sys2Proof.Claim.ScratchpadRangeTrims : Prop :=
  ∀ (s : State) (v a b : Reg) (f : BitVec 4) (isF : Bool) (k : Nat), Ready s → blockScaled s.cur.c.vtype f = false →
    fmtKind f s.cur.ew false = some isF → (s.rx a).toNat % fmtSize f = 0 → k ∈ s.cur.active →
    let trims (i : Instr) (ads : Nat → List Word) : Prop :=
      (ads k).any spadOutside = true → (∀ i ∈ s.cur.active, i < k → (ads i).any spadOutside = false) →
      (k ≠ 0 → exec i s = exec i { s with cur := { s.cur with c := { s.cur.c with vl := BitVec.ofNat 64 k } } }) ∧
      (k = 0 → ∃ t : State, exec i s = .next (t.trapEntry 0x0A0 0 false s.cur.pc (((ads 0).find? spadOutside).getD 0) 0 s.cur.pc) ∧ t = { s with fresh := t.fresh })
    (s.isCollective a f = false → trims (.vld v a 0 f) (fun i => [unit s a f i]) ∧ trims (.vst v a 0 f) (fun i => [unit s a f i])) ∧
    (s.cur.c.vstr.toNat % fmtSize f = 0 → fmtBits f ≠ 4 →
      trims (.vlds v a 0 f) (fun i => [strided s a i]) ∧ trims (.vsts v a 0 f) (fun i => [strided s a i])) ∧
    (fmtBits f ≠ 4 → trims (.vldx v a b f) (fun i => [indexed s a b i]) ∧ trims (.vstx v a b f) (fun i => [indexed s a b i])) ∧
    (∀ row ∈ segmented, let n := row.2.2
      v.toNat + n ≤ 32 → Permutes s b n →
      let ads (i : Nat) : List Word := (List.range n).map (field' s a f n i)
      trims (row.2.1 v a b f) ads ∧ (b = 0 ∨ b.toNat < v.toNat ∨ v.toNat + n ≤ b.toNat → trims (row.1 v a b f) ads))

/-- R158, R218, R219, R220, R221, R224: the checks before any element: a format that is not accepted at EW is cause 0x101 with TVAL VTYPE; a scale field without block scaling, and an indexed or segmented access in a block-scaled format, is reserved; a scale register that is the data register, and a permutation register among the loaded fields, is cause 0x003; a misaligned base, or in strided mode VSTR, is cause 0x086. -/
def Sys2Proof.Claim.VectorAccessChecks : Prop :=
  ∀ (s : State) (v a b : Reg) (f : BitVec 4), s.isCollective a f = false →
    let sc := blockScaled s.cur.c.vtype f
    let both (i j : Instr) (o : Instr → Out) : Prop := exec i s = o i ∧ exec j s = o j
    (sc = false → b ≠ 0 → both (.vld v a b f) (.vst v a b f) (refused s 0x001) ∧ both (.vlds v a b f) (.vsts v a b f) (refused s 0x001)) ∧
    (sc = true ∨ b = 0 → fmtKind f s.cur.ew sc = none → both (.vld v a b f) (.vst v a b f) (fun _ => trapped s 0x101 s.cur.c.vtype) ∧
      both (.vlds v a b f) (.vsts v a b f) (fun _ => trapped s 0x101 s.cur.c.vtype)) ∧
    (sc = true → fmtKind f s.cur.ew sc ≠ none → b = v → both (.vld v a b f) (.vst v a b f) (refused s 0x003) ∧
      both (.vlds v a b f) (.vsts v a b f) (refused s 0x003)) ∧
    ((if sc = true then b ≠ v else b = 0) → fmtKind f s.cur.ew sc ≠ none → (s.rx a).toNat % fmtSize f ≠ 0 →
      both (.vld v a b f) (.vst v a b f) (fun _ => trapped s 0x086 (s.rx a)) ∧ both (.vlds v a b f) (.vsts v a b f) (fun _ => trapped s 0x086 (s.rx a))) ∧
    ((if sc = true then b ≠ v else b = 0) → fmtKind f s.cur.ew sc ≠ none → (s.rx a).toNat % fmtSize f = 0 → s.cur.c.vstr.toNat % fmtSize f ≠ 0 →
      both (.vlds v a b f) (.vsts v a b f) (fun _ => trapped s 0x086 s.cur.c.vstr)) ∧
    (sc = true → both (.vldx v a b f) (.vstx v a b f) (refused s 0x001)) ∧
    (sc = false → fmtKind f s.cur.ew false = none → both (.vldx v a b f) (.vstx v a b f) (fun _ => trapped s 0x101 s.cur.c.vtype)) ∧
    (sc = false → fmtKind f s.cur.ew false ≠ none → (s.rx a).toNat % fmtSize f ≠ 0 →
      both (.vldx v a b f) (.vstx v a b f) (fun _ => trapped s 0x086 (s.rx a))) ∧
    (∀ row ∈ segmented,
      (sc = true → both (row.1 v a b f) (row.2.1 v a b f) (refused s 0x001)) ∧
      (sc = false → fmtKind f s.cur.ew false = none → both (row.1 v a b f) (row.2.1 v a b f) (fun _ => trapped s 0x101 s.cur.c.vtype)) ∧
      (sc = false → fmtKind f s.cur.ew false ≠ none → b ≠ 0 → v.toNat ≤ b.toNat → b.toNat < v.toNat + row.2.2 →
        exec (row.1 v a b f) s = refused s 0x003 (row.1 v a b f)))

/-! ### Block scaling and planes -/

/-- R121: the scale of a block with finite active values and a magnitude above zero is the least that brings the largest within the format, and none is below code 0; a block of zeros has scale 0x7F; one with a NaN or an infinity has scale 0xFF, codes 0 and NV. -/
def Sys2Proof.Claim.BlockScaleChosen : Prop :=
  ∀ (f : BitVec 4) (vals : List Fp), 3 ≤ f.toNat → f.toNat ≤ 9 →
    (∀ v ∈ vals, mag v < 2 ^ (128 : ℤ)) →
    let q := blockStore f vals
    ((∃ v ∈ vals, finite v = false) → q = (255, vals.map (fun _ => 0), fNV)) ∧
    ((∀ v ∈ vals, finite v = true ∧ mag v = 0) → q = (0x7F, vals.map (fun _ => 0), 0)) ∧
    ((∀ v ∈ vals, finite v = true) → (∃ v ∈ vals, mag v ≠ 0) →
      q.1 ≤ 253 ∧ (∀ v ∈ vals, mag v ≤ largest f * 2 ^ ((q.1 : ℤ) - 127)) ∧
      (q.1 ≠ 0 → ∃ v ∈ vals, largest f * 2 ^ ((q.1 : ℤ) - 128) < mag v))

/-- R122: a block-scaled load of a code with a finite value gives that value times 2^(scale − 127) when the register's format holds it exactly, and the canonical NaN under scale 0xFF. -/
def Sys2Proof.Claim.BlockScaledLoadValue : Prop :=
  ∀ (f : BitVec 4) (ew scale c : Nat), ew = 16 ∨ ew = 32 →
    scaledLoad f ew 255 c = (floatFormat ew).nan ∧
    (scale < 255 → finite (fmtValue f c) = true → ∀ c' ≤ (floatFormat ew).maxCode, ∀ n : Bool,
      val ((floatFormat ew).decode (c' + if n then 2 ^ ((floatFormat ew).width - 1) else 0)) = val (fmtValue f c) * 2 ^ ((scale : ℤ) - 127) →
      val (fmtValue f c) ≠ 0 → scaledLoad f ew scale c = c' + if n then 2 ^ ((floatFormat ew).width - 1) else 0)

/-- R219, R121, R122: a block-scaled VLD or VST whose blocks can all be read or written completes with the scales in the scale register and the elements as `blockLoads` and `blockStores` leave them, from block VSTART div BS on. -/
def Sys2Proof.Claim.BlockScaledAccesses : Prop :=
  ∀ (s s1 : State) (v a b : Reg) (f : BitVec 4), Ready s → s.cur.resuming = false → blockScaled s.cur.c.vtype f = true → s.isCollective a f = false →
    fmtKind f s.cur.ew true = some true → b ≠ v → (s.rx a).toNat % fmtSize f = 0 →
    let bs : Nat := 8 * 2 ^ (s.cur.c.vtype.extractLsb' 5 2).toNat
    let n := (s.cur.vl + bs - 1) / bs
    let blocks := (List.range n).filter (fun j => s.cur.vstart / bs ≤ j)
    (∀ i < s.cur.vl, spadOutside (unit s a f i) = false) →
    (s.blockLoads f v b a bs n (unit s a f) (code f) blocks = (s1, true) → exec (.vld v a b f) s = finished s1 s1.cur) ∧
    (s.bump.blockStores (encode (.vst v a b f)) f v b a bs n (unit s a f) (fun r i => s.cur.elem r i) blocks = (s1, true) →
      exec (.vst v a b f) s = finished s1 s1.cur)

/-- R124, R125: the integers of a group with a non-zero finite value: the exponent byte is that of the largest magnitude, at least −127, each integer is its value scaled and truncated toward zero, and none leaves the range of its precision. -/
def Sys2Proof.Claim.PlaneGroupIntegers : Prop :=
  ∀ (p : Nat) (xs : List Fp), 2 ≤ p → p ≤ 16 →
    let g := planeGroup p xs
    ((∃ x ∈ xs, finite x = false) → g = (255, xs.map (fun _ => 0), fNV)) ∧
    ((∀ x ∈ xs, finite x = true ∧ mag x = 0) → g = (0, xs.map (fun _ => 0), 0)) ∧
    ((∀ x ∈ xs, finite x = true ∧ mag x < 2 ^ (128 : ℤ)) → (∃ x ∈ xs, mag x ≠ 0) →
      g.1 < 255 ∧ g.2.2 = 0 ∧ (∀ x ∈ xs, mag x < 2 ^ ((g.1 : ℤ) - 126)) ∧ (0 < g.1 → ∃ x ∈ xs, 2 ^ ((g.1 : ℤ) - 127) ≤ mag x) ∧
      g.2.1.length = xs.length ∧
      ∀ e ∈ xs.zip g.2.1, |(e.2 : ℚ)| ≤ 2 ^ (p - 1) - 1 ∧ 0 ≤ (e.2 : ℚ) * val e.1 ∧
        |(e.2 : ℚ)| ≤ mag e.1 * 2 ^ ((p : ℤ) - 2 - ((g.1 : ℤ) - 127)) ∧ mag e.1 * 2 ^ ((p : ℤ) - 2 - ((g.1 : ℤ) - 127)) < |(e.2 : ℚ)| + 1)

/-- R227, R124: the layout of an A-group record: plane word p at 4p with bit k the bit p of q_k in two's complement, the exponent byte at 4P, and zeros after it. -/
def Sys2Proof.Claim.PlaneRecordLayout : Prop :=
  ∀ (p : Nat) (xs : List Fp), 2 ≤ p → p ≤ 16 → xs.length = 32 → (∀ x ∈ xs, mag x < 2 ^ (128 : ℤ)) →
    let g := planeGroup p xs; let bytes := (aRecord p xs).1
    bytes.length = 4 * (p + 1) ∧ (aRecord p xs).2 = g.2.2 ∧
    (∀ w < p, ∀ k < 32, (bytes.getD (4 * w + k / 8) 0).getLsbD (k % 8) = (BitVec.ofInt p (g.2.1.getD k 0)).getLsbD w) ∧
    bytes.getD (4 * p) 0 = BitVec.ofNat 8 g.1 ∧ bytes.getD (4 * p + 1) 0 = 0 ∧ bytes.getD (4 * p + 2) 0 = 0 ∧ bytes.getD (4 * p + 3) 0 = 0

/-- R228, R226: a plane store into the own scratchpad whose records all lie in it writes the record of each group of 32, inactive and tail values counting as +0, at x[a] + g·KSTR in ascending order; its refusals come before any group. -/
def Sys2Proof.Claim.PlaneStores : Prop :=
  ∀ (s : State) (v a : Reg), Ready s → s.cur.resuming = false →
    let P := (s.cur.c.tprec.extractLsb' 0 5).toNat
    let value (i : Nat) : Fp := if i ∈ s.cur.active then (floatFormat s.cur.ew).decode (s.cur.elem v i) else .fin false 0 0
    let groups := (List.range ((s.cur.vl + 31) / 32)).filter (fun g => s.cur.vstart / 32 ≤ g)
    let off (g : Nat) : Nat := ((s.rx a).extractLsb' 0 23).toNat + g * (s.cur.c.tpitch.extractLsb' 0 24).toNat
    let done (i : Instr) (rec : List Fp → List Byte × FFlags) : State := groups.foldl (fun t g =>
        let q := rec ((List.range 32).map (fun k => value (32 * g + k)))
        let t := t.storeBytes (spadKey s.cur.id.core (off g)) (encode i) q.1
        { t with cur := flagged t.cur q.2 }) s.bump
    let fits (len : Nat) : Prop := s.cur.ew ≠ 64 ∧ (s.rx a).toNat / 2 ^ 23 = 0xE0 * 2 ^ 33 ∧ (s.rx a).toNat % 4 = 0 ∧ ∀ g ∈ groups, off g + len ≤ 2 ^ 23
    (2 ≤ P → P ≤ 16 → fits (4 * (P + 1)) → exec (.plsta v a) s = finished (done (.plsta v a) (aRecord P)) (done (.plsta v a) (aRecord P)).cur) ∧
    (fits 68 → exec (.plstb v a) s = finished (done (.plstb v a) bRecord) (done (.plstb v a) bRecord).cur) ∧
    (fits 36 → exec (.plstbDpw8 v a) s = finished (done (.plstbDpw8 v a) dpRecord) (done (.plstbDpw8 v a) dpRecord).cur) ∧
    (s.cur.ew = 64 → ∀ i ∈ [Instr.plsta v a, .plstb v a, .plstbDpw8 v a], exec i s = trapped s 0x101 s.cur.c.vtype) ∧
    (s.cur.ew ≠ 64 → P < 2 → exec (.plsta v a) s = trapped s 0x281 s.cur.c.tprec) ∧
    (s.cur.ew ≠ 64 → (s.rx a).extractLsb' 56 8 ≠ 0xE0 → ∀ i ∈ [Instr.plstb v a, .plstbDpw8 v a], exec i s = trapped s 0x0A1 (s.rx a)) ∧
    (s.cur.ew ≠ 64 → (s.rx a).extractLsb' 56 8 = 0xE0 → (s.rx a).toNat % 4 ≠ 0 → ∀ i ∈ [Instr.plstb v a, .plstbDpw8 v a], exec i s = trapped s 0x086 (s.rx a))

/-! ### Linked loads and conditional scatters -/

/-- R243, R244: a VGLK whose elements can all be read clears the link record and leaves for each active element its data and its entry; memory and tags do not change. A format that needs conversion is cause 0x101, a base that is no multiple of the element size 0x086 (R221). -/
def Sys2Proof.Claim.LinkedGather : Prop :=
  ∀ (s s1 : State) (v a b : Reg) (f : BitVec 4) (done : List (Nat × Nat)), Ready s →
    let native : Prop := (f = 1 ∧ s.cur.ew = 16) ∨ (f = 0 ∧ s.cur.ew = 32) ∨ (f = 10 ∧ s.cur.ew = 32) ∨ (f = 11 ∧ s.cur.ew = 64)
    (native → (s.rx a).toNat % fmtSize f = 0 → s.cur.resuming = false → InRange s (fun i => [indexed s a b i]) →
      { s with cur := { s.cur with link := [] } }.vglkLoop (fmtSize f) (indexed s a b) s.cur.active = (done, none, s1) →
      exec (.vglk v a b f) s = finished s1 (s1.cur.setElems v done) ∧ done.map (·.1) = s.cur.active ∧ s1.mem = s.mem ∧ s1.tags = s.tags ∧
      s1.cur = { s.cur with link := s1.cur.link } ∧ (∀ i, i ∉ s.cur.active → ∀ e ∈ s1.cur.link, e.elem ≠ i)) ∧
    (native → (s.rx a).toNat % fmtSize f ≠ 0 → exec (.vglk v a b f) s = trapped s 0x086 (s.rx a)) ∧
    (¬ native → exec (.vglk v a b f) s = trapped s 0x101 s.cur.c.vtype)

/-- R245, R429, R88: one VSCC element with a resolved address whose home lies in the own module on a die that has not failed, and none of the strand's writes outstanding, succeeds exactly when its link entry names the line, is younger than 640 ns and still has the line's generation and poison epoch, and the line is not poisoned; then its bytes are written, GEN grows by 1 and the line stands turned at SCOPE under the strand; else nothing is written. -/
def Sys2Proof.Claim.ConditionalStoreElement : Prop :=
  ∀ (s s1 : State) (w : InsnWord) (i : Nat) (va : Word) (n v key : Nat), n = 2 ∨ n = 4 ∨ n = 8 → key % n = 0 →
    s.elemKey va n .write = (.ok key, s) → keyModule key = 0 → (s.dieAt (homeDie key)).phase ≠ .failed → s.cur.id.sid ≠ 0 → s.core.id = s.cur.id.core → s.core.outb = [] → s.homes.wnet = [] → Inv s →
    let l := key / 64
    let hit : Prop := ∃ e, s.cur.link.find? (fun e => e.elem == i) = some e ∧ e.line = 64 * l ∧ (s.now + 2 ^ 48 - e.tick.toNat) % 2 ^ 48 < 640 ∧
      e.gen = (s.tag l).gen ∧ e.epoch = (s.coreAt (keyCore key)).poison ∧ (s.tag l).state ≠ 7
    (¬ hit → ∃ m, s.vsccElem w i va n v = (.ok false, { s with mark := m })) ∧
    (hit → s.vsccElem w i va n v = (.ok true, s1) →
      (s1.tag l).state = s.cur.c.vtype.extractLsb' 2 3 ∧ (s1.tag l).writer = s.cur.writer ∧ (s1.tag l).gen = (s.tag l).gen + 1 ∧
      (∀ m, m ≠ l → s1.tag m = s.tag m) ∧
      (∀ k < n, s1.byte (key + k) = BitVec.ofNat 8 (v / 2 ^ (8 * k))) ∧ (∀ a, a < key ∨ key + n ≤ a → s1.byte a = s.byte a)) ∧
    (hit → ∃ t, s.vsccElem w i va n v = (.ok true, t))

/-- R245, R243, R412: a VSCC whose elements all complete clears the mask bits of those that succeeded and the whole link record; without a mask it is cause 0x005, with the mask register as its data register cause 0x003, and with a base that is no multiple of the element size 0x086 (R221). -/
def Sys2Proof.Claim.ConditionalScatter : Prop :=
  ∀ (s s1 : State) (v a b : Reg) (f : BitVec 4) (done : List (Nat × Bool)), Ready s →
    let m : Reg := s.cur.c.vm.extractLsb' 0 5
    let native : Prop := (f = 1 ∧ s.cur.ew = 16) ∨ (f = 0 ∧ s.cur.ew = 32) ∨ (f = 10 ∧ s.cur.ew = 32) ∨ (f = 11 ∧ s.cur.ew = 64)
    (native → s.cur.c.vm.getLsbD 5 = true → v ≠ m → (s.rx a).toNat % fmtSize f = 0 → InRange s (fun i => [indexed s a b i]) →
      s.bump.vsccLoop (encode (.vscc v a b f)) (fmtSize f) (indexed s a b) (fun i => s.cur.elem v i) s.cur.active = (done, none, s1) →
      exec (.vscc v a b f) s = finished s1 { s1.cur.setElems m ((done.filter (·.2)).map (fun e => (e.1, 0))) with link := [] }) ∧
    (¬ native → exec (.vscc v a b f) s = trapped s 0x101 s.cur.c.vtype) ∧
    (native → s.cur.c.vm.getLsbD 5 = false → exec (.vscc v a b f) s = refused s 0x005 (.vscc v a b f)) ∧
    (native → s.cur.c.vm.getLsbD 5 = true → v ≠ m → (s.rx a).toNat % fmtSize f ≠ 0 → exec (.vscc v a b f) s = trapped s 0x086 (s.rx a)) ∧
    (native → s.cur.c.vm.getLsbD 5 = true → v = m → exec (.vscc v a b f) s = refused s 0x003 (.vscc v a b f))

namespace Sys2Proof.Claim
open Machine

/-- The clock that a deadline operand names (R281). -/
def clockOf (s : State) (op : Word) : Nat := if op.getLsbD 63 = true then s.cur.c.dclkr.toNat else s.dclkw.toNat

/-- The clock as it stood when the instruction issued: now, less what it has waited at issue since (R281). -/
def issued (s : State) (op : Word) : Nat := clockOf s op - (s.dclkw.toNat - s.cur.stall.getD s.dclkw.toNat)

/-- The effective deadline: the smaller of the operand's tick and DLCAP.CAP after the issue on the same clock (R281); an instruction that has waited at issue keeps the one that it formed there. -/
def effective (s : State) (op : Word) : Nat :=
  match s.cur.due with
  | some q => q.1.tick
  | none => min (op.toNat % 2 ^ 63) (issued s op + s.core.dlcap.toNat % 2 ^ 63)

/-- The clock of the effective deadline: whether it is the run clock. -/
def onRun (s : State) (op : Word) : Bool := match s.cur.due with | some q => q.1.onRun | none => op.getLsbD 63

/-- A poll: the operand 0, or an effective deadline at or before the issue (R281). -/
def polls (s : State) (op : Word) : Bool :=
  match s.cur.due with
  | some q => q.2
  | none => decide (op = 0 ∨ effective s op ≤ issued s op)

/-- No time is left: a poll, or an instruction that has waited at issue up to its effective deadline (R92, R281). -/
def noTime (s : State) (op : Word) : Bool :=
  polls s op || decide (effective s op ≤ if onRun s op = true then s.cur.c.dclkr.toNat else s.dclkw.toNat)

/-- The instruction at the program counter waits at issue for the strand's engine stores, under the deadline that it has formed (R259, R281). -/
def stalls (s : State) (op : Word) : Out :=
  .next { s with
    cur := { s.cur with stall := some (s.cur.stall.getD s.dclkw.toNat), blockedOn := none, due := some (⟨onRun s op, effective s op⟩, polls s op) }
    mark := { s.mark with idle := true } }

/-- A status word (R283). -/
def stat (outcome detail value : Nat) : Word := BitVec.ofNat 64 (outcome + 8 * detail + 256 * value)

/-- TOCNT after a status (R285). -/
def tocntAfter (s : State) (st : Word) (poll : Bool) : Word :=
  if poll = true then s.cur.c.tocnt
  else if st.extractLsb' 0 3 = 1 ∨ st.extractLsb' 0 3 = 2 then BitVec.ofNat 64 (min (s.cur.c.tocnt.toNat % 2 ^ 32 + 1) (2 ^ 32 - 1))
  else 0

/-- Whether the addition made TOCNT equal to a limit that is not 0 (R285). -/
def escalates (s : State) (st : Word) (poll : Bool) : Prop :=
  poll = false ∧ (st.extractLsb' 0 3 = 1 ∨ st.extractLsb' 0 3 = 2) ∧ s.cur.c.tocnt.toNat % 2 ^ 32 ≠ 2 ^ 32 - 1 ∧
  s.core.escal.toNat % 2 ^ 32 = s.cur.c.tocnt.toNat % 2 ^ 32 + 1

/-- A deadline-taking instruction ends: its status in x[d], TOCNT as R285 says, and either the next instruction or, where the limit is met, the escalation trap. -/
def ended (s : State) (d : Reg) (st : Word) (poll : Bool) : Out :=
  let t := { s with cur := { s.cur with
    x := if d = 0 then s.cur.x else s.cur.x.set d.toNat st d.isLt
    c := { s.cur.c with tocnt := tocntAfter s st poll } } }
  if poll = false ∧ (st.extractLsb' 0 3 = 1 ∨ st.extractLsb' 0 3 = 2) ∧ s.cur.c.tocnt.toNat % 2 ^ 32 ≠ 2 ^ 32 - 1 ∧
      s.core.escal.toNat % 2 ^ 32 = s.cur.c.tocnt.toNat % 2 ^ 32 + 1 then
    .next (t.trapEntry 0x180 0 false s.cur.pc (tocntAfter s st poll) 0 (s.cur.pc + 4))
  else .next (went t)

/-- The strand waits at the instruction `i` for `w`, with its effective deadline (R281, R286). -/
def waits (s : State) (i : Instr) (d : Reg) (op : Word) (w : WaitFor) (refusedAt : Option Nat) : Out :=
  .next { s with cur := { s.cur with run := .waiting ⟨encode i, d, ⟨onRun s op, effective s op⟩, w, refusedAt, false⟩ } }

/-- A wait on an object registers its strand at the home (R290). -/
def registered (s : State) (obj : Nat) : State := { s with homes := { s.homes with waiters := s.homes.waiters ++ [⟨s.cur.id.sid, obj, none⟩] } }

/-- Nothing of the strand is outstanding at a turning operation: no record, request, logged write, stream element, invalidation or engine store; and no strand waits at a home. -/
def Settled (s : State) : Prop :=
  Undisturbed s ∧ s.cur.wlog = [] ∧ (∀ o ∈ s.cur.streams.toList, ∀ b, o = some b → b.pend = []) ∧ s.engStores = false ∧ s.homes.invals = [] ∧ s.homes.acks = [] ∧ s.homes.waiters = []

/-- The object at `va` is read twice, with every check of R289, and stands as the line `l` at `key`; the reads change nothing but the model's own notes of the move. -/
def ReadsTwice (s s1 s2 : State) (va : Word) (type key : Nat) (l : Line) : Prop :=
  s.readObj s.me va type = (.ok (key, l), s1) ∧ s1 = { s with mark := s1.mark } ∧
  s1.readObj s.me va type = (.ok (key, l), s2) ∧ s2 = { s with mark := s2.mark }

/-- The state with x[c] written as a datum (R288). -/
def withDatum (s : State) (c : Reg) (v : Word) : State := { s with cur := { s.cur with x := if c = 0 then s.cur.x else s.cur.x.set c.toNat v c.isLt } }

/-- A little-endian field of an object line. -/
def fld (l : Line) (off n : Nat) : Nat := (l.extractLsb' (8 * off) (8 * n)).toNat

/-- HEAD and TAIL as a VALUE (R283, R299). -/
def headTail (l : Line) : Nat := fld l 4 4 * 2 ^ 28 + fld l 8 4

/-- Entries held and capacity (R298). -/
def held (l : Line) : Nat := (fld l 8 4 + 2 ^ 28 - fld l 4 4) % 2 ^ 28
def room (l : Line) : Prop := held l < 2 ^ fld l 2 1

/-- Element j of an affine stream (R232). -/
def streamAt (b : Stream) (j : Nat) : Int := (b.base : Int) + ((j / b.n0 : Nat) : Int) * b.s1 + ((j % b.n0 : Nat) : Int) * b.s0

/-- A binding as SBIND makes it. -/
def bound (d : Vector Word 4) : Stream := ⟨d, 0, [], none, none, false, []⟩

/-- The four doublewords of 32 bytes. -/
def words (n : Nat) : Vector Word 4 := Vector.ofFn (fun k => BitVec.ofNat 64 (n / 2 ^ (64 * k.val)))

/-- The strand with the binding of v28 + `i` replaced. -/
def setBinding (s : State) (i : Nat) (b : Option Stream) : State := { s with cur := { s.cur with streams := s.cur.streams.setIfInBounds i b } }

/-- The wait at issue, if there was one, is over. -/
def unwaited (s : State) : State := { s with cur := { s.cur with stall := none, due := none, blockedOn := none } }

end Sys2Proof.Claim

/-! ### Streams -/

/-- R230, R231, R232: an affine descriptor is well formed exactly when its reserved fields are zero, its format is none of 5, 8 and 12 to 15, its counts are at least 1, and every element lies in the scratchpad at a multiple of the format's size; a remote one when its reserved fields are zero. -/
def Sys2Proof.Claim.StreamDescriptors : Prop :=
  ∀ (d : Vector Word 4), let b := bound d; let n := fmtSize b.fmt
    let common : Prop := d[0].extractLsb' 12 20 = 0 ∧ d[0].extractLsb' 4 4 = 0 ∧ b.fmt ≠ 5 ∧ b.fmt ≠ 8 ∧ b.fmt.toNat < 12
    (b.kind < 2 → (descOk d = true ↔ common ∧ 1 ≤ b.n0 ∧ 1 ≤ b.n1 ∧
      ∀ j < b.n0 * b.n1, 0 ≤ streamAt b j ∧ streamAt b j + n ≤ 2 ^ 23 ∧ streamAt b j % n = 0)) ∧
    (2 ≤ b.kind → (descOk d = true ↔ common ∧ d[1].extractLsb' 7 57 = 0 ∧ d[2] = 0 ∧ d[3] = 0))

/-- R231, R234, R233: SBIND of an unbound register reads its descriptor as a load of the strand and binds it, or traps: a misaligned one with cause 0x086, a malformed one with 0x204, leaving the register unbound; SUNBIND releases an input at once, taking the group it holds, places an affine output's elements in the outbound path, waits while a remote output's group stands, tells the partner, and does nothing to an unbound register; SPOS reads the count. -/
def Sys2Proof.Claim.StreamInstructions : Prop :=
  ∀ (s s1 : State) (v a d : Reg) (n : Nat) (b : Stream), 28 ≤ v.toNat →
    let i := v.toNat - 28; let va := s.rx a; let u := unwaited s
    let gone (t : State) : Out := .next (went (unwaited (setBinding t i none)))
    (s.cur.stream v = none → va.toNat % 32 = 0 → u.loadAt u.me va 32 = (.ok n, s1) →
      SameButCaches u s1 ∧
      (descOk (words n) = true → exec (.sbind v a) s = .next (went (setBinding s1 i (some (bound (words n)))))) ∧
      (descOk (words n) = false → exec (.sbind v a) s = trapped s1 0x204 va)) ∧
    (s.cur.stream v = none → va.toNat % 32 ≠ 0 → exec (.sbind v a) s = trapped u 0x086 va) ∧
    (s.cur.stream v = none → exec (.sunbind v) s = .next (went u) ∧ exec (.spos d v) s = .next (wrote s d 0)) ∧
    (s.cur.stream v = some b → exec (.spos d v) s = .next (wrote s d (BitVec.ofNat 64 b.count))) ∧
    (s.cur.stream v = some b → b.kind = 0 → exec (.sunbind v) s = gone s) ∧
    (s.cur.stream v = some b → b.kind = 1 → exec (.sunbind v) s = gone (s.placeStream i)) ∧
    (s.cur.stream v = some b → b.kind = 2 → exec (.sunbind v) s = gone (s.onPartner s.cur i (fun c => { c with group := none }))) ∧
    (s.cur.stream v = some b → b.kind = 3 → b.group = none →
      exec (.sunbind v) s = gone (s.onPartner s.cur i (fun c => { c with closed := true }))) ∧
    (s.cur.stream v = some b → b.kind = 3 → b.group.isSome = true →
      ∃ t0, exec (.sunbind v) s = .next { s with cur := { s.cur with stall := some t0, blockedOn := some v }, mark := { s.mark with idle := true } } ∧
        (s.cur.blockedOn = none → t0 = s.dclkw.toNat))

/-! ### Turnaround -/

/-- R89 step 2, R94: what a turn at a level does to the tag of a line: an un-turned line of the strand stands at the level, one already turned by it at the larger of the two levels, any other keeps its tag; the all-writers turn sets every other un-turned line as well. -/
def Sys2Proof.Claim.TurnedTags : Prop :=
  ∀ (own : BitVec 18) (w : BitVec 12) (lvl l : Nat) (t : Tag), lvl ≤ 4 →
    let mine : Prop := t.writer = w ∧ (isSpad (64 * l) = true ∨ t.wmod = own)
    (mine → t.state = 6 → turnTag own w lvl l t = { t with state := BitVec.ofNat 3 lvl }) ∧
    (mine → t.state.toNat ≤ 4 → turnTag own w lvl l t = { t with state := BitVec.ofNat 3 (max t.state.toNat lvl) }) ∧
    (¬ mine ∨ t.state = 5 ∨ t.state = 7 → turnTag own w lvl l t = t) ∧
    turnedTag own w lvl false l t = turnTag own w lvl l t ∧
    (t.state = 6 → turnedTag own w lvl true l t = { t with state := BitVec.ofNat 3 lvl }) ∧
    (t.state ≠ 6 → turnedTag own w lvl true l t = turnTag own w lvl l t)

/-- R89: a turn over lines: afterwards none of the strand's stores to them is on its way, no cache of inbound lines or of code within the level's scope holds one of them, every other line keeps its tag, and where nothing was on its way each line's tag is the turned one and memory is as it was. -/
def Sys2Proof.Claim.TurnedLines : Prop :=
  ∀ (s : State) (lvl first last : Nat), s.cur.id.sid ≠ 0 → lvl ≤ 4 → isSpad (64 * first) = false →
    let t := s.turnLines s.me lvl false first last
    (∀ e ∈ (t.coreAt s.cur.id.core).outb, e.sid = s.cur.id.sid → e.line < first ∨ last ≤ e.line) ∧
    (∀ f ∈ t.homes.wnet, f.block = none → f.entry.sid = s.cur.id.sid → f.entry.line < first ∨ last ≤ f.entry.line) ∧
    (∀ k ∈ t.core :: t.cores, within lvl s.cur.id.core k.id = true → ∀ e ∈ k.inb ++ k.icb, e.1 < first ∨ last ≤ e.1) ∧
    ((s.coreAt s.cur.id.core).outb = [] → s.homes.wnet = [] → t.mem = s.mem ∧ t.cur = s.cur ∧
      (∀ l, first ≤ l → l < last → t.tag l = turnTag s.front.modnum s.cur.writer lvl l (s.tag l)) ∧
      (∀ l, l < first ∨ last ≤ l → t.tag l = s.tag l))

/-- R237, R93, R232: a complete turn of the write log at a level, what the output streams have produced placed first, leaves every span at that level or above, or gone; it has turned the bytes of exactly the spans that stood below it. -/
def Sys2Proof.Claim.WriteLogTurned : Prop :=
  ∀ (s s1 : State) (lvl n : Nat), lvl ≤ 4 → s.turnLog lvl false = (n, true, s1) →
    (∀ sp ∈ s1.cur.wlog, ∃ l, sp.level = some l ∧ lvl ≤ l) ∧
    n = ((s.placeStreams.cur.wlog.filter (fun sp => sp.below lvl)).map Span.size).sum

/-- R236, R92, R237, R259, R285: TURN by how its region ended: DONE with the length, TIMEOUT or PARTIAL with the bytes whose lines are done, or the fault of the page that failed; the spans of the write log that lie within the lines done stand at the level or above; an empty region is DONE at once, a region outside every space is cause 0x084, the all-writers flag is refused below M and to a user strand, and a TURN over lines that the strand's engine commands have still to write waits while it has time. -/
def Sys2Proof.Claim.TurnOutcomes : Prop :=
  ∀ (s s1 : State) (d a b c : Reg) (l : BitVec 3) (e : TurnEnd), s.cur.request = none → l.toNat ≤ 4 →
    let op := s.rx c; let base := s.rx a; let len := (s.rx b).toNat % 2 ^ 63; let all := (s.rx b).getLsbD 63; let p := polls s op
    let i := Instr.turn d a b c l
    let B := if e.all = true then len else min len (64 * e.lines - base.toNat % 64)
    (all = true → l.toNat < 3 → exec i s = refused s 0x001 i) ∧
    (all = true → 3 ≤ l.toNat → s.cur.sup = false → exec i s = refused s 0x002 i) ∧
    ((all = true → 3 ≤ l.toNat ∧ s.cur.sup = true) →
      (len = 0 → exec i s = ended s d (stat 0 0 0) p) ∧
      (len ≠ 0 → turnOutside base len = true → exec i s = trapped s 0x084 base) ∧
      (len ≠ 0 → turnOutside base len = false → s.turnOut base len = true → noTime s op = false → exec i s = stalls s op) ∧
      (len ≠ 0 → turnOutside base len = false → s.turnOut base len = false ∨ noTime s op = true →
        s.turnRegion l.toNat all (noTime s op) base len = (e, s1) →
        (∀ x, e.fault = some x → exec i s = trapped s1 x.cause x.tval) ∧
        (e.fault = none → exec i s = ended s1 d (if B = len then stat 0 0 B else if B = 0 then stat 1 0 0 else stat 3 0 B) p) ∧
        (∀ sp ∈ s1.cur.wlog, ∀ r ∈ e.ranges, 64 * r.1 ≤ sp.base → sp.base + sp.size ≤ 64 * r.2 → ∃ k, sp.level = some k ∧ l.toNat ≤ k)))

/-- R239, R240, R241, R259: TURNALL reports the bytes turned; FENCE waits for the classes it selects, its output streams placed first, and reports those complete; PUBLISH turns at PUBLVL, then declares the strand's elements below WIDBASE and reports WIDBASE − first; while engine stores of the strand are to come, TURNALL and PUBLISH wait at issue and end with TIMEOUT when no time is left. -/
def Sys2Proof.Claim.TurnallFencePublish : Prop :=
  ∀ (s s1 : State) (d a c : Reg) (l : BitVec 3) (n : Nat) (ok : Bool), Undisturbed s →
    let op := s.rx c; let mask := (s.rx a).toNat % 32; let no := noTime s op
    let turned : Word := if ok = true then stat 0 0 n else if n = 0 then stat 1 0 0 else stat 3 0 n
    let u := s.placeStreams; let done := u.classesDone u.cur; let p := polls u op
    (s.engStores = true → no = false → exec (.turnall d c l) s = stalls s op ∧ exec (.publish d c) s = stalls s op) ∧
    (s.engStores = true → no = true →
      exec (.turnall d c l) s = ended s d (stat 1 0 0) (polls s op) ∧ exec (.publish d c) s = ended s d (stat 1 0 0) (polls s op)) ∧
    (s.engStores = false → s.turnLog l.toNat no = (n, ok, s1) → exec (.turnall d c l) s = ended s1 d turned (polls s1 op)) ∧
    (mask &&& done = mask → exec (.fence d a c) s = ended u d (stat 0 0 mask) p) ∧
    (mask &&& done ≠ mask → p = true → exec (.fence d a c) s =
      ended u d (if mask &&& done = 0 then stat 1 0 0 else stat 3 0 (mask &&& done)) true) ∧
    (mask &&& done ≠ mask → p = false → exec (.fence d a c) s = waits u (.fence d a c) d op (.fence ((s.rx a).extractLsb' 0 5)) none) ∧
    (s.engStores = false → s.turnLog s.cur.id.publvl no = (n, ok, s1) →
      (ok = false → exec (.publish d c) s = ended s1 d turned (polls s1 op)) ∧
      (ok = true → exec (.publish d c) s =
        ended (s1.declareUpTo s1.cur.c.widbase.toNat) d (stat 0 0 (s1.cur.c.widbase - s1.cur.id.first).toNat) (polls s1 op)))

/-! ### Deadlines, waits and home objects -/

/-- R285, R283: the end of a deadline-taking instruction, here a WAITC that waits for nothing: its status in x[d], TOCNT changed by its outcome, and the escalation trap after it with EPC at the next instruction exactly when the count reaches a limit that is not 0. -/
def Sys2Proof.Claim.TimeoutCounting : Prop :=
  ∀ (s : State) (d : Reg) (st : Word) (poll : Bool),
    s.finish d st poll = (match ended s d st poll with | .next t => t | _ => s) ∧
    (poll = true → tocntAfter s st poll = s.cur.c.tocnt) ∧
    (poll = false → st.extractLsb' 0 3 = 0 ∨ st.extractLsb' 0 3 = 3 ∨ st.extractLsb' 0 3 = 4 → tocntAfter s st poll = 0 ∧ ¬ escalates s st poll) ∧
    (poll = false → st.extractLsb' 0 3 = 1 ∨ st.extractLsb' 0 3 = 2 → s.cur.c.tocnt.toNat < 2 ^ 32 - 1 →
      (tocntAfter s st poll).toNat = s.cur.c.tocnt.toNat + 1) ∧
    (escalates s st poll → ∃ t : State, ended s d st poll = .next (t.trapEntry 0x180 0 false s.cur.pc (tocntAfter s st poll) 0 (s.cur.pc + 4)))

/-- R287, R232: WAITC by the four counts, the output streams placed first: DONE when each is within its limit, else a poll reports TIMEOUT or PARTIAL and any other deadline waits. -/
def Sys2Proof.Claim.CountWaits : Prop :=
  ∀ (s : State) (d a : Reg) (l s' c t : BitVec 4), Undisturbed s →
    let u := s.placeStreams
    let n := [u.loadsOut u.cur, (u.storesOut u.cur).length, u.copiesOut u.cur, u.tilesOut u.cur]
    let lim := [l.toNat, s'.toNat, c.toNat, t.toNat]
    let good (k : Nat) : Prop := lim.getD k 0 = 15 ∨ n.getD k 0 ≤ lim.getD k 0
    let value := ((min (n.getD 0 0) 16383 * 2 ^ 14 + min (n.getD 1 0) 16383) * 2 ^ 14 + min (n.getD 2 0) 16383) * 2 ^ 14 + min (n.getD 3 0) 16383
    let p := polls u (s.rx a)
    ((∀ k < 4, good k) → exec (.waitc d a l s' c t) s = ended u d (stat 0 0 value) p) ∧
    ((∃ k < 4, ¬ good k) → p = true → (∃ k < 4, lim.getD k 0 ≠ 15 ∧ good k) → exec (.waitc d a l s' c t) s = ended u d (stat 3 0 value) true) ∧
    ((∃ k < 4, ¬ good k) → p = true → ¬ (∃ k < 4, lim.getD k 0 ≠ 15 ∧ good k) → exec (.waitc d a l s' c t) s = ended u d (stat 1 0 value) true) ∧
    ((∃ k < 4, ¬ good k) → p = false →
      exec (.waitc d a l s' c t) s = waits u (.waitc d a l s' c t) d (s.rx a) (.counts l.toNat s'.toNat c.toNat t.toNat) none)

/-- R293: WAITW is DONE once the watermark has passed the offset or no queued command covers it; at once TIMEOUT with DETAIL 8 on a stopped channel; else it waits or, as a poll, times out. A malformed operand is cause 0x200. -/
def Sys2Proof.Claim.ChannelWaits : Prop :=
  ∀ (s : State) (d a b c : Reg), s.cur.request = none →
    let ch := s.rx b; let o := s.rx c; let off := o.toNat % 2 ^ 23; let p := polls s (s.rx a)
    let k := (s.coreAt s.cur.id.core).chans.getD (ch.toNat % 8) Chan.reset
    let wm := k.wm.toNat % 2 ^ 24
    let hit : Prop := off < wm ∨ ∀ q ∈ k.queue, q.covers off = false
    let stopped : Prop := ∃ h ∈ k.queue.head?, h.dead = true
    (8 ≤ ch.toNat → exec (.waitw d a b c) s = trapped s 0x200 ch) ∧
    (ch.toNat < 8 → ¬ ((o.extractLsb' 56 8 = 0 ∨ o.extractLsb' 56 8 = 0xE0) ∧ o.extractLsb' 23 33 = 0) → exec (.waitw d a b c) s = trapped s 0x200 o) ∧
    (ch.toNat < 8 → o.extractLsb' 56 8 = 0 ∨ o.extractLsb' 56 8 = 0xE0 → o.extractLsb' 23 33 = 0 →
      (hit → exec (.waitw d a b c) s = ended s d (stat 0 0 wm) p) ∧
      (¬ hit → stopped → exec (.waitw d a b c) s = ended s d (stat 1 8 wm) p) ∧
      (¬ hit → ¬ stopped → p = true → exec (.waitw d a b c) s = ended s d (stat 1 0 wm) true) ∧
      (¬ hit → ¬ stopped → p = false → exec (.waitw d a b c) s = waits s (.waitw d a b c) d (s.rx a) (.channel ch.toNat off) none))

/-- R294, R295, R296: the home's arithmetic at a barrier: an arrival is refused when every arrival is in, else counted; the phase completes exactly when every arrival is in and no byte is pending: PHASE goes on by one modulo 2^32, ARRIVED is 0 and PENDBYTES is EXPBYTES again. -/
def Sys2Proof.Claim.BarrierPhases : Prop :=
  ∀ (l : Line),
    let full : Prop := fld l 0xC 4 = fld l 8 4
    let other (m : Line) : Prop := fld m 0 4 = fld l 0 4 ∧ fld m 8 4 = fld l 8 4 ∧ fld m 0x10 8 = fld l 0x10 8 ∧ fld m 0x20 32 = fld l 0x20 32
    (full → arrive l = none) ∧
    (¬ full → ∃ m, arrive l = some m ∧ fld m 0xC 4 = (fld l 0xC 4 + 1) % 2 ^ 32 ∧ fld m 4 4 = fld l 4 4 ∧ fld m 0x18 8 = fld l 0x18 8 ∧ other m) ∧
    (full → fld l 0x18 8 = 0 → let m := barrierSettle l
      fld m 4 4 = (fld l 4 4 + 1) % 2 ^ 32 ∧ fld m 0xC 4 = 0 ∧ fld m 0x18 8 = fld l 0x10 8 ∧ other m) ∧
    (¬ full ∨ fld l 0x18 8 ≠ 0 → barrierSettle l = l)

/-- R296, R297, R289: BARW returns the phase or waits for it; BARA arrives and returns the phase of its arrival; BARAW goes on at once when its arrival completes the phase, else waits, or as a poll withdraws; BAREXP adds to the bytes pending. An arrival beyond the expected number is cause 0x186. -/
def Sys2Proof.Claim.BarrierInstructions : Prop :=
  ∀ (s s1 s2 : State) (d a b c : Reg) (key : Nat) (l : Line), Settled s → Inv s → key % 64 = 0 → s.line (key / 64) = l →
    ReadsTwice s s1 s2 (s.rx b) 1 key l →
    let op := s.rx a; let p := polls s op; let ph := fld l 4 4; let q := (s.rx c).extractLsb' 0 32
    let reached : Prop := (ph + 2 ^ 32 - q.toNat) % 2 ^ 32 < 2 ^ 31
    (reached → exec (.barw d a b c) s = ended s1 d (stat 0 0 ph) p) ∧
    (¬ reached → p = true → exec (.barw d a b c) s = ended s1 d (stat 1 0 ph) true) ∧
    (¬ reached → p = false → exec (.barw d a b c) s = waits (registered s1 key) (.barw d a b c) d op (.phase key q) none) ∧
    (arrive l = none → exec (.bara d a b) s = trapped s2 0x186 (s.rx b) ∧ exec (.baraw d a b) s = trapped s2 0x186 (s.rx b)) ∧
    (∀ m, arrive l = some m → let m' := barrierSettle m; let t := s2.putObj key m'
      exec (.bara d a b) s = ended t d (stat 0 0 ph) p ∧
      (fld m' 4 4 ≠ ph → exec (.baraw d a b) s = ended t d (stat 0 0 (fld m' 4 4)) p) ∧
      (fld m' 4 4 = ph → p = false → exec (.baraw d a b) s = waits (registered t key) (.baraw d a b) d op (.arrival key (BitVec.ofNat 32 ph)) none) ∧
      (fld m' 4 4 = ph → fld l 0xC 4 < 2 ^ 32 - 1 → p = true → ∃ t' w, exec (.baraw d a b) s = ended t' d (stat 2 0 ph) true ∧
        t' = t.putObj key w ∧ fld w 0xC 4 = fld l 0xC 4 ∧ fld w 4 4 = ph)) ∧
    (∃ t m, exec (.barexp d a b c) s = ended t d (stat 0 0 (fld m 4 4)) p ∧ t = s1.putObj key m ∧
      (fld l 0xC 4 ≠ fld l 8 4 → fld m 0x18 8 = min (fld l 0x18 8 + (s.rx c).toNat) (2 ^ 64 - 1) ∧ fld m 2 2 = 0 ∧ fld m 4 4 = ph))

/-- R298, R299: a queue is a FIFO of its ring's words: an entry added stands at RING + 8·(TAIL mod capacity), the GEN of its line goes up by 1 (R87), and TAIL goes on by one; the entry removed is the word at RING + 8·(HEAD mod capacity) and HEAD goes on by one, both modulo 2^28; a ring line that cannot be read faults and nothing moves; entries taken in one operation are taken all or none. -/
def Sys2Proof.Claim.QueueEntries : Prop :=
  ∀ (s : State) (a : Agent) (key : Nat) (l : Line) (v : Word), Inv s → key % 64 = 0 → s.line (key / 64) = l → queueOk (fld l 0 1) l = true → s.sched.soft = [] →
    let ring (n : Nat) : Nat := key / 2 ^ 33 * 2 ^ 33 + fld l 0x10 8 + 8 * (n % 2 ^ fld l 2 1)
    let word (t : State) (k : Nat) : Nat := ofBytes (Memory.bytes t.mem k 8)
    (∀ c, s.ringOk a (ring (fld l 8 4)) = .error c → s.qPush a key l v = (.error c, s)) ∧
    (s.ringOk a (ring (fld l 8 4)) = .ok () → ring (fld l 8 4) / 64 ≠ key / 64 → ∃ m t, s.qPush a key l v = (.ok m, t) ∧
      fld m 8 4 = (fld l 8 4 + 1) % 2 ^ 28 ∧ fld m 4 4 = fld l 4 4 ∧ t.line (key / 64) = m ∧ word t (ring (fld l 8 4)) = v.toNat ∧
      (t.tag (ring (fld l 8 4) / 64)).gen = (s.tag (ring (fld l 8 4) / 64)).gen + 1 ∧
      (∀ x, x / 64 ≠ key / 64 → (x < ring (fld l 8 4) ∨ ring (fld l 8 4) + 8 ≤ x) → t.byte x = s.byte x)) ∧
    (s.ringOk a (ring (fld l 4 4)) = .ok () → ∃ m t, s.qPop a key l = (.ok (BitVec.ofNat 64 (word s (ring (fld l 4 4))), m), t) ∧
      fld m 4 4 = (fld l 4 4 + 1) % 2 ^ 28 ∧ fld m 8 4 = fld l 8 4 ∧ t.line (key / 64) = m ∧
      (∀ x, x / 64 ≠ key / 64 → t.byte x = s.byte x)) ∧
    (∀ c, s.ringOk a (ring (fld l 4 4)) = .error c → s.qPop a key l = (.error c, s)) ∧
    (∀ n c, s.ringBad a (ringKeys key l (fld l 4 4) n) = some c → s.qTake a key l n = (.error c, s)) ∧
    (∀ n, (∀ i < n, s.ringOk a (ring (fld l 4 4 + i)) = .ok ()) → ∃ m t,
      s.qTake a key l n = (.ok ((List.range n).map (fun i => BitVec.ofNat 64 (word s (ring (fld l 4 4 + i)))), m), t) ∧
      fld m 4 4 = (fld l 4 4 + n) % 2 ^ 28 ∧ fld m 8 4 = fld l 8 4 ∧ t.line (key / 64) = m ∧ (∀ x, x / 64 ≠ key / 64 → t.byte x = s.byte x))

/-- R299, R288, R284: QSEND adds x[c] or, without room, waits or times out with DETAIL 2; QRECV takes an entry into x[c], which it writes before the status, or waits or times out with DETAIL 1; APWAIT takes VL entries into a vector register, or waits, or as a poll takes what is there. -/
def Sys2Proof.Claim.QueueInstructions : Prop :=
  ∀ (s s1 s2 t : State) (d a b c : Reg) (key : Nat) (l m : Line) (v : Word) (vs : List Word) (e : RingFault), Settled s →
    let op := s.rx a; let p := polls s op
    (ReadsTwice s s1 s2 (s.rx b) 2 key l → s.line (key / 64) = l →
      (room l → s2.qPush s.me key l (s.rx c) = (.ok m, t) → exec (.qsend d a b c) s = ended t d (stat 0 0 (headTail m)) p) ∧
      (room l → s2.qPush s.me key l (s.rx c) = (.error e, t) → exec (.qsend d a b c) s = trapped t e.1 e.2) ∧
      (¬ room l → p = true → exec (.qsend d a b c) s = ended s2 d (stat 1 2 (headTail l)) true) ∧
      (¬ room l → p = false → exec (.qsend d a b c) s = waits (registered s2 key) (.qsend d a b c) d op (.room key 2 (s.rx c)) none) ∧
      (held l ≠ 0 → s1.qPop s.me key l = (.ok (v, m), t) → exec (.qrecv d a b c) s = ended (withDatum t c v) d (stat 0 0 (headTail m)) p) ∧
      (held l ≠ 0 → s1.qPop s.me key l = (.error e, t) → exec (.qrecv d a b c) s = trapped t e.1 e.2) ∧
      (held l = 0 → p = true → exec (.qrecv d a b c) s = ended s1 d (stat 1 1 (headTail l)) true) ∧
      (held l = 0 → p = false → exec (.qrecv d a b c) s = waits (registered s1 key) (.qrecv d a b c) d op (.entry key c) none)) ∧
    (s.cur.ew ≠ 64 → exec (.apwait d a b c) s = trapped s 0x101 s.cur.c.vtype) ∧
    (s.cur.ew = 64 → ReadsTwice s s1 s2 (s.rx b) 3 key l → s.line (key / 64) = l →
      (s.cur.vl ≤ held l → s1.qTake s.me key l s.cur.vl = (.ok (vs, m), t) →
        exec (.apwait d a b c) s = ended { t with cur := t.cur.setElems c (vs.zipIdx.map (fun e => (e.2, e.1.toNat))) } d (stat 0 0 s.cur.vl) p) ∧
      (held l < s.cur.vl → p = true → s1.qTake s.me key l (held l) = (.ok (vs, m), t) →
        exec (.apwait d a b c) s = ended { t with cur := t.cur.setElems c (vs.zipIdx.map (fun e => (e.2, e.1.toNat))) } d (stat 1 1 (held l)) true) ∧
      (held l < s.cur.vl → p = false → exec (.apwait d a b c) s = waits (registered s1 key) (.apwait d a b c) d op (.batch key c s.cur.vl) none))

/-- R300, R344: TASKADD and TASKTAKE require the owner, else cause 0x187; TASKADD adds at TAIL, TASKTAKE takes the entry last added and never waits, TASKSTEAL takes the one first added or answers TIMEOUT at once, with DETAIL 1, or 7 where it lost the last entry to another remover (which of the two the schedule says, log entry 73). -/
def Sys2Proof.Claim.TaskDeques : Prop :=
  ∀ (s s1 s2 s3 t : State) (d a b c : Reg) (key : Nat) (l m : Line) (v : Word), Settled s → s.rx b ≠ 0 →
    ReadsTwice s s1 s2 (s.rx b) 4 key l → ReadsTwice s1 s2 s3 (s.rx b) 4 key l → s.line (key / 64) = l →
    let op := s.rx a; let p := polls s op
    let mine : Prop := fld l 0x18 8 = s.cur.c.launchid.toNat ∧ fld l 0x20 8 = s.cur.id.first.toNat
    let last := (fld l 8 4 + 2 ^ 28 - 1) % 2 ^ 28
    let rk := key / 2 ^ 33 * 2 ^ 33 + fld l 0x10 8 + 8 * (last % 2 ^ fld l 2 1)
    (¬ mine → exec (.taskadd d a b c) s = trapped s1 0x187 (s.rx b) ∧ exec (.tasktake d a b c) s = trapped s1 0x187 (s.rx b)) ∧
    (mine → room l → s3.qPush s.me key l (s.rx c) = (.ok m, t) → exec (.taskadd d a b c) s = ended t d (stat 0 0 (headTail m)) p) ∧
    (mine → ¬ room l → p = true → exec (.taskadd d a b c) s = ended s3 d (stat 1 2 (headTail l)) true) ∧
    (mine → ¬ room l → p = false → exec (.taskadd d a b c) s = waits (registered s3 key) (.taskadd d a b c) d op (.room key 4 (s.rx c)) none) ∧
    (mine → held l = 0 → exec (.tasktake d a b c) s = ended s1 d (stat 1 1 (headTail l)) p) ∧
    (mine → held l ≠ 0 → s.ringOk s.me rk = .ok () → ∃ m n, fld m 8 4 = last ∧ fld m 4 4 = fld l 4 4 ∧
      exec (.tasktake d a b c) s =
        ended (withDatum (State.putObj { s with mark := n } key m) c (BitVec.ofNat 64 (lfield (s.line (rk / 64)) (rk % 64) 8))) d (stat 0 0 (headTail m)) p) ∧
    (held l = 0 → exec (.tasksteal d a b c) s =
      ended { s1 with sched := { s.sched with races := s.sched.races.drop 1 } } d (stat 1 (if s.sched.races.headD false = true then 7 else 1) (headTail l)) p) ∧
    (held l ≠ 0 → s1.qPop s.me key l = (.ok (v, m), t) → exec (.tasksteal d a b c) s = ended (withDatum t c v) d (stat 0 0 (headTail m)) p)

/-- R300, R344: a TASKSTEAL with x[b] = 0 and no other live strand in its launch, or a context without deques, is TIMEOUT with DETAIL 1 at once. -/
def Sys2Proof.Claim.StealSearchEmpty : Prop :=
  ∀ (s : State) (d a b c : Reg), s.cur.request = none → s.rx b = 0 → s.cur.search = none → let p := polls s (s.rx a)
    (s.cur.id.deq = false → exec (.tasksteal d a b c) s = ended s d (stat 1 1 0) p) ∧
    (s.cur.id.deq = true → (∀ u ∈ s.strands, u.live = false ∨ u.id.lid ≠ s.cur.id.lid) →
      exec (.tasksteal d a b c) s = 
        ended { s with sched := { s.sched with cut := if p = true then s.sched.cut else none, pause := none } } d (stat 1 1 0) p)

/-- R247: VAPND with its log turned appends WIDBASE + i for the active elements while the queue has room, clearing VSTART with the first or at its end, and with VM.EN = 1 the mask bit of each element it has appended: DONE with the count when all went in; a poll with none appended is TIMEOUT, with some PARTIAL; any other deadline waits with the rest. A ring line that may not be written traps before any effect. -/
def Sys2Proof.Claim.AppendIdentifiers : Prop :=
  ∀ (s s1 s2 t : State) (d a b : Reg) (key n : Nat) (l m : Line) (e : RingFault), Settled s → s.cur.resuming = false →
    ReadsTwice s s1 s2 (s.rx a) 3 key l → s.line (key / 64) = l →
    let op := s.rx b; let p := polls s op
    let ids := s.cur.active.map (fun i => s.cur.c.widbase + BitVec.ofNat 64 i)
    let z (u : State) : State :=
      let cur := if s.cur.c.vm.getLsbD 5 = true then u.cur.setElems (s.cur.c.vm.extractLsb' 0 5) ((s.cur.active.take n).map (fun i => (i, 0))) else u.cur
      { u with cur := { cur with c := { cur.c with vstart := 0 } } }
    (s2.qAppend s.me key l ids = (.ok (n, m), t) →
      (n = ids.length → exec (.vapnd d a b) s = ended (z t) d (stat 0 0 n) p) ∧
      (n < ids.length → p = true → exec (.vapnd d a b) s = ended (z t) d (if n = 0 then stat 1 0 0 else stat 3 0 n) true) ∧
      (n < ids.length → p = false → exec (.vapnd d a b) s =
        waits (registered (if n = 0 then t else z t) key) (.vapnd d a b) d op (.append key (s.cur.active.drop n) ids.length) none)) ∧
    (s2.qAppend s.me key l ids = (.error e, t) → exec (.vapnd d a b) s = trapped t e.1 e.2)

/-- R303, R302, R356: CWAIT returns the slot's completed rounds once the round is staged for the strand, else waits or times out with the same VALUE; a bad operand, or no group, is cause 0x206, and so is a slot the group does not have (the model's inference, log entry 40); the group's entry and the strand's member record are read at the first access after a write of CGROUP, checked, and kept. -/
def Sys2Proof.Claim.CollectiveWaits : Prop :=
  ∀ (s s1 : State) (d a c : Reg) (g : Group) (x : XFault), Undisturbed s →
    let entry := s.groupEntry s.cur.id.core s.cur.groupNum (s.cur.c.asid.extractLsb' 0 16)
    (256 ≤ (s.rx c).toNat → exec (.cwait d a c) s = trapped s 0x206 s.cur.c.cgroup) ∧
    (s.cur.group = some g → s.myGroup = (.ok g, s)) ∧
    (s.cur.group = none → entry = (.ok none, s1) → s.myGroup = (.error ⟨0x206, s.cur.c.cgroup, 0⟩, s1)) ∧
    (s.cur.group = none → entry = (.error x, s1) → s.myGroup = (.error x, s1)) ∧
    (s.cur.group = none → s.myGroup = (.ok g, s1) → ∃ e m : State, entry = (.ok (some g), e) ∧ e.cur.rank < g.ranks ∧
      e.member e.cur.id.core g e.cur.rank = (.ok (some (m.memberOf m.cur)), m) ∧ s1 = { m with cur := { m.cur with group := some g } }) ∧
    ((s.rx c).toNat < 256 → s.myGroup = (.error x, s1) → exec (.cwait d a c) s = trapped s1 x.cause x.tval) ∧
    ((s.rx c).toNat < 256 → s.myGroup = (.ok g, s1) → let p := polls s1 (s1.rx a); let n := (s1.rx c).toNat % 256; let u := s1.cur.slotUse n; let value := u.rounds % 2 ^ 32
      (g.slots ≤ n → exec (.cwait d a c) s = trapped s1 0x206 s1.cur.c.cgroup) ∧
      (n < g.slots →
        (u.staged = true → exec (.cwait d a c) s = ended s1 d (stat 0 0 value) p) ∧
        (u.staged = false → p = true → exec (.cwait d a c) s = ended s1 d (stat 1 0 value) true) ∧
        (u.staged = false → p = false → exec (.cwait d a c) s = waits s1 (.cwait d a c) d (s1.rx a) (.round n) none)))

/-- R305, R304: LAUNCH with its writes turned and its packet read, by what the Starter finds, in its order: no usable context, a malformed packet, no room, or the packet accepted with the child's id as VALUE. -/
def Sys2Proof.Claim.LaunchOutcomes : Prop :=
  ∀ (s s1 s2 t : State) (d a b c : Reg) (bs : List Byte) (id : Word), Settled s →
    let q := (s.rx c).toNat; let i := Instr.launch d a b c; let pk := packetOf bs
    let bad : Prop := s2.malformed bs = true ∨ pk.w 4 ≠ 0 ∨ pk.w 5 ≠ 0
    ((s.rx b).toNat % 64 ≠ 0 → exec i s = trapped s 0x086 (s.rx b)) ∧
    ((s.rx b).toNat % 64 = 0 → s.loadPacket (s.rx b) = (.ok bs, s1) →
      (s1.launchContext q = (none, s2) → exec i s = ended s2 d (stat 2 5 0) (polls s2 (s.rx a))) ∧
      (∀ x, s1.launchContext q = (some x, s2) → let p := polls s2 (s.rx a)
        (bad → exec i s = ended s2 d (stat 2 3 0) p) ∧
        (¬ bad → s2.credits q = 0 → p = true → exec i s = ended s2 d (stat 1 2 0) true) ∧
        (¬ bad → s2.credits q = 0 → p = false → exec i s = waits s2 i d (s.rx a) (.queueRoom q pk) none) ∧
        (¬ bad → s2.credits q ≠ 0 → s2.accept q x bs none = (id, t) → exec i s = ended t d (stat 0 0 (id.toNat % 2 ^ 46)) (polls t (s.rx a)))))

/-- R306: LWAIT returns a retired launch's status and waits for a live one, or times out as a poll; LCANCEL cancels a live one and waits for it, and answers LATE with VALUE 0 for one that had retired or whose strands had all ended; an id that names no launch the strand may name is WITHDRAWN with DETAIL 6. -/
def Sys2Proof.Claim.LaunchWaits : Prop :=
  ∀ (s : State) (d a b : Reg) (id : Word) (r : Retired), s.cur.request = none →
    let p := polls s (s.rx a)
    (s.namedLaunch (s.rx b) = none → exec (.lwait d a b) s = ended s d (stat 2 6 0) p ∧ exec (.lcancel d a b) s = ended s d (stat 2 6 0) p) ∧
    (s.namedLaunch (s.rx b) = some id → s.retiredOf id = some r →
      exec (.lwait d a b) s = ended s d r.status p ∧ exec (.lcancel d a b) s = ended s d (stat 4 0 0) p) ∧
    (s.namedLaunch (s.rx b) = some id → s.retiredOf id = none →
      (p = false → exec (.lwait d a b) s = waits s (.lwait d a b) d (s.rx a) (.retire id false) none) ∧
      (p = true → exec (.lwait d a b) s = ended s d (stat 1 0 0) true)) ∧
    (s.namedLaunch (s.rx b) = some id → s.retiredOf id = none → (∃ q, s.launch id = some q ∧ q.stop = none ∧ q.left = 0) →
      exec (.lcancel d a b) s = ended s d (stat 4 0 0) p) ∧
    (s.namedLaunch (s.rx b) = some id → s.retiredOf id = none → (∀ q, s.launch id = some q → q.stop ≠ none ∨ q.left ≠ 0) →
      (p = false → exec (.lcancel d a b) s = waits (s.cancelLaunch id) (.lcancel d a b) d (s.rx a) (.retire id true) none) ∧
      (p = true → exec (.lcancel d a b) s = ended (s.cancelLaunch id) d (stat 1 0 0) true))

namespace Sys2Proof.Claim
open Machine

/-- The state as an engine command has been captured and queued (R257). -/
def captured (s : State) (op : EngOp) (acc acc2 : Nat) (i : Instr) (A B C : Word) (vecs : List (List (BitVec 64))) : State :=
  let seq := (s.core.engSeq + 1) % 2 ^ 16
  { s with
    cur := { s.cur with pos := s.cur.pos + 1 }
    core := { s.core with
      engSeq := seq
      eng := s.core.eng ++ [{
        op := op, sid := s.cur.id.sid, writer := s.cur.writer, acc := acc, acc2 := acc2, opa := A, opb := B, opc := C, opd := 0
        vecs := vecs, tshape := s.cur.c.tshape, tpitch := s.cur.c.tpitch, tprec := s.cur.c.tprec, sigcfg := s.cur.c.sigcfg
        vl := BitVec.ofNat 16 s.cur.vl, vtype := s.cur.c.vtype.extractLsb' 0 8, pc := s.cur.pc, word := encode i, seq := seq, pos := s.cur.pos + 1 }] } }

/-- The strand holds the tile store, the engine's queue has room, the power cap holds nothing back, and no fault of a command waits for delivery. -/
def EngineReady (s : State) : Prop :=
  s.cur.c.ten.getLsbD 0 = true ∧ s.core.eng.length < 16 ∧ s.front.capHold = false ∧ s.cur.engHalted = false

/-- TM, TN and TK of TSHAPE (R262). -/
def tm (w : Word) : Nat := (w.extractLsb' 0 7).toNat
def tn (w : Word) : Nat := (w.extractLsb' 8 7).toNat
def tk (w : Word) : Nat := (w.extractLsb' 16 9).toNat

/-- ROWSTR and KSTR of a pitch (R226, R263). -/
def rows (w : Word) : Nat := (w.extractLsb' 26 22).toNat * 4
def ks (w : Word) : Nat := (w.extractLsb' 2 22).toNat * 4

/-- An operand in the own scratchpad with every bit that must be zero zero. -/
def inOwn (va : Word) : Prop := va.toNat / 2 ^ 23 = 0xE0 * 2 ^ 33

/-- The last record of an operand ends within 8 MiB (R264 step 5). -/
def recordsFit (va : Word) (r g row k size : Nat) : Prop := va.toNat % 2 ^ 23 + (r - 1) * row + (g - 1) * k + size ≤ 2 ^ 23

/-- The instructions of the TILE and SIG majors. -/
noncomputable def engineInstrs (d s' : Acc) (a b c : Reg) : List Instr :=
  [.settile a b c, .tzero d, .tmac d a b c, .tmacw d a b c, .tmovr s' a b, .tmovc s' a b, .tld d a b, .tst s' a b, .tadd d s',
   .sigcfg a b c, .siginit, .sigupd a, .sigjoin a, .sigjoinl a, .siglog, .sigld a, .sigst a]

/-- O_k of R270 for k ≥ 1. -/
def firstCell (d : Nat) : Nat → Nat
  | 0 => 0
  | k + 1 => if k = 0 then 0 else firstCell d k + 64 * ((d ^ k + 63) / 64)

end Sys2Proof.Claim

/-! ### Copies -/

/-- R248 to R251: COPY, COPYB and PUTQ whose checks pass join their channel's queue with everything that they captured, start at once on an idle channel with CHRNG and CHWM set, and return the number of commands queued; a full channel is TIMEOUT, VL = 0 is DONE with 0; the checks come in the order control word, alignment, selectors, overlap. That the running command counts among the eight is log entry 45. -/
def Obligations.CopyIssue : Prop :=
  ∀ (s : State) (d a b c : Reg), let ctl := s.rx d; let dst := s.rx a; let src := s.rx b
    let w := s.cur.ew / 8; let n := s.cur.vl * w; let ch := ctl.toNat % 8
    let q := s.core.chans.getD ch Chan.reset
    let good : Prop := ctl.toNat < 128 ∧ ctl.getLsbD 3 = false ∧ ctl.toNat / 16 ≤ 4
    let apart : Prop := dst.extractLsb' 56 8 ≠ src.extractLsb' 56 8 ∨
      dst.toNat % 2 ^ 56 + n ≤ src.toNat % 2 ^ 56 ∨ src.toNat % 2 ^ 56 + n ≤ dst.toNat % 2 ^ 56
    let cmd (i : Instr) (kind : Nat) (obj : Word) : CopyCmd := {
      sid := s.cur.id.sid, writer := s.cur.writer, sup := s.cur.sup, kind := kind, dst := dst, src := src, obj := obj, opd := ctl
      bytes := n, lvl := ctl.toNat / 16, pc := s.cur.pc, word := encode i, vl := BitVec.ofNat 16 s.cur.vl
      vtype := s.cur.c.vtype.extractLsb' 0 8, dlcap := s.core.dlcap.toNat % 2 ^ 63
      asid := s.cur.c.asid.extractLsb' 0 16, ptroot := s.cur.c.ptroot, seq := (s.core.copySeq + 1) % 2 ^ 16, pos := s.cur.pos + 1
      done := [], sent := [], park := none, tried := 0, full := 0, dead := false, step := 0, turns := [] }
    let own : Prop := dst.extractLsb' 56 8 = 0xE0
    ∀ row ∈ [(Instr.copy d a b, 0, (0 : Word)), (.copyb d a b c, 1, s.rx c), (.putq d a b c, 2, s.rx c)],
      let i := row.1
      (¬ good → exec i s = trapped s 0x200 ctl) ∧
      (good → dst.toNat % w ≠ 0 → exec i s = trapped s 0x086 dst) ∧
      (good → dst.toNat % w = 0 → src.toNat % w ≠ 0 → exec i s = trapped s 0x086 src) ∧
      (∀ x, good → dst.toNat % w = 0 → src.toNat % w = 0 → selectorFault s.cur.sup dst = some x → exec i s = trapped s x.cause x.tval) ∧
      (∀ x, good → dst.toNat % w = 0 → src.toNat % w = 0 → selectorFault s.cur.sup dst = none → selectorFault s.cur.sup src = some x →
        exec i s = trapped s x.cause x.tval) ∧
      (good → dst.toNat % w = 0 → src.toNat % w = 0 → selectorFault s.cur.sup dst = none → selectorFault s.cur.sup src = none →
        (n ≠ 0 → ¬ apart → exec i s = trapped s 0x200 ctl) ∧
        (n = 0 → exec i s = .next (wrote s d (stat 0 0 0))) ∧
        (n ≠ 0 → apart → 8 ≤ q.queue.length → exec i s = .next (wrote s d (stat 1 0 0))) ∧
        (n ≠ 0 → apart → q.queue.length < 8 → ∃ q' : Chan,
          exec i s = .next (wrote { s with cur := { s.cur with pos := s.cur.pos + 1 }, core := { s.core with copySeq := (s.core.copySeq + 1) % 2 ^ 16, chans := s.core.chans.setIfInBounds ch q' } } d (stat 0 0 (q.queue.length + 1))) ∧
          q'.queue = q.queue ++ [cmd i row.2.1 row.2.2] ∧
          (q.queue ≠ [] → q'.busy = q.busy ∧ q'.rng = q.rng ∧ q'.wm = q.wm) ∧
          (q.queue = [] → q'.busy = true ∧ q'.rng.getLsbD 63 = true ∧ q'.rng.getLsbD 59 = decide (dst.extractLsb' 56 8 = 0xE0) ∧
            q'.rng.extractLsb' 24 24 = BitVec.ofNat 24 n ∧
            (own → q'.rng.extractLsb' 60 3 = 1 ∧ q'.rng.extractLsb' 0 24 = (dst.extractLsb' 0 23).setWidth 24 ∧ q'.wm = (dst.extractLsb' 0 23).setWidth 64) ∧
            (¬ own → q'.rng.extractLsb' 60 3 = BitVec.ofNat 3 (ctl.toNat / 16) ∧ q'.rng.extractLsb' 0 24 = 0 ∧ q'.wm = 0))))

/-! ### The tile store and the signature unit -/

/-- R254, R260: every TILE and SIG instruction of a strand with TEN.EN = 0 takes cause 0x280 with no effect. -/
def Sys2Proof.Claim.TileStoreNeeded : Prop :=
  ∀ (s : State) (d s' : Acc) (a b c : Reg), s.cur.c.ten.getLsbD 0 = false →
    ∀ i ∈ engineInstrs d s' a b c, exec i s = trapped s 0x280 0

/-- R261, R270, R271: SETTILE grants the rows, columns and depth; SIGCFG sets depth, channels and cells once the strand's engine commands have retired, and returns the size of an image; an invalid configuration is cause 0x289, one too large 0x288. -/
def Sys2Proof.Claim.TileAndSignatureConfiguration : Prop :=
  ∀ (s : State) (d a b c : Reg), s.cur.c.ten.getLsbD 0 = true →
    let M := (s.rx a).toNat; let N := (s.rx b).toNat; let K := (s.rx c).toNat
    let okay : Prop := 1 ≤ M ∧ M ≤ 8 ∧ (N = 2 ∨ N = 4 ∨ N = 8 ∨ N = 16)
    let cells := firstCell N (M + 1)
    exec (.settile a b c) s = .next (went { s with cur := { s.cur with c := { s.cur.c with
      tshape := BitVec.ofNat 64 (min M 64 + 2 ^ 8 * min N 64 + 2 ^ 16 * min ((K + 31) / 32 * 32) 256) } } }) ∧
    (s.tilesOut s.cur = 0 →
      (¬ okay → exec (.sigcfg d a b) s = trapped s 0x289 ((s.rx a).setWidth 32 ++ (s.rx b).setWidth 32)) ∧
      (okay → 65536 < cells → exec (.sigcfg d a b) s = trapped s 0x288 (BitVec.ofNat 64 cells)) ∧
      (okay → cells ≤ 65536 → ∃ w : Word, w.extractLsb' 0 4 = BitVec.ofNat 4 M ∧ 2 ^ ((w.extractLsb' 8 2).toNat + 1) = N ∧ (w.extractLsb' 16 17).toNat = cells ∧
        w.extractLsb' 4 4 = 0 ∧ w.extractLsb' 10 6 = 0 ∧ w.extractLsb' 33 31 = 0 ∧
        exec (.sigcfg d a b) s = .next (wrote { s with cur := { s.cur with c := { s.cur.c with sigcfg := w } } } d (BitVec.ofNat 64 (16 * (1 + cells))))))

/-- R257, R264, R268: TZERO, TADD, TMAC, TMACW, TLD and TST whose operands pass their checks are captured into the engine's queue and the strand goes on; no cell and no byte changes. -/
def Sys2Proof.Claim.TileCommandsQueue : Prop :=
  ∀ (s : State) (d e : Acc) (a b c : Reg), EngineReady s →
    let A := s.rx a; let B := s.rx b; let C := s.rx c
    let P := (s.cur.c.tprec.extractLsb' 0 5).toNat; let M := tm s.cur.c.tshape; let N := tn s.cur.c.tshape; let G := tk s.cur.c.tshape / 32
    let fits (bSize : Nat) : Prop := (M = 0 ∨ N = 0 ∨ G = 0) ∨
      (recordsFit A M G (rows s.cur.c.tpitch) (ks s.cur.c.tpitch) (4 * (P + 1)) ∧ recordsFit B N G (rows C) (ks C) bSize)
    exec (.tzero d) s = .next (went (captured s .tzero d.toNat 0 (.tzero d) 0 0 0 [])) ∧
    exec (.tadd d e) s = .next (went (captured s .tadd d.toNat e.toNat (.tadd d e) 0 0 0 [])) ∧
    (2 ≤ P → inOwn A → inOwn B → A.toNat % 4 = 0 → B.toNat % 4 = 0 →
      (fits 68 → exec (.tmac d a b c) s = .next (went (captured s .tmac d.toNat 0 (.tmac d a b c) A B C []))) ∧
      (fits 36 → exec (.tmacw d a b c) s = .next (went (captured s .tmacw d.toNat 0 (.tmacw d a b c) A B C [])))) ∧
    (inOwn A → A.toNat % 16 = 0 → B.toNat % 16 = 0 → (M = 0 ∨ N = 0 ∨ A.toNat % 2 ^ 23 + (M - 1) * B.toNat + 16 * N ≤ 2 ^ 23) →
      exec (.tld d a b) s = .next (went (captured s .tld d.toNat 0 (.tld d a b) A B 0 [])) ∧
      exec (.tst d a b) s = .next (went (captured s .tst d.toNat 0 (.tst d a b) A B 0 [])))

/-- R264, R268: the checks of TMAC, TMACW, TLD and TST in their order. -/
def Sys2Proof.Claim.TileCommandChecks : Prop :=
  ∀ (s : State) (d : Acc) (a b c : Reg), s.cur.c.ten.getLsbD 0 = true →
    let A := s.rx a; let B := s.rx b; let P := (s.cur.c.tprec.extractLsb' 0 5).toNat
    let both (o : Out) : Prop := exec (.tmac d a b c) s = o ∧ exec (.tmacw d a b c) s = o
    let move (o : Out) : Prop := exec (.tld d a b) s = o ∧ exec (.tst d a b) s = o
    (P < 2 → both (trapped s 0x281 s.cur.c.tprec)) ∧
    (2 ≤ P → ¬ inOwn A → both (trapped s 0x283 A)) ∧
    (2 ≤ P → inOwn A → ¬ inOwn B → both (trapped s 0x283 B)) ∧
    (2 ≤ P → inOwn A → inOwn B → A.toNat % 4 ≠ 0 → both (trapped s 0x086 A)) ∧
    (2 ≤ P → inOwn A → inOwn B → A.toNat % 4 = 0 → B.toNat % 4 ≠ 0 → both (trapped s 0x086 B)) ∧
    (¬ inOwn A → move (trapped s 0x283 A)) ∧
    (inOwn A → A.toNat % 16 ≠ 0 → move (trapped s 0x086 A)) ∧
    (inOwn A → A.toNat % 16 = 0 → B.toNat % 16 ≠ 0 → move (trapped s 0x086 B))

/-- R266, R260: TMOVR and TMOVC, with the strand's engine commands retired, round the cells of a row or a column once to the element format into the active elements; EW 64 is cause 0x100, an index or VL beyond 64 cells cause 0x282. -/
def Sys2Proof.Claim.TileReadout : Prop :=
  ∀ (s : State) (e : Acc) (v b : Reg), Plain s → s.cur.c.ten.getLsbD 0 = true →
    let n := (s.rx b).toNat
    let rd (cell : Nat) : Nat × FFlags := (floatFormat s.cur.ew).convert (rmOf s.cur.c.fcsr) (B128.decode (s.core.cell cell).toNat)
    let both (o : Out) : Prop := exec (.tmovr e v b) s = o ∧ exec (.tmovc e v b) s = o
    (s.cur.ew = 64 → both (trapped s 0x100 s.cur.c.vtype)) ∧
    (s.cur.ew ≠ 64 → 64 ≤ n → both (trapped s 0x282 (s.rx b))) ∧
    (s.cur.ew ≠ 64 → n < 64 → 64 < s.cur.vl → both (trapped s 0x282 (BitVec.ofNat 64 s.cur.vl))) ∧
    (s.cur.ew ≠ 64 → n < 64 → s.cur.vl ≤ 64 → s.cur.records = [] → s.tilesOut s.cur = 0 →
      exec (.tmovr e v b) s = lanes s v (fun i => rd (4096 * e.toNat + 64 * n + i)) ∧
      exec (.tmovc e v b) s = lanes s v (fun i => rd (4096 * e.toNat + 64 * i + n)))

/-- R275, R276, R257: the SIG commands whose checks pass are captured into the engine's queue, SIGUPD with its increments, an inactive element counting as 0; the checks come in order. -/
def Sys2Proof.Claim.SignatureCommandsQueue : Prop :=
  ∀ (s : State) (a : Reg), EngineReady s → Plain s →
    let N := (s.cur.c.sigcfg.extractLsb' 0 4).toNat; let D := 2 ^ ((s.cur.c.sigcfg.extractLsb' 8 2).toNat + 1)
    let A := s.rx a
    let placed : Prop := (A.toNat / 2 ^ 23 = 0xE0 * 2 ^ 33 ∨ (A.extractLsb' 56 8 = 0xE4 ∧ A.extractLsb' 28 28 = 0 ∧ A.getLsbD 23 = false))
    let fits : Prop := A.toNat % 2 ^ 23 + 16 * (1 + (s.cur.c.sigcfg.extractLsb' 16 17).toNat) ≤ 2 ^ 23
    let incs : List (List (BitVec 64)) := (List.range (s.cur.vl / D)).map (fun t => (List.range D).map (fun k =>
      if t * D + k ∈ wholeActive s then BitVec.ofNat 64 (s.cur.elem a (t * D + k)) else 0))
    (N = 0 → ∀ i ∈ [Instr.siginit, .sigupd a, .sigjoin a, .sigjoinl a, .siglog, .sigld a, .sigst a], exec i s = trapped s 0x28A 0) ∧
    (N ≠ 0 →
      exec .siginit s = .next (went (captured s .siginit 0 0 .siginit 0 0 0 [])) ∧
      exec .siglog s = .next (went (captured s .siglog 0 0 .siglog 0 0 0 [])) ∧
      (s.cur.ew = 64 → exec (.sigupd a) s = trapped s 0x100 s.cur.c.vtype) ∧
      (s.cur.ew ≠ 64 → s.cur.vl % D ≠ 0 → exec (.sigupd a) s = trapped s 0x28B (BitVec.ofNat 64 s.cur.vl)) ∧
      (s.cur.ew ≠ 64 → s.cur.vl % D = 0 → let t := captured s .sigupd 0 0 (.sigupd a) 0 0 0 incs
        exec (.sigupd a) s = finished t t.cur) ∧
      (∀ row ∈ [(Instr.sigjoin a, EngOp.sigjoin), (.sigjoinl a, .sigjoinl), (.sigld a, .sigld), (.sigst a, .sigst)],
        (¬ placed → exec row.1 s = trapped s 0x283 A) ∧
        (placed → A.toNat % 16 ≠ 0 → exec row.1 s = trapped s 0x086 A) ∧
        (placed → A.toNat % 16 = 0 → ¬ fits → exec row.1 s = trapped s 0x283 A) ∧
        (placed → A.toNat % 16 = 0 → fits → exec row.1 s = .next (went (captured s row.2 0 0 row.1 A 0 0 [])))))

/-- R126: the value of an A-group against a B-group is the exact sum of the products of their integers, scaled by the two exponents; NaN when an exponent byte is 0xFF. -/
def Sys2Proof.Claim.GroupValues : Prop :=
  ∀ (p : Nat) (wide : Bool) (a b : List Int × Nat), a.1.length = 32 → b.1.length = 32 →
    ((a.2 = 255 ∨ b.2 = 255) → (groupValue p wide a b).isNan = true) ∧
    (a.2 ≠ 255 → b.2 ≠ 255 → finite (groupValue p wide a b) = true ∧
      val (groupValue p wide a b) = (((List.range 32).map (fun k => a.1.getD k 0 * b.1.getD k 0)).sum : Int) *
        2 ^ ((a.2 : ℤ) - 127 - ((p : ℤ) - 2)) * 2 ^ ((b.2 : ℤ) - 127 - (if wide then 0 else 14)))

/-- R124, R227: a record of precision p holds 32 integers of p bits in two's complement as p planes, bit k of integer i in bit i of plane k, and the exponent byte after them; a record of 68 bytes holds 32 integers of 16 bits and the exponent byte. -/
def Sys2Proof.Claim.GroupRecords : Prop :=
  ∀ (p : Nat) (b : List Byte), 1 ≤ p → p ≤ 31 →
    let bit (k i : Nat) : Int := if (b.getD (4 * k + i / 8) 0).getLsbD (i % 8) = true then 1 else 0
    (b.length = 4 * (p + 1) → (aGroup p b).1.length = 32 ∧ (aGroup p b).2 = (b.getD (4 * p) 0).toNat ∧
      ∀ i < 32, (aGroup p b).1.getD i 0 = ((List.range p).map (fun k => 2 ^ k * bit k i)).sum - 2 ^ p * bit (p - 1) i) ∧
    (b.length = 68 → (bGroup b).1.length = 32 ∧ (bGroup b).2 = (b.getD 64 0).toNat ∧
      ∀ i < 32, (bGroup b).1.getD i 0 = BitVec.toInt ((b.getD (2 * i + 1) 0 : BitVec 8) ++ (b.getD (2 * i) 0 : BitVec 8)))

namespace Sys2Proof.Claim
open Machine

/-- The blocks that hold `n` bytes at `key` of a scratchpad read for a writer: each is clear, or turned at its distance or above (R82, R95). -/
def Readable (s : State) (w : BitVec 12) (key n : Nat) : Prop :=
  ∀ l, key / 64 ≤ l → 64 * l < key + n → (s.tag l).state = 5 ∨ ((s.tag l).state.toNat ≤ 4 ∧ s.distTo w l (s.tag l) ≤ (s.tag l).state.toNat)

/-- The cells of a tile store as the model lists them: in rising order, +0 unlisted. -/
def CellsOrdered (k : Core) : Prop := k.cells.Pairwise (fun x y => x.1 < y.1) ∧ ∀ e ∈ k.cells, e.2 ≠ 0

/-- The oldest command of a core can run: the strand is not frozen, and the engine holds no record that waits for a ring entry. -/
def EngineTurn (s : State) (core : Nat) (c : EngCmd) (r : List EngCmd) : Prop :=
  core < 384 ∧ (s.coreAt core).eng = c :: r ∧ s.frozen core c.sid = false ∧ s.engHeld core = false

/-- Mul, Exp and Log of R274. An entry of level n is numbered by its n indices, each below d, the first the most significant. -/
def sigMul (d : Nat) (A B : Nat → Nat → ℚ) (n x : Nat) : ℚ :=
  ((List.range (n + 1)).map (fun i => A i (x / d ^ (n - i)) * B (n - i) (x % d ^ (n - i)))).sum
def sigExp (d : Nat) (v : Nat → ℚ) (n x : Nat) : ℚ := ((List.range n).map (fun m => v (x / d ^ m % d))).prod / n.factorial
def sigPow (d : Nat) (Y : Nat → Nat → ℚ) : Nat → Nat → Nat → ℚ
  | 0 => fun n _ => if n = 0 then 1 else 0
  | m + 1 => sigMul d (sigPow d Y m) Y
def sigLog (d N : Nat) (T : Nat → Nat → ℚ) (n x : Nat) : ℚ :=
  ((List.range N).map (fun (m : Nat) => (-1 : ℚ) ^ m / ((m : ℚ) + 1) * sigPow d (fun k i => if k = 0 then 0 else T k i) (m + 1) n x)).sum

/-- L0 and the level cells hold the exact tensor T (R272, R274). -/
def Holds (l0 : BitVec 128) (cell : Nat → BitVec 128) (d N : Nat) (T : Nat → Nat → ℚ) : Prop :=
  finite (B128.decode l0.toNat) = true ∧ val (B128.decode l0.toNat) = T 0 0 ∧
  ∀ k, 1 ≤ k → k ≤ N → ∀ i < d ^ k, finite (B128.decode (cell (firstCell d k + i)).toNat) = true ∧ val (B128.decode (cell (firstCell d k + i)).toNat) = T k i

/-- One of them is a NaN or an infinity. -/
def NotFinite (l0 : BitVec 128) (cell : Nat → BitVec 128) (d N : Nat) : Prop :=
  finite (B128.decode l0.toNat) = false ∨ ∃ k i, 1 ≤ k ∧ k ≤ N ∧ i < d ^ k ∧ finite (B128.decode (cell (firstCell d k + i)).toNat) = false

/-- What a Store leaves in a core's cells (R272, R274): `v` at L0 and in the level cells, +0 in the pad cells, and every cell at or above CELLS as it was. -/
def Stores (K L : Core) (d N cells : Nat) (v : Nat → Nat → BitVec 128) : Prop :=
  L.l0 = v 0 0 ∧ (∀ k, 1 ≤ k → k ≤ N → ∀ i < d ^ k, L.cell (firstCell d k + i) = v k i) ∧
  (∀ n < cells, (∀ k, 1 ≤ k → k ≤ N → n < firstCell d k ∨ firstCell d k + d ^ k ≤ n) → L.cell n = 0) ∧
  (∀ n, cells ≤ n → L.cell n = K.cell n)

end Sys2Proof.Claim

/-- R257, R267, R263, R389: the oldest engine command of a core, while the engine holds no record that waits for a ring entry, runs whole and retires: TZERO clears its accumulator, TADD adds another to it over the shape's cells and leaves every other cell, and TMAC with an empty shape and TST change no cell. -/
def Sys2Proof.Claim.TileStoreCommands : Prop :=
  ∀ (s : State) (core : Nat) (c : EngCmd) (r : List EngCmd), core < 384 → (s.coreAt core).eng = c :: r → s.frozen core c.sid = false → s.engHeld core = false →
    let M := tm c.tshape; let N := tn c.tshape
    let K := s.coreAt core
    let at_ (r j : Nat) (a : Nat) : Nat := 4096 * a + 64 * r + j
    ∃ t, exec (.engineCommandRetire core) s = .next t ∧
      (c.op = .tzero → (t.coreAt core).eng = r ∧ t.mem = s.mem ∧
        (t.coreAt core).cells = K.cells.filter (fun e => e.1 / 4096 != c.acc)) ∧
      (c.op = .tmac ∨ c.op = .tmacw → (M = 0 ∨ N = 0 ∨ tk c.tshape / 32 = 0) → t.mem = s.mem ∧ (t.coreAt core).eng = r ∧ (t.coreAt core).cells = K.cells) ∧
      (c.op = .tst → (t.coreAt core).eng = r ∧ (t.coreAt core).cells = K.cells) ∧
      (c.op = .tadd → M ≤ 64 → N ≤ 64 → K.cells.Pairwise (fun x y => x.1 < y.1) → (∀ e ∈ K.cells, e.2 ≠ 0) →
        (t.coreAt core).eng = r ∧ t.mem = s.mem ∧
        (∀ i < M, ∀ j < N, (t.coreAt core).cell (at_ i j c.acc) =
          add128 (K.cell (at_ i j c.acc)) (B128.decode (K.cell (at_ i j c.acc2)).toNat)) ∧
        (∀ n, (∀ i < M, ∀ j < N, n ≠ at_ i j c.acc) → (t.coreAt core).cell n = K.cell n))

/-- R263, R126, R127, R257: TMAC and TMACW over a shape that is not empty, whose records can be read: each cell of the shape takes, group after group, Round128 of its value plus the group's value, every other cell stays, and the command leaves the queue. -/
def Sys2Proof.Claim.TileProducts : Prop :=
  ∀ (s : State) (core : Nat) (c : EngCmd) (r : List EngCmd), EngineTurn s core c r → CellsOrdered (s.coreAt core) → c.op = .tmac ∨ c.op = .tmacw →
    let M := tm c.tshape; let N := tn c.tshape; let G := tk c.tshape / 32; let P := (c.tprec.extractLsb' 0 5).toNat
    let wide : Bool := c.op == .tmacw; let size := if wide = true then 36 else 68
    let recA (i g : Nat) : Nat := spadKey core (c.opa.toNat % 2 ^ 23 + i * rows c.tpitch + g * ks c.tpitch)
    let recB (j g : Nat) : Nat := spadKey core (c.opb.toNat % 2 ^ 23 + j * rows c.opc + g * ks c.opc)
    let at_ (i j : Nat) : Nat := 4096 * c.acc + 64 * i + j
    1 ≤ M → M ≤ 64 → 1 ≤ N → N ≤ 64 → 1 ≤ G → inOwn c.opa → inOwn c.opb →
    recordsFit c.opa M G (rows c.tpitch) (ks c.tpitch) (4 * (P + 1)) → recordsFit c.opb N G (rows c.opc) (ks c.opc) size →
    (s.dieAt (core / 16)).phase ≠ .failed →
    (∀ i < M, ∀ g < G, Readable s c.writer (recA i g) (4 * (P + 1))) → (∀ j < N, ∀ g < G, Readable s c.writer (recB j g) size) →
    ∃ t, exec (.engineCommandRetire core) s = .next t ∧ (t.coreAt core).eng = r ∧ t.mem = s.mem ∧
      (∀ i < M, ∀ j < N, (t.coreAt core).cell (at_ i j) = (List.range G).foldl (fun v g =>
        add128 v (groupValue P wide (aGroup P (Memory.bytes s.mem (recA i g) (4 * (P + 1))))
          (if wide = true then dpGroup (Memory.bytes s.mem (recB j g) 36) else bGroup (Memory.bytes s.mem (recB j g) 68)))) ((s.coreAt core).cell (at_ i j))) ∧
      (∀ n, (∀ i < M, ∀ j < N, n ≠ at_ i j) → (t.coreAt core).cell n = (s.coreAt core).cell n)

/-- R267, R257: a TLD whose blocks can be read puts each binary128 of its tile into its cell, a NaN as the canonical one; every other cell stays, and the command leaves the queue. -/
def Sys2Proof.Claim.TileLoads : Prop :=
  ∀ (s : State) (core : Nat) (c : EngCmd) (r : List EngCmd), EngineTurn s core c r → CellsOrdered (s.coreAt core) → c.op = .tld →
    let M := tm c.tshape; let N := tn c.tshape
    let key (i j : Nat) : Nat := spadKey core (c.opa.toNat % 2 ^ 23 + i * c.opb.toNat + 16 * j)
    let at_ (i j : Nat) : Nat := 4096 * c.acc + 64 * i + j
    let got (i j : Nat) : Nat := ofBytes (Memory.bytes s.mem (key i j) 16)
    M ≤ 64 → N ≤ 64 → c.opa.toNat % 16 = 0 → c.opb.toNat % 16 = 0 → (M = 0 ∨ N = 0 ∨ c.opa.toNat % 2 ^ 23 + (M - 1) * c.opb.toNat + 16 * N ≤ 2 ^ 23) →
    (s.dieAt (core / 16)).phase ≠ .failed → (∀ i < M, ∀ j < N, Readable s c.writer (key i j) 16) →
    ∃ t, exec (.engineCommandRetire core) s = .next t ∧ (t.coreAt core).eng = r ∧ t.mem = s.mem ∧
      (∀ i < M, ∀ j < N, (t.coreAt core).cell (at_ i j) = BitVec.ofNat 128 (if (B128.decode (got i j)).isNan = true then B128.nan else got i j)) ∧
      (∀ n, (∀ i < M, ∀ j < N, n ≠ at_ i j) → (t.coreAt core).cell n = (s.coreAt core).cell n)

/-- R274, R275, R273, R272, R257: every SIG command, under a depth N and d channels, leaves the queue and stores once: SIGINIT the unit, SIGUPD the product of the signature with the exponential of each increment, SIGJOIN and SIGJOINL the product with the image's tensor on the right or the left, SIGLD the image's tensor, SIGLOG the logarithm where L0 is 1; a NaN or an infinity that is read, or an L0 other than 1 for SIGLOG, stores the canonical NaN; SIGST changes no cell. -/
def Sys2Proof.Claim.SignatureResults : Prop :=
  ∀ (s : State) (core : Nat) (c : EngCmd) (r : List EngCmd) (T R : Nat → Nat → ℚ), EngineTurn s core c r → CellsOrdered (s.coreAt core) →
    let K := s.coreAt core; let N := (c.sigcfg.extractLsb' 0 4).toNat; let d := 2 ^ ((c.sigcfg.extractLsb' 8 2).toNat + 1)
    let cells := (c.sigcfg.extractLsb' 16 17).toNat
    let key (n : Nat) : Nat := imageKey core c.opa + 16 * n
    let img (n : Nat) : BitVec 128 := BitVec.ofNat 128 (ofBytes (Memory.bytes s.mem (key n) 16))
    let unit (k _ : Nat) : ℚ := if k = 0 then 1 else 0
    let f := floatFormat (16 * 2 ^ (c.vtype.toNat % 4))
    let inc (xs : List (BitVec 64)) (j : Nat) : ℚ := val (f.decode (xs.getD j 0).toNat)
    let sound : Prop := ∀ xs ∈ c.vecs, xs.length = d ∧ ∀ x ∈ xs, finite (f.decode x.toNat) = true
    let unsound : Prop := ∃ xs ∈ c.vecs, ∃ x ∈ xs, finite (f.decode x.toNat) = false
    let read : Prop := (s.dieAt (core / 16)).phase ≠ .failed ∧ c.opa.extractLsb' 56 8 ∈ [0xE0#8, 0xE4#8] ∧ c.opa.toNat % 16 = 0 ∧
      c.opa.toNat % 2 ^ 23 + 16 * (1 + cells) ≤ 2 ^ 23 ∧ Readable s c.writer (key 0) 16 ∧
      ∀ k, 1 ≤ k → k ≤ N → ∀ i < d ^ k, Readable s c.writer (key (1 + firstCell d k + i)) 16
    1 ≤ N → N ≤ 8 → cells = firstCell d (N + 1) → c.vtype.toNat % 4 < 2 →
    c.op ∈ [EngOp.siginit, .sigupd, .sigjoin, .sigjoinl, .siglog, .sigld, .sigst] →
    ∃ t, exec (.engineCommandRetire core) s = .next t ∧
      let L := t.coreAt core
      let stored (V : Nat → Nat → ℚ) : Prop := t.mem = s.mem ∧ L.eng = r ∧ Stores K L d N cells (fun k i => rat128 (V k i))
      let nans : Prop := t.mem = s.mem ∧ L.eng = r ∧ Stores K L d N cells (fun _ _ => BitVec.ofNat 128 B128.nan)
      let mine := Holds K.l0 K.cell d N; let theirs := Holds (img 0) (fun n => img (n + 1)) d N
      (c.op = .siginit → stored unit) ∧
      (c.op = .sigupd → mine T → sound → stored (c.vecs.foldl (fun T xs => sigMul d T (sigExp d (inc xs))) T)) ∧
      (c.op = .sigupd → NotFinite K.l0 K.cell d N ∨ (mine T ∧ unsound) → nans) ∧
      (c.op = .siglog → mine T → T 0 0 = 1 → stored (sigLog d N T)) ∧
      (c.op = .siglog → NotFinite K.l0 K.cell d N ∨ (mine T ∧ T 0 0 ≠ 1) → nans) ∧
      (c.op = .sigjoin → read → mine T → theirs R → stored (sigMul d T R)) ∧
      (c.op = .sigjoinl → read → mine T → theirs R → stored (sigMul d R T)) ∧
      (c.op = .sigjoin ∨ c.op = .sigjoinl → read → NotFinite K.l0 K.cell d N ∨ NotFinite (img 0) (fun n => img (n + 1)) d N → nans) ∧
      (c.op = .sigld → read → theirs R → stored R) ∧
      (c.op = .sigld → read → NotFinite (img 0) (fun n => img (n + 1)) d N → nans) ∧
      (c.op = .sigst → L.eng = r ∧ L.cells = K.cells ∧ L.l0 = K.l0)

/-- R127, R274: Round128 of an exact value, where it is finite, lies no further from it than any other binary128 value, and an exact binary128 value other than zero is its own code; zero is +0. -/
def Sys2Proof.Claim.Round128Nearest : Prop :=
  ∀ (x : ℚ) (c : BitVec 128), rat128 0 = 0 ∧ (finite (B128.decode c.toNat) = true →
    (x = val (B128.decode c.toNat) → x ≠ 0 → rat128 x = c) ∧
    (finite (B128.decode (rat128 x).toNat) = true → |val (B128.decode (rat128 x).toNat) - x| ≤ |val (B128.decode c.toNat) - x|))

/-! ### Events of the module -/

namespace Sys2Proof.Claim
open Machine

/-- HOSTERR after one more event (R460). -/
def errLogged (s : State) (kind link addr : Nat) : State :=
  let n := min ((s.front.hosterr.extractLsb' 48 16).toNat + 1) 65535
  { s with front := { s.front with hosterr := BitVec.ofNat 64 (n * 2 ^ 48 + kind * 2 ^ 45 + link * 2 ^ 44 + addr) } }

/-- The codes with which a step of a start fails (R454). -/
def FailCode (step : Nat) (code : BitVec 16) : Prop :=
  (step = 1 ∧ code.toNat ∈ [0x0101, 0x0102, 0x0103]) ∨ (step = 2 ∧ code.toNat ∈ [0x0201, 0x0202, 0x0203]) ∨
  (3 ≤ step ∧ step ≤ 5 ∧ code.toNat / 256 = step ∧ code.toNat % 256 < 24)

/-- What a start leaves, from `n` failed starts in a row, with RESET = `cause` and the CODE and STEP bits `was` (R28, R30, R32, R454, R455): everything as reset leaves it; a successful start zeroes memory, or die 0 alone in minimal mode, sets READY and has trained the ports; a failed one records STEP and CODE and counts; one that hangs waits, memory zeroed when it hangs past step 5, and outside minimal mode FABRIC 1 with the ports trained when it hangs past step 6. -/
def Started (s t : State) (cause n was failStep : Nat) (code : BitVec 16) : Prop :=
  let minimal : Prop := 3 ≤ n
  let mode : Nat := if 3 ≤ n then 1 else 0
  let boot : Word := BitVec.ofNat 64 (was * 4096 + n * 256 + cause * 16 + mode)
  let kept : Prop := t.mem = s.mem ∧ t.tags = s.tags
  let zero : Prop :=
    (∀ a, t.byte a = if minimal ∧ homeDie a ≠ 0 then s.byte a else 0) ∧
    (∀ l, t.tag l = if minimal ∧ homeDie (64 * l) ≠ 0 then s.tag l else Tag.clear)
  let hung (mode : Nat) : Prop := t.front.modstat = BitVec.ofNat 64 (if 3 ≤ n then 2 else mode) ∧ t.front.failed = n ∧ t.front.bootcause = boot ∧ t.front.phase = .resetReleased
  let trained : Prop := ∀ p, t.portOk p = true ↔ p < 48 ∧ Config.partner p = true ∧ ¬ minimal
  t.cur = Strand.reset ∧ t.core = Core.reset 0 ∧ t.strands = [] ∧ t.cores = [] ∧ t.dies = [] ∧ t.starter = Starter.reset ∧
  t.homes = Homes.reset ∧ t.rounds = [] ∧ t.dclkw = 0 ∧
  t.front.assigned = false ∧ t.front.modnum = 0 ∧ t.front.lattol = 0 ∧ t.front.pwrcap = 16000 ∧ t.front.diestate = 0 ∧
  t.front.hosterr = 0 ∧ t.front.windows = [] ∧
  (failStep = 0 →
    t.front.modstat = (if 3 ≤ n then 3 else 5) ∧ t.front.failed = (if 3 ≤ n then n else 0) ∧ t.front.bootcause = boot ∧ zero ∧
    trained) ∧
  (1 ≤ failStep ∧ failStep ≤ 5 → kept ∧ t.front.ports = [] ∧
    (¬ FailCode failStep code → hung 0) ∧
    (FailCode failStep code →
      t.front.modstat = (if 3 ≤ n then 2 else 0) ∧ t.front.failed = min 3 (n + 1) ∧
      t.front.bootcause = BitVec.ofNat 64 ((code.toNat * 16 + failStep) * 4096 + n * 256 + cause * 16 + mode) ∧
      t.front.phase = (if 3 ≤ n then .terminal else .failed 0))) ∧
  (failStep = 6 → hung 0 ∧ zero ∧ t.front.ports = []) ∧ (failStep = 7 → hung 4 ∧ zero ∧ trained)

/-- The tags stand in rising order of their lines and list no clear tag. -/
def TagsOrdered (s : State) : Prop := s.tags.Pairwise (fun a b => a.1 < b.1) ∧ ∀ e ∈ s.tags, e.2 ≠ Tag.clear

end Sys2Proof.Claim

/-- R28 to R33, R442, R454 to R456: what starts the module and what a start leaves. The steps 6 and 7, and a code that R454 does not give the step, stand for a start that hangs and never sets READY (log entry 21); a retry comes 100 ms after the failure, a timeout 2 s after the reset is released, and not before. That a start by FULLSTART has BOOTCAUSE.RESET = 2 is log entry 68, and that the ports up after a start are those of Config.partner is log entry 22 (both DESIGN CHOICE); what a restart keeps, and what a step that fails leaves, are the model's (log entry 21). -/
def Obligations.ModuleStarts : Prop :=
  ∀ (s : State) (f : Nat) (code : BitVec 16), f ≤ 7 → s.front.failed ≤ 3 → Inv s → TagsOrdered s → let n := s.front.failed
    (∃ t, exec (.powerOnReset f code) s = .next t ∧ Started s t 0 n 0 f code) ∧
    (∃ t, exec (.hostLinkReset f code) s = .next t ∧ Started s t 1 n 0 f code) ∧
    (∃ t, exec (.modctlReset f code) s = .next t ∧ Started s t 2 n 0 f code) ∧
    (∃ t, exec (.modctlFullstart f code) s = .next t ∧ Started s t 2 0 0 f code) ∧
    (∃ t, exec (.heartbeatWatchdog f code) s = .next t ∧ Started s t 3 n 0 f code) ∧
    (∀ t0, s.front.phase = .failed t0 →
      (s.dclkw.toNat < t0 + 100000000 → exec (.startRetry f code) s = .next s) ∧
      (t0 + 100000000 ≤ s.dclkw.toNat → ∃ t, exec (.startRetry f code) s = .next t ∧
        Started s t (s.front.bootcause.extractLsb' 4 4).toNat n (s.front.bootcause.extractLsb' 12 20).toNat f code)) ∧
    (s.front.phase = .resetReleased → s.dclkw.toNat < 2000000000 → exec .startTimeout s = .next s) ∧
    (s.front.phase = .resetReleased → 2000000000 ≤ s.dclkw.toNat → ∃ t, exec .startTimeout s = .next t ∧
      t = { s with front := { s.front with bootcause := t.front.bootcause, failed := min 3 (n + 1), phase := t.front.phase } } ∧
      t.front.bootcause.toNat = 0x0700 * 2 ^ 16 + s.front.bootcause.toNat % 2 ^ 12 - s.front.bootcause.toNat % 16 / 4 * 4 ∧
      t.front.phase = (if s.front.modstat.getLsbD 1 = true then .terminal else .failed s.dclkw.toNat))

/-- R18 to R20, R23, R25, R26, R33, R39, R351, R460: host writes of BAR0 registers, and what the registers of a launch window, MODCTL and RTCTL read as. -/
def Sys2Proof.Claim.HostRegisters : Prop :=
  ∀ (s : State) (link : Nat) (v : Word), link < 2 → s.front.modstat.getLsbD 0 = true → s.front.linkUp.getD link false = true →
    let size := max (s.bar2Size 0) (s.bar2Size 1)
    let rd (o : Nat) : Word := s.registerRead link (BitVec.ofNat 26 o)
    let wr (o : Nat) (e : State → Out) : Prop := exec (.registerWrite link (BitVec.ofNat 26 o) v) s = e s
    (s.starter.live = [] → s.starter.queued = [] →
      exec (.modnumWrite v) s = .next { s with front := { s.front with modnum := v.extractLsb' 0 18, assigned := true } }) ∧
    (s.starter.live ≠ [] ∨ s.starter.queued ≠ [] → exec (.modnumWrite v) s = .next s) ∧
    exec .hosterrWrite s = .next { s with front := { s.front with hosterr := 0 } } ∧
    (∃ t, exec .rtctlFlush s = .next t ∧ t = { s with dies := t.dies } ∧ ∀ n, t.dieAt n = { s.dieAt n with routes := [] }) ∧
    exec (.pwrcapWrite v) s = .next { s with front := { s.front with
      pwrcap := BitVec.ofNat 64 (min 16000 (max 2000 (v.extractLsb' 0 16).toNat)) } } ∧
    wr 0x20000 (fun s => .next { s with front := { s.front with bar2base := BitVec.ofNat 64 (v.toNat % 2 ^ 42 / size * size) } }) ∧
    wr 0x00000 (exec (.modnumWrite v)) ∧ (v.getLsbD 1 = true → wr 0x18 (exec (.modctlFullstart 0 0))) ∧
    (v.getLsbD 1 = false → v.getLsbD 0 = true → wr 0x18 (exec (.modctlReset 0 0))) ∧ (v.getLsbD 1 = false → v.getLsbD 0 = false → wr 0x18 .next) ∧ wr 0x10000 (exec (.lattolWrite v)) ∧ wr 0x10008 (exec (.pwrcapWrite v)) ∧
    wr 0x20008 (exec .hosterrWrite) ∧ (v.getLsbD 0 = true → wr 0x30000 (exec .rtctlFlush)) ∧ (v.getLsbD 0 = false → wr 0x30000 .next) ∧
    (∀ n < 256, ∀ k < 16, ∃ t, exec (.registerWrite link (BitVec.ofNat 26 (0x100000 + 0x1000 * n + 8 * k)) v) s = .next t ∧
      t = { s with front := { s.front with windows := t.front.windows } } ∧
      t.window link n = { s.window link n with pkt := (s.window link n).pkt.setIfInBounds k v } ∧
      ∀ j m, (j ≠ link ∨ m ≠ n) → t.window j m = s.window j m) ∧
    (∀ n < 256, ∃ t, exec (.registerWrite link (BitVec.ofNat 26 (0x100090 + 0x1000 * n)) v) s = .next t ∧
      t = { s with front := { s.front with windows := t.front.windows } } ∧ t.window link n = { s.window link n with cmpaddr := v } ∧
      ∀ j m, (j ≠ link ∨ m ≠ n) → t.window j m = s.window j m) ∧
    (∀ n < 256, wr (0x100080 + 0x1000 * n) (exec (.doorbellWrite link n))) ∧
    (∀ o < 2 ^ 26, (o % 8 ≠ 0 ∨ 0x200000 ≤ o ∨
        (o < 0x100000 ∧ o ∉ [0, 0x18, 0x10000, 0x10008, 0x20000, 0x20008, 0x30000]) ∨
        (0x100000 ≤ o ∧ o < 0x200000 ∧ 0x80 < o % 0x1000 ∧ o % 0x1000 ≠ 0x90)) → wr o .next) ∧
    rd 0x18 = 0 ∧ rd 0x30000 = 0 ∧
    (∀ n < 256, (∀ k < 17, rd (0x100000 + 0x1000 * n + 8 * k) = 0) ∧ rd (0x100090 + 0x1000 * n) = (s.window link n).cmpaddr ∧
      rd (0x100088 + 0x1000 * n) = BitVec.ofNat 64 ((s.window link n).lastId.toNat * 2 ^ 32 +
        (64 - (s.starter.queued.filter (fun l => l.queue == n)).length) * 2 ^ 8 + (s.window link n).last.toNat))

/-- R24 to R26, R48, R49, R326, R329: a doorbell records what the Starter finds, in the order of its checks, or the launch it accepts; its sequence number is one more than the queue's last, and what follows the last of 38 bits is the model's choice (log entry 74). Reading the context changes nothing but the model's notes of the move. -/
def Sys2Proof.Claim.Doorbells : Prop :=
  ∀ (s : State) (link n : Nat) (c : Context), link < 2 → n < 256 → s.front.modstat.getLsbD 0 = true → s.front.linkUp.getD link false = true →
    let W := s.window link n
    let found (r : Except Nat Context) : Prop := (s.context n).1 = r
    let notes (o : Out) (last : BitVec 3) : Prop := ∃ t, o = .next t ∧ t = { s with front := { s.front with windows := t.front.windows }, mark := t.mark } ∧
      t.window link n = { W with last := last } ∧ ∀ j m, (j ≠ link ∨ m ≠ n) → t.window j m = s.window j m
    let o := exec (.doorbellWrite link n) s; let last := ((s.starter.seqs.find? (fun e => e.1 == n)).map Prod.snd).getD 0
    (found (.error 2) → notes o 2) ∧
    (found (.error 3) → notes o 3) ∧
    (found (.ok c) → s.malformed W.bytes = true → notes o 2) ∧
    (found (.ok c) → s.malformed W.bytes = false → 64 ≤ (s.starter.queued.filter (fun l => l.queue == n)).length → notes o 1) ∧
    (found (.ok c) → s.malformed W.bytes = false → (s.starter.queued.filter (fun l => l.queue == n)).length < 64 →
      ∃ t id, o = .next t ∧ t.mem = s.mem ∧ t.cur = s.cur ∧
        id = BitVec.ofNat 64 (s.front.modnum.toNat * 2 ^ 46 + n * 2 ^ 38 +
          (if last + 1 < 2 ^ 38 then last + 1 else 1)) ∧
        (t.window link n).last = 0 ∧ (t.window link n).lastId = id.extractLsb' 0 32 ∧ t.starter.live.length ≤ s.starter.live.length ∧
        ((∃ l, t.starter.queued = s.starter.queued ++ [l] ∧ l.id = id ∧ l.queue = n ∧ l.ctx = c ∧ l.link = some link ∧ l.taken = false ∧
            l.packet.entry = (packetOf W.bytes).entry ∧ l.packet.count = (packetOf W.bytes).count ∧ l.packet.ctrl = (packetOf W.bytes).ctrl ∧
            l.packet.args = (packetOf W.bytes).args) ∨
         ∃ r, t.starter.retired.head? = some r ∧ r.id = id ∧ r.status = 0 ∧ r.watermark = 2 ^ 64 - 1))

/-- R17, R20 to R22, R29, R455, R460, R461: host accesses through BAR2 within one line (`mark` says whether they wait for a sleeping die, log entry 61), configuration requests, and links that go down and up. -/
def Sys2Proof.Claim.HostAccesses : Prop :=
  ∀ (s : State) (link : Nat) (o : BitVec 42) (data : List Byte) (n : Nat), link < 2 → Inv s →
    let pa := (s.front.bar2base.toNat + o.toNat) % 2 ^ 42; let l := pa / 64; let T := s.tag l
    let up : Prop := s.front.modstat.getLsbD 0 = true ∧ s.front.linkUp.getD link false = true
    let fits (k : Nat) : Prop := 0 < k ∧ pa % 64 + k ≤ 64 ∧ o.toNat + k ≤ s.bar2Size link
    let sent (t : State) (e : ToHost) : Prop := t = { s with front := { s.front with toHost := s.front.toHost ++ [e], hosterr := t.front.hosterr }, mark := t.mark }
    let w := BitVec.ofNat 12 (0xF80 + link)
    (up → fits data.length → keyDie pa < 24 → (s.dieAt (keyDie pa)).phase ≠ .failed → T.state.toNat ≤ 5 ∨ (T.state = 6 ∧ T.writer = w ∧ T.wmod = s.front.modnum) →
      ∃ t, exec (.bar2HostWrite link o data) s = .next t ∧ t = { s with mem := t.mem, tags := t.tags, front := { s.front with wrote := t.front.wrote }, mark := t.mark } ∧
        (∀ a, t.byte a = if pa ≤ a ∧ a < pa + data.length then data.getD (a - pa) 0 else s.byte a) ∧
        t.tag l = ⟨6, w, T.gen + 1, s.front.modnum⟩ ∧ (∀ m, m ≠ l → t.tag m = s.tag m) ∧ (⟨link, l, s.front.modnum⟩ : HostWrite) ∈ t.front.wrote) ∧
    (up → fits data.length → 24 ≤ keyDie pa → exec (.bar2HostWrite link o data) s = .next (errLogged s 1 link pa)) ∧
    (up → fits n → keyDie pa < 24 → (s.dieAt (keyDie pa)).phase ≠ .failed →
      ∃ t, exec (.bar2HostRead link o n) s = .next t ∧
        (T.state = 5 ∨ T.state = 4 → sent t (.data link (Memory.bytes s.mem pa n) false) ∧ t.front.hosterr = s.front.hosterr) ∧
        (T.state = 7 → ∃ bs, sent t (.data link bs true) ∧ t.front.hosterr = s.front.hosterr) ∧
        (T.state ≠ 4 ∧ T.state ≠ 5 ∧ T.state ≠ 7 → sent t (.data link (List.replicate n 0xFF) false) ∧
          t.front.hosterr = (errLogged s 2 link pa).front.hosterr)) ∧
    (up → fits n → 24 ≤ keyDie pa → ∃ t, exec (.bar2HostRead link o n) s = .next t ∧ sent t (.data link (List.replicate n 0xFF) false) ∧
      t.front.hosterr = (errLogged s 1 link pa).front.hosterr) ∧
    (s.front.linkUp.getD link false = true → ∃ t, exec (.configurationRequest link) s = .next t ∧ t.front.hosterr = s.front.hosterr ∧
      (s.front.modstat.getLsbD 0 = true → sent t (.config link false)) ∧
      (s.front.modstat.getLsbD 0 = false → (s.front.phase ≠ .terminal ∨ link = 1) → sent t (.config link true)) ∧
      (s.front.phase = .terminal → link = 0 → sent t (.config link false))) ∧
    (s.front.linkUp.getD link false = true → ∃ t, exec (.hostLinkDown link) s = .next t ∧ t.front.linkUp.getD link true = false ∧
      t = { errLogged s 4 link 0 with front := { (errLogged s 4 link 0).front with linkUp := t.front.linkUp } }) ∧
    (s.front.linkUp.getD link true = false → link = 0 ∨ s.front.modstat.getLsbD 1 = false →
      ∃ t, exec (.hostLinkUp link) s = .next t ∧ t.front.linkUp.getD link false = true ∧
        t.front.hosterr = if s.front.linkWas.getD link false = true then (errLogged s 3 link 0).front.hosterr else s.front.hosterr)

namespace Sys2Proof.Claim
open Machine

/-- Exit latency and entry time of a die state, in nanoseconds (R34). -/
def latency : Nat → Nat
  | 0 => 0
  | 1 => 2000
  | 2 => 60000
  | _ => 3000000
def entryTime : Nat → Nat
  | 0 => 0
  | 1 => 1000
  | 2 => 100000
  | _ => 10000000

/-- The state of a die in DIESTATE (R34). -/
def dieCode (s : State) (n : Nat) : Nat := (s.front.diestate.extractLsb' (2 * n) 2).toNat

/-- LATTOL permits a state to a die (R35). -/
def allows (lattol : Word) (die k : Nat) : Prop := latency k ≤ (lattol.extractLsb' 0 32).toNat * 1000 ∧ (k = 3 → lattol.getLsbD (32 + die) = true)

/-- A die in A0 or going there after a wake-up (R37). -/
def woken (s : State) (n : Nat) : DiePhase := if dieCode s n = 0 then .steady else .exiting s.now

/-- A strand of the module, the issuing one included, that is there (R54). -/
def has (s : State) (sid : Nat) (t : Strand) : Prop := sid ≠ 0 ∧ s.strand sid = some t

/-- What an exit from A3 leaves of the die's memory: scratchpads and tile stores zero with clear tags, everything else as before (R36). -/
def lostSpads (s t : State) (die : Nat) : Prop :=
  (∀ a, t.byte a = if isSpad a ∧ homeDie a = die then 0 else s.byte a) ∧
  (∀ n, n / 16 = die → (t.coreAt n).cells = [] ∧ (t.coreAt n).l0 = 0)

end Sys2Proof.Claim

/-- R34 to R38, R457, R458, R460: the power states of a die. -/
def Sys2Proof.Claim.DiePowerStates : Prop :=
  ∀ (s : State) (n k : Nat), n < 24 → k ≤ 3 → Inv s →
    let D := s.dieAt n; let P := D.phase; let c := dieCode s n
    (P = .steady → n ∉ s.busyDies → s.storesHeld n = false → D.noEntry ≤ s.now → c < k → allows s.front.lattol n k → D.idleAt + entryTime k ≤ s.now →
      (∀ j ≤ 3, k < j → ¬ (allows s.front.lattol n j ∧ D.idleAt + entryTime j ≤ s.now)) →
      ∃ t, exec (.dieIdleEntry n) s = .next t ∧ (t.dieAt n).phase = .entering k s.now ∧ dieCode t n = c ∧
        ∀ m, m / 16 = n → (t.coreAt m).inb = [] ∧ (t.coreAt m).icb = [] ∧ (t.coreAt m).outb = []) ∧
    (∀ a, P = .entering k a → a + 1000000 < s.now → exec (.dieStateEntryComplete n) s = .next s) ∧
    (∀ a, P = .entering k a → s.now ≤ a + 1000000 → ∃ t, exec (.dieStateEntryComplete n) s = .next t ∧
      dieCode t n = k ∧ (t.dieAt n).phase = .steady ∧ t.mem = s.mem ∧ ∀ m, m ≠ n → m < 24 → dieCode t m = dieCode s m) ∧
    (∀ j a, P = .entering j a → a + 1000000 < s.now → exec (.dieWake n) s = exec (.dieEntryFailure n) s) ∧
    (P = .steady ∨ (∃ j a, P = .entering j a ∧ s.now ≤ a + 1000000) → ∃ t, exec (.dieWake n) s = .next t ∧ t = { s with dies := t.dies } ∧
      t.dieAt n = { D with phase := woken s n } ∧ ∀ m, m ≠ n → t.dieAt m = s.dieAt m) ∧
    (∀ a, P = .exiting a → s.now < a + latency c ∨ a + 4 * latency c < s.now → exec (.dieExitComplete n) s = .next s) ∧
    (∀ a, P = .exiting a → a + latency c ≤ s.now → s.now ≤ a + 4 * latency c → ∃ t, exec (.dieExitComplete n) s = .next t ∧
      dieCode t n = 0 ∧ (t.dieAt n).phase = .steady ∧ (c = 3 → lostSpads s t n) ∧ (c ≠ 3 → t.mem = s.mem)) ∧
    (∀ j a, P = .entering j a → a + 1000000 ≤ s.now → ∃ t, exec (.dieEntryFailure n) s = .next t ∧
      dieCode t n = 0 ∧ t.dieAt n = { D with phase := .steady, noEntry := s.now + 100000000 } ∧
      t.front.hosterr = (errLogged s 7 0 (n * 2 ^ 37)).front.hosterr) ∧
    (∀ a, P = .exiting a → a + 4 * latency c ≤ s.now → ∃ t, exec (.dieExitFailure n) s = .next t ∧
      (t.dieAt n).phase = .failed ∧ t.front.hosterr = (errLogged s 7 0 (n * 2 ^ 37)).front.hosterr ∧
      ∀ sid u, has s sid u → u.live = true → u.id.core / 16 = n → ∃ u', t.strand sid = some u' ∧ u'.run = .lost 0x301)

/-- R16, R37 to R39, R457 to R459: LATTOL, whose write leaves a die on its way back to A0 on that way, the clock steps under the power cap, one in 100 µs, and the hold of engine commands. -/
def Sys2Proof.Claim.PowerManagement : Prop :=
  ∀ (s : State) (v : Word) (p : BitVec 16),
    let cap := (s.front.pwrcap.extractLsb' 0 16).toNat; let step := (s.front.pwrstat.extractLsb' 16 4).toNat
    let next := if cap < p.toNat then min 6 (step + 1) else if p.toNat * 100 < cap * 95 then step - 1 else step
    (s.front.modstat.getLsbD 0 = true → ∃ t, exec (.lattolWrite v) s = .next t ∧ t.front.lattol = v &&& 0x00FFFFFFFFFFFFFF#64 ∧
      ∀ n < 24, let c := dieCode s n; let P := (s.dieAt n).phase
        let late : Prop := ∃ k a, P = .entering k a ∧ a + 1000000 < s.now
        let stays : Prop := P = .steady ∨ ∃ k a, P = .entering k a ∧ s.now ≤ a + 1000000 ∧ ¬ allows t.front.lattol n k
        (late → dieCode t n = 0 ∧ t.dieAt n = { s.dieAt n with phase := .steady, noEntry := s.now + 100000000 }) ∧
        (¬ late → c = 0 ∨ allows t.front.lattol n c ∨ P = .failed ∨ (∃ a, P = .exiting a) → dieCode t n = c ∧
          ((∀ k a, P = .entering k a → allows t.front.lattol n k) → t.dieAt n = s.dieAt n) ∧
          (∀ k a, P = .entering k a → ¬ allows t.front.lattol n k → (t.dieAt n).phase = .steady)) ∧
        (∀ k, 1 ≤ k → k < c → ¬ allows t.front.lattol n c → stays → allows t.front.lattol n k →
          (∀ j, k < j → j < c → ¬ allows t.front.lattol n j) → dieCode t n = k ∧ (t.dieAt n).phase = .steady) ∧
        (c ≠ 0 → (∀ j, 1 ≤ j → j ≤ c → ¬ allows t.front.lattol n j) → stays →
          dieCode t n = c ∧ ∃ a, (t.dieAt n).phase = .exiting a)) ∧
    (∀ a, s.front.avgAt = some a → s.now < a + 100000 → exec (.powerAverageTick p) s = .next s) ∧
    ((∀ a, s.front.avgAt = some a → a + 100000 ≤ s.now) → ∃ t, exec (.powerAverageTick p) s = .next t ∧ t.front.avgAt = some s.now ∧
      t.front.pwrstat = BitVec.ofNat 64 ((if 0 < next then 2 ^ 20 else 0) + next * 2 ^ 16 + p.toNat) ∧
      t = { s with front := { s.front with pwrstat := t.front.pwrstat, overSince := t.front.overSince, capHold := t.front.capHold, avgAt := t.front.avgAt } } ∧
      (t.front.overSince.isSome = true ↔ cap < p.toNat ∧ next = 6) ∧
      (∀ a, s.front.overSince = some a → cap < p.toNat → next = 6 → t.front.overSince = some a) ∧
      t.front.capHold = (s.front.capHold && !decide (p.toNat * 100 < cap * 95))) ∧
    (∀ a, s.front.overSince = some a → a + 1000000 ≤ s.now → s.front.capHold = false →
      exec .capIssueHold s = .next (errLogged { s with front := { s.front with capHold := true } } 6 0 0))

/-- R280, R312, R346, R349, R351, R352, R353, R462, R463: the fabric's ports, packets, routes, which the perimeter dies read, and management frames. A retrain that has taken more than 50 ms has failed. Of a lost packet the schedule says whether its bytes had landed before its acknowledgement was lost (DESIGN CHOICE, log entry 63); then what stood ahead of it on its way landed before it. That a good end of a retrain leaves any port, one that was down or absent included, up with an empty retry buffer and no queue is the model's (DESIGN CHOICE, log entry 22), and that DCLKW never goes back is log entry 57. -/
def Obligations.FabricEvents : Prop :=
  ∀ (s : State) (p i die target : Nat) (f : Flight) (e : Word) (tick : BitVec 63), p < 48 → die < 24 →
    let port (s : State) : Option Port := s.front.ports.find? (fun q => q.id == p)
    let addr := globalOf s.front.modnum (64 * f.entry.line)
    let late (landed : Bool) (u : State) : State := if landed = true then (u.landAt f.entry.line f.entry.writer f.entry.mask f.entry.data).2 else u
    let lost (landed : Bool) (s : State) : State :=
      match f.block with
      | none => (late landed s).addRecord f.entry.sid (f.entry.record 0x300 addr)
      | some b => if ((late landed s).blockOwner f.core b).isSome = true then (late landed s).cmdFault f.core b.chan 0x300 (BitVec.ofNat 64 addr) 1 else late landed s
    let landed := s.sched.lost.headD false
    let left (w : List Flight) : State := { s with sched := { s.sched with lost := s.sched.lost.drop 1 }, homes := { s.homes with wnet := w ++ s.homes.wnet.drop (i + 1) } }
    let loses (o : Out) : Prop :=
      (landed = false → o = .next (lost false (left (s.homes.wnet.take i)))) ∧
      (landed = true → (∀ j < i, ∀ g, s.homes.wnet[j]? = some g → g.ahead f = false) → o = .next (lost true (left (s.homes.wnet.take i)))) ∧
      (∀ come stay, landed = true → arriving (fun g => g.ahead f) (s.homes.wnet.take i) = (come, stay) →
        o = .next (lost true (come.foldl State.landFlight (left stay))))
    (∀ q, port s = some q → ∃ t, exec (.flitCheckFail p) s = .next t ∧ 
      port t = some { q with replays := if q.retry = [] then q.replays else min 16 (q.replays + 1) } ∧
      t = { s with front := { s.front with ports := t.front.ports } }) ∧
    (∀ q, port s = some q → ∃ t, exec (.fabricPortRetrain p) s = .next t ∧
      port t = some (if 16 ≤ q.replays ∧ q.status ≠ 2 then { q with status := 2, since := s.now } else q) ∧ t = { s with front := { s.front with ports := t.front.ports } }) ∧
    (s.front.modstat.getLsbD 2 = true → (∃ q ∈ s.front.ports, q.id = p ∧ q.status = 2 ∧ q.since + 50000000 < s.now) →
      exec (.fabricRetrainEnd p true) s = exec (.fabricRetrainEnd p false) s) ∧
    (s.front.modstat.getLsbD 2 = true → (∀ q ∈ s.front.ports, q.id = p → q.status = 2 → s.now ≤ q.since + 50000000) →
      ∃ t, exec (.fabricRetrainEnd p true) s = .next t ∧ port t = some ⟨p, 1, 0, [], 0⟩ ∧
      t = { s with front := { s.front with ports := t.front.ports } }) ∧
    (s.front.modstat.getLsbD 2 = true → (∃ q ∈ s.front.ports, q.id = p ∧ q.status = 2) →
      ∃ t, exec (.fabricRetrainEnd p false) s = .next t ∧ port t = none ∧ (∀ g ∈ t.homes.wnet, g.port ≠ some p) ∧
        (∀ g ∈ s.homes.wnet, g.port ≠ some p → g ∈ t.homes.wnet)) ∧
    (s.homes.wnet[i]? = some f → f.port ≠ none →
      loses (exec (.lossNotice i) s) ∧
      (∀ a, f.local_ = some a → a + 1000000 ≤ s.now → loses (exec (.fabricReplyTimeout i) s)) ∧
      ∃ t, exec (.localCompletion i) s = .next t ∧ t = { s with homes := { s.homes with wnet := t.homes.wnet } } ∧
        t.homes.wnet = s.homes.wnet.set i { f with local_ := some (f.local_.getD s.now) }) ∧
    (target < 2 ^ 18 → target ≠ s.front.modnum.toNat → die ∈ perimeter → (∀ e ∈ (s.dieAt die).routes, e.1 ≠ target) →
      let T := s.tag ((0x400000 + 8 * target) / 64)
      ∃ t r, exec (.routeEntryRead die target) s = .next t ∧ t = { s with dies := t.dies, mark := t.mark } ∧ (t.dieAt die).routes.head? = some (target, r) ∧
        (T.state = 5 ∨ T.state = 4 → r = BitVec.ofNat 64 (ofBytes (Memory.bytes s.mem (0x400000 + 8 * target) 8))) ∧
        (T.state ≠ 5 ∧ T.state ≠ 4 → r = 0)) ∧
    (s.front.modstat.getLsbD 2 = true →
      exec (.routeUpdate target e) s = .next { s with front := { s.front with frames := s.front.frames ++ [(target, e)] } } ∧
      exec (.dclkwSynchronisation tick) s = .next (if s.dclkw.toNat ≤ tick.toNat then { s with dclkw := tick } else s)) ∧
    (target = s.front.modnum.toNat ∨ 2 ^ 18 ≤ target ∨ die ∉ perimeter → exec (.routeEntryRead die target) s = .next s)

namespace Sys2Proof.Claim
open Machine

/-- The channel and path on which a reply comes to its strand's core (R345, R346). -/
def replyWay (s : State) (q : Reply) : Nat × Nat × Nat × Bool := s.wayBack (((s.strand q.sid).map (fun t => t.id.core)).getD 0) q.sid q.line

/-- The channel and path on which an acknowledgement of an invalidation goes to the home (R345, R346). -/
def ackWay (s : State) (e : Inval) : Nat × Nat × Nat × Bool := s.wayBack e.core e.sid e.line

end Sys2Proof.Claim

/-- R83 to R85, R88, R89, R95, R187, R246, R346, R426, R427: writes, reads, invalidations and soft errors at the homes. None leaves the outbound buffer before an older write of its strand to its line; of those that may leave one whose 4 µs are over goes first, else the oldest, which is the model's order (DESIGN CHOICE, log entries 2 and 4). That none leaves while a record of a lost store of its strand waits for a ring entry is the model's too (DESIGN CHOICE, log entry 79). Of the writes, the replies and the acknowledgements on one channel of one path the first arrives first. -/
def Sys2Proof.Claim.HomeWritesAndReads : Prop :=
  ∀ (s s1 : State) (core i sid : Nat) (f : Flight) (d : Reg) (t0 : Strand) (addr : BitVec 61) (data : Line) (c : BitVec 10) (e : Inval), core < 384 →
    let K := s.coreAt core
    let key := addr.toNat / 8 * 8; let l := key / 64
    let patrolled := (core * 2 ^ 33) / 64 + K.patrol
    let due (x : OutEntry) : Prop := x.last + 4000 ≤ s.dclkw.toNat
    let free (x : OutEntry) : Prop := s.blocked core x = false ∧ s.outHeld x.sid = false
    (∀ j o, K.outb[j]? = some o → K.id = core → free o →
      (∀ k x, k < j → K.outb[k]? = some x → ¬ free x ∨ (¬ due x ∧ due o)) →
      (due o ∨ ∀ x ∈ K.outb, ¬ free x ∨ ¬ due x) →
      let u := s.onCore core (fun k => { k with outb := K.outb.eraseIdx j })
      let g (p : Option Nat) : Flight := ⟨o, core, p, requestChannel (s.classOf o.sid) (64 * o.line), none, none⟩
      let away (t : State) (p : Option Nat) : State := { t with homes := { t.homes with wnet := t.homes.wnet ++ [g p] } }
      (keyModule (64 * o.line) = 0 → exec (.outboundDrainTimeout core) s = .next (away u none)) ∧
      (keyModule (64 * o.line) ≠ 0 → ∀ p t, u.portFor core (64 * o.line) = (p, t) →
        exec (.outboundDrainTimeout core) s =
          
          .next (match p with
            | some n => away (t.emitFor core (t.classOf o.sid) n (64 * o.line) 64) p
            | none => t.addRecord o.sid (o.record 0x300 (globalOf s.front.modnum (64 * o.line)))))) ∧
    (s.homes.wnet[i]? = some f → (∀ j < i, ∀ g, s.homes.wnet[j]? = some g → g.ahead f = false) →
      s.held f = false → f.overdue s.now = false → f.block = none → (keyModule (64 * f.entry.line) = 0 → (s.dieAt (homeDie (64 * f.entry.line))).phase ≠ .failed) →
      let s' := State.passes { s with homes := { s.homes with wnet := s.homes.wnet.eraseIdx i } } f.returns
      (∀ t, s'.landAt f.entry.line f.entry.writer f.entry.mask f.entry.data = (true, t) → exec (.homeWrite i 0) s = .next t) ∧
      (∀ t, s'.landAt f.entry.line f.entry.writer f.entry.mask f.entry.data = (false, t) →
        exec (.homeWrite i 0) s = .next (t.addRecord f.entry.sid (f.entry.record 0x380 (globalOf s.front.modnum (64 * f.entry.line)))))) ∧
    (has s sid t0 → t0.run = .running →
      (s.readHome t0.id.core t0.writer l = (.ok data, s1) → ∃ t, exec (.homeRead sid addr d 0) s = .next t ∧
        t = { s1 with homes := { s1.homes with loads := s1.homes.loads ++ [⟨sid, d, data.extractLsb' (8 * (key % 64)) 64, l, some data⟩] } }) ∧
      (s.readHome t0.id.core t0.writer l = (.error c, s1) → exec (.homeRead sid addr d 0) s = .next (s1.asStrand sid (fun u =>
        u.trapEntry c 0 false u.cur.pc (BitVec.ofNat 64 (globalOf s.front.modnum key)) 0 u.cur.pc)))) ∧
    (∀ r, s.homes.loads[i]? = some r → (∀ j < i, ∀ q, s.homes.loads[j]? = some q → replyWay s q ≠ replyWay s r) → has s r.sid t0 → t0.run = .running →
      ∃ t, exec (.loadReply i) s = .next t ∧ t.mem = s.mem ∧ t.tags = s.tags ∧ t.homes.loads = s.homes.loads.eraseIdx i ∧
        t.strand r.sid = some { t0 with x := if r.d = 0 then t0.x else t0.x.set r.d.toNat r.data r.d.isLt }) ∧
    ((s.homes.invals.find? (fun e => e.core == core)) = some e → ∃ t, exec (.turnInvalidation core) s = .next t ∧
      t.homes.acks = s.homes.acks ++ [e] ∧ t.homes.invals = s.homes.invals.erase e ∧ t.mem = s.mem ∧ t.tags = s.tags ∧
      t.coreAt core = { K with inb := K.inb.filter (fun q => q.1 ≠ e.line), icb := K.icb.filter (fun q => q.1 ≠ e.line) }) ∧
    (∃ t j, exec (.invalidationAck i) s = .next t ∧ j ≤ i ∧ t = { s with homes := { s.homes with acks := s.homes.acks.eraseIdx j } } ∧
      ∀ e, s.homes.acks[i]? = some e → (∃ q, s.homes.acks[j]? = some q ∧ ackWay s q = ackWay s e) ∧
        ∀ k < j, ∀ q, s.homes.acks[k]? = some q → ackWay s q ≠ ackWay s e) ∧
    (∃ t, exec (.patrolScrub core 0) s = .next t ∧ t.mem = s.mem ∧ t.tags = s.tags ∧ (t.coreAt core).patrol = (K.patrol + 1) % 2 ^ 27) ∧
    (∀ b, 1 ≤ b → b ≤ 3 → Inv s → K.patrol < 2 ^ 27 → (core ≠ 0 ∨ K.patrol < 2048 ∨ 3072 ≤ K.patrol) → 64 * patrolled < 2 ^ 42 →
      ∃ t, exec (.patrolScrub core b) s = .next t ∧ t.tag patrolled = s.tag patrolled ∧ t.line patrolled = s.line patrolled ∧
        t.front.logSeq = s.front.logSeq + 1) ∧
    (∀ b, b = 4 ∨ b = 5 → Inv s → K.patrol < 2 ^ 27 → (core ≠ 0 ∨ K.patrol < 2048 ∨ 3072 ≤ K.patrol) → 64 * patrolled < 2 ^ 42 →
      ∃ t, exec (.patrolScrub core b) s = .next t ∧ (t.tag patrolled).state = 7 ∧ (t.tag patrolled).writer = 0 ∧ (t.tag patrolled).gen = 0 ∧
        t.line patrolled = 0 ∧ t.front.logSeq = s.front.logSeq + 1 ∧ (t.coreAt core).poison = K.poison + 1)

namespace Sys2Proof.Claim
open Machine

/-- The head of a channel's queue that runs: not stopped, not parked, not frozen by debug, and no record of Harrier waits for an entry of a ring. -/
def Runs (s : State) (core ch : Nat) (c : CopyCmd) : Prop :=
  (s.chanAt core ch).queue.head? = some c ∧ c.dead = false ∧ c.park = none ∧ s.frozen core c.sid = false ∧ s.harrierHeld core = false

/-- A channel after its head has retired: the next command starts (R250, R251). -/
def retired (q : Chan) : Chan :=
  match q.queue.tail with
  | [] => { q with queue := [], busy := false, rng := q.rng &&& 0x7FFFFFFFFFFFFFFF#64 }
  | h :: r => { q with queue := h :: r, busy := true, rng := h.range, wm := if h.dst.extractLsb' 56 8 = 0xE0 then BitVec.ofNat 64 (h.dst.toNat % 2 ^ 23) else 0 }

/-- Harrier has stopped the head of a channel with a record of a unit: 1 the command itself, 4 its object (R389, R423). -/
def stopped (s : State) (core ch : Nat) (c : CopyCmd) (cause : BitVec 10) (tval : Word) (unit : Nat) (t : State) : Prop :=
  (t.chanAt core ch).queue.head? = some { c with dead := true } ∧
  ∀ u, has s c.sid u → ∃ u' r, t.strand c.sid = some u' ∧ u'.records = u.records ++ [r] ∧
    r.cause = cause ∧ r.tval = tval ∧ r.unit = BitVec.ofNat 8 unit ∧ r.pc = c.pc ∧ r.word = c.word ∧
    r.opa = c.dst ∧ r.opb = c.src ∧ r.opc = c.obj ∧ r.opd = c.opd

end Sys2Proof.Claim

/-- R98, R99, R101, R251, R252, R295, R315, R346, R349, R424, R466: the blocks, the end, the turn, the credit and the parking of copy commands: a block for a home of the module lands behind what its strand wrote to the line before, one for another module leaves as a packet; no line of a destination is turned unless each can be; of the credits, and of the enqueues, that are on one way the first arrives first. That a block, a credit and an enqueue come behind their strand's older writes to the line, and that the records of a credit and an enqueue carry UNIT 4, is log entry 47 (DEDUCED). That a record which waits for an entry of a full ring stops all eight channels of its core's Harrier, the retries and the last tries of parked commands included, is the model's (DESIGN CHOICE, log entry 79). -/
def Obligations.CopyProgress : Prop :=
  ∀ (s s1 s2 s3 s4 : State) (core ch k i : Nat) (c : CopyCmd) (p : Nat × Nat) (bs : List Byte) (key : Nat) (l : Line) (m : Credit) (x : XFault), core < 384 → ch < 8 →
    let Q := s.chanAt core ch
    let va := c.dst + BitVec.ofNat 64 p.1
    let who := c.agent core
    let mask := byteMask (key % 64) p.2; let data : Line := BitVec.ofNat 512 (ofBytes bs) <<< (8 * (key % 64))
    let spad : Prop := c.dst.extractLsb' 56 8 = 0xE0
    let next (ms : List Credit) : Prop := m.there = true ∨ ∀ j < i, ∀ n, ms[j]? = some n → s.msgAhead n m = false
    (Runs s core ch c → c.step = 0 → c.pieces[k]? = some p → p.1 ∉ c.done → p.1 ∉ c.sent →
      (spad ∨ c.dst.extractLsb' 56 8 = 0xE4 → spadOutside c.dst = false ∧ c.dst.toNat % 2 ^ 23 + c.bytes ≤ 2 ^ 23) →
      s.copyRead who 3 (c.src + BitVec.ofNat 64 p.1) p.2 = (.ok bs, s1) → s1.resolveAddr who va .write = (.ok key, s2) →
      (keyModule key = 0 → (s2.dieAt (homeDie key)).phase ≠ .failed →
        (State.olderFirst (s2.passes (roundTrip core key)) core c.sid c.pos (key / 64)).landAt (key / 64) c.writer mask data = (true, s4) →
        ∃ t h, exec (.harrierFill core ch k) s = .next t ∧ t.mem = s4.mem ∧ (t.chanAt core ch).queue.head? = some h ∧
          h = { c with done := p.1 :: c.done, sent := c.sent.filter (fun o => o ≠ p.1), full := h.full } ∧
          (h.landed < c.bytes → h.full = c.full) ∧ (c.bytes ≤ h.landed → h.full = s.now) ∧
          (¬ spad → t.tags = s4.tags ∧ (t.chanAt core ch).wm = Q.wm) ∧
          (spad → (t.chanAt core ch).wm = BitVec.ofNat 64 (c.dst.toNat % 2 ^ 23 + prefixEnd (p.1 :: c.done) c.pieces 0))) ∧
      (∀ q, keyModule key ≠ 0 → s2.olderWrites core c.sid c.pos (key / 64) = false → (s2.splitOlder core c.sid c.pos (key / 64)).1 = none →
        s2.portFor core (64 * (key / 64)) = (some q, s3) →
        let u := (s3.emitFor core (s3.classOf c.sid) q (64 * (key / 64)) 64).onHead core ch (fun c => { c with sent := p.1 :: c.sent })
        exec (.harrierFill core ch k) s = .next { u with
          homes := { s3.homes with wnet := s3.homes.wnet ++ [⟨c.entry s.now (key / 64) mask data, core, some q,
            requestChannel (s3.classOf c.sid) (64 * (key / 64)), none, some ⟨ch, c.seq, p.1⟩⟩] } })) ∧
    (Runs s core ch c → c.step = 2 ∨ (c.step = 0 ∧ c.kind = 0 ∧ c.bytes ≤ c.landed ∧ spad) →
      ∃ t, exec (.copyRetire core ch) s = .next t ∧ t.mem = s.mem ∧ t.tags = s.tags ∧ t.chanAt core ch = retired Q) ∧
    (Runs s core ch c → c.step = 0 → c.kind = 0 → c.bytes ≤ c.landed → ¬ spad →
      (∀ ls, s.turnBegin core ch c = (.ok ls, s1) →
        exec (.copyRetire core ch) s = .next ((ls.foldl (fun s l => s.turnLines who c.lvl false l (l + 1)) s1).popCmd core ch)) ∧
      (s.turnBegin core ch c = (.error x, s1) → s1.tags = s.tags ∧ s1.mem = s.mem) ∧
      (s.turnBegin core ch c = (.error x, s1) → x.cause ≠ 0x080 ∨ c.dst.extractLsb' 56 8 ≠ 0 →
        exec (.copyRetire core ch) s = .next (s1.cmdFault core ch x.cause x.tval 1)) ∧
      (s.turnBegin core ch c = (.error x, s1) → x.cause = 0x080 → c.dst.extractLsb' 56 8 = 0 → (s1.chanAt core ch).queue.head? = some c →
        ∃ t h, exec (.copyRetire core ch) s = .next t ∧ (t.chanAt core ch).queue.head? = some h ∧ h.dead = false ∧ h.done = c.done ∧
          h.park = some (s1.now, BitVec.ofNat 64 (max x.base.toNat c.dst.toNat)))) ∧
    (Runs s core ch c → c.step = 0 → c.kind = 1 ∨ c.kind = 2 → c.bytes ≤ c.landed → spad →
      ∃ t, exec (.copyRetire core ch) s = .next t ∧ (t.chanAt core ch).queue.head? = some { c with step := 1 } ∧
        (c.kind = 1 → t.homes.credits = s.homes.credits ++ [⟨core, ch, c, c.full, s.objLine core c, false⟩] ∧ t.homes.enqs = s.homes.enqs) ∧
        (c.kind = 2 → t.homes.enqs = s.homes.enqs ++ [⟨core, ch, c, c.full, s.objLine core c, false⟩] ∧ t.homes.credits = s.homes.credits)) ∧
    (s.homes.credits[i]? = some m → next s.homes.credits → let s' := State.olderThan { s with homes := { s.homes with credits := s.homes.credits.eraseIdx i } } m
      s'.readObj (m.cmd.agent m.core) m.cmd.obj 1 = (.ok (key, l), s1) →
      (m.cmd.bytes ≤ fld l 0x18 8 → exec (.barrierCredit i) s =
        .next ((s1.putBarrier key (lset l 0x18 8 (fld l 0x18 8 - m.cmd.bytes))).ackCmd m)) ∧
      (fld l 0x18 8 < m.cmd.bytes → exec (.barrierCredit i) s =
        .next ((s1.putBarrier key (lset (lset l 0x18 8 0) 2 2 1)).cmdFault m.core m.chan 0x183 (BitVec.ofNat 64 (m.cmd.bytes - fld l 0x18 8)) 4))) ∧
    (let off (s : State) : State := { s with homes := { s.homes with
        waiters := s.homes.waiters.filter (fun q => q.put != some (m.core, m.chan))
        enqs := s.homes.enqs.filter (fun e => !(e.core == m.core && e.chan == m.chan)) } };
      (s.homes.enqs[i]? = some m → next s.homes.enqs → (∃ q ∈ s.homes.waiters, q.put = some (m.core, m.chan)) → exec (.putqEnqueue i) s = .next s) ∧
      (s.homes.enqs[i]? = some m → next s.homes.enqs → (∀ q ∈ s.homes.waiters, q.put ≠ some (m.core, m.chan)) →
        let s' := State.olderThan { s with homes := { s.homes with enqs := s.homes.enqs.set i { m with there := true } } } m
        s'.readObj (m.cmd.agent m.core) m.cmd.obj 2 = (.ok (key, l), s1) → s1.line (key / 64) = l →
        (¬ room l → exec (.putqEnqueue i) s = .next (if s1.waitersFull key = true then s1 else
          { s1 with homes := { s1.homes with waiters := s1.homes.waiters ++ [⟨0, key, some (m.core, m.chan)⟩] } })) ∧
        (∀ d, room l → s1.qPush (m.cmd.agent m.core) key l m.cmd.dst = (.ok d, s2) →
          exec (.putqEnqueue i) s = .next (((off s2).ackCmd m).serve key)) ∧
        (∀ e, room l → s1.qPush (m.cmd.agent m.core) key l m.cmd.dst = (.error e, s2) →
          exec (.putqEnqueue i) s = .next (((off s2).cmdFault m.core m.chan e.1 e.2 4).serve key))) ∧
      (s.homes.enqs[i]? = some m → m.at_ + m.cmd.dlcap ≤ s.now → exec (.putqEnqueueExpiry i) s =
        .next ((off s).cmdFault m.core m.chan 0x185 m.cmd.obj 4))) ∧
    (∀ h cause tval unit, (s.chanAt core ch).queue.head? = some h → h.dead = false → stopped s core ch h cause tval unit (s.cmdFault core ch cause tval unit)) ∧
    (∀ a page, Q.queue.head? = some c → c.park = some (a, page) →
      (s.harrierHeld core = true → exec (.parkedCopyRetry core ch) s = .next s) ∧
      (s.harrierHeld core = false → ∀ e, s.lookup who (page.toNat % 2 ^ 56) = (.ok e, s1) → ∃ t, exec (.parkedCopyRetry core ch) s = .next t ∧
        (t.chanAt core ch).queue.head? = some { c with park := none }) ∧
      (s.harrierHeld core = false → s.lookup who (page.toNat % 2 ^ 56) = (.error x, s1) →
        exec (.parkedCopyRetry core ch) s = .next (s1.onHead core ch (fun c => { c with tried := s1.now }))) ∧
      (s.harrierHeld core = true ∨ s.now < a + (s.coreAt core).dlcap.toNat % 2 ^ 63 → exec (.parkedCopyDiscard core ch) s = .next s) ∧
      (s.harrierHeld core = false → a + (s.coreAt core).dlcap.toNat % 2 ^ 63 ≤ s.now → ∀ e, s.lookup who (page.toNat % 2 ^ 56) = (.ok e, s1) →
        exec (.parkedCopyDiscard core ch) s = .next (s1.onHead core ch (fun c => { c with park := none }))) ∧
      (s.harrierHeld core = false → a + (s.coreAt core).dlcap.toNat % 2 ^ 63 ≤ s.now → s.lookup who (page.toNat % 2 ^ 56) = (.error x, s1) → ∃ t, exec (.parkedCopyDiscard core ch) s = .next t ∧
        (t.chanAt core ch).queue.head? = some { c with park := none, dead := true } ∧
        ∀ u, has s c.sid u → ∃ u' r, t.strand c.sid = some u' ∧ u'.records = u.records ++ [r] ∧ r.cause = 0x080 ∧ r.tval = page))

/-- R103 to R105, R230, R232, R233, R436: what the transfer units do behind a strand's streams, and the budget of a wait. -/
def Sys2Proof.Claim.StreamUnits : Prop :=
  ∀ (s : State) (i : Nat) (b : Stream), i < 4 → s.cur.id.sid ≠ 0 →
    let sid := s.cur.id.sid
    (s.cur.streams.getD i none = some b → b.kind = 0 → b.count + b.ahead.length < b.n0 * b.n1 →
      ∃ t e, exec (.streamFill sid i) s = .next t ∧ t.cur.streams.getD i none = some { b with ahead := b.ahead ++ [e] } ∧
        t.mem = s.mem ∧ t.tags = s.tags ∧ t.cur = { s.cur with streams := t.cur.streams }) ∧
    (s.cur.streams.getD i none = some b → b.kind = 1 → b.pend = [] → exec (.streamFill sid i) s = .next s) ∧
    (s.cur.streams.getD i none = some b → b.kind = 1 → s.outUsed s.cur.id.core + b.pend.length ≤ 4096 →
      (∀ e ∈ b.pend, e.size ∈ [1, 2, 4, 8] ∧ e.off % e.size = 0 ∧ e.off + e.size ≤ 2 ^ 23) →
      let core := s.cur.id.core
      ∃ t, exec (.streamFill sid i) s = .next t ∧ t.mem = s.mem ∧ t.tags = s.tags ∧ t.homes = s.homes ∧
        t.cur = { s.cur with streams := s.cur.streams.setIfInBounds i (some { b with pend := [] }), wlog := t.cur.wlog } ∧
        (∀ e ∈ b.pend, ∀ k < e.size, let key := spadKey core e.off + k
          (∀ e' ∈ b.pend, e' ≠ e → e.off + k < e'.off ∨ e'.off + e'.size ≤ e.off + k) → writtenBeyond s core sid e.pos key = false →
          pending t core sid key = some (e.code.extractLsb' (8 * k) 8)) ∧
        (∀ c q a, (c ≠ core ∨ q ≠ sid ∨ ∀ e ∈ b.pend, a < spadKey core e.off ∨ spadKey core e.off + e.size ≤ a) → pending t c q a = pending s c q a)) ∧
    (s.cur.streams.getD i none = some b → b.kind = 2 → b.group = none →
      ∀ p u g, s.pairOf s.cur i = some p → s.strand p = some u → (u.streams.getD b.reg none).bind Stream.group = some g →
      exec (.remoteGroupDelivery sid i) s = .next (setBinding s i (some { b with group := some g, partner := some p }))) ∧
    (∀ (r : Reg) a, r.toNat = 28 + i → s.cur.run = .running → s.cur.blockedOn = some r → s.cur.streams.getD i none = some b →
      (b.kind = 2 ∧ b.group = none) ∨ (b.kind = 3 ∧ b.group ≠ none) → s.cur.stall = some a → s.cur.stepping = false →
      a + (if b.desc[0].extractLsb' 32 32 = 0 then (s.coreAt s.cur.id.core).dlcap.toNat % 2 ^ 63 else (b.desc[0].extractLsb' 32 32).toNat) ≤ s.now →
      exec (.streamBudgetExpiry sid) s = .next (s.trapEntry 0x181 0 false s.cur.pc (r.setWidth 64) 0 s.cur.pc))

/-- R129, R357 to R362, R389, R404, R425, R446, R463: a complete round leaves each rank that has a strand here its result in its staging lines, once its hops to other modules have come through; a round whose contributions differ in COP or chunk, or a join that no group admits, fails with a record of cause 0x208 for every contributor, taken from its contribution, and one that loses a hop with cause 0x300; one that is not complete, that holds a chunk of a frozen strand which the Relay has not sent, or with a rank here whose record of the Relay waits for a ring entry, waits; the record of a member entry that could not be read names its address; a parked arrival tries again and lands, stays, or is discarded with its round. TVAL of cause 0x300 is the model's reading of R404 (log entry 31). -/
def Sys2Proof.Claim.RelayRounds : Prop :=
  ∀ (s s0 s1 s2 : State) (group slot i : Nat) (r : Round) (c0 : Contribution) (rest : List Contribution) (g : Group) (x : XFault) (q : Nat × Parked) (u : Strand)
      (here : List (Nat × Strand)) (away : List Nat),
    let o := exec (.relayRoundComplete group slot) s
    (s.rounds.find? (fun r => r.group == group && r.slot == slot) = some r → r.parts = c0 :: rest → s.roundGroup r = (some g, s0) →
      let op := c0.op.toNat % 16; let fmt := c0.op.toNat / 16 % 4; let chunk := c0.chunk.toNat % 2 ^ 32; let root := c0.op.toNat / 2 ^ 32 % 2 ^ 27
      let differ : Prop := (∃ q ∈ r.parts, q.clash = true ∨ q.op ≠ c0.op ∨ q.chunk ≠ c0.chunk) ∨ (op = 6 ∧ joinOk g.sign g.sigd = false)
      let free : Prop := (∀ q ∈ r.parts, s0.relayHeld q.sid = false) ∧ s0.roundFrozen r = false
      let calm : Prop := ∀ e ∈ here, s0.relayHeld e.2.id.sid = false
      let rounds := s1.rounds.filter (fun q => !(q.group == group && q.slot == slot))
      (¬ differ → r.full g op chunk root = false → o = .next s0) ∧
      (¬ free → o = .next s0) ∧
      (differ ∨ r.full g op chunk root = true → free → s0.ranks g r = (.error x, s1) → o = .next (s1.failRound g r [] x.cause (some x.tval))) ∧
      (differ ∨ r.full g op chunk root = true → free → s0.ranks g r = (.ok (here, away), s1) → ¬ calm → o = .next s0) ∧
      (differ → free → s0.ranks g r = (.ok (here, away), s1) → calm → o = .next (s1.failRound g r here 0x208 none)) ∧
      (¬ differ → r.full g op chunk root = true → free → s0.ranks g r = (.ok (here, away), s1) → calm →
        (away = [] → (∀ q ∈ r.parts, q.sid ≠ 0) → ∃ v, s1.roundCrosses g r c0 away = (true, v) ∧ v = { s1 with mark := v.mark }) ∧
        (s1.roundCrosses g r c0 away = (false, s2) → o = .next (s2.failRound g r here 0x300 none)) ∧
        (s1.roundCrosses g r c0 away = (true, s2) → s2.rounds = s1.rounds → o = .next (here.foldl (fun s e =>
          let rec_ := match r.parts.find? (fun c => decide (c.rank = e.1)) with | some c => c.record | none => relayRecord e.2 group slot
          s.arriveResult e.2.id.sid g group slot (if fmt = 0 then 4 else 2) rec_ (roundResult g r.parts op fmt chunk e.1))
          { s2 with rounds := rounds })))) ∧
    (∀ cause tv, let t := s.failRound g r here cause tv
      (∀ q ∈ t.rounds, q.group ≠ r.group ∨ q.slot ≠ r.slot) ∧
      (∀ p ∈ r.parts, p.rank < g.ranks → r.parts.find? (fun c => decide (c.rank = p.rank)) = some p → has s p.sid u →
        ∃ u' rec, t.strand p.sid = some u' ∧ rec ∈ u'.records ∧ rec.cause = cause ∧ (∀ v, tv = some v → rec.tval = v) ∧ (tv = none → cause = 0x208 → rec.tval = BitVec.ofNat 64 r.slot) ∧
          (tv = none → cause ≠ 0x208 → ∃ v : State, rec.tval = (v.roundTval u g r.slot cause).1) ∧
          rec.pc = p.record.pc ∧ rec.word = p.record.word ∧ rec.opa = p.record.opa ∧ rec.pos = p.record.pos)) ∧
    (∀ cause key, cause ≠ 0x208 → s.translate u.agent (g.stgbase + BitVec.ofNat 64 (slot * g.slotlen)) .write = (.ok key, s1) →
      (s.roundTval u g slot cause).1 = BitVec.ofNat 64 (globalOf s1.front.modnum (key / 64 * 64))) ∧
    (s.allParked[i]? = some q → q.2.rest = false → s.relayHeld q.2.sid = false → has s q.2.sid u → s.groupFor q.2.sid q.2.group = (some g, s0) →
      let va := g.stgbase + BitVec.ofNat 64 (q.2.slot * g.slotlen + q.2.off)
      let n := (s1.dieAt q.1).parked.length
      let w := exec (.parkedArrivalRetry i) s
      let landed := s0.landPiece u va (lanesOf (q.2.off / q.2.width) (q.2.bytes.length / q.2.width)) q.2.bytes
      (landed = (none, s1) →
        w = .next (((s1.onDie q.1 (fun d => { d with parked := d.parked.filter (fun p => p != q.2) })).settleRound q.1 q.2.sid q.2.group q.2.slot).enterParking q.1 n)) ∧
      (landed = (some x, s1) → x.cause = 0x080 →
        w = .next (s1.onDie q.1 (fun d => { d with parked := updFirst (fun p => p == q.2) (fun p => { p with at_ := s1.now }) d.parked }))) ∧
      (landed = (some x, s1) → x.cause ≠ 0x080 →
        w = .next (((s1.discardRound q.1 q.2.sid q.2.group q.2.slot).addReached q.2.sid
          { q.2.record with cause := x.cause, tval := x.tval }).enterParking q.1 n)))

namespace Sys2Proof.Claim
open Machine

/-- What a strand waits for, in place or in its save area (R286). -/
def waitsFor (t : Strand) (w : WaitRec) : Prop :=
  t.run = .waiting w ∨ (∃ k, t.run = .saving k (some w)) ∨ (∃ k, t.run = .away k (some w)) ∨ ∃ k, t.run = .restoring k (some w)

/-- The clock of a deadline has gone past it, so that no event of the deadline's tick can come first any more (R282). -/
def gone (s : State) (t : Strand) (d : Deadline) : Prop := d.tick < (if d.onRun = true then t.c.dclkr.toNat else s.dclkw.toNat)

/-- A wait at a home that has expired and that its home has not served. -/
def Expired (s : State) (sid : Nat) (t : Strand) (w : WaitRec) : Prop :=
  has s sid t ∧ waitsFor t w ∧ w.expired = true ∧ ((∃ q ∈ s.homes.waiters, q.sid = sid ∧ q.put = none) ∨ w.refused ≠ none)

end Sys2Proof.Claim

/-- R282, R285, R286, R288, R290, R295 to R297, R431 to R433: how waits end behind the strand; each after the tick of its deadline, in which an event still counts as first; one that its home refused tests its condition first; a VAPND clears VSTART at its end; the withdrawal of a BARAW finds what its home has, and a wake-up that comes later is discarded; of the wake-ups on one channel of one path the first arrives first. That a wait of FENCE, WAITC or CWAIT whose command faulted takes that trap is log entry 19 (DEDUCED). -/
def Sys2Proof.Claim.WaitEnds : Prop :=
  ∀ (s s1 : State) (sid i : Nat) (t : Strand) (w : WaitRec) (e : WaitEnd) (st : Word),
    let unreg (s : State) : State := { s with homes := { s.homes with waiters := s.homes.waiters.filter (fun q => q.sid != sid || q.put.isSome) } }
    (has s sid t → waitsFor t w → gone s t w.deadline → w.expired = false → w.what.obj = none →
      (∀ u, s.waitFault t w = some u → exec (.waitExpiry sid) s = .next u) ∧
      (∀ st, s.waitFault t w = none → s.localTry t w.what = some st → exec (.waitExpiry sid) s = .next (s.endWait sid { status := st })) ∧
      (s.waitFault t w = none → s.localTry t w.what = none → exec (.waitExpiry sid) s = .next (s.endWait sid { status := s.localEnd t w.what }))) ∧
    (has s sid t → waitsFor t w → gone s t w.deadline → w.expired = false → w.what.obj ≠ none → w.refused = none →
      ∃ u, exec (.waitExpiry sid) s = .next u ∧ ∃ t', u.strand sid = some t' ∧ waitsFor t' { w with expired := true } ∧
        t' = { t with run := t'.run } ∧ u.homes = s.homes ∧ u.mem = s.mem) ∧
    (has s sid t → waitsFor t w → gone s t w.deadline → w.expired = false → w.what.obj = some i → w.refused ≠ none →
      s.attemptAgain t w = (.done e, s1) → exec (.waitExpiry sid) s = .next ((s1.endWait sid e).serve i)) ∧
    (Expired s sid t w → w.refused ≠ none → (∀ o p, w.what ≠ .arrival o p) → (unreg s).attemptAgain t w = (.done e, s1) → w.what.obj = some i →
      exec (.waitCancellation sid) s = .next ((s1.endWait sid e).serve i)) ∧
    (Expired s sid t w → w.refused = none → (∀ o p, w.what ≠ .arrival o p) → (unreg s).timeoutEnd t.agent w.what = (e, s1) → w.what.obj = some i →
      exec (.waitCancellation sid) s = .next ((s1.endWait sid e).serve i)) ∧
    (∀ o p, has s sid t → waitsFor t w → w.expired = true → w.what = .arrival o p →
      (unreg { s with homes := { s.homes with wakes := s.homes.wakes.filter (fun q => q.sid != sid) } }).withdraw o p = (st, s1) →
      exec (.barawWithdrawal sid) s = .next (s1.endWait sid { status := st })) ∧
    (∀ q : Wake, s.homes.wakes[i]? = some q → s.firstWake q = i →
      let v : State := { s with homes := { s.homes with wakes := s.homes.wakes.eraseIdx i } }
      ((∀ t w, s.strand q.sid = some t → waitsFor t w →
          (∀ o p, w.what ≠ .arrival o p) ∨ (w.expired = false ∧ (if w.deadline.onRun = true then t.c.dclkr.toNat else s.dclkw.toNat) ≤ w.deadline.tick)) →
        exec (.waiterWake i) s = .next (v.endWait q.sid { status := q.status, datum := q.datum, elems := q.elems })) ∧
      (∀ o p, has s q.sid t → waitsFor t w → w.what = .arrival o p →
        w.expired = true ∨ w.deadline.tick < (if w.deadline.onRun = true then t.c.dclkr.toNat else s.dclkw.toNat) →
        ∃ u, exec (.waiterWake i) s = .next u ∧ u.homes = v.homes ∧ u.mem = s.mem ∧ ∃ t', u.strand q.sid = some t' ∧ waitsFor t' { w with expired := true } ∧
          t' = { t with run := t'.run })) ∧
    (∀ a o p, has s sid t → waitsFor t w → w.refused = some a → a + 1000 ≤ s.now → w.expired = false → w.what = .phase o p →
      (fld (s.line (o / 64)) 4 4 + 2 ^ 32 - p.toNat) % 2 ^ 32 < 2 ^ 31 →
      s.homes.waiters = [] →
      ∃ u, exec (.waiterRefusalResend sid) s = .next u ∧
        u.homes.wakes = s.homes.wakes ++ [⟨sid, stat 0 0 (fld (s.line (o / 64)) 4 4), none, none⟩] ∧ u.mem = s.mem) ∧
    (s.cur.id.sid = sid → sid ≠ 0 → s.cur.run = .waiting w → s.cur.stepping = false → s.cur.resuming = false →
      (.next (s.endWait sid { status := st }) : Out) = ended { s with cur := { s.cur with run := .running, c := { s.cur.c with
        vstart := if w.word.extractLsb' 26 6 = 0x22 then 0 else s.cur.c.vstart } } } w.d st false)

/-- R59 to R64: declarations raise the watermark of their launch, which stays where it stands once the launch is cancelled or has failed; a rise that comes by the end of the deadline's tick grants a held SETVL; a hold whose deadline has gone by before such a rise, or whose producer is cancelled or has failed, traps with cause 0x182; and one that a pre-emption request reached in an earlier tick, not after its deadline, by whose end the watermark had not met it, ends in a save of kind 0. -/
def Sys2Proof.Claim.Dependences : Prop :=
  ∀ (s : State) (i : Nat) (h : Hold), s.cur.id.sid ≠ 0 → s.cur.stepping = false →
    let sid := s.cur.id.sid
    let W := s.producerW s.cur.id.producer
    let metBy (t0 : Nat) : Prop := ∃ l, s.launch s.cur.id.lid = some l ∧ ∃ e ∈ l.rises, h.need ≤ e.1 ∧ e.2 ≤ t0
    let D := if h.deadline.onRun = true then s.dclkw.toNat + h.deadline.tick - s.cur.c.dclkr.toNat else h.deadline.tick
    let ending : Prop := s.cur.nest = false ∧ ∃ t0, s.cur.request = some t0 ∧ t0 < s.dclkw.toNat ∧ t0 ≤ D ∧ ¬ metBy t0
    let past : Prop := D < s.dclkw.toNat ∧ ¬ metBy D
    (∀ d, s.homes.decls[i]? = some d → ∃ t, exec (.watermarkDeclaration i) s = .next t ∧
      t.homes = { s.homes with decls := s.homes.decls.eraseIdx i } ∧
      ∀ l ∈ s.starter.live, (∀ m ∈ s.starter.live, m.id = l.id → m = l) → l.id = d.lid → d.first ≤ l.watermark → l.watermark < d.last →
        l.watermark < l.packet.count.toNat → l.stop = none → oneModule l.ctx = true → (∃ l' ∈ t.starter.live, l'.id = l.id ∧ d.last ≤ l'.watermark)) ∧
    (∀ d t, s.homes.decls[i]? = some d → exec (.watermarkDeclaration i) s = .next t →
      ∀ l ∈ s.starter.live, (∀ m ∈ s.starter.live, m.id = l.id → m = l) → l.stop ≠ none → l ∈ t.starter.live) ∧
    (s.cur.run = .holding → s.cur.hold = some h → ¬ ending → ¬ past → h.need ≤ W.1 →
      exec (.watermarkRise sid) s = .next (wrote { s with cur := { s.cur with hold := none, run := .running, c := { s.cur.c with vl := BitVec.ofNat 64 h.g, vstart := 0 } } } h.d (BitVec.ofNat 64 h.g))) ∧
    (s.cur.run = .holding → s.cur.hold = some h → ¬ ending → past ∨ (W.1 < h.need ∧ W.2 = true) →
      exec (.dependenceHoldExpiry sid) s = .next
        ({ s with cur := { s.cur with hold := none, run := .running } }.trapEntry 0x182 0 false s.cur.pc (BitVec.ofNat 64 h.need) 0 s.cur.pc)) ∧
    (s.cur.run = .holding → s.cur.hold = some h → ending → s.cur.sent = false →
      exec (.preemptionRequestArrival sid) s = .next (s.beginSave .setvl none s.cur.pc))

/-- R54, R67 to R69, R326, R331, R333, R335, R344: the Starter takes the first launch in its order, starts a strand with the registers of R54, and retires a launch that is over. -/
def Sys2Proof.Claim.StarterEvents : Prop :=
  ∀ (s : State) (core : Nat) (l : Launch), core < 384 →
    (s.nextLaunch = some l →
      exec .launchTake s = .next { s with starter := { s.starter with
        queued := s.starter.queued.filter (fun m => m.id ≠ l.id), live := s.starter.live ++ [{ l with taken := true }] } } ∧
      l ∈ s.starter.queued ∧ (∀ m ∈ s.starter.queued, m.queue = l.queue → l.order ≤ m.order) ∧
      ∀ m, m ∈ s.starter.queued → (∀ k ∈ s.starter.queued, k.queue = m.queue → m.order ≤ k.order) → s.recordFree m.packet.cls = true →
        l.packet.cls < m.packet.cls ∨ (l.packet.cls = m.packet.cls ∧ (m.packet.prio < l.packet.prio ∨
          (l.packet.prio = m.packet.prio ∧ l.order ≤ m.order)))) ∧
    (∀ k slot area g m, s.dieRuns (core / 16) = true → s.pick core (s.waitList core) [] = some (.fresh l k, slot, area, g, m) → l.ctx.sup = false → s.nextSid ≠ 0 →
      (∀ u ∈ s.all, u.id.sid < s.nextSid) →
      let w0 := (l.packet.ctrl.extractLsb' 0 6).toNat
      let first : Word := BitVec.ofNat 64 (k * 2 ^ w0)
      let n : Word := BitVec.ofNat 64 (l.ctx.areas * core + area)
      ∃ t u, exec (.strandStart core) s = .next t ∧ t.strand s.nextSid = some u ∧ u.run = .running ∧ u.pc = l.packet.entry ∧ u.grant = g ∧
        u.id.core = core ∧ u.id.slot = slot ∧ u.id.area = area ∧ u.id.index = k ∧ u.id.lid = l.id ∧
        u.x[1] = first ∧ u.x[2] = BitVec.ofNat 64 (min (2 ^ w0) (l.packet.count.toNat - k * 2 ^ w0)) ∧ u.x[3] = l.id ∧
        (∀ i : Fin 8, u.x.getD (4 + i.val) 0 = l.packet.args.getD i.val 0) ∧
        u.x[29] = l.ctx.locbase + l.ctx.locsize * n ∧ u.x[30] = l.ctx.stkbase + l.ctx.stksize * (n + 1) ∧
        (∀ i : Fin 32, i.val ∉ [1, 2, 3, 4, 5, 6, 7, 8, 9, 10, 11, 29, 30] → u.x[i] = 0) ∧ u.v = Vector.replicate 32 0 ∧
        u.c.widbase = first ∧ u.c.launchid = l.id ∧ u.c.sstatus = 0) ∧
    (s.launch l.id = some l → l.stop ≠ none ∨ l.left = 0 → ∃ t r, exec (.launchRetire l.id) s = .next t ∧
      t.starter.retired.head? = some r ∧ r.id = l.id ∧ (∀ q ∈ t.starter.live ++ t.starter.queued, q.id ≠ l.id) ∧
      (l.stop = none → r.status = 0 ∧ r.watermark = 2 ^ 64 - 1) ∧
      (∀ c, l.stop = some (true, c) → r.status = BitVec.ofNat 64 (l.started * 256 + 2) ∧ r.watermark = l.watermark) ∧
      (∀ c, l.stop = some (false, c) → r.status = BitVec.ofNat 64 (c.toNat * 256 + 3) ∧ r.watermark = l.watermark))

/-- R337 to R340, R384, R394, R395, R402, R440, R441: pre-emption, saves, imprecise delivery and the watchdogs. -/
def Sys2Proof.Claim.Preemption : Prop :=
  ∀ (s : State) (core sid : Nat) (t : Strand), core < 384 → has s sid t →
    (let v := (s.plan core).foldl (fun s n => s.onStrand n (fun t => if t.request.isSome then t else { t with sent := true })) s
      ∃ u, exec (.preemptionRequest core) s = .next u ∧ u.mem = s.mem ∧
        (∀ n ∈ s.plan core, ∃ q ∈ s.all, q.id.sid = n ∧ q.id.core = core ∧ q.dbg = false ∧
          ∃ c ∈ s.waiters core, c.key.1 < q.id.cls ∧ (c.key.1 = 0 ∨ s.waitsSince c + 100000 ≤ s.dclkw.toNat)) ∧
        (sid ∈ s.plan core → sid ∈ v.plan core → ∃ t', u.strand sid = some t' ∧ (t'.sent = true ∨ t'.request ≠ none)) ∧
        (sid ∉ v.plan core → t.resident = true → t.id.core = core → ∃ t', u.strand sid = some t' ∧ t'.sent = false ∧ t'.request = none)) ∧
    (t.sent = true → t.resident = true → t.dbg = false → t.stepping = false → t.run = .running →
      ∃ u, exec (.preemptionRequestArrival sid) s = .next u ∧ u.mem = s.mem ∧ u.strand sid = some { t with sent := false, request := some s.now }) ∧
    (∀ w, t.sent = true → t.dbg = false → t.stepping = false → t.run = .waiting w → t.nest = false → w.what.isPoint = true →
      exec (.preemptionRequestArrival sid) s = .next (s.asStrand sid (fun u =>
        { u with cur := { u.cur with sent := false, request := some s.now } }.beginSave .wait (some w) u.cur.pc))) ∧
    (∀ a, t.request = some a → a + 8000 ≤ s.now → t.run = .running → t.dbg = false →
      exec (.forcedPreemption sid) s = .next (s.asStrand sid (fun u => u.beginSave .forced none u.cur.pc))) ∧
    (∀ k w, t.run = .saving k w → t.dbg = false → s.loadsOut t = 0 →
      ∃ u, exec (.saveComplete sid) s = .next u ∧ ∃ t', u.strand sid = some t' ∧ t'.run = .away k w ∧
        t'.id = { t.id with since := s.now } ∧ t'.x = t.x ∧ t'.v = t.v ∧ t'.pc = t.pc ∧ t'.c = t.c ∧
        (Inv s → u.byte (t.id.save.toNat % 2 ^ 42 + 0x0B) = 1)) ∧
    (t.run = .running → t.id.cls ≠ 0 → t.stall = none →
      exec (.issueAging sid) s = .next (s.setStrand { t with aged := some (t.aged.getD s.now) })) ∧
    (∀ r, t.run = .running → t.nest = false → t.stall = none → nextRecord (t.records.filter (Record.late t.c.dclkr.toNat)) = some r →
      exec (.impreciseDelivery sid) s = .next (s.asStrand sid (fun u => u.deliver r 2))) ∧
    (t.run = .running → t.dbg = false → t.nest = true → t.nestAt + 10000000 ≤ t.stay →
      ∃ u t', exec (.handlerWatchdog sid) s = .next u ∧ u.strand sid = some t' ∧ t'.run = .lost 0x3F0) ∧
    (t.run = .running → t.dbg = false → 4096 ≤ t.repeats →
      ∃ u t', exec (.trapRepeatWatchdog sid) s = .next u ∧ u.strand sid = some t' ∧ t'.run = .lost 0x3F0) ∧
    (∀ k w, (t.run = .saving k w ∧ t.dbg = false) ∨ t.run = .restoring k w → t.saveAt + 1000000 ≤ s.now →
      (t.again = false → exec (.saveRestoreWatchdog sid) s = .next (s.setStrand { t with again := true, saveAt := s.now })) ∧
      (t.again = true → ∃ u t', exec (.saveRestoreWatchdog sid) s = .next u ∧ u.strand sid = some t' ∧ t'.run = .lost 0x3F0))

/-- R393, R395, R396: what a restore gives back, when nothing of the strand is on its way to memory: the registers and vm from the save area, the vector registers after kinds 2 and 3, the wait that was saved pending, and STATE 0. That a restore is a step of its own is log entry 78 (DESIGN CHOICE). -/
def Sys2Proof.Claim.Restores : Prop :=
  ∀ (s : State) (sid : Nat) (t : Strand) (k : SaveKind) (w : Option WaitRec), has s sid t → t.run = .restoring k w →
    (t.request = none → (s.coreAt t.id.core).outb = [] → s.homes.wnet = [] →
      let a := t.id.save.toNat % 2 ^ 42
      ∃ t', (s.restoreEnd t).strand sid = some t' ∧ t'.run = (match w with | some w => .waiting w | none => .running) ∧ t'.grant = t.grant ∧
        (∀ (r : Fin 32), ∀ b < 8, t'.x[r].extractLsb' (8 * b) 8 = s.byte (a + 0x80 + 8 * r.val + b)) ∧
        (∀ b < 8, t'.c.vm.extractLsb' (8 * b) 8 = s.byte (a + 0x198 + b)) ∧
        (k = .yield ∨ k = .forced → ∀ (r : Fin 32), ∀ b < 8 * t.grant, b < 1024 → t'.v[r].extractLsb' (8 * b) 8 = s.byte (a + 0x8000 + 1024 * r.val + b)) ∧
        (Inv s → (s.restoreEnd t).byte (a + 0x0B) = 0)) ∧
    (∀ o, s.sched.agenda = [] → s.pacer = none → s.restorer = some o → ∀ u, o = .next u → step s = .next u.tick)

/-- R161, R164, R254, R255, R399, R401, R443 to R446: debug controls set by another party, and the steps of the issuing strand that have no word. -/
def Sys2Proof.Claim.DebugAndIssueEvents : Prop :=
  ∀ (s : State) (core slot : Nat) (b : Bool) (w : InsnWord) (c : BitVec 10) (tv : Word) (t : Strand), core < 384 → slot < 8 →
    let K := s.coreAt core
    (∃ u, exec (.dbgctlFreeze core b) s = .next u ∧ u.mem = s.mem ∧ u.cur = s.cur ∧
      (∀ i : Fin 64, (u.coreAt core).dbgctl.getLsbD i.val = if i.val = 14 then b else K.dbgctl.getLsbD i.val)) ∧
    (s.inSlot core slot = none → ∃ u, exec (.dbgctlHalt core slot) s = .next u ∧ u.mem = s.mem ∧ u.cur = s.cur ∧
      u.coreAt core = { K with dbgctl := K.dbgctl ||| (1#64 <<< (24 + slot)) }) ∧
    (s.inSlot core slot = some t → has s t.id.sid t → t.dbg = false → t.stepping = false → t.run = .running → t.areaOk = true →
      ∃ u t', exec (.dbgctlHalt core slot) s = .next u ∧ u.strand t.id.sid = some t' ∧ t'.dbg = true ∧ t'.run = .saving .forced none ∧
        t'.pc = t.pc ∧ (u.coreAt core).dbgctl.getLsbD (24 + slot) = true) ∧
    (∀ k r, s.inSlot core slot = some t → has s t.id.sid t → t.dbg = true → t.run = .away k r →
      ∃ u t', exec (.dbgctlStep core slot) s = .next u ∧ u.strand t.id.sid = some t' ∧ t'.dbg = false ∧ t'.stepping = true ∧
        t'.run = .restoring k r ∧ (u.coreAt core).dbgctl.getLsbD (16 + slot) = true) ∧
    (s.cur.run = .running →
      (s.cur.c.ten.getLsbD 0 = false → s.core.clearing = false → s.core.holder = none →
        exec .tenSet s = .next { s with cur := { s.cur with c := { s.cur.c with ten := 1 } }, core := { s.core with holder := some s.cur.id.sid } }) ∧
      (s.cur.c.ten.getLsbD 0 = true → s.cur.records = [] → s.tilesOut s.cur = 0 →
        exec .tenClear s = .next { s with cur := { s.cur with c := { s.cur.c with ten := 0 } }, core := { s.core with holder := none } }) ∧
      exec (.reservedEncoding w) s = .next (s.trapEntry 0x001 0 false s.cur.pc (w.setWidth 64) 0 s.cur.pc) ∧
      exec (.instructionFetchFault c tv) s = .next (s.trapEntry c 0 false s.cur.pc tv 0 s.cur.pc))

/-- R1, R7, R13, R17, R23, R41, R102: an event that names a unit the module does not have is no event of it. -/
def Sys2Proof.Claim.AbsentUnits : Prop :=
  ∀ (s : State) (n m : Nat) (v : Word) (o : BitVec 26) (q : BitVec 42) (bs : List Byte) (b : Bool),
    let no (i : Instr) : Prop := exec i s = .fault .noSuchUnit
    (2 ≤ n → no (.doorbellWrite n m) ∧ no (.registerWrite n o v) ∧ no (.bar2HostWrite n q bs) ∧ no (.bar2HostRead n q m) ∧
      no (.configurationRequest n) ∧ no (.hostLinkDown n) ∧ no (.hostLinkUp n)) ∧
    (256 ≤ n → no (.doorbellWrite m n)) ∧
    (24 ≤ n → no (.dieIdleEntry n) ∧ no (.dieWake n) ∧ no (.dieExitComplete n) ∧ no (.dieEntryFailure n) ∧ no (.dieExitFailure n) ∧
      no (.dieStateEntryComplete n) ∧ no (.routeEntryRead n m)) ∧
    (48 ≤ n → no (.flitCheckFail n) ∧ no (.fabricPortRetrain n) ∧ no (.fabricRetrainEnd n b)) ∧
    (384 ≤ n → no (.outboundDrainTimeout n) ∧ no (.turnInvalidation n) ∧ no (.patrolScrub n m) ∧ no (.harrierFill n m 0) ∧ no (.copyRetire n m) ∧
      no (.parkedCopyRetry n m) ∧ no (.parkedCopyDiscard n m) ∧ no (.engineCommandRetire n) ∧ no (.tileStoreClearEnd n) ∧ no (.strandStart n) ∧
      no (.preemptionRequest n) ∧ no (.dbgctlHalt n m) ∧ no (.dbgctlStep n m) ∧ no (.dbgctlFreeze n b)) ∧
    (8 ≤ n → no (.harrierFill m n 0) ∧ no (.copyRetire m n) ∧ no (.parkedCopyRetry m n) ∧ no (.parkedCopyDiscard m n) ∧
      no (.dbgctlHalt m n) ∧ no (.dbgctlStep m n))

/-- R78, R255, R290, R295 to R299: table walks, the clearing of a released tile store, and object operations of other parties. -/
def Sys2Proof.Claim.HomeObjects : Prop :=
  ∀ (s s1 s2 : State) (sid core access : Nat) (va v : Word) (t0 : Strand) (x : XFault) (obj : BitVec 61) (who : Party) (d d' : Line), core < 384 →
    let key := obj.toNat
    let need : Need := if access = 0 then .read else if access = 1 then .write else .exec
    let K := s.coreAt core
    (has s sid t0 → t0.run = .running →
      (∀ k, s.translate t0.agent va need = (.ok k, s1) → exec (.tableWalkComplete sid va access) s = .next s1) ∧
      (s.translate t0.agent va need = (.error x, s1) → exec (.tableWalkComplete sid va access) s = .next (s1.asStrand sid (fun u =>
        u.trapEntry x.cause 0 false u.cur.pc x.tval 0 u.cur.pc)))) ∧
    (K.clearing = true → K.eng = [] → ∃ t, exec (.tileStoreClearEnd core) s = .next t ∧ t.mem = s.mem ∧ t.cur = s.cur ∧
      t.coreAt core = { K with clearing := false, cells := [], l0 := 0 } ∧ ∀ m, m ≠ core → t.coreAt m = s.coreAt m) ∧
    (s.partyObj who key 1 = (some d, s1) →
      (fld d 0xC 4 ≠ fld d 8 4 → exec (.homeObjectOperation 0 obj v who) s = .next (s1.putBarrier key (lset d 0xC 4 (fld d 0xC 4 + 1)))) ∧
      exec (.homeObjectOperation 1 obj v who) s = .next (s1.withdraw key (v.extractLsb' 0 32)).2 ∧
      exec (.homeObjectOperation 2 obj v who) s =
        .next (s1.putBarrier key (lset (lset d 0x18 8 (min (fld d 0x18 8 + v.toNat) (2 ^ 64 - 1))) 2 2 0)) ∧
      (v.toNat ≤ fld d 0x18 8 → exec (.homeObjectOperation 3 obj v who) s = .next (s1.putBarrier key (lset d 0x18 8 (fld d 0x18 8 - v.toNat)))) ∧
      (fld d 0x18 8 < v.toNat → exec (.homeObjectOperation 3 obj v who) s = .next (s1.putBarrier key (lset (lset d 0x18 8 0) 2 2 1)))) ∧
    (s.partyObj who key 2 = (some d, s1) →
      (room d → s1.qPush partyAgent key d v = (.ok d', s2) → exec (.homeObjectOperation 4 obj v who) s = .next (s2.serve key)) ∧
      (¬ room d → exec (.homeObjectOperation 4 obj v who) s = .next s1) ∧
      (∀ e, held d ≠ 0 → s1.qPop partyAgent key d = (.ok (e, d'), s2) → exec (.homeObjectOperation 5 obj v who) s = .next (s2.serve key)))

/-! ### The whole machine -/

/-- R19, R28, R31 to R34, R39, R54, R102, R113, R173, R280, R285, R388, R443, R460: what the specification gives at reset. That the registers hold these values before any strand starts is log entry 17; that unlisted memory is zero is log entry 6. -/
def Obligations.ResetState : Prop :=
  let s := State.reset
  s.front.modstat = 0 ∧ s.front.assigned = false ∧ s.front.modnum = 0 ∧ s.front.lattol = 0 ∧ s.front.pwrcap = 16000 ∧ s.front.hosterr = 0 ∧
  (∀ n < 24, dieCode s n = 0) ∧ s.front.bar2base = 0 ∧ s.dclkw = 0 ∧
  s.starter.live = [] ∧ s.starter.queued = [] ∧ s.strands = [] ∧ s.cur.run = .absent ∧
  (∀ c < 384, (s.coreAt c).dlcap = 1000000000 ∧ (s.coreAt c).escal = 16 ∧ (s.coreAt c).dbgctl = 0 ∧
    ∀ k : Fin 8, (s.coreAt c).chans[k].wm = 0 ∧ (s.coreAt c).chans[k].rng = 0) ∧
  (∀ r : Reg, s.rx r = 0) ∧ s.cur.c.fcsr = 0 ∧ s.cur.c.vl = 0 ∧ s.cur.c.vtype = 0 ∧ s.cur.c.sstatus = 0 ∧ s.cur.c.ten = 0 ∧ Inv s

/-- R150 to R162: words written out from the encodings of the specification, and what they stand for. -/
def Obligations.DecodeWords : Prop :=
  (∀ p ∈ ([(0x00000020, .nop), (0x03E00102, .lineMarker 0x81), (0x04A52800, .add 5 5 5), (0x08A00064, .addi 5 0 100), (0x20A60083, .srai 5 6 3),
      (0x24A00012, .lui 5 0x12), (0x2CA63860, .div 5 6 7), (0x30DE6010, .ld 6 30 0x010), (0x34DE7FF8, .sd 6 30 0x1FF8), (0x38A63800, .fadd 5 6 7),
      (0x3CA63A00, .fma 5 6 7 8), (0x40A67FFF, .bge 5 6 0x1FFF), (0x48000002, .call 2), (0x4C1F0000, .jr 31), (0x50130024, .csrwi 0 0x13 2),
      (0x60000061, .settypei 0 1), (0x64221824, .vfmulVx 1 2 3), (0x68221900, .vfma 1 2 3 4), (0x6C642801, .vaddSatVv 3 4 5), (0x70A63A00, .vslideup 5 6 7 8),
      (0x74A60040, .vmcnt 5 6), (0x79C20030, .vredsum 14 2), (0x80254980, .vld 1 5 9 3), (0x84911020, .vstx 4 17 2 0), (0x88251520, .vglk 1 5 2 10),
      (0x8F850000, .sbind 28 5), (0x90A63A02, .turn 5 6 7 8 2), (0x94A63A02, .putq 5 6 7 8), (0xA02531C3, .tmacw 1 5 6 7), (0xA4E53000, .sigcfg 7 5 6),
      (0xB0A6F0FF, .waitc 5 6 15 0 15 15), (0xB4A63A06, .qrecv 5 6 7 8), (0xB8A63802, .lcancel 5 6 7)] : List (InsnWord × Instr)), decodeWord p.1 = .ok p.2) ∧
  ∀ w ∈ ([0x00000000, 0x54000000, 0x20A500C3, 0x6422180C, 0x000000E0, 0x30DEE010, 0x04A63801, 0x64221801, 0x74221804, 0xA0600041, 0xB4A63A02] : List InsnWord),
    ∃ e, decodeWord w = .error e

/-- R150, R163, R164, R167, R337, R401: when nothing else is due, a step fetches the word at the program counter of the issuing strand, decodes it, and is exec of the instruction; around it, the strand's turn ends and the clocks go on by the step's time. A word that decodes to nothing takes the reserved-encoding step, and a fetch that fails the fault step. An instruction that something keeps from happening waits at issue with no effect. The order of moves and that wait are the model's (log entries 1 to 3, 61, 78). -/
def Obligations.StepRunsDecoded : Prop :=
  ∀ (s s1 : State) (w : InsnWord) (i : Instr) (x : XFault), s.sched.agenda = [] → s.pacer = none → s.restorer = none → s.lastPoint = none → s.due = none → s.mayIssue s.cur = true →
    s.cur.escal = none →
    let around (o : Out) : Prop :=
      (∀ t, o = .next t → t.mark.free = true → step s = .next ((t.issued s.cur).rotate).tick) ∧
      (∀ t, o = .next t → t.mark.free = false → step s = .next (((s.holdBack t.mark).issued s.cur).rotate).tick) ∧ (∀ f, o = .fault f → step s = .fault f) ∧ (∀ r, o = .refused r → step s = .refused r)
    (s.fetchWord = (.ok w, s1) → decodeWord w = .ok i → around (exec i s1)) ∧
    (∀ e, s.fetchWord = (.ok w, s1) → decodeWord w = .error e → around (exec (.reservedEncoding w) s1)) ∧
    (s.fetchWord = (.error x, s1) → around (exec (.instructionFetchFault x.cause x.tval) s1))

/-- R150 to R162: for every well-formed instruction word, decoding its encoding gives it back, with every operand at every value. -/
def Obligations.EncodeThenDecode : Prop := ∀ i : Instr, i.isWord = true → i.wf = true → decodeWord (encode i) = .ok i

/-- Every instruction word goes on in every state: it has its effect, waits or traps, and never stops the machine. -/
def Obligations.WordsGoOn : Prop := ∀ (i : Instr) (s : State), i.isWord = true → Goes (exec i s)

/-- Every step keeps the canonical form of memory: addresses strictly rising, and no entry that equals what an unlisted address reads as (log entry 6). -/
def Obligations.StepKeepsMemoryForm : Prop := ∀ (s t : State), Inv s → step s = .next t → Inv t

/-! ### Where the events of the units complete -/

namespace Sys2Proof.Claim
open Machine

/-- The event happens, and leaves a state with `P`. -/
def happens (i : Instr) (s : State) (P : State → Prop) : Prop := ∃ u, exec i s = .next u ∧ P u

/-- The element addresses of an indexed access lie in the own scratchpad, aligned, in blocks that nothing has written, on a die that answers; none of the strand's writes is on its way. -/
def ClearSpad (s : State) (a b : Reg) (n : Nat) : Prop :=
  s.cur.id.core < 384 ∧ s.core.id = s.cur.id.core ∧ s.cur.id.sid ≠ 0 ∧ s.core.outb = [] ∧ s.homes.wnet = [] ∧ (s.dieAt (s.cur.id.core / 16)).phase = .steady ∧ s.dieState (s.cur.id.core / 16) = 0 ∧
  ∀ i ∈ s.cur.active, ∃ off, indexed s a b i = BitVec.ofNat 64 (0xE0 * 2 ^ 56 + off) ∧ off % n = 0 ∧ off + n ≤ 2 ^ 23 ∧
    (s.tag (spadKey s.cur.id.core off / 64)).state = 5

/-- The pre-emption requests of a core's plan sent. -/
def requested (s : State) (core : Nat) : State :=
  (s.plan core).foldl (fun s n => s.onStrand n (fun t => if t.request.isSome then t else { t with sent := true })) s

end Sys2Proof.Claim

/-- R103, R104, R436: where the events of a strand's streams happen. -/
def Sys2Proof.Claim.StreamEventsComplete : Prop :=
  ∀ (s : State) (sid i : Nat) (t : Strand) (b : Stream), i < 4 → has s sid t → t.live = true → t.streams.getD i none = some b →
    (b.kind = 0 → b.count + b.ahead.length < b.n0 * b.n1 → happens (.streamFill sid i) s (fun u => ∃ t' e, u.strand sid = some t' ∧
      t'.streams.getD i none = some { b with ahead := b.ahead ++ [e] } ∧ t'.x = t.x ∧ t'.pc = t.pc)) ∧
    (∀ p q g, b.kind = 2 → b.group = none → s.pairOf t i = some p → s.strand p = some q → (q.streams.getD b.reg none).bind Stream.group = some g →
      happens (.remoteGroupDelivery sid i) s (fun u => ∃ t', u.strand sid = some t' ∧
        t'.streams.getD i none = some { b with group := some g, partner := some p } ∧ t'.x = t.x ∧ t'.pc = t.pc)) ∧
    (∀ (r : Reg) a, r.toNat = 28 + i → t.run = .running → t.nest = false → t.blockedOn = some r → (b.kind = 2 ∧ b.group = none) ∨ (b.kind = 3 ∧ b.group ≠ none) →
      t.stall = some a → t.stepping = false →
      a + (if b.desc[0].extractLsb' 32 32 = 0 then (s.coreAt t.id.core).dlcap.toNat % 2 ^ 63 else (b.desc[0].extractLsb' 32 32).toNat) ≤ s.dclkw.toNat →
      happens (.streamBudgetExpiry sid) s (fun u => ∃ t', u.strand sid = some t' ∧ t'.c.tcause = 0x181 ∧ t'.c.tval = r.setWidth 64 ∧ t'.c.epc = t.pc ∧
        t'.stall = none ∧ t'.blockedOn = none ∧ t'.nest = true))

/-- R54, R67, R326, R333, R335, R342: where the Starter's events happen: a waiting launch is taken while fewer than 960 are live, a strand that may start or resume does, and a launch that is over retires. -/
def Sys2Proof.Claim.StarterEventsComplete : Prop :=
  ∀ (s : State) (core : Nat), core < 384 → (∀ u ∈ s.all, u.id.sid < s.nextSid) →
    (s.starter.queued ≠ [] → s.starter.live.length < 960 → happens .launchTake s (fun u => ∃ l ∈ s.starter.queued,
      u.starter.live = s.starter.live ++ [{ l with taken := true }] ∧ u.starter.queued = s.starter.queued.filter (fun m => m.id ≠ l.id))) ∧
    (∀ l k slot area g m, s.dieRuns (core / 16) = true → s.pick core (s.waitList core) [] = some (.fresh l k, slot, area, g, m) →
      happens (.strandStart core) s (fun u => ∃ q, u.strand s.nextSid = some q ∧ (q.run = .running ∨ (l.ctx.sup = true ∧ q.run = .lost 0x011)) ∧
        q.pc = l.packet.entry ∧ q.x = startRegs l core k area ∧ q.grant = g ∧ q.id.core = core ∧ q.id.slot = slot ∧ q.id.lid = l.id)) ∧
    (∀ t slot area g m, s.dieRuns (core / 16) = true → s.pick core (s.waitList core) [] = some (.away t, slot, area, g, m) → t.id.sid ≠ 0 →
      happens (.strandStart core) s (fun u => ∃ q k w, u.strand t.id.sid = some q ∧ t.run = .away k w ∧ q.run = .restoring k w ∧ q.grant = g ∧ q.request = none ∧ q.saveAt = s.dclkw.toNat)) ∧
    (∀ l, s.launch l.id = some l → l.stop ≠ none ∨ l.left = 0 → happens (.launchRetire l.id) s (fun u => ∃ r, u.starter.retired.head? = some r ∧ r.id = l.id ∧
      (l.stop = none → r.status = 0) ∧ ∀ q ∈ u.starter.live ++ u.starter.queued, q.id ≠ l.id))

/-- R337 to R340, R384, R395, R440, R441: where pre-emption requests leave and arrive, saves are forced and end, strands age, records are delivered imprecisely, and the watchdogs act. -/
def Sys2Proof.Claim.PreemptionEventsComplete : Prop :=
  ∀ (s : State) (core sid : Nat) (t : Strand), core < 384 → has s sid t →
    happens (.preemptionRequest core) s (fun u => u = (requested s core).withdrawRequests core) ∧
    (t.run = .running → t.sent = true → t.dbg = false → t.stepping = false →
      happens (.preemptionRequestArrival sid) s (fun u => u.strand sid = some { t with sent := false, request := some s.dclkw.toNat })) ∧
    (∀ a, t.run = .running → t.request = some a → a + 8000 ≤ s.dclkw.toNat → t.dbg = false → t.areaOk = true →
      happens (.forcedPreemption sid) s (fun u => ∃ t', u.strand sid = some t' ∧ t'.run = .saving .forced none ∧ t'.pc = t.pc ∧ t'.x = t.x ∧ t'.v = t.v)) ∧
    (∀ k w, t.run = .saving k w → t.dbg = false → s.loadsOut t = 0 →
      happens (.saveComplete sid) s (fun u => ∃ t', u.strand sid = some t' ∧ t'.run = .away k w ∧ t'.x = t.x ∧ t'.pc = t.pc)) ∧
    (t.run = .running → t.id.cls ≠ 0 → t.stall = none →
      happens (.issueAging sid) s (fun u => u.strand sid = some { t with aged := some (t.aged.getD s.dclkw.toNat) })) ∧
    (∀ r, t.run = .running → t.nest = false → t.stall = none → nextRecord (t.records.filter (Record.late t.c.dclkr.toNat)) = some r →
      happens (.impreciseDelivery sid) s (fun u => ∃ t', u.strand sid = some t' ∧ t'.c.tcause = BitVec.ofNat 64 (2 * 2 ^ 11 + r.cause.toNat) ∧ t'.c.tval = r.tval ∧
        t'.c.tpc = r.pc ∧ t'.c.epc = t.pc)) ∧
    (t.run = .running → t.dbg = false → t.nest = true → t.nestAt + 10000000 ≤ t.stay →
      happens (.handlerWatchdog sid) s (fun u => ∃ t', u.strand sid = some t' ∧ t'.run = .lost 0x3F0)) ∧
    (t.run = .running → t.dbg = false → 4096 ≤ t.repeats →
      happens (.trapRepeatWatchdog sid) s (fun u => ∃ t', u.strand sid = some t' ∧ t'.run = .lost 0x3F0)) ∧
    (∀ k w, (t.run = .saving k w ∧ t.dbg = false) ∨ t.run = .restoring k w → t.saveAt + 1000000 ≤ s.dclkw.toNat →
      happens (.saveRestoreWatchdog sid) s (fun u => ∃ t', u.strand sid = some t' ∧
        (if t.again = true then t'.run = .lost 0x3F0 else t' = { t with again := true, saveAt := s.dclkw.toNat })))

/-- R357, R358, R362: where a round that is complete or cannot be ends, and where a parked arrival whose page now resolves lands. -/
def Sys2Proof.Claim.RelayEventsComplete : Prop :=
  ∀ (s s0 s1 : State) (group slot i : Nat) (r : Round) (c0 : Contribution) (rest : List Contribution) (g : Group) (q : Nat × Parked) (u : Strand),
    (s.rounds.find? (fun r => r.group == group && r.slot == slot) = some r → r.parts = c0 :: rest → s.roundGroup r = (some g, s0) → r.ready g c0 = true →
      (∀ c ∈ r.parts, s0.relayHeld c.sid = false) → s0.roundFrozen r = false →
      (∀ here away, (s0.ranks g r).1 = .ok (here, away) → ∀ e ∈ here, s0.relayHeld e.2.id.sid = false) →
      happens (.relayRoundComplete group slot) s (fun t => ∀ q ∈ t.rounds, q.group ≠ group ∨ q.slot ≠ slot)) ∧
    (s.allParked[i]? = some q → q.2.rest = false → s.relayHeld q.2.sid = false → has s q.2.sid u → s.groupFor q.2.sid q.2.group = (some g, s0) →
      s0.landPiece u (g.stgbase + BitVec.ofNat 64 (q.2.slot * g.slotlen + q.2.off)) q.2.lanes q.2.bytes = (none, s1) →
      happens (.parkedArrivalRetry i) s (fun t => t =
        ((s1.onDie q.1 (fun d => { d with parked := d.parked.filter (fun p => p != q.2) })).settleRound q.1 q.2.sid q.2.group q.2.slot).enterParking q.1
          (s1.dieAt q.1).parked.length))

/-- R36, R352, R444, R446, R461: where a die's entry ends, a host link comes up, a route update arrives and debug controls act. -/
def Sys2Proof.Claim.OtherEventsComplete : Prop :=
  ∀ (s : State) (n core slot k a link : Nat) (b : Bool) (e : Word), n < 24 → core < 384 → slot < 8 → link < 2 →
    ((s.dieAt n).phase = .entering k a → s.now ≤ a + 1000000 → happens (.dieStateEntryComplete n) s (fun u => (u.dieAt n).phase = .steady)) ∧
    (link = 0 ∨ s.front.modstat.getLsbD 1 = false → happens (.hostLinkUp link) s (fun u => u.front.linkUp.getD link false = true)) ∧
    (s.front.modstat.getLsbD 2 = true → happens (.routeUpdate a e) s (fun u => u.front.frames = s.front.frames ++ [(a, e)] ∧ u.mem = s.mem ∧ u.cur = s.cur)) ∧
    happens (.dbgctlFreeze core b) s (fun u => (u.coreAt core).dbgctl.getLsbD 14 = b) ∧
    happens (.dbgctlHalt core slot) s (fun u => (u.coreAt core).dbgctl.getLsbD (24 + slot) = true)

/-- R243 to R245, R412: where VGLK and VSCC complete: their elements in blocks of the own scratchpad that nothing has written. -/
def Sys2Proof.Claim.LinkedWordsComplete : Prop :=
  ∀ (s : State) (v a b : Reg) (f : BitVec 4), Ready s → s.cur.resuming = false → ClearSpad s a b (fmtSize f) →
    (f = 1 ∧ s.cur.ew = 16) ∨ (f = 0 ∧ s.cur.ew = 32) ∨ (f = 10 ∧ s.cur.ew = 32) ∨ (f = 11 ∧ s.cur.ew = 64) → (s.rx a).toNat % fmtSize f = 0 →
    happens (.vglk v a b f) s (fun u => u.cur.pc = s.cur.pc + 4 ∧ u.mem = s.mem ∧ u.tags = s.tags ∧ u.cur.x = s.cur.x ∧ u.cur.c = { s.cur.c with vstart := 0 }) ∧
    (s.cur.c.vm.getLsbD 5 = true → v ≠ s.cur.c.vm.extractLsb' 0 5 →
      happens (.vscc v a b f) s (fun u => u.cur.pc = s.cur.pc + 4 ∧ u.cur.link = [] ∧ u.cur.x = s.cur.x))

/-! ### The statements that join several of the above -/

/-- ALU, shift and immediate instructions complete with the integers and bits of R179 to R182, and change only x[d] and the pc.  -/
def Obligations.AluResults : Prop := Sys2Proof.Claim.AluResultsByIntegers ∧ Sys2Proof.Claim.AluResultsByBits ∧ Sys2Proof.Claim.ImmediateResults

/-- Scalar FP32 instructions: exact results rounded once, flags in FCSR, moves of bits, class words; nothing else changes. The results are stated over the number-format functions of Flags.lean, whose rounding RoundingIsNearest states. -/
def Obligations.ScalarFloat : Prop := Sys2Proof.Claim.ScalarFloatResults ∧ Sys2Proof.Claim.ScalarFloatExact ∧ Sys2Proof.Claim.ScalarFloatMoves

/-- Scalar stores wait in the outbound buffer and leave memory and tags as they were; misaligned accesses trap. -/
def Obligations.ScalarStores : Prop := Sys2Proof.Claim.StoreEntersOutboundBuffer ∧ Sys2Proof.Claim.MisalignedScalarTraps

/-- User branches, jumps and calls: targets, x31, and the trap of a target that is no multiple of 64.  -/
def Obligations.UserTransfers : Prop := Sys2Proof.Claim.UserBranches ∧ Sys2Proof.Claim.UserCallsAndReturns

/-- A supervisor transfer completes exactly at a marked target position and traps elsewhere, and a branch not taken goes on. That a target whose marker cannot be read lets the transfer complete is read from R194 (DEDUCED, log entry 52), and that TVAL is then the target where the line has a marker is log entry 54. -/
def Obligations.SupervisorTransfers : Prop := Sys2Proof.Claim.MarkedTargets ∧ Sys2Proof.Claim.SupervisorTransfers ∧ Sys2Proof.Claim.BranchesNotTaken

/-- Who may access which CSR, what each reads as and which codes it refuses, and what CSRR, CSRW, CSRS, CSRC and CSRWI do. That a missing privilege is found before a reserved field code is read from R163 (DEDUCED, log entry 38). -/
def Obligations.CsrAccess : Prop := Sys2Proof.Claim.CsrAccessRules ∧ Sys2Proof.Claim.CsrReadsAndWrites ∧ Sys2Proof.Claim.CsrValuesRead ∧ Sys2Proof.Claim.ReservedCsrCodes

/-- What a CSR write stores, the vault window and DBGCTL among them, VL under VLMAX, and taking and giving up the tile store with TEN. That a write of VL drops the bits above [9:0] before it takes the minimum is log entry 71 (DESIGN CHOICE). -/
def Obligations.CsrStoredValues : Prop := Sys2Proof.Claim.CsrStoredValues ∧ Sys2Proof.Claim.VaultWindowWrites ∧ Sys2Proof.Claim.DbgctlWrites ∧ Sys2Proof.Claim.VectorLengthWrites ∧ Sys2Proof.Claim.TileStoreHolding

/-- SETVL, SETVLMAX, SETTYPE and SETTYPEI: grants, dependence holds, refusals.  -/
def Obligations.VectorConfiguration : Prop := Sys2Proof.Claim.SetvlGrants ∧ Sys2Proof.Claim.SetvlHolds ∧ Sys2Proof.Claim.SettypeResults

/-- Trap entry: what it saves and sets, and whether the strand goes on at TVEC or is lost. -/
def Obligations.TrapEntry : Prop := Sys2Proof.Claim.TrapEntrySaves ∧ Sys2Proof.Claim.LostStrands

/-- TRAP, BRK, NOP, markers, YIELD, and the privilege of ERET, TLBINV and TLBINVALL.  -/
def Obligations.SystemInstructions : Prop := Sys2Proof.Claim.SoftwareTraps ∧ Sys2Proof.Claim.PrivilegedInstructions ∧ Sys2Proof.Claim.NopMarkerYield

/-- Where an element stands, which elements an instruction performs, and what a binary VINT instruction leaves. -/
def Obligations.VectorElements : Prop := Sys2Proof.Claim.ElementPlacement ∧ Sys2Proof.Claim.ActiveElements ∧ Sys2Proof.Claim.VectorCompletion

/-- Vector integer instructions, VID, VBCAST and VMERGE, element by element.  -/
def Obligations.VectorIntegers : Prop := Sys2Proof.Claim.VectorIntegerResults ∧ Sys2Proof.Claim.VectorMovesAndMerge

/-- Vector floating-point instructions, conversions and fused multiply-adds, element by element.  -/
def Obligations.VectorFloats : Prop := Sys2Proof.Claim.VectorFloatResults ∧ Sys2Proof.Claim.VectorFloatUnary ∧ Sys2Proof.Claim.VectorFusedResults

/-- Mask instructions and reductions in the order of the tree of R129. That VFREDMAX and VFREDMIN pass a NaN beside a number over is R117; a lone NaN operand at an odd tail passes unchanged (DEDUCED, log entry 43). -/
def Obligations.MasksAndReductions : Prop := Sys2Proof.Claim.MaskResults ∧ Sys2Proof.Claim.IntegerReductions ∧ Sys2Proof.Claim.FloatReductions

/-- Slides, gather, compress, single-element moves, and the trap of overlapping registers.  -/
def Obligations.Permutations : Prop := Sys2Proof.Claim.PermutationResults ∧ Sys2Proof.Claim.WholeOverlapTraps ∧ Sys2Proof.Claim.SingleElementMoves

/-- Unit, strided, indexed and segmented loads write each element from its own address. A permutation element that the register does not hold is a free value (log entry 4). -/
def Obligations.VectorLoadResults : Prop := Sys2Proof.Claim.VectorLoads ∧ Sys2Proof.Claim.SegmentedLoads

/-- Unit, strided, indexed and segmented stores put each element into the outbound buffer at its own address.  -/
def Obligations.VectorStoreResults : Prop := Sys2Proof.Claim.VectorStores ∧ Sys2Proof.Claim.SegmentedStores ∧ Sys2Proof.Claim.ScratchpadVectorStore

/-- The checks of a vector access in order, trimming at the end of the scratchpad, and accesses that stop at an element or a segment. -/
def Obligations.VectorAccessFaults : Prop := Sys2Proof.Claim.VectorAccessStops ∧ Sys2Proof.Claim.SegmentedAccessStops ∧ Sys2Proof.Claim.ScratchpadRangeTrims ∧ Sys2Proof.Claim.VectorAccessChecks

/-- Block-scaled accesses: the scale that a store chooses, the values of loads, and completion.  -/
def Obligations.BlockScaling : Prop := Sys2Proof.Claim.BlockScaleChosen ∧ Sys2Proof.Claim.BlockScaledLoadValue ∧ Sys2Proof.Claim.BlockScaledAccesses

/-- Plane stores: the group of 32 values as exponent and integers, its record, and where records go.  -/
def Obligations.Planes : Prop := Sys2Proof.Claim.PlaneGroupIntegers ∧ Sys2Proof.Claim.PlaneRecordLayout ∧ Sys2Proof.Claim.PlaneStores

/-- VGLK links lines, and VSCC stores an element exactly when its link still holds. What the home compares of a link is read in log entry 50 (DEDUCED), and that a nibble format is cause 0x101 here, where R220 gives 0x001 outside unit mode, is log entry 65 (DESIGN CHOICE). -/
def Obligations.LinkedAndConditional : Prop := Sys2Proof.Claim.LinkedGather ∧ Sys2Proof.Claim.ConditionalStoreElement ∧ Sys2Proof.Claim.ConditionalScatter

/-- Stream descriptors, SBIND, SUNBIND and SPOS, and streams as operands.  -/
def Obligations.Streams : Prop := Sys2Proof.Claim.StreamDescriptors ∧ Sys2Proof.Claim.StreamInstructions ∧ Sys2Proof.Claim.StreamMisuse ∧ Sys2Proof.Claim.StreamElements

/-- A turn of lines: drained writes, tags raised to the level, copies invalidated; turns of the write log.  -/
def Obligations.TurnedLines : Prop := Sys2Proof.Claim.TurnedTags ∧ Sys2Proof.Claim.TurnedLines ∧ Sys2Proof.Claim.WriteLogTurned

/-- TURN, TURNALL, FENCE and PUBLISH: outcomes and status words. That a TURN by range raises the spans that lie within the lines done is read in log entry 56. -/
def Obligations.TurningInstructions : Prop := Sys2Proof.Claim.TurnOutcomes ∧ Sys2Proof.Claim.TurnallFencePublish

/-- TOCNT and the escalation trap; WAITC and WAITW end, poll or wait.  -/
def Obligations.Deadlines : Prop := Sys2Proof.Claim.TimeoutCounting ∧ Sys2Proof.Claim.CountWaits ∧ Sys2Proof.Claim.ChannelWaits

/-- Barriers: arrivals, expectations, phases; BARW, BARA, BARAW and BAREXP.  -/
def Obligations.Barriers : Prop := Sys2Proof.Claim.BarrierPhases ∧ Sys2Proof.Claim.BarrierInstructions

/-- Queues hold their entries in order; QSEND, QRECV and APWAIT.  -/
def Obligations.Queues : Prop := Sys2Proof.Claim.QueueEntries ∧ Sys2Proof.Claim.QueueInstructions

/-- TASKADD, TASKTAKE and TASKSTEAL on deques, and a search that finds nothing. The order in which TASKSTEAL searches is log entry 49. -/
def Obligations.Tasks : Prop := Sys2Proof.Claim.TaskDeques ∧ Sys2Proof.Claim.StealSearchEmpty

/-- VAPND appends element numbers and clears their mask bits; CWAIT waits for a round of a slot. That a slot at or beyond SLOTS is cause 0x206 is log entry 40 (DEDUCED). -/
def Obligations.AppendAndCollectives : Prop := Sys2Proof.Claim.AppendIdentifiers ∧ Sys2Proof.Claim.CollectiveWaits

/-- LAUNCH, LWAIT and LCANCEL: outcomes by the state of the launch. LCANCEL of a launch that is over is LATE (DEDUCED, log entry 55). -/
def Obligations.Launches : Prop := Sys2Proof.Claim.LaunchOutcomes ∧ Sys2Proof.Claim.LaunchWaits

/-- Tile instructions: TEN, SETTILE and SIGCFG, commands queued with their captures, checks, TMOVR and TMOVC.  -/
def Obligations.TileCommands : Prop := Sys2Proof.Claim.TileStoreNeeded ∧ Sys2Proof.Claim.TileAndSignatureConfiguration ∧ Sys2Proof.Claim.TileCommandsQueue ∧ Sys2Proof.Claim.TileCommandChecks ∧ Sys2Proof.Claim.TileReadout

/-- Signature commands queue with their captures; the value of a group product and the layout of its records. -/
def Obligations.SignatureCommands : Prop := Sys2Proof.Claim.SignatureCommandsQueue ∧ Sys2Proof.Claim.GroupValues ∧ Sys2Proof.Claim.GroupRecords

/-- The oldest engine command runs whole and retires: what every TILE and SIG command leaves in the cells, and Round128. -/
def Obligations.EngineRetires : Prop := Sys2Proof.Claim.TileStoreCommands ∧ Sys2Proof.Claim.TileProducts ∧ Sys2Proof.Claim.TileLoads ∧ Sys2Proof.Claim.SignatureResults ∧ Sys2Proof.Claim.Round128Nearest

/-- Host writes of registers, doorbells, BAR2 accesses, configuration requests and host links. Log entries 22 to 24 name the model's choices here; that BAR2BASE is cut to a multiple of the larger of two sizes is log entry 5, and that a write at an offset that is no multiple of 8 is ignored is log entry 68 (both DESIGN CHOICE). -/
def Obligations.HostInterface : Prop := Sys2Proof.Claim.HostRegisters ∧ Sys2Proof.Claim.Doorbells ∧ Sys2Proof.Claim.HostAccesses

/-- Die power states, LATTOL, clock steps under the power cap and the issue hold.  -/
def Obligations.DiePower : Prop := Sys2Proof.Claim.DiePowerStates ∧ Sys2Proof.Claim.PowerManagement

/-- Writes, reads, invalidations, soft errors, table walks and object operations at the homes. The operation codes 0 to 5 of an object operation are the model's (log entry 29), and so is that HOME_READ and TABLE_WALK_COMPLETE act for the named running strand and trap at its pc (DESIGN CHOICE, log entry 27). -/
def Obligations.HomeEvents : Prop := Sys2Proof.Claim.HomeWritesAndReads ∧ Sys2Proof.Claim.HomeObjects

/-- Stream units and budgets; Relay rounds that complete, fail or stay parked. Log entry 31 names the model's choices for rounds. -/
def Obligations.StreamAndRelayUnits : Prop := Sys2Proof.Claim.StreamUnits ∧ Sys2Proof.Claim.RelayRounds

/-- How waits and dependence holds end behind the strand. That a wait of FENCE, WAITC or CWAIT takes the trap of its faulted command is read from R240, R287 and R384 (DEDUCED, log entry 19). -/
def Obligations.WaitEnds : Prop := Sys2Proof.Claim.WaitEnds ∧ Sys2Proof.Claim.Dependences

/-- Taking, starting and retiring launches; pre-emption, saves, restores, imprecise delivery, watchdogs. Log entries 20, 30, 37 and 44 name the model's choices here. -/
def Obligations.SchedulingEvents : Prop := Sys2Proof.Claim.StarterEvents ∧ Sys2Proof.Claim.Preemption ∧ Sys2Proof.Claim.Restores

/-- Debug controls, issue steps that have no word, and events that name absent units. That an event which names an absent unit stops the machine is the model's (log entry 59). -/
def Obligations.DebugAndIssueEvents : Prop := Sys2Proof.Claim.DebugAndIssueEvents ∧ Sys2Proof.Claim.AbsentUnits

/-- Where the events of streams, Starter, pre-emption, watchdogs, Relay and debug happen, and VGLK and VSCC complete, by conditions on the state alone. Log entries 20, 30, 31 and 37 name the model's choices here. -/
def Obligations.EventsComplete : Prop := Sys2Proof.Claim.StreamEventsComplete ∧ Sys2Proof.Claim.StarterEventsComplete ∧ Sys2Proof.Claim.PreemptionEventsComplete ∧ Sys2Proof.Claim.RelayEventsComplete ∧ Sys2Proof.Claim.OtherEventsComplete ∧ Sys2Proof.Claim.LinkedWordsComplete
end

