-- ==== Sys2Proof/Laws/State.lean ====
section
/-! SUPPORT. What each elementary update of the state changes, field by field. -/

namespace Sys2Proof.Laws

open Machine

set_option Elab.async false

/-! ### The next word -/

@[simp] theorem adv_core (s : State) : (s.adv).core = s.core := rfl
@[simp] theorem adv_strands (s : State) : (s.adv).strands = s.strands := rfl
@[simp] theorem adv_cores (s : State) : (s.adv).cores = s.cores := rfl
@[simp] theorem adv_dies (s : State) : (s.adv).dies = s.dies := rfl
@[simp] theorem adv_mem (s : State) : (s.adv).mem = s.mem := rfl
@[simp] theorem adv_tags (s : State) : (s.adv).tags = s.tags := rfl
@[simp] theorem adv_front (s : State) : (s.adv).front = s.front := rfl
@[simp] theorem adv_starter (s : State) : (s.adv).starter = s.starter := rfl
@[simp] theorem adv_homes (s : State) : (s.adv).homes = s.homes := rfl
@[simp] theorem adv_rounds (s : State) : (s.adv).rounds = s.rounds := rfl
@[simp] theorem adv_relaySeq (s : State) : (s.adv).relaySeq = s.relaySeq := rfl
@[simp] theorem adv_dclkw (s : State) : (s.adv).dclkw = s.dclkw := rfl
@[simp] theorem adv_sched (s : State) : (s.adv).sched = s.sched := rfl
@[simp] theorem adv_fresh (s : State) : (s.adv).fresh = s.fresh := rfl
@[simp] theorem adv_nextSid (s : State) : (s.adv).nextSid = s.nextSid := rfl
@[simp] theorem adv_mark (s : State) : (s.adv).mark = s.mark := rfl
@[simp] theorem adv_cur_id (s : State) : (s.adv).cur.id = s.cur.id := rfl
@[simp] theorem adv_cur_pc (s : State) : (s.adv).cur.pc = s.cur.pc + 4 := rfl
@[simp] theorem adv_cur_x (s : State) : (s.adv).cur.x = s.cur.x := rfl
@[simp] theorem adv_cur_v (s : State) : (s.adv).cur.v = s.cur.v := rfl
@[simp] theorem adv_cur_grant (s : State) : (s.adv).cur.grant = s.cur.grant := rfl
@[simp] theorem adv_cur_c (s : State) : (s.adv).cur.c = s.cur.c := rfl
@[simp] theorem adv_cur_streams (s : State) : (s.adv).cur.streams = s.cur.streams := rfl
@[simp] theorem adv_cur_wlog (s : State) : (s.adv).cur.wlog = s.cur.wlog := rfl
@[simp] theorem adv_cur_link (s : State) : (s.adv).cur.link = s.cur.link := rfl
@[simp] theorem adv_cur_records (s : State) : (s.adv).cur.records = s.cur.records := rfl
@[simp] theorem adv_cur_slots (s : State) : (s.adv).cur.slots = s.cur.slots := rfl
@[simp] theorem adv_cur_group (s : State) : (s.adv).cur.group = s.cur.group := rfl
@[simp] theorem adv_cur_hold (s : State) : (s.adv).cur.hold = s.cur.hold := rfl
@[simp] theorem adv_cur_run (s : State) : (s.adv).cur.run = s.cur.run := rfl
@[simp] theorem adv_cur_stall (s : State) : (s.adv).cur.stall = s.cur.stall := rfl
@[simp] theorem adv_cur_due (s : State) : (s.adv).cur.due = s.cur.due := rfl
@[simp] theorem adv_cur_entry (s : State) : (s.adv).cur.entry = s.cur.entry := rfl
@[simp] theorem adv_cur_blockedOn (s : State) : (s.adv).cur.blockedOn = s.cur.blockedOn := rfl
@[simp] theorem adv_cur_request (s : State) : (s.adv).cur.request = s.cur.request := rfl
@[simp] theorem adv_cur_sent (s : State) : (s.adv).cur.sent = s.cur.sent := rfl
@[simp] theorem adv_cur_aged (s : State) : (s.adv).cur.aged = s.cur.aged := rfl
@[simp] theorem adv_cur_dbg (s : State) : (s.adv).cur.dbg = s.cur.dbg := rfl
@[simp] theorem adv_cur_escal (s : State) : (s.adv).cur.escal = s.cur.escal := rfl
@[simp] theorem adv_cur_stay (s : State) : (s.adv).cur.stay = s.cur.stay := rfl
@[simp] theorem adv_cur_nestAt (s : State) : (s.adv).cur.nestAt = s.cur.nestAt := rfl
@[simp] theorem adv_cur_repeats (s : State) : (s.adv).cur.repeats = s.cur.repeats := rfl
@[simp] theorem adv_cur_again (s : State) : (s.adv).cur.again = s.cur.again := rfl
@[simp] theorem adv_cur_pos (s : State) : (s.adv).cur.pos = s.cur.pos := rfl
@[simp] theorem adv_cur_stepping (s : State) : (s.adv).cur.stepping = s.cur.stepping := rfl
@[simp] theorem adv_cur_saveAt (s : State) : (s.adv).cur.saveAt = s.cur.saveAt := rfl
@[simp] theorem adv_cur_repEpc (s : State) : (s.adv).cur.repEpc = s.cur.repEpc := rfl
@[simp] theorem adv_cur_repCode (s : State) : (s.adv).cur.repCode = s.cur.repCode := rfl
@[simp] theorem adv_cur_haltTurned (s : State) : (s.adv).cur.haltTurned = s.cur.haltTurned := rfl
@[simp] theorem adv_cur_search (s : State) : (s.adv).cur.search = s.cur.search := rfl
@[simp] theorem adv_cur_progress (s : State) : (s.adv).cur.progress = s.cur.progress := rfl

/-! ### A transfer -/

@[simp] theorem jump_core (s : State) (p : Word) : (s.jump p).core = s.core := rfl
@[simp] theorem jump_strands (s : State) (p : Word) : (s.jump p).strands = s.strands := rfl
@[simp] theorem jump_cores (s : State) (p : Word) : (s.jump p).cores = s.cores := rfl
@[simp] theorem jump_dies (s : State) (p : Word) : (s.jump p).dies = s.dies := rfl
@[simp] theorem jump_mem (s : State) (p : Word) : (s.jump p).mem = s.mem := rfl
@[simp] theorem jump_tags (s : State) (p : Word) : (s.jump p).tags = s.tags := rfl
@[simp] theorem jump_front (s : State) (p : Word) : (s.jump p).front = s.front := rfl
@[simp] theorem jump_starter (s : State) (p : Word) : (s.jump p).starter = s.starter := rfl
@[simp] theorem jump_homes (s : State) (p : Word) : (s.jump p).homes = s.homes := rfl
@[simp] theorem jump_rounds (s : State) (p : Word) : (s.jump p).rounds = s.rounds := rfl
@[simp] theorem jump_relaySeq (s : State) (p : Word) : (s.jump p).relaySeq = s.relaySeq := rfl
@[simp] theorem jump_dclkw (s : State) (p : Word) : (s.jump p).dclkw = s.dclkw := rfl
@[simp] theorem jump_sched (s : State) (p : Word) : (s.jump p).sched = s.sched := rfl
@[simp] theorem jump_fresh (s : State) (p : Word) : (s.jump p).fresh = s.fresh := rfl
@[simp] theorem jump_nextSid (s : State) (p : Word) : (s.jump p).nextSid = s.nextSid := rfl
@[simp] theorem jump_mark (s : State) (p : Word) : (s.jump p).mark = s.mark := rfl
@[simp] theorem jump_cur_id (s : State) (p : Word) : (s.jump p).cur.id = s.cur.id := rfl
@[simp] theorem jump_cur_pc (s : State) (p : Word) : (s.jump p).cur.pc = pcOf p := rfl
@[simp] theorem jump_cur_x (s : State) (p : Word) : (s.jump p).cur.x = s.cur.x := rfl
@[simp] theorem jump_cur_v (s : State) (p : Word) : (s.jump p).cur.v = s.cur.v := rfl
@[simp] theorem jump_cur_grant (s : State) (p : Word) : (s.jump p).cur.grant = s.cur.grant := rfl
@[simp] theorem jump_cur_c (s : State) (p : Word) : (s.jump p).cur.c = s.cur.c := rfl
@[simp] theorem jump_cur_streams (s : State) (p : Word) : (s.jump p).cur.streams = s.cur.streams := rfl
@[simp] theorem jump_cur_wlog (s : State) (p : Word) : (s.jump p).cur.wlog = s.cur.wlog := rfl
@[simp] theorem jump_cur_link (s : State) (p : Word) : (s.jump p).cur.link = s.cur.link := rfl
@[simp] theorem jump_cur_records (s : State) (p : Word) : (s.jump p).cur.records = s.cur.records := rfl
@[simp] theorem jump_cur_slots (s : State) (p : Word) : (s.jump p).cur.slots = s.cur.slots := rfl
@[simp] theorem jump_cur_group (s : State) (p : Word) : (s.jump p).cur.group = s.cur.group := rfl
@[simp] theorem jump_cur_hold (s : State) (p : Word) : (s.jump p).cur.hold = s.cur.hold := rfl
@[simp] theorem jump_cur_run (s : State) (p : Word) : (s.jump p).cur.run = s.cur.run := rfl
@[simp] theorem jump_cur_stall (s : State) (p : Word) : (s.jump p).cur.stall = s.cur.stall := rfl
@[simp] theorem jump_cur_due (s : State) (p : Word) : (s.jump p).cur.due = s.cur.due := rfl
@[simp] theorem jump_cur_entry (s : State) (p : Word) : (s.jump p).cur.entry = s.cur.entry := rfl
@[simp] theorem jump_cur_blockedOn (s : State) (p : Word) : (s.jump p).cur.blockedOn = s.cur.blockedOn := rfl
@[simp] theorem jump_cur_request (s : State) (p : Word) : (s.jump p).cur.request = s.cur.request := rfl
@[simp] theorem jump_cur_sent (s : State) (p : Word) : (s.jump p).cur.sent = s.cur.sent := rfl
@[simp] theorem jump_cur_aged (s : State) (p : Word) : (s.jump p).cur.aged = s.cur.aged := rfl
@[simp] theorem jump_cur_dbg (s : State) (p : Word) : (s.jump p).cur.dbg = s.cur.dbg := rfl
@[simp] theorem jump_cur_escal (s : State) (p : Word) : (s.jump p).cur.escal = s.cur.escal := rfl
@[simp] theorem jump_cur_stay (s : State) (p : Word) : (s.jump p).cur.stay = s.cur.stay := rfl
@[simp] theorem jump_cur_nestAt (s : State) (p : Word) : (s.jump p).cur.nestAt = s.cur.nestAt := rfl
@[simp] theorem jump_cur_repeats (s : State) (p : Word) : (s.jump p).cur.repeats = s.cur.repeats := rfl
@[simp] theorem jump_cur_again (s : State) (p : Word) : (s.jump p).cur.again = s.cur.again := rfl
@[simp] theorem jump_cur_pos (s : State) (p : Word) : (s.jump p).cur.pos = s.cur.pos := rfl
@[simp] theorem jump_cur_stepping (s : State) (p : Word) : (s.jump p).cur.stepping = s.cur.stepping := rfl
@[simp] theorem jump_cur_saveAt (s : State) (p : Word) : (s.jump p).cur.saveAt = s.cur.saveAt := rfl
@[simp] theorem jump_cur_repEpc (s : State) (p : Word) : (s.jump p).cur.repEpc = s.cur.repEpc := rfl
@[simp] theorem jump_cur_repCode (s : State) (p : Word) : (s.jump p).cur.repCode = s.cur.repCode := rfl
@[simp] theorem jump_cur_haltTurned (s : State) (p : Word) : (s.jump p).cur.haltTurned = s.cur.haltTurned := rfl
@[simp] theorem jump_cur_search (s : State) (p : Word) : (s.jump p).cur.search = s.cur.search := rfl
@[simp] theorem jump_cur_progress (s : State) (p : Word) : (s.jump p).cur.progress = s.cur.progress := rfl

/-! ### The control registers of the strand -/

@[simp] theorem setC_core (s : State) (c : Csrs) : (s.setC c).core = s.core := rfl
@[simp] theorem setC_strands (s : State) (c : Csrs) : (s.setC c).strands = s.strands := rfl
@[simp] theorem setC_cores (s : State) (c : Csrs) : (s.setC c).cores = s.cores := rfl
@[simp] theorem setC_dies (s : State) (c : Csrs) : (s.setC c).dies = s.dies := rfl
@[simp] theorem setC_mem (s : State) (c : Csrs) : (s.setC c).mem = s.mem := rfl
@[simp] theorem setC_tags (s : State) (c : Csrs) : (s.setC c).tags = s.tags := rfl
@[simp] theorem setC_front (s : State) (c : Csrs) : (s.setC c).front = s.front := rfl
@[simp] theorem setC_starter (s : State) (c : Csrs) : (s.setC c).starter = s.starter := rfl
@[simp] theorem setC_homes (s : State) (c : Csrs) : (s.setC c).homes = s.homes := rfl
@[simp] theorem setC_rounds (s : State) (c : Csrs) : (s.setC c).rounds = s.rounds := rfl
@[simp] theorem setC_relaySeq (s : State) (c : Csrs) : (s.setC c).relaySeq = s.relaySeq := rfl
@[simp] theorem setC_dclkw (s : State) (c : Csrs) : (s.setC c).dclkw = s.dclkw := rfl
@[simp] theorem setC_sched (s : State) (c : Csrs) : (s.setC c).sched = s.sched := rfl
@[simp] theorem setC_fresh (s : State) (c : Csrs) : (s.setC c).fresh = s.fresh := rfl
@[simp] theorem setC_nextSid (s : State) (c : Csrs) : (s.setC c).nextSid = s.nextSid := rfl
@[simp] theorem setC_mark (s : State) (c : Csrs) : (s.setC c).mark = s.mark := rfl
@[simp] theorem setC_cur_id (s : State) (c : Csrs) : (s.setC c).cur.id = s.cur.id := rfl
@[simp] theorem setC_cur_pc (s : State) (c : Csrs) : (s.setC c).cur.pc = s.cur.pc := rfl
@[simp] theorem setC_cur_x (s : State) (c : Csrs) : (s.setC c).cur.x = s.cur.x := rfl
@[simp] theorem setC_cur_v (s : State) (c : Csrs) : (s.setC c).cur.v = s.cur.v := rfl
@[simp] theorem setC_cur_grant (s : State) (c : Csrs) : (s.setC c).cur.grant = s.cur.grant := rfl
@[simp] theorem setC_cur_c (s : State) (c : Csrs) : (s.setC c).cur.c = c := rfl
@[simp] theorem setC_cur_streams (s : State) (c : Csrs) : (s.setC c).cur.streams = s.cur.streams := rfl
@[simp] theorem setC_cur_wlog (s : State) (c : Csrs) : (s.setC c).cur.wlog = s.cur.wlog := rfl
@[simp] theorem setC_cur_link (s : State) (c : Csrs) : (s.setC c).cur.link = s.cur.link := rfl
@[simp] theorem setC_cur_records (s : State) (c : Csrs) : (s.setC c).cur.records = s.cur.records := rfl
@[simp] theorem setC_cur_slots (s : State) (c : Csrs) : (s.setC c).cur.slots = s.cur.slots := rfl
@[simp] theorem setC_cur_group (s : State) (c : Csrs) : (s.setC c).cur.group = s.cur.group := rfl
@[simp] theorem setC_cur_hold (s : State) (c : Csrs) : (s.setC c).cur.hold = s.cur.hold := rfl
@[simp] theorem setC_cur_run (s : State) (c : Csrs) : (s.setC c).cur.run = s.cur.run := rfl
@[simp] theorem setC_cur_stall (s : State) (c : Csrs) : (s.setC c).cur.stall = s.cur.stall := rfl
@[simp] theorem setC_cur_due (s : State) (c : Csrs) : (s.setC c).cur.due = s.cur.due := rfl
@[simp] theorem setC_cur_entry (s : State) (c : Csrs) : (s.setC c).cur.entry = s.cur.entry := rfl
@[simp] theorem setC_cur_blockedOn (s : State) (c : Csrs) : (s.setC c).cur.blockedOn = s.cur.blockedOn := rfl
@[simp] theorem setC_cur_request (s : State) (c : Csrs) : (s.setC c).cur.request = s.cur.request := rfl
@[simp] theorem setC_cur_sent (s : State) (c : Csrs) : (s.setC c).cur.sent = s.cur.sent := rfl
@[simp] theorem setC_cur_aged (s : State) (c : Csrs) : (s.setC c).cur.aged = s.cur.aged := rfl
@[simp] theorem setC_cur_dbg (s : State) (c : Csrs) : (s.setC c).cur.dbg = s.cur.dbg := rfl
@[simp] theorem setC_cur_escal (s : State) (c : Csrs) : (s.setC c).cur.escal = s.cur.escal := rfl
@[simp] theorem setC_cur_stay (s : State) (c : Csrs) : (s.setC c).cur.stay = s.cur.stay := rfl
@[simp] theorem setC_cur_nestAt (s : State) (c : Csrs) : (s.setC c).cur.nestAt = s.cur.nestAt := rfl
@[simp] theorem setC_cur_repeats (s : State) (c : Csrs) : (s.setC c).cur.repeats = s.cur.repeats := rfl
@[simp] theorem setC_cur_again (s : State) (c : Csrs) : (s.setC c).cur.again = s.cur.again := rfl
@[simp] theorem setC_cur_pos (s : State) (c : Csrs) : (s.setC c).cur.pos = s.cur.pos := rfl
@[simp] theorem setC_cur_stepping (s : State) (c : Csrs) : (s.setC c).cur.stepping = s.cur.stepping := rfl
@[simp] theorem setC_cur_saveAt (s : State) (c : Csrs) : (s.setC c).cur.saveAt = s.cur.saveAt := rfl
@[simp] theorem setC_cur_repEpc (s : State) (c : Csrs) : (s.setC c).cur.repEpc = s.cur.repEpc := rfl
@[simp] theorem setC_cur_repCode (s : State) (c : Csrs) : (s.setC c).cur.repCode = s.cur.repCode := rfl
@[simp] theorem setC_cur_haltTurned (s : State) (c : Csrs) : (s.setC c).cur.haltTurned = s.cur.haltTurned := rfl
@[simp] theorem setC_cur_search (s : State) (c : Csrs) : (s.setC c).cur.search = s.cur.search := rfl
@[simp] theorem setC_cur_progress (s : State) (c : Csrs) : (s.setC c).cur.progress = s.cur.progress := rfl

/-! ### The next position in program order -/

@[simp] theorem bump_core (s : State) : (s.bump).core = s.core := rfl
@[simp] theorem bump_strands (s : State) : (s.bump).strands = s.strands := rfl
@[simp] theorem bump_cores (s : State) : (s.bump).cores = s.cores := rfl
@[simp] theorem bump_dies (s : State) : (s.bump).dies = s.dies := rfl
@[simp] theorem bump_mem (s : State) : (s.bump).mem = s.mem := rfl
@[simp] theorem bump_tags (s : State) : (s.bump).tags = s.tags := rfl
@[simp] theorem bump_front (s : State) : (s.bump).front = s.front := rfl
@[simp] theorem bump_starter (s : State) : (s.bump).starter = s.starter := rfl
@[simp] theorem bump_homes (s : State) : (s.bump).homes = s.homes := rfl
@[simp] theorem bump_rounds (s : State) : (s.bump).rounds = s.rounds := rfl
@[simp] theorem bump_relaySeq (s : State) : (s.bump).relaySeq = s.relaySeq := rfl
@[simp] theorem bump_dclkw (s : State) : (s.bump).dclkw = s.dclkw := rfl
@[simp] theorem bump_sched (s : State) : (s.bump).sched = s.sched := rfl
@[simp] theorem bump_fresh (s : State) : (s.bump).fresh = s.fresh := rfl
@[simp] theorem bump_nextSid (s : State) : (s.bump).nextSid = s.nextSid := rfl
@[simp] theorem bump_mark (s : State) : (s.bump).mark = s.mark := rfl
@[simp] theorem bump_cur_id (s : State) : (s.bump).cur.id = s.cur.id := rfl
@[simp] theorem bump_cur_pc (s : State) : (s.bump).cur.pc = s.cur.pc := rfl
@[simp] theorem bump_cur_x (s : State) : (s.bump).cur.x = s.cur.x := rfl
@[simp] theorem bump_cur_v (s : State) : (s.bump).cur.v = s.cur.v := rfl
@[simp] theorem bump_cur_grant (s : State) : (s.bump).cur.grant = s.cur.grant := rfl
@[simp] theorem bump_cur_c (s : State) : (s.bump).cur.c = s.cur.c := rfl
@[simp] theorem bump_cur_streams (s : State) : (s.bump).cur.streams = s.cur.streams := rfl
@[simp] theorem bump_cur_wlog (s : State) : (s.bump).cur.wlog = s.cur.wlog := rfl
@[simp] theorem bump_cur_link (s : State) : (s.bump).cur.link = s.cur.link := rfl
@[simp] theorem bump_cur_records (s : State) : (s.bump).cur.records = s.cur.records := rfl
@[simp] theorem bump_cur_slots (s : State) : (s.bump).cur.slots = s.cur.slots := rfl
@[simp] theorem bump_cur_group (s : State) : (s.bump).cur.group = s.cur.group := rfl
@[simp] theorem bump_cur_hold (s : State) : (s.bump).cur.hold = s.cur.hold := rfl
@[simp] theorem bump_cur_run (s : State) : (s.bump).cur.run = s.cur.run := rfl
@[simp] theorem bump_cur_stall (s : State) : (s.bump).cur.stall = s.cur.stall := rfl
@[simp] theorem bump_cur_due (s : State) : (s.bump).cur.due = s.cur.due := rfl
@[simp] theorem bump_cur_entry (s : State) : (s.bump).cur.entry = s.cur.entry := rfl
@[simp] theorem bump_cur_blockedOn (s : State) : (s.bump).cur.blockedOn = s.cur.blockedOn := rfl
@[simp] theorem bump_cur_request (s : State) : (s.bump).cur.request = s.cur.request := rfl
@[simp] theorem bump_cur_sent (s : State) : (s.bump).cur.sent = s.cur.sent := rfl
@[simp] theorem bump_cur_aged (s : State) : (s.bump).cur.aged = s.cur.aged := rfl
@[simp] theorem bump_cur_dbg (s : State) : (s.bump).cur.dbg = s.cur.dbg := rfl
@[simp] theorem bump_cur_escal (s : State) : (s.bump).cur.escal = s.cur.escal := rfl
@[simp] theorem bump_cur_stay (s : State) : (s.bump).cur.stay = s.cur.stay := rfl
@[simp] theorem bump_cur_nestAt (s : State) : (s.bump).cur.nestAt = s.cur.nestAt := rfl
@[simp] theorem bump_cur_repeats (s : State) : (s.bump).cur.repeats = s.cur.repeats := rfl
@[simp] theorem bump_cur_again (s : State) : (s.bump).cur.again = s.cur.again := rfl
@[simp] theorem bump_cur_pos (s : State) : (s.bump).cur.pos = s.cur.pos + 1 := rfl
@[simp] theorem bump_cur_stepping (s : State) : (s.bump).cur.stepping = s.cur.stepping := rfl
@[simp] theorem bump_cur_saveAt (s : State) : (s.bump).cur.saveAt = s.cur.saveAt := rfl
@[simp] theorem bump_cur_repEpc (s : State) : (s.bump).cur.repEpc = s.cur.repEpc := rfl
@[simp] theorem bump_cur_repCode (s : State) : (s.bump).cur.repCode = s.cur.repCode := rfl
@[simp] theorem bump_cur_haltTurned (s : State) : (s.bump).cur.haltTurned = s.cur.haltTurned := rfl
@[simp] theorem bump_cur_search (s : State) : (s.bump).cur.search = s.cur.search := rfl
@[simp] theorem bump_cur_progress (s : State) : (s.bump).cur.progress = s.cur.progress := rfl

/-! ### A scalar register (R177) -/

@[simp] theorem wx_core (s : State) (r : Reg) (v : Word) : (s.wx r v).core = s.core := rfl
@[simp] theorem wx_strands (s : State) (r : Reg) (v : Word) : (s.wx r v).strands = s.strands := rfl
@[simp] theorem wx_cores (s : State) (r : Reg) (v : Word) : (s.wx r v).cores = s.cores := rfl
@[simp] theorem wx_dies (s : State) (r : Reg) (v : Word) : (s.wx r v).dies = s.dies := rfl
@[simp] theorem wx_mem (s : State) (r : Reg) (v : Word) : (s.wx r v).mem = s.mem := rfl
@[simp] theorem wx_tags (s : State) (r : Reg) (v : Word) : (s.wx r v).tags = s.tags := rfl
@[simp] theorem wx_front (s : State) (r : Reg) (v : Word) : (s.wx r v).front = s.front := rfl
@[simp] theorem wx_starter (s : State) (r : Reg) (v : Word) : (s.wx r v).starter = s.starter := rfl
@[simp] theorem wx_homes (s : State) (r : Reg) (v : Word) : (s.wx r v).homes = s.homes := rfl
@[simp] theorem wx_rounds (s : State) (r : Reg) (v : Word) : (s.wx r v).rounds = s.rounds := rfl
@[simp] theorem wx_relaySeq (s : State) (r : Reg) (v : Word) : (s.wx r v).relaySeq = s.relaySeq := rfl
@[simp] theorem wx_dclkw (s : State) (r : Reg) (v : Word) : (s.wx r v).dclkw = s.dclkw := rfl
@[simp] theorem wx_sched (s : State) (r : Reg) (v : Word) : (s.wx r v).sched = s.sched := rfl
@[simp] theorem wx_fresh (s : State) (r : Reg) (v : Word) : (s.wx r v).fresh = s.fresh := rfl
@[simp] theorem wx_nextSid (s : State) (r : Reg) (v : Word) : (s.wx r v).nextSid = s.nextSid := rfl
@[simp] theorem wx_mark (s : State) (r : Reg) (v : Word) : (s.wx r v).mark = s.mark := rfl
@[simp] theorem wx_cur_id (s : State) (r : Reg) (v : Word) : (s.wx r v).cur.id = s.cur.id := by unfold State.wx Strand.wx; split <;> rfl
@[simp] theorem wx_cur_pc (s : State) (r : Reg) (v : Word) : (s.wx r v).cur.pc = s.cur.pc := by unfold State.wx Strand.wx; split <;> rfl
@[simp] theorem wx_cur_x (s : State) (r : Reg) (v : Word) : (s.wx r v).cur.x = if r = 0 then s.cur.x else s.cur.x.set r.toNat v r.isLt := by unfold State.wx Strand.wx; split <;> rfl
@[simp] theorem wx_cur_v (s : State) (r : Reg) (v : Word) : (s.wx r v).cur.v = s.cur.v := by unfold State.wx Strand.wx; split <;> rfl
@[simp] theorem wx_cur_grant (s : State) (r : Reg) (v : Word) : (s.wx r v).cur.grant = s.cur.grant := by unfold State.wx Strand.wx; split <;> rfl
@[simp] theorem wx_cur_c (s : State) (r : Reg) (v : Word) : (s.wx r v).cur.c = s.cur.c := by unfold State.wx Strand.wx; split <;> rfl
@[simp] theorem wx_cur_streams (s : State) (r : Reg) (v : Word) : (s.wx r v).cur.streams = s.cur.streams := by unfold State.wx Strand.wx; split <;> rfl
@[simp] theorem wx_cur_wlog (s : State) (r : Reg) (v : Word) : (s.wx r v).cur.wlog = s.cur.wlog := by unfold State.wx Strand.wx; split <;> rfl
@[simp] theorem wx_cur_link (s : State) (r : Reg) (v : Word) : (s.wx r v).cur.link = s.cur.link := by unfold State.wx Strand.wx; split <;> rfl
@[simp] theorem wx_cur_records (s : State) (r : Reg) (v : Word) : (s.wx r v).cur.records = s.cur.records := by unfold State.wx Strand.wx; split <;> rfl
@[simp] theorem wx_cur_slots (s : State) (r : Reg) (v : Word) : (s.wx r v).cur.slots = s.cur.slots := by unfold State.wx Strand.wx; split <;> rfl
@[simp] theorem wx_cur_group (s : State) (r : Reg) (v : Word) : (s.wx r v).cur.group = s.cur.group := by unfold State.wx Strand.wx; split <;> rfl
@[simp] theorem wx_cur_hold (s : State) (r : Reg) (v : Word) : (s.wx r v).cur.hold = s.cur.hold := by unfold State.wx Strand.wx; split <;> rfl
@[simp] theorem wx_cur_run (s : State) (r : Reg) (v : Word) : (s.wx r v).cur.run = s.cur.run := by unfold State.wx Strand.wx; split <;> rfl
@[simp] theorem wx_cur_stall (s : State) (r : Reg) (v : Word) : (s.wx r v).cur.stall = s.cur.stall := by unfold State.wx Strand.wx; split <;> rfl
@[simp] theorem wx_cur_due (s : State) (r : Reg) (v : Word) : (s.wx r v).cur.due = s.cur.due := by unfold State.wx Strand.wx; split <;> rfl
@[simp] theorem wx_cur_entry (s : State) (r : Reg) (v : Word) : (s.wx r v).cur.entry = s.cur.entry := by unfold State.wx Strand.wx; split <;> rfl
@[simp] theorem wx_cur_blockedOn (s : State) (r : Reg) (v : Word) : (s.wx r v).cur.blockedOn = s.cur.blockedOn := by unfold State.wx Strand.wx; split <;> rfl
@[simp] theorem wx_cur_request (s : State) (r : Reg) (v : Word) : (s.wx r v).cur.request = s.cur.request := by unfold State.wx Strand.wx; split <;> rfl
@[simp] theorem wx_cur_sent (s : State) (r : Reg) (v : Word) : (s.wx r v).cur.sent = s.cur.sent := by unfold State.wx Strand.wx; split <;> rfl
@[simp] theorem wx_cur_aged (s : State) (r : Reg) (v : Word) : (s.wx r v).cur.aged = s.cur.aged := by unfold State.wx Strand.wx; split <;> rfl
@[simp] theorem wx_cur_dbg (s : State) (r : Reg) (v : Word) : (s.wx r v).cur.dbg = s.cur.dbg := by unfold State.wx Strand.wx; split <;> rfl
@[simp] theorem wx_cur_escal (s : State) (r : Reg) (v : Word) : (s.wx r v).cur.escal = s.cur.escal := by unfold State.wx Strand.wx; split <;> rfl
@[simp] theorem wx_cur_stay (s : State) (r : Reg) (v : Word) : (s.wx r v).cur.stay = s.cur.stay := by unfold State.wx Strand.wx; split <;> rfl
@[simp] theorem wx_cur_nestAt (s : State) (r : Reg) (v : Word) : (s.wx r v).cur.nestAt = s.cur.nestAt := by unfold State.wx Strand.wx; split <;> rfl
@[simp] theorem wx_cur_repeats (s : State) (r : Reg) (v : Word) : (s.wx r v).cur.repeats = s.cur.repeats := by unfold State.wx Strand.wx; split <;> rfl
@[simp] theorem wx_cur_again (s : State) (r : Reg) (v : Word) : (s.wx r v).cur.again = s.cur.again := by unfold State.wx Strand.wx; split <;> rfl
@[simp] theorem wx_cur_pos (s : State) (r : Reg) (v : Word) : (s.wx r v).cur.pos = s.cur.pos := by unfold State.wx Strand.wx; split <;> rfl
@[simp] theorem wx_cur_stepping (s : State) (r : Reg) (v : Word) : (s.wx r v).cur.stepping = s.cur.stepping := by unfold State.wx Strand.wx; split <;> rfl
@[simp] theorem wx_cur_saveAt (s : State) (r : Reg) (v : Word) : (s.wx r v).cur.saveAt = s.cur.saveAt := by unfold State.wx Strand.wx; split <;> rfl
@[simp] theorem wx_cur_repEpc (s : State) (r : Reg) (v : Word) : (s.wx r v).cur.repEpc = s.cur.repEpc := by unfold State.wx Strand.wx; split <;> rfl
@[simp] theorem wx_cur_repCode (s : State) (r : Reg) (v : Word) : (s.wx r v).cur.repCode = s.cur.repCode := by unfold State.wx Strand.wx; split <;> rfl
@[simp] theorem wx_cur_haltTurned (s : State) (r : Reg) (v : Word) : (s.wx r v).cur.haltTurned = s.cur.haltTurned := by unfold State.wx Strand.wx; split <;> rfl
@[simp] theorem wx_cur_search (s : State) (r : Reg) (v : Word) : (s.wx r v).cur.search = s.cur.search := by unfold State.wx Strand.wx; split <;> rfl
@[simp] theorem wx_cur_progress (s : State) (r : Reg) (v : Word) : (s.wx r v).cur.progress = s.cur.progress := by unfold State.wx Strand.wx; split <;> rfl

/-! ### The tag of a line -/

@[simp] theorem setTag_core (s : State) (l : Nat) (t : Tag) : (s.setTag l t).core = s.core := rfl
@[simp] theorem setTag_strands (s : State) (l : Nat) (t : Tag) : (s.setTag l t).strands = s.strands := rfl
@[simp] theorem setTag_cores (s : State) (l : Nat) (t : Tag) : (s.setTag l t).cores = s.cores := rfl
@[simp] theorem setTag_dies (s : State) (l : Nat) (t : Tag) : (s.setTag l t).dies = s.dies := rfl
@[simp] theorem setTag_mem (s : State) (l : Nat) (t : Tag) : (s.setTag l t).mem = s.mem := rfl
@[simp] theorem setTag_tags (s : State) (l : Nat) (t : Tag) : (s.setTag l t).tags = Tags.set s.tags l t := rfl
@[simp] theorem setTag_front (s : State) (l : Nat) (t : Tag) : (s.setTag l t).front = s.front := rfl
@[simp] theorem setTag_starter (s : State) (l : Nat) (t : Tag) : (s.setTag l t).starter = s.starter := rfl
@[simp] theorem setTag_homes (s : State) (l : Nat) (t : Tag) : (s.setTag l t).homes = s.homes := rfl
@[simp] theorem setTag_rounds (s : State) (l : Nat) (t : Tag) : (s.setTag l t).rounds = s.rounds := rfl
@[simp] theorem setTag_relaySeq (s : State) (l : Nat) (t : Tag) : (s.setTag l t).relaySeq = s.relaySeq := rfl
@[simp] theorem setTag_dclkw (s : State) (l : Nat) (t : Tag) : (s.setTag l t).dclkw = s.dclkw := rfl
@[simp] theorem setTag_sched (s : State) (l : Nat) (t : Tag) : (s.setTag l t).sched = s.sched := rfl
@[simp] theorem setTag_fresh (s : State) (l : Nat) (t : Tag) : (s.setTag l t).fresh = s.fresh := rfl
@[simp] theorem setTag_nextSid (s : State) (l : Nat) (t : Tag) : (s.setTag l t).nextSid = s.nextSid := rfl
@[simp] theorem setTag_mark (s : State) (l : Nat) (t : Tag) : (s.setTag l t).mark = s.mark := rfl
@[simp] theorem setTag_cur (s : State) (l : Nat) (t : Tag) : (s.setTag l t).cur = s.cur := rfl

/-! ### Bytes of memory -/

@[simp] theorem setBytes_core (s : State) (key : Nat) (bs : List Byte) : (s.setBytes key bs).core = s.core := rfl
@[simp] theorem setBytes_strands (s : State) (key : Nat) (bs : List Byte) : (s.setBytes key bs).strands = s.strands := rfl
@[simp] theorem setBytes_cores (s : State) (key : Nat) (bs : List Byte) : (s.setBytes key bs).cores = s.cores := rfl
@[simp] theorem setBytes_dies (s : State) (key : Nat) (bs : List Byte) : (s.setBytes key bs).dies = s.dies := rfl
@[simp] theorem setBytes_mem (s : State) (key : Nat) (bs : List Byte) : (s.setBytes key bs).mem = Memory.setBytes s.mem key bs := rfl
@[simp] theorem setBytes_tags (s : State) (key : Nat) (bs : List Byte) : (s.setBytes key bs).tags = s.tags := rfl
@[simp] theorem setBytes_front (s : State) (key : Nat) (bs : List Byte) : (s.setBytes key bs).front = s.front := rfl
@[simp] theorem setBytes_starter (s : State) (key : Nat) (bs : List Byte) : (s.setBytes key bs).starter = s.starter := rfl
@[simp] theorem setBytes_homes (s : State) (key : Nat) (bs : List Byte) : (s.setBytes key bs).homes = s.homes := rfl
@[simp] theorem setBytes_rounds (s : State) (key : Nat) (bs : List Byte) : (s.setBytes key bs).rounds = s.rounds := rfl
@[simp] theorem setBytes_relaySeq (s : State) (key : Nat) (bs : List Byte) : (s.setBytes key bs).relaySeq = s.relaySeq := rfl
@[simp] theorem setBytes_dclkw (s : State) (key : Nat) (bs : List Byte) : (s.setBytes key bs).dclkw = s.dclkw := rfl
@[simp] theorem setBytes_sched (s : State) (key : Nat) (bs : List Byte) : (s.setBytes key bs).sched = s.sched := rfl
@[simp] theorem setBytes_fresh (s : State) (key : Nat) (bs : List Byte) : (s.setBytes key bs).fresh = s.fresh := rfl
@[simp] theorem setBytes_nextSid (s : State) (key : Nat) (bs : List Byte) : (s.setBytes key bs).nextSid = s.nextSid := rfl
@[simp] theorem setBytes_mark (s : State) (key : Nat) (bs : List Byte) : (s.setBytes key bs).mark = s.mark := rfl
@[simp] theorem setBytes_cur (s : State) (key : Nat) (bs : List Byte) : (s.setBytes key bs).cur = s.cur := rfl

/-! ### A vector register of a strand -/

@[simp] theorem setV_id (t : Strand) (r : Reg) (v : VReg) : (t.setV r v).id = t.id := rfl
@[simp] theorem setV_pc (t : Strand) (r : Reg) (v : VReg) : (t.setV r v).pc = t.pc := rfl
@[simp] theorem setV_x (t : Strand) (r : Reg) (v : VReg) : (t.setV r v).x = t.x := rfl
@[simp] theorem setV_v (t : Strand) (r : Reg) (v : VReg) : (t.setV r v).v = t.v.set r.toNat v r.isLt := rfl
@[simp] theorem setV_grant (t : Strand) (r : Reg) (v : VReg) : (t.setV r v).grant = t.grant := rfl
@[simp] theorem setV_c (t : Strand) (r : Reg) (v : VReg) : (t.setV r v).c = t.c := rfl
@[simp] theorem setV_streams (t : Strand) (r : Reg) (v : VReg) : (t.setV r v).streams = t.streams := rfl
@[simp] theorem setV_wlog (t : Strand) (r : Reg) (v : VReg) : (t.setV r v).wlog = t.wlog := rfl
@[simp] theorem setV_link (t : Strand) (r : Reg) (v : VReg) : (t.setV r v).link = t.link := rfl
@[simp] theorem setV_records (t : Strand) (r : Reg) (v : VReg) : (t.setV r v).records = t.records := rfl
@[simp] theorem setV_slots (t : Strand) (r : Reg) (v : VReg) : (t.setV r v).slots = t.slots := rfl
@[simp] theorem setV_group (t : Strand) (r : Reg) (v : VReg) : (t.setV r v).group = t.group := rfl
@[simp] theorem setV_hold (t : Strand) (r : Reg) (v : VReg) : (t.setV r v).hold = t.hold := rfl
@[simp] theorem setV_run (t : Strand) (r : Reg) (v : VReg) : (t.setV r v).run = t.run := rfl
@[simp] theorem setV_stall (t : Strand) (r : Reg) (v : VReg) : (t.setV r v).stall = t.stall := rfl
@[simp] theorem setV_due (t : Strand) (r : Reg) (v : VReg) : (t.setV r v).due = t.due := rfl
@[simp] theorem setV_entry (t : Strand) (r : Reg) (v : VReg) : (t.setV r v).entry = t.entry := rfl
@[simp] theorem setV_blockedOn (t : Strand) (r : Reg) (v : VReg) : (t.setV r v).blockedOn = t.blockedOn := rfl
@[simp] theorem setV_request (t : Strand) (r : Reg) (v : VReg) : (t.setV r v).request = t.request := rfl
@[simp] theorem setV_sent (t : Strand) (r : Reg) (v : VReg) : (t.setV r v).sent = t.sent := rfl
@[simp] theorem setV_aged (t : Strand) (r : Reg) (v : VReg) : (t.setV r v).aged = t.aged := rfl
@[simp] theorem setV_dbg (t : Strand) (r : Reg) (v : VReg) : (t.setV r v).dbg = t.dbg := rfl
@[simp] theorem setV_escal (t : Strand) (r : Reg) (v : VReg) : (t.setV r v).escal = t.escal := rfl
@[simp] theorem setV_stay (t : Strand) (r : Reg) (v : VReg) : (t.setV r v).stay = t.stay := rfl
@[simp] theorem setV_nestAt (t : Strand) (r : Reg) (v : VReg) : (t.setV r v).nestAt = t.nestAt := rfl
@[simp] theorem setV_repeats (t : Strand) (r : Reg) (v : VReg) : (t.setV r v).repeats = t.repeats := rfl
@[simp] theorem setV_again (t : Strand) (r : Reg) (v : VReg) : (t.setV r v).again = t.again := rfl
@[simp] theorem setV_pos (t : Strand) (r : Reg) (v : VReg) : (t.setV r v).pos = t.pos := rfl
@[simp] theorem setV_stepping (t : Strand) (r : Reg) (v : VReg) : (t.setV r v).stepping = t.stepping := rfl
@[simp] theorem setV_saveAt (t : Strand) (r : Reg) (v : VReg) : (t.setV r v).saveAt = t.saveAt := rfl
@[simp] theorem setV_repEpc (t : Strand) (r : Reg) (v : VReg) : (t.setV r v).repEpc = t.repEpc := rfl
@[simp] theorem setV_repCode (t : Strand) (r : Reg) (v : VReg) : (t.setV r v).repCode = t.repCode := rfl
@[simp] theorem setV_haltTurned (t : Strand) (r : Reg) (v : VReg) : (t.setV r v).haltTurned = t.haltTurned := rfl
@[simp] theorem setV_search (t : Strand) (r : Reg) (v : VReg) : (t.setV r v).search = t.search := rfl
@[simp] theorem setV_progress (t : Strand) (r : Reg) (v : VReg) : (t.setV r v).progress = t.progress := rfl

/-! ### Reading registers back (R177) -/

@[simp] theorem rx_zero (s : State) : s.rx 0 = 0 := by simp [State.rx]

@[simp] theorem wx_zero (s : State) (v : Word) : s.wx 0 v = s := by simp [State.wx, Strand.wx]

theorem rx_wx_same (s : State) {r : Reg} (h : r ≠ 0) (v : Word) : (s.wx r v).rx r = v := by
  have h' : r ≠ 0#5 := h
  simp [State.rx, State.wx, Strand.wx, h']

theorem rx_wx_other (s : State) {r q : Reg} (h : q ≠ r) (v : Word) : (s.wx r v).rx q = s.rx q := by
  have h' : r.toNat ≠ q.toNat := fun e => h (BitVec.eq_of_toNat_eq e.symm)
  by_cases hr : r = 0
  · rw [hr, wx_zero]
  · have hr' : r ≠ 0#5 := hr
    simp [State.rx, State.wx, Strand.wx, hr', h']

@[simp] theorem rx_adv (s : State) (r : Reg) : s.adv.rx r = s.rx r := rfl
@[simp] theorem rx_jump (s : State) (p : Word) (r : Reg) : (s.jump p).rx r = s.rx r := rfl
@[simp] theorem rx_setC (s : State) (c : Csrs) (r : Reg) : (s.setC c).rx r = s.rx r := rfl
@[simp] theorem rx_bump (s : State) (r : Reg) : s.bump.rx r = s.rx r := rfl
@[simp] theorem rx_setTag (s : State) (l : Nat) (t : Tag) (r : Reg) : (s.setTag l t).rx r = s.rx r := rfl
@[simp] theorem rx_setBytes (s : State) (k : Nat) (bs : List Byte) (r : Reg) : (s.setBytes k bs).rx r = s.rx r := rfl

theorem vr_setV_same (t : Strand) (r : Reg) (v : VReg) : (t.setV r v).vr r = v := by
  simp [Strand.vr, Strand.setV]

theorem vr_setV_other (t : Strand) {r q : Reg} (h : q ≠ r) (v : VReg) : (t.setV r v).vr q = t.vr q := by
  have h' : r.toNat ≠ q.toNat := fun e => h (BitVec.eq_of_toNat_eq e.symm)
  simp [Strand.vr, Strand.setV, h']

end Sys2Proof.Laws
end

