-- ==== Sys2Proof/Laws/Cur.lean ====
section
/-! SUPPORT. The operations on memory, homes, translation and code leave the issuing strand as it is. -/

namespace Sys2Proof.Laws

open Machine

set_option Elab.async false
set_option linter.all false

theorem foldl_cur {α : Type} (f : State → α → State) (h : ∀ s x, (f s x).cur = s.cur) :
    ∀ (l : List α) (s : State), (l.foldl f s).cur = s.cur
  | [], _ => rfl
  | x :: r, s => (foldl_cur f h r (f s x)).trans (h s x)

theorem setCore_cur (s : State) (k : Core) :
    (State.setCore s k).cur = s.cur := by
  grind [State.setCore]

theorem onCore_cur (s : State) (n : Nat) (f : Core → Core) :
    (State.onCore s n f).cur = s.cur := by
  grind [State.onCore, setCore_cur]

theorem onCores_cur (s : State) (f : Core → Core) :
    (State.onCores s f).cur = s.cur := by
  grind [State.onCores]

theorem setDie_cur (s : State) (d : Die) :
    (State.setDie s d).cur = s.cur := by
  grind [State.setDie]

theorem onDie_cur (s : State) (n : Nat) (f : Die → Die) :
    (State.onDie s n f).cur = s.cur := by
  grind [State.onDie, setDie_cur]

theorem passes_cur (s : State) (dies : List Nat) : (s.passes dies).cur = s.cur := rfl

theorem touch_cur (s : State) (key : Nat) :
    (State.touch s key).cur = s.cur := by
  grind [State.touch, passes_cur]

theorem draw_cur (s : State) :
    (State.draw s).2.cur = s.cur := by
  grind [State.draw]

theorem invalidateAll_cur (s : State) (first : Nat) (last : Nat) :
    (State.invalidateAll s first last).cur = s.cur := by
  grind [State.invalidateAll, onCores_cur, passes_cur]

theorem decodes_cur (s : State) (l source : Nat) (writer : BitVec 12) : (s.decodes l source writer).cur = s.cur := by
  grind [State.decodes]

theorem decodesIn_cur (s : State) (first last source : Nat) (writer : BitVec 12) : (s.decodesIn first last source writer).cur = s.cur := by
  grind [State.decodesIn, decodes_cur]

theorem routeEntry_cur (s : State) (die : Nat) (target : Nat) :
    (State.routeEntry s die target).2.cur = s.cur := by
  unfold State.routeEntry
  repeat' split
  all_goals simp only [onDie_cur, decodes_cur, passes_cur, touch_cur]

theorem portFor_cur (s : State) (core : Nat) (key : Nat) :
    (State.portFor s core key).2.cur = s.cur := by
  grind [State.portFor, routeEntry_cur]

theorem reachable_cur (s : State) (core : Nat) (key : Nat) :
    (State.reachable s core key).2.cur = s.cur := by
  grind [State.reachable, portFor_cur]

theorem waitNet_cur (s : State) :
    (State.waitNet s).cur = s.cur := by
  grind [State.waitNet]

theorem loss_cur (s : State) :
    (State.loss s).2.cur = s.cur := by
  grind [State.loss]

theorem emit_cur (s : State) (p target channel : Nat) (lane : Option Nat) (n : Nat) : (s.emit p target channel lane n).cur = s.cur := rfl

theorem crosses_cur (s : State) (core : Nat) (writer : BitVec 12) (key n : Nat) :
    (State.crosses s core writer key n).2.cur = s.cur := by
  grind [State.crosses, portFor_cur, passes_cur, emit_cur, waitNet_cur, loss_cur]

theorem reads_cur (s : State) (writer : BitVec 12) (l : Nat) :
    (State.reads s writer l).cur = s.cur := by
  grind [State.reads, touch_cur, decodes_cur, waitNet_cur]

theorem atHome_cur (s : State) (core : Nat) (writer : BitVec 12) (least : Nat) (l : Nat) :
    (State.atHome s core writer least l).2.cur = s.cur := by
  grind [State.atHome, crosses_cur, reads_cur]

theorem readLineAs_cur (s : State) (core : Nat) (writer : BitVec 12) (least : Nat) (l : Nat) :
    (State.readLineAs s core writer least l).2.cur = s.cur := by
  grind [State.readLineAs, onCore_cur, draw_cur, atHome_cur]

theorem readLine_cur (s : State) (core : Nat) (writer : BitVec 12) (l : Nat) :
    (State.readLine s core writer l).2.cur = s.cur := by
  grind [State.readLine, readLineAs_cur]

theorem coreLine_cur (s : State) (core : Nat) (writer : BitVec 12) (l : Nat) :
    (State.coreLine s core writer l).2.cur = s.cur := by
  grind [State.coreLine, readLineAs_cur]

theorem codeLine_cur (s : State) (core : Nat) (writer : BitVec 12) (l : Nat) :
    (State.codeLine s core writer l).2.cur = s.cur := by
  grind [State.codeLine, onCore_cur, draw_cur, atHome_cur]

theorem readHome_cur (s : State) (core : Nat) (writer : BitVec 12) (l : Nat) :
    (State.readHome s core writer l).2.cur = s.cur := by
  grind [State.readHome, atHome_cur, onCore_cur]

theorem landFrom_cur (s : State) (m : BitVec 18) (l : Nat) (w : BitVec 12) (mask : BitVec 64) (data : Line) :
    (State.landFrom s m l w mask data).2.cur = s.cur := by
  grind [State.landFrom, touch_cur, decodes_cur]

theorem landAt_cur (s : State) (l : Nat) (w : BitVec 12) (mask : BitVec 64) (data : Line) :
    (State.landAt s l w mask data).2.cur = s.cur := by
  grind [State.landAt, landFrom_cur]

theorem walk_cur (s : State) (a : Agent) (va : Nat) (fuel : Nat) (level : Nat) (table : Nat) :
    (State.walk s a va fuel level table).2.cur = s.cur := by
  induction fuel generalizing s a va level table <;> grind [State.walk, coreLine_cur]

theorem lookup_cur (s : State) (a : Agent) (va : Nat) :
    (State.lookup s a va).2.cur = s.cur := by
  grind [State.lookup, onCore_cur, onDie_cur, draw_cur, walk_cur]

theorem translate_cur (s : State) (a : Agent) (va : Word) (need : Need) :
    (State.translate s a va need).2.cur = s.cur := by
  grind [State.translate, lookup_cur]

theorem resolveAddr_cur (s : State) (a : Agent) (va : Word) (need : Need) :
    (State.resolveAddr s a va need).2.cur = s.cur := by
  grind [State.resolveAddr, translate_cur]

theorem fetch_cur (s : State) (a : Agent) (pc : Word) :
    (State.fetch s a pc).2.cur = s.cur := by
  grind [State.fetch, codeLine_cur, translate_cur]

theorem target_cur (s : State) (a : Agent) (p : Word) :
    (State.target s a p).2.cur = s.cur := by
  grind [State.target, fetch_cur]

theorem failLaunch_cur (s : State) (lid : Word) (code : BitVec 10) :
    (State.failLaunch s lid code).cur = s.cur := by
  grind [State.failLaunch]

theorem releaseTile_cur (s : State) (core : Nat) (sid : Nat) :
    (State.releaseTile s core sid).cur = s.cur := by
  grind [State.releaseTile, onCore_cur]

theorem loadKey_cur (s : State) (a : Agent) (va : Word) (key : Nat) (n : Nat) :
    (State.loadKey s a va key n).2.cur = s.cur := by
  grind [State.loadKey, readLine_cur]

theorem loadAt_cur (s : State) (a : Agent) (va : Word) (n : Nat) :
    (State.loadAt s a va n).2.cur = s.cur := by
  grind [State.loadAt, resolveAddr_cur, loadKey_cur]

theorem releaseSources_cur (s : State) (core : Nat) :
    (State.releaseSources s core).cur = s.cur := by
  grind [State.releaseSources]

theorem touchLines_cur (s : State) (first : Nat) (last : Nat) :
    (State.touchLines s first last).cur = s.cur := foldl_cur _ (fun s p => touch_cur s _) _ _

theorem ackLines_cur (s : State) (sid : Nat) (p : Nat → Bool) :
    (State.ackLines s sid p).cur = s.cur := by
  unfold State.ackLines
  dsimp only
  repeat' split
  all_goals (repeat (first | rw [foldl_cur _ (fun s x => by grind [State.ackLines, onCore_cur])] | (simp only [onCore_cur]; done) | simp only [onCore_cur]))
  all_goals grind [State.ackLines, onCore_cur]

theorem turnBudget_cur (s : State) (spent : Bool) :
    (State.turnBudget s spent).2.cur = s.cur := by
  grind [State.turnBudget]

theorem ackAll_cur (s : State) (sid : Nat) :
    (State.ackAll s sid).cur = s.cur := by
  grind [State.ackAll, ackLines_cur]

theorem snd_cur {α β : Type} (a : α) (q : β × State) {s : State} (h : q.2.cur = s.cur) : (a, q.2).2.cur = s.cur := h

theorem streamRead_cur (s : State) (b : Stream) :
    (State.streamRead s b).2.cur = s.cur := by
  exact snd_cur _ _ (loadKey_cur ..)

theorem streamFill_cur (s : State) (b : Stream) (z2 : Nat) :
    (State.streamFill s b z2).2.cur = s.cur := by
  induction z2 generalizing s b with
  | zero => rfl
  | succ n ih =>
    rw [State.streamFill]
    exact (ih _ _).trans (streamRead_cur s b)

theorem stepOver_cur (s : State) (core slot : Nat) : (s.stepOver core slot).cur = s.cur := onCore_cur _ _ _

theorem writeTurned_cur (s : State) (die : Nat) (writer : BitVec 12) (key : Nat) (bs : List Byte) :
    (s.writeTurned die writer key bs).cur = s.cur := by
  simp only [State.writeTurned, invalidateAll_cur]
  rw [foldl_cur _ (fun s l => setTag_cur s l _), setBytes_cur, decodesIn_cur, passes_cur, touch_cur]

theorem saveWrite_cur (s : State) (t : Strand) (off : Nat) (bs : List Byte) : (s.saveWrite t off bs).cur = s.cur :=
  writeTurned_cur ..

end Sys2Proof.Laws
end

