-- ==== Sys2Proof/Laws/Encoding.lean ====
section
/-! SUPPORT. The fields of an assembled word (R151), and a word reassembled from its fields. -/

namespace Sys2Proof.Laws

theorem extract_append_low {n m : Nat} (x : BitVec n) (y : BitVec m) (k len : Nat) (h : k + len ≤ m) :
    (x ++ y).extractLsb' k len = y.extractLsb' k len := by
  ext i hi
  simp [BitVec.getElem_extractLsb', BitVec.getLsbD_append]
  omega

theorem extract_append_high {n m : Nat} (x : BitVec n) (y : BitVec m) (k len : Nat) (h : m ≤ k) :
    (x ++ y).extractLsb' k len = x.extractLsb' (k - m) len := by
  ext i hi
  have e : k + i - m = k - m + i := by omega
  have g : ¬ (k + i < m) := by omega
  simp [BitVec.getElem_extractLsb', BitVec.getLsbD_append, g, e]

theorem extract_all {n : Nat} (x : BitVec n) : x.extractLsb' 0 n = x := by
  ext i hi
  simp

/-- Two neighbouring fields of a word, joined. -/
theorem extract_join {n : Nat} (w : BitVec n) (k a b : Nat) :
    w.extractLsb' (k + b) a ++ w.extractLsb' k b = w.extractLsb' k (a + b) := by
  ext i hi
  simp only [BitVec.getElem_append, BitVec.getElem_extractLsb']
  split
  · rfl
  · congr 1; omega

/-- A field of a field. -/
theorem extract_extract {n : Nat} (w : BitVec n) (k len j m : Nat) (h : j + m ≤ len) :
    (w.extractLsb' k len).extractLsb' j m = w.extractLsb' (k + j) m := by
  ext i hi
  simp only [BitVec.getElem_extractLsb', BitVec.getLsbD_extractLsb', Nat.add_assoc]
  simp; omega

/-- The top bit of an accumulator field is 0 (R153). -/
@[simp] theorem accField_top (a : Acc) : (accField a).extractLsb' 4 1 = 0#1 :=
  (extract_append_high 0#1 a 4 1 (by decide)).trans (by decide)

/-- An accumulator field names its accumulator (R153). -/
@[simp] theorem fieldAcc_accField (a : Acc) : fieldAcc (accField a) = a :=
  (extract_append_low 0#1 a 0 4 (by decide)).trans (extract_all a)

/-- The four limits of a WAITC word (R159). -/
theorem limits_join (l s c t : BitVec 4) :
    (l ++ s ++ c ++ t).extractLsb' 12 4 = l ∧ (l ++ s ++ c ++ t).extractLsb' 8 4 = s ∧
    (l ++ s ++ c ++ t).extractLsb' 4 4 = c ∧ (l ++ s ++ c ++ t).extractLsb' 0 4 = t :=
  ⟨(extract_append_high (l ++ s ++ c) t 12 4 (by decide)).trans ((extract_append_high (l ++ s) c 8 4 (by decide)).trans
      ((extract_append_high l s 4 4 (by decide)).trans (extract_all l))),
   (extract_append_high (l ++ s ++ c) t 8 4 (by decide)).trans ((extract_append_high (l ++ s) c 4 4 (by decide)).trans
      ((extract_append_low l s 0 4 (by decide)).trans (extract_all s))),
   (extract_append_high (l ++ s ++ c) t 4 4 (by decide)).trans ((extract_append_low (l ++ s) c 0 4 (by decide)).trans
      (extract_all c)),
   (extract_append_low (l ++ s ++ c) t 0 4 (by decide)).trans (extract_all t)⟩

/-! ### mkR -/

@[simp] theorem fMajor_mkR (op : BitVec 6) (d : BitVec 5) (a : BitVec 5) (b : BitVec 5) (m : BitVec 6) (f : BitVec 5) : fMajor (mkR op d a b m f) = op :=
  (extract_append_high (op ++ d ++ a ++ b ++ m) f 26 6 (by decide)).trans ((extract_append_high (op ++ d ++ a ++ b) m 21 6 (by decide)).trans ((extract_append_high (op ++ d ++ a) b 15 6 (by decide)).trans ((extract_append_high (op ++ d) a 10 6 (by decide)).trans ((extract_append_high (op) d 5 6 (by decide)).trans (extract_all op)))))
@[simp] theorem fD_mkR (op : BitVec 6) (d : BitVec 5) (a : BitVec 5) (b : BitVec 5) (m : BitVec 6) (f : BitVec 5) : fD (mkR op d a b m f) = d :=
  (extract_append_high (op ++ d ++ a ++ b ++ m) f 21 5 (by decide)).trans ((extract_append_high (op ++ d ++ a ++ b) m 16 5 (by decide)).trans ((extract_append_high (op ++ d ++ a) b 10 5 (by decide)).trans ((extract_append_high (op ++ d) a 5 5 (by decide)).trans ((extract_append_low (op) d 0 5 (by decide)).trans (extract_all d)))))
@[simp] theorem fA_mkR (op : BitVec 6) (d : BitVec 5) (a : BitVec 5) (b : BitVec 5) (m : BitVec 6) (f : BitVec 5) : fA (mkR op d a b m f) = a :=
  (extract_append_high (op ++ d ++ a ++ b ++ m) f 16 5 (by decide)).trans ((extract_append_high (op ++ d ++ a ++ b) m 11 5 (by decide)).trans ((extract_append_high (op ++ d ++ a) b 5 5 (by decide)).trans ((extract_append_low (op ++ d) a 0 5 (by decide)).trans (extract_all a))))
@[simp] theorem fB_mkR (op : BitVec 6) (d : BitVec 5) (a : BitVec 5) (b : BitVec 5) (m : BitVec 6) (f : BitVec 5) : fB (mkR op d a b m f) = b :=
  (extract_append_high (op ++ d ++ a ++ b ++ m) f 11 5 (by decide)).trans ((extract_append_high (op ++ d ++ a ++ b) m 6 5 (by decide)).trans ((extract_append_low (op ++ d ++ a) b 0 5 (by decide)).trans (extract_all b)))
@[simp] theorem fMinorR_mkR (op : BitVec 6) (d : BitVec 5) (a : BitVec 5) (b : BitVec 5) (m : BitVec 6) (f : BitVec 5) : fMinorR (mkR op d a b m f) = m :=
  (extract_append_high (op ++ d ++ a ++ b ++ m) f 5 6 (by decide)).trans ((extract_append_low (op ++ d ++ a ++ b) m 0 6 (by decide)).trans (extract_all m))
@[simp] theorem fMod_mkR (op : BitVec 6) (d : BitVec 5) (a : BitVec 5) (b : BitVec 5) (m : BitVec 6) (f : BitVec 5) : fMod (mkR op d a b m f) = f :=
  (extract_append_low (op ++ d ++ a ++ b ++ m) f 0 5 (by decide)).trans (extract_all f)

/-- A word is the assembly of its fields. -/
theorem mkR_fields (w : InsnWord) : mkR (fMajor w) (fD w) (fA w) (fB w) (fMinorR w) (fMod w) = w := by
  unfold mkR
  exact ((congrArg (fun x : BitVec 11 => ((((x ++ w.extractLsb' 16 5) ++ w.extractLsb' 11 5) ++ w.extractLsb' 5 6) ++ w.extractLsb' 0 5)) (extract_join w 21 6 5)).trans ((congrArg (fun x : BitVec 16 => (((x ++ w.extractLsb' 11 5) ++ w.extractLsb' 5 6) ++ w.extractLsb' 0 5)) (extract_join w 16 11 5)).trans ((congrArg (fun x : BitVec 21 => ((x ++ w.extractLsb' 5 6) ++ w.extractLsb' 0 5)) (extract_join w 11 16 5)).trans ((congrArg (fun x : BitVec 27 => (x ++ w.extractLsb' 0 5)) (extract_join w 5 21 6)).trans ((extract_join w 0 27 5).trans (extract_all w))))))

/-! ### mkQ -/

@[simp] theorem fMajor_mkQ (op : BitVec 6) (d : BitVec 5) (a : BitVec 5) (b : BitVec 5) (c : BitVec 5) (m : BitVec 6) : fMajor (mkQ op d a b c m) = op :=
  (extract_append_high (op ++ d ++ a ++ b ++ c) m 26 6 (by decide)).trans ((extract_append_high (op ++ d ++ a ++ b) c 20 6 (by decide)).trans ((extract_append_high (op ++ d ++ a) b 15 6 (by decide)).trans ((extract_append_high (op ++ d) a 10 6 (by decide)).trans ((extract_append_high (op) d 5 6 (by decide)).trans (extract_all op)))))
@[simp] theorem fD_mkQ (op : BitVec 6) (d : BitVec 5) (a : BitVec 5) (b : BitVec 5) (c : BitVec 5) (m : BitVec 6) : fD (mkQ op d a b c m) = d :=
  (extract_append_high (op ++ d ++ a ++ b ++ c) m 21 5 (by decide)).trans ((extract_append_high (op ++ d ++ a ++ b) c 15 5 (by decide)).trans ((extract_append_high (op ++ d ++ a) b 10 5 (by decide)).trans ((extract_append_high (op ++ d) a 5 5 (by decide)).trans ((extract_append_low (op) d 0 5 (by decide)).trans (extract_all d)))))
@[simp] theorem fA_mkQ (op : BitVec 6) (d : BitVec 5) (a : BitVec 5) (b : BitVec 5) (c : BitVec 5) (m : BitVec 6) : fA (mkQ op d a b c m) = a :=
  (extract_append_high (op ++ d ++ a ++ b ++ c) m 16 5 (by decide)).trans ((extract_append_high (op ++ d ++ a ++ b) c 10 5 (by decide)).trans ((extract_append_high (op ++ d ++ a) b 5 5 (by decide)).trans ((extract_append_low (op ++ d) a 0 5 (by decide)).trans (extract_all a))))
@[simp] theorem fB_mkQ (op : BitVec 6) (d : BitVec 5) (a : BitVec 5) (b : BitVec 5) (c : BitVec 5) (m : BitVec 6) : fB (mkQ op d a b c m) = b :=
  (extract_append_high (op ++ d ++ a ++ b ++ c) m 11 5 (by decide)).trans ((extract_append_high (op ++ d ++ a ++ b) c 5 5 (by decide)).trans ((extract_append_low (op ++ d ++ a) b 0 5 (by decide)).trans (extract_all b)))
@[simp] theorem fC_mkQ (op : BitVec 6) (d : BitVec 5) (a : BitVec 5) (b : BitVec 5) (c : BitVec 5) (m : BitVec 6) : fC (mkQ op d a b c m) = c :=
  (extract_append_high (op ++ d ++ a ++ b ++ c) m 6 5 (by decide)).trans ((extract_append_low (op ++ d ++ a ++ b) c 0 5 (by decide)).trans (extract_all c))
@[simp] theorem fMinorQ_mkQ (op : BitVec 6) (d : BitVec 5) (a : BitVec 5) (b : BitVec 5) (c : BitVec 5) (m : BitVec 6) : fMinorQ (mkQ op d a b c m) = m :=
  (extract_append_low (op ++ d ++ a ++ b ++ c) m 0 6 (by decide)).trans (extract_all m)

/-- A word is the assembly of its fields. -/
theorem mkQ_fields (w : InsnWord) : mkQ (fMajor w) (fD w) (fA w) (fB w) (fC w) (fMinorQ w) = w := by
  unfold mkQ
  exact ((congrArg (fun x : BitVec 11 => ((((x ++ w.extractLsb' 16 5) ++ w.extractLsb' 11 5) ++ w.extractLsb' 6 5) ++ w.extractLsb' 0 6)) (extract_join w 21 6 5)).trans ((congrArg (fun x : BitVec 16 => (((x ++ w.extractLsb' 11 5) ++ w.extractLsb' 6 5) ++ w.extractLsb' 0 6)) (extract_join w 16 11 5)).trans ((congrArg (fun x : BitVec 21 => ((x ++ w.extractLsb' 6 5) ++ w.extractLsb' 0 6)) (extract_join w 11 16 5)).trans ((congrArg (fun x : BitVec 26 => (x ++ w.extractLsb' 0 6)) (extract_join w 6 21 5)).trans ((extract_join w 0 26 6).trans (extract_all w))))))

/-! ### mkI -/

@[simp] theorem fMajor_mkI (op : BitVec 6) (d : BitVec 5) (a : BitVec 5) (i : BitVec 16) : fMajor (mkI op d a i) = op :=
  (extract_append_high (op ++ d ++ a) i 26 6 (by decide)).trans ((extract_append_high (op ++ d) a 10 6 (by decide)).trans ((extract_append_high (op) d 5 6 (by decide)).trans (extract_all op)))
@[simp] theorem fD_mkI (op : BitVec 6) (d : BitVec 5) (a : BitVec 5) (i : BitVec 16) : fD (mkI op d a i) = d :=
  (extract_append_high (op ++ d ++ a) i 21 5 (by decide)).trans ((extract_append_high (op ++ d) a 5 5 (by decide)).trans ((extract_append_low (op) d 0 5 (by decide)).trans (extract_all d)))
@[simp] theorem fA_mkI (op : BitVec 6) (d : BitVec 5) (a : BitVec 5) (i : BitVec 16) : fA (mkI op d a i) = a :=
  (extract_append_high (op ++ d ++ a) i 16 5 (by decide)).trans ((extract_append_low (op ++ d) a 0 5 (by decide)).trans (extract_all a))
@[simp] theorem fImm16_mkI (op : BitVec 6) (d : BitVec 5) (a : BitVec 5) (i : BitVec 16) : fImm16 (mkI op d a i) = i :=
  (extract_append_low (op ++ d ++ a) i 0 16 (by decide)).trans (extract_all i)

/-- A word is the assembly of its fields. -/
theorem mkI_fields (w : InsnWord) : mkI (fMajor w) (fD w) (fA w) (fImm16 w) = w := by
  unfold mkI
  exact ((congrArg (fun x : BitVec 11 => ((x ++ w.extractLsb' 16 5) ++ w.extractLsb' 0 16)) (extract_join w 21 6 5)).trans ((congrArg (fun x : BitVec 16 => (x ++ w.extractLsb' 0 16)) (extract_join w 16 11 5)).trans ((extract_join w 0 16 16).trans (extract_all w))))

/-! ### mkM -/

@[simp] theorem fMajor_mkM (op : BitVec 6) (d : BitVec 5) (a : BitVec 5) (z : BitVec 3) (o : BitVec 13) : fMajor (mkM op d a z o) = op :=
  (extract_append_high (op ++ d ++ a ++ z) o 26 6 (by decide)).trans ((extract_append_high (op ++ d ++ a) z 13 6 (by decide)).trans ((extract_append_high (op ++ d) a 10 6 (by decide)).trans ((extract_append_high (op) d 5 6 (by decide)).trans (extract_all op))))
@[simp] theorem fD_mkM (op : BitVec 6) (d : BitVec 5) (a : BitVec 5) (z : BitVec 3) (o : BitVec 13) : fD (mkM op d a z o) = d :=
  (extract_append_high (op ++ d ++ a ++ z) o 21 5 (by decide)).trans ((extract_append_high (op ++ d ++ a) z 8 5 (by decide)).trans ((extract_append_high (op ++ d) a 5 5 (by decide)).trans ((extract_append_low (op) d 0 5 (by decide)).trans (extract_all d))))
@[simp] theorem fA_mkM (op : BitVec 6) (d : BitVec 5) (a : BitVec 5) (z : BitVec 3) (o : BitVec 13) : fA (mkM op d a z o) = a :=
  (extract_append_high (op ++ d ++ a ++ z) o 16 5 (by decide)).trans ((extract_append_high (op ++ d ++ a) z 3 5 (by decide)).trans ((extract_append_low (op ++ d) a 0 5 (by decide)).trans (extract_all a)))
@[simp] theorem fSize_mkM (op : BitVec 6) (d : BitVec 5) (a : BitVec 5) (z : BitVec 3) (o : BitVec 13) : fSize (mkM op d a z o) = z :=
  (extract_append_high (op ++ d ++ a ++ z) o 13 3 (by decide)).trans ((extract_append_low (op ++ d ++ a) z 0 3 (by decide)).trans (extract_all z))
@[simp] theorem fOff13_mkM (op : BitVec 6) (d : BitVec 5) (a : BitVec 5) (z : BitVec 3) (o : BitVec 13) : fOff13 (mkM op d a z o) = o :=
  (extract_append_low (op ++ d ++ a ++ z) o 0 13 (by decide)).trans (extract_all o)

/-- A word is the assembly of its fields. -/
theorem mkM_fields (w : InsnWord) : mkM (fMajor w) (fD w) (fA w) (fSize w) (fOff13 w) = w := by
  unfold mkM
  exact ((congrArg (fun x : BitVec 11 => (((x ++ w.extractLsb' 16 5) ++ w.extractLsb' 13 3) ++ w.extractLsb' 0 13)) (extract_join w 21 6 5)).trans ((congrArg (fun x : BitVec 16 => ((x ++ w.extractLsb' 13 3) ++ w.extractLsb' 0 13)) (extract_join w 16 11 5)).trans ((congrArg (fun x : BitVec 19 => (x ++ w.extractLsb' 0 13)) (extract_join w 13 16 3)).trans ((extract_join w 0 19 13).trans (extract_all w)))))

/-! ### mkL -/

@[simp] theorem fMajor_mkL (op : BitVec 6) (o : BitVec 26) : fMajor (mkL op o) = op :=
  (extract_append_high (op) o 26 6 (by decide)).trans (extract_all op)
@[simp] theorem fOff26_mkL (op : BitVec 6) (o : BitVec 26) : fOff26 (mkL op o) = o :=
  (extract_append_low (op) o 0 26 (by decide)).trans (extract_all o)

/-- A word is the assembly of its fields. -/
theorem mkL_fields (w : InsnWord) : mkL (fMajor w) (fOff26 w) = w := by
  unfold mkL
  exact ((extract_join w 0 6 26).trans (extract_all w))

/-! ### mkU -/

@[simp] theorem fMajor_mkU (op : BitVec 6) (d : BitVec 5) (i : BitVec 21) : fMajor (mkU op d i) = op :=
  (extract_append_high (op ++ d) i 26 6 (by decide)).trans ((extract_append_high (op) d 5 6 (by decide)).trans (extract_all op))
@[simp] theorem fD_mkU (op : BitVec 6) (d : BitVec 5) (i : BitVec 21) : fD (mkU op d i) = d :=
  (extract_append_high (op ++ d) i 21 5 (by decide)).trans ((extract_append_low (op) d 0 5 (by decide)).trans (extract_all d))
@[simp] theorem fImm21_mkU (op : BitVec 6) (d : BitVec 5) (i : BitVec 21) : fImm21 (mkU op d i) = i :=
  (extract_append_low (op ++ d) i 0 21 (by decide)).trans (extract_all i)

/-- A word is the assembly of its fields. -/
theorem mkU_fields (w : InsnWord) : mkU (fMajor w) (fD w) (fImm21 w) = w := by
  unfold mkU
  exact ((congrArg (fun x : BitVec 11 => (x ++ w.extractLsb' 0 21)) (extract_join w 21 6 5)).trans ((extract_join w 0 11 21).trans (extract_all w)))

/-! ### mkC -/

@[simp] theorem fMajor_mkC (d : BitVec 5) (a : BitVec 5) (k : BitVec 12) (op : BitVec 4) : fMajor (mkC d a k op) = 0x14#6 :=
  (extract_append_high (0x14#6 ++ d ++ a ++ k) op 26 6 (by decide)).trans ((extract_append_high (0x14#6 ++ d ++ a) k 22 6 (by decide)).trans ((extract_append_high (0x14#6 ++ d) a 10 6 (by decide)).trans ((extract_append_high (0x14#6) d 5 6 (by decide)).trans (extract_all 0x14#6))))
@[simp] theorem fD_mkC (d : BitVec 5) (a : BitVec 5) (k : BitVec 12) (op : BitVec 4) : fD (mkC d a k op) = d :=
  (extract_append_high (0x14#6 ++ d ++ a ++ k) op 21 5 (by decide)).trans ((extract_append_high (0x14#6 ++ d ++ a) k 17 5 (by decide)).trans ((extract_append_high (0x14#6 ++ d) a 5 5 (by decide)).trans ((extract_append_low (0x14#6) d 0 5 (by decide)).trans (extract_all d))))
@[simp] theorem fA_mkC (d : BitVec 5) (a : BitVec 5) (k : BitVec 12) (op : BitVec 4) : fA (mkC d a k op) = a :=
  (extract_append_high (0x14#6 ++ d ++ a ++ k) op 16 5 (by decide)).trans ((extract_append_high (0x14#6 ++ d ++ a) k 12 5 (by decide)).trans ((extract_append_low (0x14#6 ++ d) a 0 5 (by decide)).trans (extract_all a)))
@[simp] theorem fCsr_mkC (d : BitVec 5) (a : BitVec 5) (k : BitVec 12) (op : BitVec 4) : fCsr (mkC d a k op) = k :=
  (extract_append_high (0x14#6 ++ d ++ a ++ k) op 4 12 (by decide)).trans ((extract_append_low (0x14#6 ++ d ++ a) k 0 12 (by decide)).trans (extract_all k))
@[simp] theorem fOp4_mkC (d : BitVec 5) (a : BitVec 5) (k : BitVec 12) (op : BitVec 4) : fOp4 (mkC d a k op) = op :=
  (extract_append_low (0x14#6 ++ d ++ a ++ k) op 0 4 (by decide)).trans (extract_all op)

/-- A word is the assembly of its fields. -/
theorem mkC_fields (w : InsnWord) (h : fMajor w = 0x14#6) : mkC (fD w) (fA w) (fCsr w) (fOp4 w) = w := by
  unfold mkC
  rw [← h]
  exact ((congrArg (fun x : BitVec 11 => (((x ++ w.extractLsb' 16 5) ++ w.extractLsb' 4 12) ++ w.extractLsb' 0 4)) (extract_join w 21 6 5)).trans ((congrArg (fun x : BitVec 16 => ((x ++ w.extractLsb' 4 12) ++ w.extractLsb' 0 4)) (extract_join w 16 11 5)).trans ((congrArg (fun x : BitVec 28 => (x ++ w.extractLsb' 0 4)) (extract_join w 4 16 12)).trans ((extract_join w 0 28 4).trans (extract_all w)))))

/-! ### mkV -/

@[simp] theorem fMajor_mkV (op : BitVec 6) (d : BitVec 5) (a : BitVec 5) (b : BitVec 5) (z : BitVec 11) : fMajor (mkV op d a b z) = op :=
  (extract_append_high (op ++ d ++ a ++ b) z 26 6 (by decide)).trans ((extract_append_high (op ++ d ++ a) b 15 6 (by decide)).trans ((extract_append_high (op ++ d) a 10 6 (by decide)).trans ((extract_append_high (op) d 5 6 (by decide)).trans (extract_all op))))
@[simp] theorem fD_mkV (op : BitVec 6) (d : BitVec 5) (a : BitVec 5) (b : BitVec 5) (z : BitVec 11) : fD (mkV op d a b z) = d :=
  (extract_append_high (op ++ d ++ a ++ b) z 21 5 (by decide)).trans ((extract_append_high (op ++ d ++ a) b 10 5 (by decide)).trans ((extract_append_high (op ++ d) a 5 5 (by decide)).trans ((extract_append_low (op) d 0 5 (by decide)).trans (extract_all d))))
@[simp] theorem fA_mkV (op : BitVec 6) (d : BitVec 5) (a : BitVec 5) (b : BitVec 5) (z : BitVec 11) : fA (mkV op d a b z) = a :=
  (extract_append_high (op ++ d ++ a ++ b) z 16 5 (by decide)).trans ((extract_append_high (op ++ d ++ a) b 5 5 (by decide)).trans ((extract_append_low (op ++ d) a 0 5 (by decide)).trans (extract_all a)))
@[simp] theorem fB_mkV (op : BitVec 6) (d : BitVec 5) (a : BitVec 5) (b : BitVec 5) (z : BitVec 11) : fB (mkV op d a b z) = b :=
  (extract_append_high (op ++ d ++ a ++ b) z 11 5 (by decide)).trans ((extract_append_low (op ++ d ++ a) b 0 5 (by decide)).trans (extract_all b))
@[simp] theorem fSelV_mkV (op : BitVec 6) (d : BitVec 5) (a : BitVec 5) (b : BitVec 5) (z : BitVec 11) : fSelV (mkV op d a b z) = z :=
  (extract_append_low (op ++ d ++ a ++ b) z 0 11 (by decide)).trans (extract_all z)

/-- A word is the assembly of its fields. -/
theorem mkV_fields (w : InsnWord) : mkV (fMajor w) (fD w) (fA w) (fB w) (fSelV w) = w := by
  unfold mkV
  exact ((congrArg (fun x : BitVec 11 => (((x ++ w.extractLsb' 16 5) ++ w.extractLsb' 11 5) ++ w.extractLsb' 0 11)) (extract_join w 21 6 5)).trans ((congrArg (fun x : BitVec 16 => ((x ++ w.extractLsb' 11 5) ++ w.extractLsb' 0 11)) (extract_join w 16 11 5)).trans ((congrArg (fun x : BitVec 21 => (x ++ w.extractLsb' 0 11)) (extract_join w 11 16 5)).trans ((extract_join w 0 21 11).trans (extract_all w)))))

/-! ### mkVM -/

@[simp] theorem fMajor_mkVM (op : BitVec 6) (d : BitVec 5) (a : BitVec 5) (b : BitVec 5) (f : BitVec 4) (z : BitVec 7) : fMajor (mkVM op d a b f z) = op :=
  (extract_append_high (op ++ d ++ a ++ b ++ f) z 26 6 (by decide)).trans ((extract_append_high (op ++ d ++ a ++ b) f 19 6 (by decide)).trans ((extract_append_high (op ++ d ++ a) b 15 6 (by decide)).trans ((extract_append_high (op ++ d) a 10 6 (by decide)).trans ((extract_append_high (op) d 5 6 (by decide)).trans (extract_all op)))))
@[simp] theorem fD_mkVM (op : BitVec 6) (d : BitVec 5) (a : BitVec 5) (b : BitVec 5) (f : BitVec 4) (z : BitVec 7) : fD (mkVM op d a b f z) = d :=
  (extract_append_high (op ++ d ++ a ++ b ++ f) z 21 5 (by decide)).trans ((extract_append_high (op ++ d ++ a ++ b) f 14 5 (by decide)).trans ((extract_append_high (op ++ d ++ a) b 10 5 (by decide)).trans ((extract_append_high (op ++ d) a 5 5 (by decide)).trans ((extract_append_low (op) d 0 5 (by decide)).trans (extract_all d)))))
@[simp] theorem fA_mkVM (op : BitVec 6) (d : BitVec 5) (a : BitVec 5) (b : BitVec 5) (f : BitVec 4) (z : BitVec 7) : fA (mkVM op d a b f z) = a :=
  (extract_append_high (op ++ d ++ a ++ b ++ f) z 16 5 (by decide)).trans ((extract_append_high (op ++ d ++ a ++ b) f 9 5 (by decide)).trans ((extract_append_high (op ++ d ++ a) b 5 5 (by decide)).trans ((extract_append_low (op ++ d) a 0 5 (by decide)).trans (extract_all a))))
@[simp] theorem fB_mkVM (op : BitVec 6) (d : BitVec 5) (a : BitVec 5) (b : BitVec 5) (f : BitVec 4) (z : BitVec 7) : fB (mkVM op d a b f z) = b :=
  (extract_append_high (op ++ d ++ a ++ b ++ f) z 11 5 (by decide)).trans ((extract_append_high (op ++ d ++ a ++ b) f 4 5 (by decide)).trans ((extract_append_low (op ++ d ++ a) b 0 5 (by decide)).trans (extract_all b)))
@[simp] theorem fFmt_mkVM (op : BitVec 6) (d : BitVec 5) (a : BitVec 5) (b : BitVec 5) (f : BitVec 4) (z : BitVec 7) : fFmt (mkVM op d a b f z) = f :=
  (extract_append_high (op ++ d ++ a ++ b ++ f) z 7 4 (by decide)).trans ((extract_append_low (op ++ d ++ a ++ b) f 0 4 (by decide)).trans (extract_all f))
@[simp] theorem fSelVM_mkVM (op : BitVec 6) (d : BitVec 5) (a : BitVec 5) (b : BitVec 5) (f : BitVec 4) (z : BitVec 7) : fSelVM (mkVM op d a b f z) = z :=
  (extract_append_low (op ++ d ++ a ++ b ++ f) z 0 7 (by decide)).trans (extract_all z)

/-- A word is the assembly of its fields. -/
theorem mkVM_fields (w : InsnWord) : mkVM (fMajor w) (fD w) (fA w) (fB w) (fFmt w) (fSelVM w) = w := by
  unfold mkVM
  exact ((congrArg (fun x : BitVec 11 => ((((x ++ w.extractLsb' 16 5) ++ w.extractLsb' 11 5) ++ w.extractLsb' 7 4) ++ w.extractLsb' 0 7)) (extract_join w 21 6 5)).trans ((congrArg (fun x : BitVec 16 => (((x ++ w.extractLsb' 11 5) ++ w.extractLsb' 7 4) ++ w.extractLsb' 0 7)) (extract_join w 16 11 5)).trans ((congrArg (fun x : BitVec 21 => ((x ++ w.extractLsb' 7 4) ++ w.extractLsb' 0 7)) (extract_join w 11 16 5)).trans ((congrArg (fun x : BitVec 25 => (x ++ w.extractLsb' 0 7)) (extract_join w 7 21 4)).trans ((extract_join w 0 25 7).trans (extract_all w))))))

end Sys2Proof.Laws
end

