-- ==== Sys2Proof/Laws/Memory.lean ====
section
/-! SUPPORT. Memory's canonical form is kept by every operation on it, and reading after writing (log entry 6). -/

namespace Sys2Proof.Laws

open Machine

theorem above_weaken {lo hi : Nat} (h : lo ≤ hi) : ∀ {m : List Host.Cell}, Memory.above hi m = true → Memory.above lo m = true
  | [], _ => rfl
  | (a, b) :: r, q => by
    simp only [Memory.above, Bool.and_eq_true, decide_eq_true_eq] at q ⊢
    exact ⟨⟨Nat.le_trans h q.1.1, q.1.2⟩, q.2⟩

theorem above_set {x : Nat} {b : Byte} : ∀ {lo : Nat} {m : List Host.Cell}, lo ≤ x → Memory.above lo m = true →
    Memory.above lo (Memory.set m x b) = true
  | lo, [], hx, _ => by
    unfold Memory.set
    split
    · rfl
    · simp [Memory.above, *]
  | lo, (a, c) :: r, hx, h => by
    simp only [Memory.above, Bool.and_eq_true, decide_eq_true_eq, bne_iff_ne, ne_eq] at h
    obtain ⟨⟨ha, hc⟩, hr⟩ := h
    unfold Memory.set
    split
    · next hlt =>
      split
      · simp [Memory.above, ha, hc, hr]
      · next hb => simp [Memory.above, hx, hb, hc, hr]; omega
    · split
      · next heq =>
        split
        · exact above_weaken (by omega) hr
        · next hb => subst heq; simp [Memory.above, hx, hb, hr]
      · next hne =>
        simp only [Memory.above, Bool.and_eq_true, decide_eq_true_eq, bne_iff_ne, ne_eq]
        exact ⟨⟨ha, hc⟩, above_set (by omega) hr⟩

theorem wf_set {m : List Host.Cell} (x : Nat) (b : Byte) (h : Memory.wf m = true) : Memory.wf (Memory.set m x b) = true :=
  above_set (Nat.zero_le _) h

theorem wf_setBytes : ∀ (bs : List Byte) {m : List Host.Cell} (a : Nat), Memory.wf m = true →
    Memory.wf (Memory.setBytes m a bs) = true
  | [], _, _, h => h
  | b :: r, _, a, h => wf_setBytes r (a + 1) (wf_set a b h)

theorem wf_setMasked : ∀ (n : Nat) {m : List Host.Cell} (a mask data : Nat), Memory.wf m = true →
    Memory.wf (Memory.setMasked m a mask data n) = true
  | 0, _, _, _, _, h => h
  | n + 1, _, a, mask, data, h => by
    unfold Memory.setMasked
    apply wf_setMasked n
    split
    · exact wf_set _ _ h
    · exact h

theorem above_filter (p : Host.Cell → Bool) : ∀ {lo : Nat} {m : List Host.Cell}, Memory.above lo m = true →
    Memory.above lo (m.filter p) = true
  | _, [], _ => rfl
  | lo, (a, c) :: r, h => by
    simp only [Memory.above, Bool.and_eq_true, decide_eq_true_eq] at h
    rw [List.filter_cons]
    split
    · simp only [Memory.above, Bool.and_eq_true, decide_eq_true_eq]
      exact ⟨h.1, above_filter p h.2⟩
    · exact above_weaken (by omega) (above_filter p h.2)

theorem wf_filter (p : Host.Cell → Bool) {m : List Host.Cell} (h : Memory.wf m = true) : Memory.wf (m.filter p) = true :=
  above_filter p h

theorem wf_nil : Memory.wf [] = true := rfl

/-- Below the first address a canonical memory reads as unlisted. -/
theorem get_below {x : Nat} : ∀ {lo : Nat} {m : List Host.Cell}, x < lo → Memory.above lo m = true →
    Memory.get m x = Memory.unlisted
  | _, [], _, _ => rfl
  | lo, (a, c) :: r, hx, h => by
    simp only [Memory.above, Bool.and_eq_true, decide_eq_true_eq] at h
    unfold Memory.get
    rw [if_pos (by omega)]

/-- A byte written reads back, and no other byte changes. -/
theorem get_set_above {x y : Nat} {b : Byte} : ∀ {lo : Nat} {m : List Host.Cell}, Memory.above lo m = true →
    Memory.get (Memory.set m x b) y = if y = x then b else Memory.get m y
  | _, [], _ => by
    unfold Memory.set
    split
    · next hb => split <;> simp_all [Memory.get]
    · simp only [Memory.get]; split <;> split <;> first | rfl | omega
  | lo, (a, c) :: r, h => by
    simp only [Memory.above, Bool.and_eq_true, decide_eq_true_eq] at h
    obtain ⟨_, hr⟩ := h
    unfold Memory.set
    split
    · next hlt =>
      split
      · next hb =>
        split
        · next hy => subst hy; simp [Memory.get, hlt, hb]
        · rfl
      · rw [Memory.get]
        by_cases hy : y = x
        · subst hy; simp
        · rw [if_neg hy]
          split
          · next hyx => rw [Memory.get, if_pos (by omega)]
          · rfl
    · split
      · next hge heq =>
        subst heq
        split
        · next hb =>
          by_cases hy : y = x
          · subst hy; rw [if_pos rfl, hb]; exact get_below (Nat.lt_succ_self _) hr
          · rw [if_neg hy, Memory.get]
            split
            · next hyx => exact get_below (by omega) hr
            · rfl
        · simp only [Memory.get]
          by_cases hy : y = x
          · subst hy; simp
          · simp [hy]
      · next hge hne =>
        simp only [Memory.get]
        rw [get_set_above hr]
        by_cases hy : y = x
        · subst hy; simp [hge, hne]
        · simp [hy]

theorem get_set {m : List Host.Cell} (h : Memory.wf m = true) (x y : Nat) (b : Byte) :
    Memory.get (Memory.set m x b) y = if y = x then b else Memory.get m y :=
  get_set_above h

/-- Bytes outside the ones written read as before. -/
theorem get_setBytes_other : ∀ (bs : List Byte) {m : List Host.Cell} (a y : Nat), Memory.wf m = true →
    (y < a ∨ a + bs.length ≤ y) → Memory.get (Memory.setBytes m a bs) y = Memory.get m y
  | [], _, _, _, _, _ => rfl
  | b :: r, m, a, y, h, hy => by
    simp only [List.length_cons] at hy
    rw [Memory.setBytes, get_setBytes_other r (a + 1) y (wf_set a b h) (by omega), get_set h, if_neg (by omega)]

/-- The bytes written read back. -/
theorem get_setBytes_same : ∀ (bs : List Byte) {m : List Host.Cell} (a i : Nat) (hi : i < bs.length), Memory.wf m = true →
    Memory.get (Memory.setBytes m a bs) (a + i) = bs[i]
  | b :: r, m, a, 0, _, h => by
    rw [Memory.setBytes, get_setBytes_other r (a + 1) _ (wf_set a b h) (by omega), get_set h]
    simp
  | b :: r, m, a, i + 1, hi, h => by
    simp only [List.length_cons] at hi
    rw [Memory.setBytes]
    have := get_setBytes_same r (a + 1) i (by omega) (wf_set a b h)
    rw [show a + (i + 1) = a + 1 + i by omega, this]
    rfl

/-- A masked write changes exactly the masked bytes. -/
theorem get_setMasked : ∀ (n : Nat) {m : List Host.Cell} (a mask data y : Nat), Memory.wf m = true →
    Memory.get (Memory.setMasked m a mask data n) y =
      if a ≤ y ∧ y < a + n ∧ mask / 2 ^ (y - a) % 2 = 1 then BitVec.ofNat 8 (data / 256 ^ (y - a)) else Memory.get m y
  | 0, _, a, _, _, y, _ => by rw [if_neg (by omega)]; rfl
  | n + 1, m, a, mask, data, y, h => by
    unfold Memory.setMasked
    have hw : Memory.wf (if mask % 2 = 1 then Memory.set m a (BitVec.ofNat 8 data) else m) = true := by
      split
      · exact wf_set _ _ h
      · exact h
    rw [get_setMasked n (a + 1) _ _ y hw]
    by_cases hy : y = a
    · subst hy
      rw [if_neg (by omega)]
      simp only [Nat.sub_self, Nat.pow_zero, Nat.div_one]
      split
      · next hm => rw [get_set h, if_pos rfl, if_pos ⟨Nat.le_refl _, by omega, hm⟩]
      · next hm => rw [if_neg (fun q => hm q.2.2)]
    · have other : Memory.get (if mask % 2 = 1 then Memory.set m a (BitVec.ofNat 8 data) else m) y = Memory.get m y := by
        split
        · rw [get_set h, if_neg hy]
        · rfl
      rw [other]
      by_cases hl : a + 1 ≤ y
      · have e1 : mask / 2 / 2 ^ (y - (a + 1)) = mask / 2 ^ (y - a) := by
          rw [Nat.div_div_eq_div_mul, ← Nat.pow_succ']; congr 2; omega
        have e2 : data / 256 / 256 ^ (y - (a + 1)) = data / 256 ^ (y - a) := by
          rw [Nat.div_div_eq_div_mul, ← Nat.pow_succ']; congr 2; omega
        rw [e1, e2]
        congr 1
        simp only [eq_iff_iff]
        constructor <;> (rintro ⟨p, q, r⟩; exact ⟨by omega, by omega, r⟩)
      · rw [if_neg (by omega), if_neg (by omega)]

end Sys2Proof.Laws
end

