-- ==== Sys2Proof/Laws/Keep.lean ====
section
/-! SUPPORT. The shared operations keep memory's canonical form (log entry 6): `x_mem` says that `x` leaves memory as it was, `x_wf` and `x_kept` that it keeps the form, `x_goes` that it answers a next state. -/

namespace Sys2Proof.Laws

open Machine

set_option Elab.async false
set_option linter.all false

/-! ### What is kept, and what completes -/

/-- A next state has memory in canonical form. -/
def kept : Out → Bool
  | .next t => Memory.wf t.mem
  | _ => true

/-- The answer is a next state. -/
def goes : Out → Bool
  | .next _ => true
  | _ => false

theorem foldl_mem {α : Type} (f : State → α → State) (h : ∀ s x, (f s x).mem = s.mem) :
    ∀ (l : List α) (s : State), (l.foldl f s).mem = s.mem
  | [], _ => rfl
  | x :: r, s => (foldl_mem f h r (f s x)).trans (h s x)

theorem foldl_wf {α : Type} (f : State → α → State) (h : ∀ s x, Memory.wf s.mem = true → Memory.wf (f s x).mem = true) :
    ∀ (l : List α) (s : State), Memory.wf s.mem = true → Memory.wf (l.foldl f s).mem = true
  | [], _, q => q
  | x :: r, s, q => foldl_wf f h r (f s x) (h s x q)

/-! ### Memory and tags -/

theorem setBytes_wf (s : State) (key : Nat) (bs : List Byte) :
    Memory.wf s.mem = true → Memory.wf (State.setBytes s key bs).mem = true := by
  grind [State.setBytes, wf_set, wf_setBytes, wf_setMasked, wf_filter, wf_nil]

/-! ### Strands, cores and dies -/

theorem setStrand_mem (s : State) (t : Strand) :
    (State.setStrand s t).mem = s.mem := by
  grind [State.setStrand]

theorem onStrand_mem (s : State) (sid : Nat) (f : Strand → Strand) :
    (State.onStrand s sid f).mem = s.mem := by
  grind [State.onStrand, setStrand_mem]

theorem setCore_mem (s : State) (k : Core) :
    (State.setCore s k).mem = s.mem := by
  grind [State.setCore]

theorem onCore_mem (s : State) (n : Nat) (f : Core → Core) :
    (State.onCore s n f).mem = s.mem := by
  grind [State.onCore, setCore_mem]

theorem onCores_mem (s : State) (f : Core → Core) :
    (State.onCores s f).mem = s.mem := by
  grind [State.onCores]

theorem setDie_mem (s : State) (d : Die) :
    (State.setDie s d).mem = s.mem := by
  grind [State.setDie]

theorem onDie_mem (s : State) (n : Nat) (f : Die → Die) :
    (State.onDie s n f).mem = s.mem := by
  grind [State.onDie, setDie_mem]

theorem passes_mem (s : State) (dies : List Nat) : (s.passes dies).mem = s.mem := rfl

theorem touch_mem (s : State) (key : Nat) :
    (State.touch s key).mem = s.mem := by
  grind [State.touch, passes_mem]

theorem focus_mem (s : State) (sid : Nat) :
    (State.focus s sid).mem = s.mem := by
  grind [State.focus]

theorem asStrand_mem (s : State) (sid : Nat) (f : State → State) (hf : ∀ y0, (f y0).mem = y0.mem) :
    (State.asStrand s sid f).mem = s.mem := by
  grind [State.asStrand, focus_mem]

theorem draw_mem (s : State) :
    (State.draw s).2.mem = s.mem := by
  grind [State.draw]

/-! ### Homes: landing, draining, reading lines -/

theorem invalidateAll_mem (s : State) (first : Nat) (last : Nat) :
    (State.invalidateAll s first last).mem = s.mem := by
  grind [State.invalidateAll, onCores_mem, passes_mem]

theorem decodes_mem (s : State) (l source : Nat) (writer : BitVec 12) : (s.decodes l source writer).mem = s.mem := by
  grind [State.decodes]

theorem decodesIn_mem (s : State) (first last source : Nat) (writer : BitVec 12) : (s.decodesIn first last source writer).mem = s.mem := by
  grind [State.decodesIn, decodes_mem]

theorem routeEntry_mem (s : State) (die : Nat) (target : Nat) :
    (State.routeEntry s die target).2.mem = s.mem := by
  unfold State.routeEntry
  repeat' split
  all_goals simp only [onDie_mem, decodes_mem, passes_mem, touch_mem]

theorem portFor_mem (s : State) (core : Nat) (key : Nat) :
    (State.portFor s core key).2.mem = s.mem := by
  grind [State.portFor, routeEntry_mem]

theorem reachable_mem (s : State) (core : Nat) (key : Nat) :
    (State.reachable s core key).2.mem = s.mem := by
  grind [State.reachable, portFor_mem]

theorem waitNet_mem (s : State) :
    (State.waitNet s).mem = s.mem := by
  grind [State.waitNet]

theorem loss_mem (s : State) :
    (State.loss s).2.mem = s.mem := by
  grind [State.loss]

theorem emit_mem (s : State) (p target channel : Nat) (lane : Option Nat) (n : Nat) : (s.emit p target channel lane n).mem = s.mem := rfl

theorem crosses_mem (s : State) (core : Nat) (writer : BitVec 12) (key n : Nat) :
    (State.crosses s core writer key n).2.mem = s.mem := by
  grind [State.crosses, portFor_mem, passes_mem, emit_mem, waitNet_mem, loss_mem]

theorem writeTurned_wf (s : State) (die : Nat) (writer : BitVec 12) (key : Nat) (bs : List Byte) :
    Memory.wf s.mem = true → Memory.wf (State.writeTurned s die writer key bs).mem = true := by
  intro h
  simp only [State.writeTurned, invalidateAll_mem]
  rw [foldl_mem _ (fun s l => setTag_mem s l _)]
  exact wf_setBytes _ _ (by rw [decodesIn_mem, passes_mem, touch_mem]; exact h)

theorem saveWrite_wf (s : State) (t : Strand) (off : Nat) (bs : List Byte) :
    Memory.wf s.mem = true → Memory.wf (State.saveWrite s t off bs).mem = true := by
  grind [State.saveWrite, writeTurned_wf]

theorem addRecord_wf (s : State) (sid : Nat) (r : Record) :
    Memory.wf s.mem = true → Memory.wf (State.addRecord s sid r).mem = true := by
  grind [State.addRecord, setStrand_mem, saveWrite_wf]

theorem reads_mem (s : State) (writer : BitVec 12) (l : Nat) :
    (State.reads s writer l).mem = s.mem := by
  grind [State.reads, touch_mem, decodes_mem, waitNet_mem]

theorem atHome_mem (s : State) (core : Nat) (writer : BitVec 12) (least : Nat) (l : Nat) :
    (State.atHome s core writer least l).2.mem = s.mem := by
  grind [State.atHome, crosses_mem, reads_mem]

theorem readLineAs_mem (s : State) (core : Nat) (writer : BitVec 12) (least : Nat) (l : Nat) :
    (State.readLineAs s core writer least l).2.mem = s.mem := by
  grind [State.readLineAs, onCore_mem, draw_mem, atHome_mem]

theorem readLine_mem (s : State) (core : Nat) (writer : BitVec 12) (l : Nat) :
    (State.readLine s core writer l).2.mem = s.mem := by
  grind [State.readLine, readLineAs_mem]

theorem coreLine_mem (s : State) (core : Nat) (writer : BitVec 12) (l : Nat) :
    (State.coreLine s core writer l).2.mem = s.mem := by
  grind [State.coreLine, readLineAs_mem]

theorem codeLine_mem (s : State) (core : Nat) (writer : BitVec 12) (l : Nat) :
    (State.codeLine s core writer l).2.mem = s.mem := by
  grind [State.codeLine, onCore_mem, draw_mem, atHome_mem]

theorem readHome_mem (s : State) (core : Nat) (writer : BitVec 12) (l : Nat) :
    (State.readHome s core writer l).2.mem = s.mem := by
  grind [State.readHome, atHome_mem, onCore_mem]

theorem landFrom_wf (s : State) (m : BitVec 18) (l : Nat) (w : BitVec 12) (mask : BitVec 64) (data : Line) :
    Memory.wf s.mem = true → Memory.wf (State.landFrom s m l w mask data).2.mem = true := by
  grind [State.landFrom, touch_mem, decodes_mem, wf_set, wf_setBytes, wf_setMasked, wf_filter, wf_nil]

theorem landAt_wf (s : State) (l : Nat) (w : BitVec 12) (mask : BitVec 64) (data : Line) :
    Memory.wf s.mem = true → Memory.wf (State.landAt s l w mask data).2.mem = true := by
  grind [State.landAt, landFrom_wf]

theorem landSent_wf (s : State) (e : OutEntry) :
    Memory.wf s.mem = true → Memory.wf (State.landSent s e).mem = true := by
  grind [State.landSent, addRecord_wf, landAt_wf]

theorem landEntry_wf (s : State) (core : Nat) (e : OutEntry) :
    Memory.wf s.mem = true → Memory.wf (State.landEntry s core e).mem = true := by
  grind [State.landEntry, crosses_mem, addRecord_wf, landSent_wf]

theorem loseStore_wf (s : State) (e : OutEntry) (landed : Bool) :
    Memory.wf s.mem = true → Memory.wf (State.loseStore s e landed).mem = true := by
  grind [State.loseStore, landAt_wf, addRecord_wf]

theorem arriveStore_wf (s : State) (f : Flight) :
    Memory.wf s.mem = true → Memory.wf (State.arriveStore s f).mem = true := by
  grind [State.arriveStore, passes_mem, loss_mem, loseStore_wf, landSent_wf]

/-! ### Translation -/

theorem walk_mem (s : State) (a : Agent) (va : Nat) (fuel : Nat) (level : Nat) (table : Nat) :
    (State.walk s a va fuel level table).2.mem = s.mem := by
  induction fuel generalizing s a va level table <;> grind [State.walk, coreLine_mem]

theorem lookup_mem (s : State) (a : Agent) (va : Nat) :
    (State.lookup s a va).2.mem = s.mem := by
  grind [State.lookup, onCore_mem, onDie_mem, draw_mem, walk_mem]

theorem translate_mem (s : State) (a : Agent) (va : Word) (need : Need) :
    (State.translate s a va need).2.mem = s.mem := by
  grind [State.translate, lookup_mem]

theorem resolveAddr_mem (s : State) (a : Agent) (va : Word) (need : Need) :
    (State.resolveAddr s a va need).2.mem = s.mem := by
  grind [State.resolveAddr, translate_mem]

/-! ### Writes that leave a core -/

theorem send_wf (s : State) (core : Nat) (e : OutEntry) :
    Memory.wf s.mem = true → Memory.wf (State.send s core e).mem = true := by
  grind [State.send, State.emitFor, portFor_mem, passes_mem, emit_mem, addRecord_wf]

theorem drainNet_wf (s : State) (sid : Nat) (p : Nat → Bool) :
    Memory.wf s.mem = true → Memory.wf (State.drainNet s sid p).mem = true := by
  intro h
  refine foldl_wf _ (fun s x q => arriveStore_wf s _ q) _ _ ?_
  show Memory.wf (if _ then s.waitNet else s).mem = true
  split
  · rw [waitNet_mem]; exact h
  · exact h

theorem drainBuffer_wf (s : State) (sid : Nat) (p : Nat → Bool) :
    Memory.wf s.mem = true → Memory.wf (State.drainBuffer s sid p).mem = true := by
  intro h
  unfold State.drainBuffer
  split
  · exact h
  · refine foldl_wf _ (fun s x q => landEntry_wf s _ _ q) _ _ ?_
    rw [setCore_mem]
    split
    · rw [waitNet_mem]; exact h
    · exact h

theorem drain_wf (s : State) (sid : Nat) (p : Nat → Bool) :
    Memory.wf s.mem = true → Memory.wf (State.drain s sid p).mem = true :=
  fun h => drainBuffer_wf _ _ _ (drainNet_wf _ _ _ h)

/-! ### Registers, traps and their return -/

theorem ret_kept (s : State) (d : Reg) (v : Word) :
    Memory.wf s.mem = true → kept (State.ret s d v) = true := by
  grind [State.ret, wx_mem, adv_mem, kept]

theorem ret_goes (s : State) (d : Reg) (v : Word) :
    goes (State.ret s d v) = true := by
  grind [State.ret, wx_mem, adv_mem, goes]

theorem fetch_mem (s : State) (a : Agent) (pc : Word) :
    (State.fetch s a pc).2.mem = s.mem := by
  grind [State.fetch, codeLine_mem, translate_mem]

theorem target_mem (s : State) (a : Agent) (p : Word) :
    (State.target s a p).2.mem = s.mem := by
  grind [State.target, fetch_mem]

theorem enterLine_mem (s : State) (p : Word) (l : Landing) :
    (State.enterLine s p l).mem = s.mem := by
  grind [State.enterLine, jump_mem]

theorem failLaunch_mem (s : State) (lid : Word) (code : BitVec 10) :
    (State.failLaunch s lid code).mem = s.mem := by
  grind [State.failLaunch]

theorem releaseTile_mem (s : State) (core : Nat) (sid : Nat) :
    (State.releaseTile s core sid).mem = s.mem := by
  grind [State.releaseTile, onCore_mem]

theorem stepOver_mem (s : State) (core slot : Nat) : (s.stepOver core slot).mem = s.mem := onCore_mem _ _ _

theorem lose_wf (s : State) (sid : Nat) (code : BitVec 10) :
    Memory.wf s.mem = true → Memory.wf (State.lose s sid code).mem = true := by
  grind [State.lose, setStrand_mem, stepOver_mem, saveWrite_wf, failLaunch_mem, releaseTile_mem]

theorem trapEntry_wf (s : State) (code : BitVec 10) (deliv : Nat) (elem : Bool) (tpc : Word) (tval : Word) (rec : Word) (resume : Word) :
    Memory.wf s.mem = true → Memory.wf (State.trapEntry s code deliv elem tpc tval rec resume).mem = true := by
  grind [State.trapEntry, saveWrite_wf, target_mem, enterLine_mem, lose_wf]

theorem trap_kept (s : State) (code : BitVec 10) (tval : Word) :
    Memory.wf s.mem = true → kept (State.trap s code tval) = true := by
  grind [State.trap, trapEntry_wf, kept]

theorem trap_goes (s : State) (code : BitVec 10) (tval : Word) :
    goes (State.trap s code tval) = true := by
  grind [State.trap, trapEntry_wf, goes]

theorem trapWord_kept (s : State) (code : BitVec 10) (w : InsnWord) :
    Memory.wf s.mem = true → kept (State.trapWord s code w) = true := by
  grind [State.trapWord, trap_kept, kept]

theorem trapWord_goes (s : State) (code : BitVec 10) (w : InsnWord) :
    goes (State.trapWord s code w) = true := by
  grind [State.trapWord, trap_goes, goes]

theorem trapX_kept (s : State) (f : XFault) :
    Memory.wf s.mem = true → kept (State.trapX s f) = true := by
  grind [State.trapX, trap_kept, kept]

theorem trapX_goes (s : State) (f : XFault) :
    goes (State.trapX s f) = true := by
  grind [State.trapX, trap_goes, goes]

theorem deliver_wf (s : State) (r : Record) (deliv : Nat) :
    Memory.wf s.mem = true → Memory.wf (State.deliver s r deliv).mem = true := by
  grind [State.deliver, trapEntry_wf]

theorem deliverPoint_kept (s : State) (p : Record → Bool) (k : State → Out) (hk : ∀ y0, Memory.wf (State.mem y0) = true → kept (k y0) = true) :
    Memory.wf s.mem = true → kept (State.deliverPoint s p k) = true := by
  grind [State.deliverPoint, deliver_wf, kept]

theorem deliverPoint_goes (s : State) (p : Record → Bool) (k : State → Out) (hk : ∀ y0, goes (k y0) = true) :
    goes (State.deliverPoint s p k) = true := by
  grind [State.deliverPoint, deliver_wf, goes]

theorem freeRecord_wf (s : State) :
    Memory.wf s.mem = true → Memory.wf (State.freeRecord s).mem = true := by
  grind [State.freeRecord, saveWrite_wf, wf_set, wf_setBytes, wf_setMasked, wf_filter, wf_nil]

theorem trapReturn_wf (s : State) :
    Memory.wf s.mem = true → Memory.wf (State.trapReturn s).mem = true := by
  intro h
  unfold State.trapReturn
  extract_lets
  refine freeRecord_wf _ (drain_wf _ _ _ ?_)
  show Memory.wf (State.decodesIn _ _ _ _ _).mem = true
  rw [decodesIn_mem, passes_mem, touch_mem]
  exact h

/-! ### Loads and stores -/

theorem loadKey_mem (s : State) (a : Agent) (va : Word) (key : Nat) (n : Nat) :
    (State.loadKey s a va key n).2.mem = s.mem := by
  grind [State.loadKey, readLine_mem]

theorem loadAt_mem (s : State) (a : Agent) (va : Word) (n : Nat) :
    (State.loadAt s a va n).2.mem = s.mem := by
  grind [State.loadAt, resolveAddr_mem, loadKey_mem]

theorem releaseSources_mem (s : State) (core : Nat) :
    (State.releaseSources s core).mem = s.mem := by
  grind [State.releaseSources]

theorem bufferStore_wf (s : State) (wait : Bool) (a : Agent) (key : Nat) (n : Nat) (v : Nat) (pc : Word) (w : InsnWord) (pos : Nat) :
    Memory.wf s.mem = true → Memory.wf (State.bufferStore s wait a key n v pc w pos).mem = true := by
  grind [State.bufferStore, setCore_mem, onCore_mem, send_wf, releaseSources_mem, waitNet_mem]

theorem logLine_mem (s : State) (l : Nat) : (s.logLine l).mem = s.mem := rfl

theorem store_wf (s : State) (key : Nat) (n : Nat) (v : Nat) (w : InsnWord) :
    Memory.wf s.mem = true → Memory.wf (State.store s key n v w).mem = true := by
  grind [State.store, logLine_mem, bufferStore_wf]

theorem scalarLoad_kept (s : State) (va : Word) (n : Nat) (d : Reg) (f : Nat → Word) :
    Memory.wf s.mem = true → kept (State.scalarLoad s va n d f) = true := by
  grind [State.scalarLoad, ret_kept, trap_kept, trapX_kept, loadAt_mem, kept]

theorem scalarLoad_goes (s : State) (va : Word) (n : Nat) (d : Reg) (f : Nat → Word) :
    goes (State.scalarLoad s va n d f) = true := by
  grind [State.scalarLoad, ret_goes, trap_goes, trapX_goes, loadAt_mem, goes]

theorem scalarStore_kept (s : State) (va : Word) (n : Nat) (v : Word) (w : InsnWord) :
    Memory.wf s.mem = true → kept (State.scalarStore s va n v w) = true := by
  grind [State.scalarStore, resolveAddr_mem, adv_mem, trap_kept, trapX_kept, bump_mem, store_wf, kept]

theorem scalarStore_goes (s : State) (va : Word) (n : Nat) (v : Word) (w : InsnWord) :
    goes (State.scalarStore s va n v w) = true := by
  grind [State.scalarStore, resolveAddr_mem, adv_mem, trap_goes, trapX_goes, bump_mem, store_wf, goes]

/-! ### Turns and statuses -/

theorem finish_wf (s : State) (d : Reg) (st : Word) (poll : Bool) :
    Memory.wf s.mem = true → Memory.wf (State.finish s d st poll).mem = true := by
  grind [State.finish, wx_mem, adv_mem, setC_mem, trapEntry_wf]

theorem touchLines_mem (s : State) (first : Nat) (last : Nat) :
    (State.touchLines s first last).mem = s.mem := foldl_mem _ (fun s p => touch_mem s _) _ _

theorem ackLines_mem (s : State) (sid : Nat) (p : Nat → Bool) :
    (State.ackLines s sid p).mem = s.mem := by
  unfold State.ackLines
  dsimp only
  repeat' split
  all_goals (repeat (first | rw [foldl_mem _ (fun s x => by grind [State.ackLines, onCore_mem])] | (simp only [onCore_mem]; done) | simp only [onCore_mem]))
  all_goals grind [State.ackLines, onCore_mem]

theorem turnLines_wf (s : State) (a : Agent) (lvl : Nat) (all : Bool) (first : Nat) (last : Nat) :
    Memory.wf s.mem = true → Memory.wf (State.turnLines s a lvl all first last).mem = true := by
  grind [State.turnLines, onCores_mem, drain_wf, touchLines_mem, decodesIn_mem, passes_mem, ackLines_mem]

theorem turnBudget_mem (s : State) (spent : Bool) :
    (State.turnBudget s spent).2.mem = s.mem := by
  grind [State.turnBudget]

theorem placeStream_wf (s : State) (i : Nat) :
    Memory.wf s.mem = true → Memory.wf (State.placeStream s i).mem = true := by
  intro h
  unfold State.placeStream
  dsimp only
  repeat' split
  all_goals (repeat (first | refine foldl_wf _ (fun s x q => by grind [State.placeStream, logLine_mem, bufferStore_wf]) _ _ ?_ | assumption | simp only [logLine_mem]))
  all_goals grind [State.placeStream, logLine_mem, bufferStore_wf]

theorem placeStreams_wf (s : State) :
    Memory.wf s.mem = true → Memory.wf (State.placeStreams s).mem = true := by
  exact foldl_wf _ (fun s i q => placeStream_wf s i q) _ _

theorem turnFar_wf (s : State) (a : Agent) (lvl : Nat) (all : Bool) (n l : Nat) :
    Memory.wf s.mem = true → Memory.wf (State.turnFar s a lvl all n l).2.2.mem = true := by
  induction n generalizing s l with
  | zero => intro h; exact h
  | succ n ih =>
    intro h
    have hc : Memory.wf (s.crosses a.core a.writer (64 * l) 64).2.mem = true := by rw [crosses_mem]; exact h
    unfold State.turnFar
    split <;> rename_i q <;> rw [q] at hc
    · exact hc
    · exact ih _ _ (turnLines_wf _ _ _ _ _ _ hc)

theorem addReached_wf (s : State) (sid : Nat) (r : Record) :
    Memory.wf s.mem = true → Memory.wf (State.addReached s sid r).mem = true := by
  grind [State.addReached, setStrand_mem, addRecord_wf]

theorem turnReachLine_wf (s : State) (lvl : Nat) (sp : Span) (l : Nat) :
    Memory.wf s.mem = true → Memory.wf (State.turnReachLine s lvl sp l).mem = true := by
  intro h
  have hf := turnFar_wf s s.me lvl false 1 l h
  unfold State.turnReachLine
  split <;> rename_i q <;> rw [q] at hf
  · split
    · exact addReached_wf _ _ _ hf
    · exact hf
  · exact hf

theorem turnReach_wf (s : State) (lvl : Nat) (sp : Span) (first last : Nat) :
    Memory.wf s.mem = true → Memory.wf (State.turnReach s lvl sp first last).mem = true := by
  intro h
  unfold State.turnReach
  split
  · exact turnLines_wf _ _ _ _ _ _ h
  · exact foldl_wf _ (fun s l p => turnReachLine_wf _ _ _ _ p) _ _ h

theorem turnSpan_wf (s : State) (lvl : Nat) (sp : Span) (n : Nat) :
    Memory.wf s.mem = true → Memory.wf (State.turnSpan s lvl sp n).mem = true := by
  intro h
  unfold State.turnSpan
  dsimp only
  repeat' split
  · exact h
  · exact turnReach_wf _ _ _ _ _ h
  · refine foldl_wf _ (fun s p q => ?_) _ _ h
    split
    · exact turnReach_wf _ _ _ _ _ q
    · exact q

theorem turnSpans_wf (s : State) (lvl : Nat) (todo : List Span) (budget : Option Nat) :
    Memory.wf s.mem = true → Memory.wf (State.turnSpans s lvl todo budget).2.2.mem = true := by
  induction todo generalizing s lvl budget <;> grind [State.turnSpans, turnLines_wf, turnSpan_wf]

theorem ackAll_mem (s : State) (sid : Nat) :
    (State.ackAll s sid).mem = s.mem := by
  grind [State.ackAll, ackLines_mem]

theorem turnLog_wf (s : State) (lvl : Nat) (spent : Bool) :
    Memory.wf s.mem = true → Memory.wf (State.turnLog s lvl spent).2.2.mem = true := by
  grind [State.turnLog, turnBudget_mem, placeStreams_wf, turnSpans_wf, ackAll_mem]

/-! ### Vector operands -/

theorem stopHere_kept (s : State) (left : List Nat) (unit : Nat) :
    Memory.wf s.mem = true → kept (State.stopHere s left unit) = true := by
  grind [State.stopHere, kept]

theorem stopHere_goes (s : State) (left : List Nat) (unit : Nat) :
    goes (State.stopHere s left unit) = true := by
  grind [State.stopHere, goes]

theorem snd_mem {α β : Type} (a : α) (q : β × State) {s : State} (h : q.2.mem = s.mem) : (a, q.2).2.mem = s.mem := h

theorem streamRead_mem (s : State) (b : Stream) :
    (State.streamRead s b).2.mem = s.mem := by
  exact snd_mem _ _ (loadKey_mem ..)

theorem streamFill_mem (s : State) (b : Stream) (z2 : Nat) :
    (State.streamFill s b z2).2.mem = s.mem := by
  induction z2 generalizing s b with
  | zero => rfl
  | succ n ih =>
    rw [State.streamFill]
    exact (ih _ _).trans (streamRead_mem s b)

theorem checkSource_mem (s : State) (r : Reg) :
    (State.checkSource s r).2.mem = s.mem := by
  grind [State.checkSource, streamFill_mem]

theorem consume_mem (n : Nat) (s : State) (r : Reg) :
    (State.consume n s r).mem = s.mem := by
  grind [State.consume, onStrand_mem]

theorem raiseSources_mem (s : State) (t : Strand) (use : List Nat) (rs : List Reg) : (s.raiseSources t use rs).mem = s.mem := rfl

theorem consumeAll_mem (s : State) (t : Strand) (use : List Nat) (rs : List Reg) : (s.consumeAll t use rs).mem = s.mem := by
  unfold State.consumeAll
  rw [foldl_mem _ (fun s r => consume_mem t.vl s r), raiseSources_mem]

theorem produce_mem (s : State) (r : Reg) (es : List Nat) :
    (State.produce s r es).mem = s.mem := by
  grind [State.produce, setC_mem, bump_mem]

theorem checkSources_mem (s : State) (z1 : List Reg) :
    (State.checkSources s z1).2.mem = s.mem := by
  induction z1 generalizing s <;> grind [State.checkSources, checkSource_mem]

theorem stallHere_kept (s : State) :
    Memory.wf s.mem = true → kept (State.stallHere s) = true := by
  grind [State.stallHere, kept]

theorem stallHere_goes (s : State) :
    goes (State.stallHere s) = true := by
  grind [State.stallHere, goes]

theorem stallOn_kept (s : State) (r : Reg) :
    Memory.wf s.mem = true → kept (State.stallOn s r) = true := by
  grind [State.stallOn, kept]

theorem stallOn_goes (s : State) (r : Reg) :
    goes (State.stallOn s r) = true := by
  grind [State.stallOn, goes]

theorem consuming_kept (s : State) (use : List Nat) (rs : List Reg) (o : Out) (h : kept o = true) : kept (State.consuming s use rs o) = true := by
  cases o with
  | next t =>
    simp only [State.consuming, kept]
    repeat' split
    · rw [consumeAll_mem]; exact h
    · rw [raiseSources_mem]; exact h
    · exact h
  | fault f => rfl
  | refused r => rfl

theorem consuming_goes (s : State) (use : List Nat) (rs : List Reg) (o : Out) (h : goes o = true) : goes (State.consuming s use rs o) = true := by
  cases o with
  | next t => rfl
  | fault f => exact h
  | refused r => exact h

theorem withOperands_kept (s : State) (use : Strand → List Nat) (srcs dsts : List Reg) (k : State → (Reg → Nat → Nat) → Out)
    (hk : ∀ y0 y1, Memory.wf (State.mem y0) = true → kept (k y0 y1) = true) :
    Memory.wf s.mem = true → kept (State.withOperands s use srcs dsts k) = true := by
  intro h
  have hs : Memory.wf (s.checkSources (distinct srcs)).2.mem = true := by rw [checkSources_mem]; exact h
  unfold State.withOperands
  dsimp only
  split
  · exact trap_kept _ _ _ h
  split
  · exact trap_kept _ _ _ h
  split <;> rename_i hq <;> rw [hq] at hs
  · exact trap_kept _ _ _ hs
  · exact stallOn_kept _ _ hs
  split
  · exact trap_kept _ _ _ hs
  · exact stallOn_kept _ _ hs
  split
  · exact consuming_kept _ _ _ _ (hk _ _ (by rw [draw_mem]; exact hs))
  · exact hk _ _ hs

theorem withOperands_goes (s : State) (use : Strand → List Nat) (srcs dsts : List Reg) (k : State → (Reg → Nat → Nat) → Out)
    (hk : ∀ y0 y1, goes (k y0 y1) = true) : goes (State.withOperands s use srcs dsts k) = true := by
  unfold State.withOperands
  dsimp only
  split
  · exact trap_goes _ _ _
  split
  · exact trap_goes _ _ _
  split
  · exact trap_goes _ _ _
  · exact stallOn_goes _ _
  split
  · exact trap_goes _ _ _
  · exact stallOn_goes _ _
  split
  · exact consuming_goes _ _ _ _ (hk _ _)
  · exact hk _ _

theorem withSources_kept (s : State) (srcs : List Reg) (dst : Option Reg) (k : State → (Reg → Nat → Nat) → Out) (hk : ∀ y0 y1, Memory.wf (State.mem y0) = true → kept (k y0 y1) = true) :
    Memory.wf s.mem = true → kept (State.withSources s srcs dst k) = true := withOperands_kept s _ _ _ k hk

theorem withSources_goes (s : State) (srcs : List Reg) (dst : Option Reg) (k : State → (Reg → Nat → Nat) → Out) (hk : ∀ y0 y1, goes (k y0 y1) = true) :
    goes (State.withSources s srcs dst k) = true := withOperands_goes s _ _ _ k hk

theorem writePart_mem (s : State) (d : Reg) (es : List (Nat × Nat)) (fl : FFlags) :
    (State.writePart s d es fl).mem = s.mem := by
  grind [State.writePart]

theorem writeGroup_mem (s : State) (d : Reg) :
    (State.writeGroup s d).mem = s.mem := by
  grind [State.writeGroup, produce_mem]

theorem writeBack_mem (s : State) (d : Reg) (es : List (Nat × Nat)) (fl : FFlags) :
    (State.writeBack s d es fl).mem = s.mem := by
  grind [State.writeBack, writePart_mem, writeGroup_mem]

theorem elementWise_kept (s : State) (srcs : List Reg) (d : Reg) (op : (Reg → Nat → Nat) → Nat → Nat × FFlags) :
    Memory.wf s.mem = true → kept (State.elementWise s srcs d op) = true := by
  grind [State.elementWise, adv_mem, stopHere_kept, withSources_kept, writePart_mem, writeGroup_mem, kept]

theorem elementWise_goes (s : State) (srcs : List Reg) (d : Reg) (op : (Reg → Nat → Nat) → Nat → Nat × FFlags) :
    goes (State.elementWise s srcs d op) = true := by
  grind [State.elementWise, adv_mem, stopHere_goes, withSources_goes, writePart_mem, writeGroup_mem, goes]

/-! ### Saves and waits -/

theorem settleStreams_wf (s : State) :
    Memory.wf s.mem = true → Memory.wf (State.settleStreams s).mem = true := by
  grind [State.settleStreams, placeStreams_wf]

theorem saveCsr_wf (s : State) (t : Strand) (i : Nat) (v : Word) :
    Memory.wf s.mem = true → Memory.wf (State.saveCsr s t i v).mem = true := by
  grind [State.saveCsr, saveWrite_wf]

theorem saveFrom_wf (s : State) (p : Nat) (z2 : List (Nat × List (Nat × List Byte))) (at_ : Nat) (n : Nat) :
    Memory.wf s.mem = true → Memory.wf (State.saveFrom s p z2 at_ n).mem = true := by
  induction z2 generalizing s at_ n with
  | nil => intro h; exact h
  | cons r rs ih =>
    intro h
    unfold State.saveFrom
    split
    · exact ih _ _ _ h
    · cases n with
      | zero => exact h
      | succ n =>
        exact ih _ _ _ (saveWrite_wf _ _ _ _ (foldl_wf _ (fun s e q => saveWrite_wf s _ _ _ q) _ _ h))

theorem handOver_wf (s : State) :
    Memory.wf s.mem = true → Memory.wf (State.handOver s).mem = true := by
  grind [State.handOver, turnSpans_wf, settleStreams_wf]

theorem saveOn_wf (s : State) (n : Nat) :
    Memory.wf s.mem = true → Memory.wf (State.saveOn s n).mem = true := by
  grind [State.saveOn, saveFrom_wf, handOver_wf]

theorem beginSave_wf (s : State) (k : SaveKind) (w : Option WaitRec) (resume : Word) :
    Memory.wf s.mem = true → Memory.wf (State.beginSave s k w resume).mem = true := by
  grind [State.beginSave, saveWrite_wf, lose_wf]

theorem preemptPoint_kept (s : State) (kind : SaveKind) (k : State → Out) (hk : ∀ y0, Memory.wf (State.mem y0) = true → kept (k y0) = true) :
    Memory.wf s.mem = true → kept (State.preemptPoint s kind k) = true := by
  grind [State.preemptPoint, beginSave_wf, kept]

theorem preemptPoint_goes (s : State) (kind : SaveKind) (k : State → Out) (hk : ∀ y0, goes (k y0) = true) :
    goes (State.preemptPoint s kind k) = true := by
  grind [State.preemptPoint, beginSave_wf, goes]

theorem waitPoint_kept (s : State) (p : Record → Bool) (k : State → Out) (hk : ∀ y0, Memory.wf (State.mem y0) = true → kept (k y0) = true) :
    Memory.wf s.mem = true → kept (State.waitPoint s p k) = true := by
  grind [State.waitPoint, deliverPoint_kept, preemptPoint_kept, kept]

theorem waitPoint_goes (s : State) (p : Record → Bool) (k : State → Out) (hk : ∀ y0, goes (k y0) = true) :
    goes (State.waitPoint s p k) = true := by
  grind [State.waitPoint, deliverPoint_goes, preemptPoint_goes, goes]

theorem startWait_mem (s : State) (word : InsnWord) (d : Reg) (dl : Deadline) (what : WaitFor) (refused : Option Nat) :
    (State.startWait s word d dl what refused).mem = s.mem := by
  grind [State.startWait]

theorem stepEnd_wf (s : State) :
    Memory.wf s.mem = true → Memory.wf (State.stepEnd s).mem = true := by
  grind [State.stepEnd, stepOver_mem, beginSave_wf]

theorem stepDone_wf (s : State) :
    Memory.wf s.mem = true → Memory.wf (State.stepDone s).mem = true := by
  grind [State.stepDone, stepEnd_wf]

end Sys2Proof.Laws
end

