-- ==== Sys2Proof/Laws/Ops.lean ====
section
/-! SUPPORT. What each shared operation answers, case by case. -/

namespace Sys2Proof.Laws

open Machine

set_option Elab.async false

/-! ### Results and traps -/

theorem ret_eq (s : State) (d : Reg) (v : Word) : s.ret d v = .next (s.wx d v).adv := rfl

theorem trap_eq (s : State) (code : BitVec 10) (tval : Word) :
    s.trap code tval = .next (s.trapEntry code 0 false s.cur.pc tval 0 s.cur.pc) := rfl

theorem trapWord_eq (s : State) (code : BitVec 10) (w : InsnWord) : s.trapWord code w = s.trap code (w.setWidth 64) := rfl

theorem trapX_eq (s : State) (f : XFault) : s.trapX f = s.trap f.cause f.tval := rfl

/-- A trap inside a handler loses the strand (R386). -/
theorem trapEntry_nested {s : State} (h : s.cur.nest = true) (code : BitVec 10) (deliv : Nat) (elem : Bool) (tpc tval rec resume : Word) :
    s.trapEntry code deliv elem tpc tval rec resume = s.lose s.cur.id.sid 0x3F1 := by
  simp [State.trapEntry, h]

/-- The strand as a trap outside a handler leaves it, its program counter apart (R386). -/
def trapped (t : Strand) (code : BitVec 10) (deliv : Nat) (elem : Bool) (tpc tval rec resume : Word) : Strand :=
  { t.countTrap code resume with
    c := t.c.enter code deliv elem tpc tval rec resume, nestAt := t.stay, run := .running, stall := none, due := none, entry := false, blockedOn := none, haltTurned := 0 }

/-- Outside a handler a trap at a TVEC that is not refused puts the strand there, with the saved registers of R386; where the marker cannot be read, `entry` has the fetch there take the fault. -/
theorem trapEntry_enters {s : State} (h : s.cur.nest = false) (code : BitVec 10) (deliv : Nat) (elem : Bool) (tpc tval rec resume : Word) :
    let t := trapped s.cur code deliv elem tpc tval rec resume
    let u := ({ s with cur := t }).saveWrite t 0x40 (frameBytes t.x)
    (u.target u.me t.c.tvec).1 ≠ .refused →
    (s.trapEntry code deliv elem tpc tval rec resume).cur =
      { t with pc := pcOf t.c.tvec, entry := decide ((u.target u.me t.c.tvec).1 = .unread) } := by
  intro t u ht
  have hu : u.cur = t := saveWrite_cur ..
  have he : s.trapEntry code deliv elem tpc tval rec resume =
      (match u.target u.me u.cur.c.tvec with
        | (.refused, w) => w.lose w.cur.id.sid 0x011
        | (l, w) => w.enterLine w.cur.c.tvec l) := by
    simp only [State.trapEntry, h, Bool.false_eq_true, if_false]
    rfl
  rw [he, hu]
  have hc := target_cur u u.me t.c.tvec
  revert ht hc
  generalize u.target u.me t.c.tvec = p
  obtain ⟨l, w⟩ := p
  intro hl hc
  have hc' : w.cur = t := hc.trans hu
  cases l
  · simp [State.enterLine, State.jump, hc']
  · exact absurd rfl hl
  · simp [State.enterLine, State.jump, hc']

/-! ### Transfers (R192 to R194) -/

theorem transfer_user {s : State} (h : s.cur.sup = false) (p : Word) (k : State → State) : s.transfer p k = .next ((k s).jump p) := by
  simp [State.transfer, h]

theorem transfer_permitted {s s' : State} {p : Word} {l : Landing} (h : s.cur.sup = true) (ht : s.target s.me p = (l, s')) (hl : l ≠ .refused)
    (k : State → State) : s.transfer p k = .next ((k s').enterLine p l) := by
  cases l
  · simp [State.transfer, h, ht]
  · exact absurd rfl hl
  · simp [State.transfer, h, ht]

theorem transfer_refused {s s' : State} {p : Word} (h : s.cur.sup = true) (ht : s.target s.me p = (.refused, s')) (k : State → State) :
    s.transfer p k = s'.trap 0x011 (s.refusedAt p) := by
  simp [State.transfer, h, ht]

theorem branch_taken (s : State) (o : BitVec 13) : s.branch true o = s.transfer (blockTarget s.cur.pc o) id := rfl

theorem branch_not_taken (s : State) (o : BitVec 13) : s.branch false o = .next s.adv := rfl

/-! ### Scalar loads and stores (R186, R187) -/

theorem scalarLoad_misaligned {s : State} {va : Word} {n : Nat} (h : va.toNat % n ≠ 0) (d : Reg) (f : Nat → Word) :
    s.scalarLoad va n d f = s.trap 0x085 va := by
  simp [State.scalarLoad, h]

theorem scalarLoad_value {s s' : State} {va : Word} {n v : Nat} (h : va.toNat % n = 0) (hl : s.loadAt s.me va n = (.ok v, s')) (d : Reg) (f : Nat → Word) :
    s.scalarLoad va n d f = s'.ret d (f v) := by
  simp [State.scalarLoad, h, hl]

theorem scalarLoad_fault {s s' : State} {va : Word} {n : Nat} {x : XFault} (h : va.toNat % n = 0) (hl : s.loadAt s.me va n = (.error x, s')) (d : Reg) (f : Nat → Word) :
    s.scalarLoad va n d f = s'.trapX x := by
  simp [State.scalarLoad, h, hl]

theorem scalarStore_misaligned {s : State} {va : Word} {n : Nat} (h : va.toNat % n ≠ 0) (v : Word) (w : InsnWord) :
    s.scalarStore va n v w = s.trap 0x085 va := by
  simp [State.scalarStore, h]

theorem scalarStore_enters {s s' : State} {va : Word} {n key : Nat} (h : va.toNat % n = 0) (hr : s.resolveAddr s.me va .write = (.ok key, s'))
    (v : Word) (w : InsnWord) : s.scalarStore va n v w = .next ((s'.bump.store key n v.toNat w).adv) := by
  simp [State.scalarStore, h, hr]

theorem scalarStore_fault {s s' : State} {va : Word} {n : Nat} {x : XFault} (h : va.toNat % n = 0) (hr : s.resolveAddr s.me va .write = (.error x, s'))
    (v : Word) (w : InsnWord) : s.scalarStore va n v w = s'.trapX x := by
  simp [State.scalarStore, h, hr]

/-! ### Vector operands (R202, R206) -/

theorem checkSources_plain {s : State} (h : ∀ r, s.cur.stream r = none) : ∀ l, s.checkSources l = (.ready, s)
  | [] => rfl
  | r :: rs => by
    have hr : s.checkSource r = (.ready, s) := by simp only [State.checkSource, h r]
    simp only [State.checkSources, hr, checkSources_plain h rs]

/-- Where no register is a bound stream, an instruction reads its operands as they stand. -/
theorem withOperands_plain {s : State} (h : ∀ r, s.cur.stream r = none) (use : Strand → List Nat) (srcs dsts : List Reg)
    (k : State → (Reg → Nat → Nat) → Out) :
    s.withOperands use srcs dsts k =
      k { s with cur := { s.cur with stall := none, due := none, blockedOn := none } } (fun r i => s.cur.source 0 r i) := by
  have hf : List.find? (fun _ : Reg => false) (distinct srcs) = none := List.find?_eq_none.mpr (by simp)
  have hs : ∀ r, ({ s.cur with stall := none, due := none, blockedOn := none } : Strand).stream r = none := h
  have hd : dsts.map s.checkDest = dsts.map (fun _ => StreamCheck.ready) := by
    refine List.map_congr_left (fun r _ => ?_)
    simp only [State.checkDest, h r]
  have h1 : (dsts.map (fun _ => StreamCheck.ready)).find? StreamCheck.misuse = none := List.find?_eq_none.mpr (by simp [StreamCheck.misuse])
  have h2 : (dsts.map (fun _ => StreamCheck.ready)).find? StreamCheck.isTrap = none := List.find?_eq_none.mpr (by simp [StreamCheck.isTrap])
  have h3 : (dsts.map (fun _ => StreamCheck.ready)).find? (fun c => c != .ready) = none := List.find?_eq_none.mpr (by simp)
  simp [State.withOperands, h, hs, checkSources_plain h, hf, hd, h1, h2, h3]
  rfl

theorem withSources_plain {s : State} (h : ∀ r, s.cur.stream r = none) (srcs : List Reg) (dst : Option Reg)
    (k : State → (Reg → Nat → Nat) → Out) :
    s.withSources srcs dst k =
      k { s with cur := { s.cur with stall := none, due := none, blockedOn := none } } (fun r i => s.cur.source 0 r i) :=
  withOperands_plain h _ srcs _ k

theorem writeGroup_plain {s : State} {d : Reg} (h : s.cur.stream d = none) : s.writeGroup d = s := by simp [State.writeGroup, h]

/-- Where no step ends within an instruction, an element-wise instruction performs every active element and goes on (R176, R202). -/
theorem elementWise_plain {s : State} (h : ∀ r, s.cur.stream r = none) (h1 : s.limit = none) (srcs : List Reg) (d : Reg)
    (op : (Reg → Nat → Nat) → Nat → Nat × FFlags) :
    let u : State := { s with cur := { s.cur with stall := none, due := none, blockedOn := none } }
    let rs := u.cur.active.map (fun i => (i, op (fun r i => s.cur.source 0 r i) i))
    let w := u.writeBack d (rs.map (fun r => (r.1, r.2.1))) (rs.foldl (fun f r => f ||| r.2.2) 0)
    s.elementWise srcs d op = .next ({ w with cur := w.cur.vdone }).adv := by
  intro u rs w
  unfold State.elementWise
  rw [withSources_plain h]
  have hl : ({ s with cur := { s.cur with stall := none, due := none, blockedOn := none } } : State).limit = none := h1
  simp only [State.portion, hl]
  rfl

end Sys2Proof.Laws
end

