-- ==== Sys2Proof/Laws/PerInstr.lean ====
section
/-! SUPPORT. The family Round, said per instruction: the word that the encoding tables of the spec give a well-formed instruction (R151 to R162) decodes to that instruction, with every operand. -/

namespace Sys2Proof.Laws.Round

set_option Elab.async false

/-- The word of a well-formed instruction decodes to it; an event has no word. -/
def Statement (i : Instr) : Prop := i.isWord = true → i.wf = true → decodeWord (encode i) = .ok i

/-! ### The major opcode (R159) -/

theorem major_00 (w : InsnWord) (h : fMajor w = 0x00#6) : decodeWord w = decodeSys w := by
  unfold decodeWord; rw [h]; rfl
theorem major_01 (w : InsnWord) (h : fMajor w = 0x01#6) : decodeWord w = decodeAlu w := by
  unfold decodeWord; rw [h]; rfl
theorem major_02 (w : InsnWord) (h : fMajor w = 0x02#6) : decodeWord w = .ok (.addi (fD w) (fA w) (fImm16 w)) := by
  unfold decodeWord; rw [h]; rfl
theorem major_03 (w : InsnWord) (h : fMajor w = 0x03#6) : decodeWord w = .ok (.andi (fD w) (fA w) (fImm16 w)) := by
  unfold decodeWord; rw [h]; rfl
theorem major_04 (w : InsnWord) (h : fMajor w = 0x04#6) : decodeWord w = .ok (.ori (fD w) (fA w) (fImm16 w)) := by
  unfold decodeWord; rw [h]; rfl
theorem major_05 (w : InsnWord) (h : fMajor w = 0x05#6) : decodeWord w = .ok (.xori (fD w) (fA w) (fImm16 w)) := by
  unfold decodeWord; rw [h]; rfl
theorem major_06 (w : InsnWord) (h : fMajor w = 0x06#6) : decodeWord w = .ok (.slti (fD w) (fA w) (fImm16 w)) := by
  unfold decodeWord; rw [h]; rfl
theorem major_07 (w : InsnWord) (h : fMajor w = 0x07#6) : decodeWord w = .ok (.sltiu (fD w) (fA w) (fImm16 w)) := by
  unfold decodeWord; rw [h]; rfl
theorem major_08 (w : InsnWord) (h : fMajor w = 0x08#6) : decodeWord w = decodeShift w := by
  unfold decodeWord; rw [h]; rfl
theorem major_09 (w : InsnWord) (h : fMajor w = 0x09#6) : decodeWord w = .ok (.lui (fD w) (fImm21 w)) := by
  unfold decodeWord; rw [h]; rfl
theorem major_0A (w : InsnWord) (h : fMajor w = 0x0A#6) : decodeWord w = .ok (.addpc (fD w) (fImm21 w)) := by
  unfold decodeWord; rw [h]; rfl
theorem major_0B (w : InsnWord) (h : fMajor w = 0x0B#6) : decodeWord w = decodeMulDiv w := by
  unfold decodeWord; rw [h]; rfl
theorem major_0C (w : InsnWord) (h : fMajor w = 0x0C#6) : decodeWord w = decodeLoad w := by
  unfold decodeWord; rw [h]; rfl
theorem major_0D (w : InsnWord) (h : fMajor w = 0x0D#6) : decodeWord w = decodeStore w := by
  unfold decodeWord; rw [h]; rfl
theorem major_0E (w : InsnWord) (h : fMajor w = 0x0E#6) : decodeWord w = decodeFps w := by
  unfold decodeWord; rw [h]; rfl
theorem major_0F (w : InsnWord) (h : fMajor w = 0x0F#6) : decodeWord w = decodeFmas w := by
  unfold decodeWord; rw [h]; rfl
theorem major_10 (w : InsnWord) (h : fMajor w = 0x10#6) : decodeWord w = decodeBranch w := by
  unfold decodeWord; rw [h]; rfl
theorem major_11 (w : InsnWord) (h : fMajor w = 0x11#6) : decodeWord w = .ok (.jmp (fOff26 w)) := by
  unfold decodeWord; rw [h]; rfl
theorem major_12 (w : InsnWord) (h : fMajor w = 0x12#6) : decodeWord w = .ok (.call (fOff26 w)) := by
  unfold decodeWord; rw [h]; rfl
theorem major_13 (w : InsnWord) (h : fMajor w = 0x13#6) : decodeWord w = decodeJr w := by
  unfold decodeWord; rw [h]; rfl
theorem major_14 (w : InsnWord) (h : fMajor w = 0x14#6) : decodeWord w = decodeCsr w := by
  unfold decodeWord; rw [h]; rfl
theorem major_18 (w : InsnWord) (h : fMajor w = 0x18#6) : decodeWord w = decodeVcfg w := by
  unfold decodeWord; rw [h]; rfl
theorem major_19 (w : InsnWord) (h : fMajor w = 0x19#6) : decodeWord w = decodeVf w := by
  unfold decodeWord; rw [h]; rfl
theorem major_1A (w : InsnWord) (h : fMajor w = 0x1A#6) : decodeWord w = decodeVfm w := by
  unfold decodeWord; rw [h]; rfl
theorem major_1B (w : InsnWord) (h : fMajor w = 0x1B#6) : decodeWord w = decodeVint w := by
  unfold decodeWord; rw [h]; rfl
theorem major_1C (w : InsnWord) (h : fMajor w = 0x1C#6) : decodeWord w = decodeVperm w := by
  unfold decodeWord; rw [h]; rfl
theorem major_1D (w : InsnWord) (h : fMajor w = 0x1D#6) : decodeWord w = decodeVmask w := by
  unfold decodeWord; rw [h]; rfl
theorem major_1E (w : InsnWord) (h : fMajor w = 0x1E#6) : decodeWord w = decodeVred w := by
  unfold decodeWord; rw [h]; rfl
theorem major_20 (w : InsnWord) (h : fMajor w = 0x20#6) : decodeWord w = decodeVload w := by
  unfold decodeWord; rw [h]; rfl
theorem major_21 (w : InsnWord) (h : fMajor w = 0x21#6) : decodeWord w = decodeVstore w := by
  unfold decodeWord; rw [h]; rfl
theorem major_22 (w : InsnWord) (h : fMajor w = 0x22#6) : decodeWord w = decodeVatom w := by
  unfold decodeWord; rw [h]; rfl
theorem major_23 (w : InsnWord) (h : fMajor w = 0x23#6) : decodeWord w = decodeStream w := by
  unfold decodeWord; rw [h]; rfl
theorem major_24 (w : InsnWord) (h : fMajor w = 0x24#6) : decodeWord w = decodeMemord w := by
  unfold decodeWord; rw [h]; rfl
theorem major_25 (w : InsnWord) (h : fMajor w = 0x25#6) : decodeWord w = decodeAsync w := by
  unfold decodeWord; rw [h]; rfl
theorem major_28 (w : InsnWord) (h : fMajor w = 0x28#6) : decodeWord w = decodeTile w := by
  unfold decodeWord; rw [h]; rfl
theorem major_29 (w : InsnWord) (h : fMajor w = 0x29#6) : decodeWord w = decodeSig w := by
  unfold decodeWord; rw [h]; rfl
theorem major_2C (w : InsnWord) (h : fMajor w = 0x2C#6) : decodeWord w = .ok (.waitc (fD w) (fA w) ((fImm16 w).extractLsb' 12 4) ((fImm16 w).extractLsb' 8 4) ((fImm16 w).extractLsb' 4 4) ((fImm16 w).extractLsb' 0 4)) := by
  unfold decodeWord; rw [h]; rfl
theorem major_2D (w : InsnWord) (h : fMajor w = 0x2D#6) : decodeWord w = decodeWaito w := by
  unfold decodeWord; rw [h]; rfl
theorem major_2E (w : InsnWord) (h : fMajor w = 0x2E#6) : decodeWord w = decodeLaunch w := by
  unfold decodeWord; rw [h]; rfl

/-! ### One lemma per constructor -/

theorem doorbellWrite : ∀ a1 a2, Statement (.doorbellWrite a1 a2) := by
  intros; intro h; cases h
theorem modnumWrite : ∀ a1, Statement (.modnumWrite a1) := by
  intros; intro h; cases h
theorem modctlReset : ∀ a1 a2, Statement (.modctlReset a1 a2) := by
  intros; intro h; cases h
theorem modctlFullstart : ∀ a1 a2, Statement (.modctlFullstart a1 a2) := by
  intros; intro h; cases h
theorem lattolWrite : ∀ a1, Statement (.lattolWrite a1) := by
  intros; intro h; cases h
theorem pwrcapWrite : ∀ a1, Statement (.pwrcapWrite a1) := by
  intros; intro h; cases h
theorem rtctlFlush : Statement (.rtctlFlush) := by
  intro h; cases h
theorem hosterrWrite : Statement (.hosterrWrite) := by
  intro h; cases h
theorem registerWrite : ∀ a1 a2 a3, Statement (.registerWrite a1 a2 a3) := by
  intros; intro h; cases h
theorem bar2HostWrite : ∀ a1 a2 a3, Statement (.bar2HostWrite a1 a2 a3) := by
  intros; intro h; cases h
theorem bar2HostRead : ∀ a1 a2 a3, Statement (.bar2HostRead a1 a2 a3) := by
  intros; intro h; cases h
theorem configurationRequest : ∀ a1, Statement (.configurationRequest a1) := by
  intros; intro h; cases h
theorem powerOnReset : ∀ a1 a2, Statement (.powerOnReset a1 a2) := by
  intros; intro h; cases h
theorem hostLinkReset : ∀ a1 a2, Statement (.hostLinkReset a1 a2) := by
  intros; intro h; cases h
theorem startTimeout : Statement (.startTimeout) := by
  intro h; cases h
theorem startRetry : ∀ a1 a2, Statement (.startRetry a1 a2) := by
  intros; intro h; cases h
theorem powerAverageTick : ∀ a1, Statement (.powerAverageTick a1) := by
  intros; intro h; cases h
theorem capIssueHold : Statement (.capIssueHold) := by
  intro h; cases h
theorem dieIdleEntry : ∀ a1, Statement (.dieIdleEntry a1) := by
  intros; intro h; cases h
theorem dieWake : ∀ a1, Statement (.dieWake a1) := by
  intros; intro h; cases h
theorem dieExitComplete : ∀ a1, Statement (.dieExitComplete a1) := by
  intros; intro h; cases h
theorem dieEntryFailure : ∀ a1, Statement (.dieEntryFailure a1) := by
  intros; intro h; cases h
theorem dieExitFailure : ∀ a1, Statement (.dieExitFailure a1) := by
  intros; intro h; cases h
theorem hostLinkDown : ∀ a1, Statement (.hostLinkDown a1) := by
  intros; intro h; cases h
theorem flitCheckFail : ∀ a1, Statement (.flitCheckFail a1) := by
  intros; intro h; cases h
theorem fabricPortRetrain : ∀ a1, Statement (.fabricPortRetrain a1) := by
  intros; intro h; cases h
theorem fabricRetrainEnd : ∀ a1 a2, Statement (.fabricRetrainEnd a1 a2) := by
  intros; intro h; cases h
theorem lossNotice : ∀ a1, Statement (.lossNotice a1) := by
  intros; intro h; cases h
theorem fabricReplyTimeout : ∀ a1, Statement (.fabricReplyTimeout a1) := by
  intros; intro h; cases h
theorem localCompletion : ∀ a1, Statement (.localCompletion a1) := by
  intros; intro h; cases h
theorem routeEntryRead : ∀ a1 a2, Statement (.routeEntryRead a1 a2) := by
  intros; intro h; cases h
theorem dclkwSynchronisation : ∀ a1, Statement (.dclkwSynchronisation a1) := by
  intros; intro h; cases h
theorem homeWrite : ∀ a1 a2, Statement (.homeWrite a1 a2) := by
  intros; intro h; cases h
theorem homeRead : ∀ a1 a2 a3 a4, Statement (.homeRead a1 a2 a3 a4) := by
  intros; intro h; cases h
theorem loadReply : ∀ a1, Statement (.loadReply a1) := by
  intros; intro h; cases h
theorem outboundDrainTimeout : ∀ a1, Statement (.outboundDrainTimeout a1) := by
  intros; intro h; cases h
theorem turnInvalidation : ∀ a1, Statement (.turnInvalidation a1) := by
  intros; intro h; cases h
theorem invalidationAck : ∀ a1, Statement (.invalidationAck a1) := by
  intros; intro h; cases h
theorem tableWalkComplete : ∀ a1 a2 a3, Statement (.tableWalkComplete a1 a2 a3) := by
  intros; intro h; cases h
theorem patrolScrub : ∀ a1 a2, Statement (.patrolScrub a1 a2) := by
  intros; intro h; cases h
theorem harrierFill : ∀ a1 a2 a3, Statement (.harrierFill a1 a2 a3) := by
  intros; intro h; cases h
theorem copyRetire : ∀ a1 a2, Statement (.copyRetire a1 a2) := by
  intros; intro h; cases h
theorem barrierCredit : ∀ a1, Statement (.barrierCredit a1) := by
  intros; intro h; cases h
theorem putqEnqueue : ∀ a1, Statement (.putqEnqueue a1) := by
  intros; intro h; cases h
theorem putqEnqueueExpiry : ∀ a1, Statement (.putqEnqueueExpiry a1) := by
  intros; intro h; cases h
theorem parkedCopyRetry : ∀ a1 a2, Statement (.parkedCopyRetry a1 a2) := by
  intros; intro h; cases h
theorem parkedCopyDiscard : ∀ a1 a2, Statement (.parkedCopyDiscard a1 a2) := by
  intros; intro h; cases h
theorem streamFill : ∀ a1 a2, Statement (.streamFill a1 a2) := by
  intros; intro h; cases h
theorem remoteGroupDelivery : ∀ a1 a2, Statement (.remoteGroupDelivery a1 a2) := by
  intros; intro h; cases h
theorem streamBudgetExpiry : ∀ a1, Statement (.streamBudgetExpiry a1) := by
  intros; intro h; cases h
theorem engineCommandRetire : ∀ a1, Statement (.engineCommandRetire a1) := by
  intros; intro h; cases h
theorem tileStoreClearEnd : ∀ a1, Statement (.tileStoreClearEnd a1) := by
  intros; intro h; cases h
theorem waitExpiry : ∀ a1, Statement (.waitExpiry a1) := by
  intros; intro h; cases h
theorem homeObjectOperation : ∀ a1 a2 a3 a4, Statement (.homeObjectOperation a1 a2 a3 a4) := by
  intros; intro h; cases h
theorem waiterWake : ∀ a1, Statement (.waiterWake a1) := by
  intros; intro h; cases h
theorem waitCancellation : ∀ a1, Statement (.waitCancellation a1) := by
  intros; intro h; cases h
theorem barawWithdrawal : ∀ a1, Statement (.barawWithdrawal a1) := by
  intros; intro h; cases h
theorem waiterRefusalResend : ∀ a1, Statement (.waiterRefusalResend a1) := by
  intros; intro h; cases h
theorem watermarkDeclaration : ∀ a1, Statement (.watermarkDeclaration a1) := by
  intros; intro h; cases h
theorem watermarkRise : ∀ a1, Statement (.watermarkRise a1) := by
  intros; intro h; cases h
theorem dependenceHoldExpiry : ∀ a1, Statement (.dependenceHoldExpiry a1) := by
  intros; intro h; cases h
theorem launchTake : Statement (.launchTake) := by
  intro h; cases h
theorem strandStart : ∀ a1, Statement (.strandStart a1) := by
  intros; intro h; cases h
theorem launchRetire : ∀ a1, Statement (.launchRetire a1) := by
  intros; intro h; cases h
theorem preemptionRequest : ∀ a1, Statement (.preemptionRequest a1) := by
  intros; intro h; cases h
theorem preemptionRequestArrival : ∀ a1, Statement (.preemptionRequestArrival a1) := by
  intros; intro h; cases h
theorem forcedPreemption : ∀ a1, Statement (.forcedPreemption a1) := by
  intros; intro h; cases h
theorem saveComplete : ∀ a1, Statement (.saveComplete a1) := by
  intros; intro h; cases h
theorem issueAging : ∀ a1, Statement (.issueAging a1) := by
  intros; intro h; cases h
theorem impreciseDelivery : ∀ a1, Statement (.impreciseDelivery a1) := by
  intros; intro h; cases h
theorem handlerWatchdog : ∀ a1, Statement (.handlerWatchdog a1) := by
  intros; intro h; cases h
theorem saveRestoreWatchdog : ∀ a1, Statement (.saveRestoreWatchdog a1) := by
  intros; intro h; cases h
theorem trapRepeatWatchdog : ∀ a1, Statement (.trapRepeatWatchdog a1) := by
  intros; intro h; cases h
theorem heartbeatWatchdog : ∀ a1 a2, Statement (.heartbeatWatchdog a1 a2) := by
  intros; intro h; cases h
theorem relayRoundComplete : ∀ a1 a2, Statement (.relayRoundComplete a1 a2) := by
  intros; intro h; cases h
theorem parkedArrivalRetry : ∀ a1, Statement (.parkedArrivalRetry a1) := by
  intros; intro h; cases h
theorem dbgctlHalt : ∀ a1 a2, Statement (.dbgctlHalt a1 a2) := by
  intros; intro h; cases h
theorem dbgctlStep : ∀ a1 a2, Statement (.dbgctlStep a1 a2) := by
  intros; intro h; cases h
theorem dbgctlFreeze : ∀ a1 a2, Statement (.dbgctlFreeze a1 a2) := by
  intros; intro h; cases h
theorem tenSet : Statement (.tenSet) := by
  intro h; cases h
theorem tenClear : Statement (.tenClear) := by
  intro h; cases h
theorem reservedEncoding : ∀ a1, Statement (.reservedEncoding a1) := by
  intros; intro h; cases h
theorem instructionFetchFault : ∀ a1 a2, Statement (.instructionFetchFault a1 a2) := by
  intros; intro h; cases h
theorem hostLinkUp : ∀ a1, Statement (.hostLinkUp a1) := by
  intros; intro h; cases h
theorem dieStateEntryComplete : ∀ a1, Statement (.dieStateEntryComplete a1) := by
  intros; intro h; cases h
theorem routeUpdate : ∀ a1 a2, Statement (.routeUpdate a1 a2) := by
  intros; intro h; cases h
theorem lineMarker : ∀ a1, Statement (.lineMarker a1) := by
  intro m _ _
  have hd : fD (0x03E0#16 ++ m ++ 0#1) = 31#5 :=
    (extract_append_high (0x03E0#16 ++ m) 0#1 21 5 (by decide)).trans
      ((extract_append_high 0x03E0#16 m 20 5 (by decide)).trans (by decide))
  have ha : fA (0x03E0#16 ++ m ++ 0#1) = 0#5 :=
    (extract_append_high (0x03E0#16 ++ m) 0#1 16 5 (by decide)).trans
      ((extract_append_high 0x03E0#16 m 15 5 (by decide)).trans (by decide))
  have hm : fMajor (0x03E0#16 ++ m ++ 0#1) = 0#6 :=
    (extract_append_high (0x03E0#16 ++ m) 0#1 26 6 (by decide)).trans
      ((extract_append_high 0x03E0#16 m 25 6 (by decide)).trans (by decide))
  have h0 : (0x03E0#16 ++ m ++ 0#1).extractLsb' 0 1 = 0#1 := extract_append_low (0x03E0#16 ++ m) 0#1 0 1 (by decide)
  have h1 : (0x03E0#16 ++ m ++ 0#1).extractLsb' 1 15 = m :=
    (extract_append_high (0x03E0#16 ++ m) 0#1 1 15 (by decide)).trans
      ((extract_append_low 0x03E0#16 m 0 15 (by decide)).trans (extract_all m))
  unfold encode decodeWord
  rw [hm]
  change decodeSys (0x03E0#16 ++ m ++ 0#1) = _
  unfold decodeSys
  rw [if_pos ⟨hd, ha⟩, h0, h1]
  rfl
theorem nop : Statement (.nop) := by
  intro _ h
  refine (major_00 (mkR 0x00#6 0 0 0 1 0) (fMajor_mkR ..)).trans ?_
  unfold decodeSys
  rw [if_neg (by simp [fD_mkR, fA_mkR])]
  rw [fMinorR_mkR]
  change (keepIf (fD (mkR 0x00#6 0 0 0 1 0) == 0 && fA (mkR 0x00#6 0 0 0 1 0) == 0 && fB (mkR 0x00#6 0 0 0 1 0) == 0 && fMod (mkR 0x00#6 0 0 0 1 0) == 0) .nonzeroField .nop : Except DecodeError Instr) = _
  simp only [fD_mkR, fA_mkR, fB_mkR, fMod_mkR]
  rfl
theorem trap : ∀ a1, Statement (.trap a1) := by
  intro a1 _ h
  refine (major_00 (mkR 0x00#6 0 0 (a1.extractLsb' 5 5) 2 (a1.extractLsb' 0 5)) (fMajor_mkR ..)).trans ?_
  unfold decodeSys
  rw [if_neg (by simp [fD_mkR, fA_mkR])]
  rw [fMinorR_mkR]
  change (keepIf (fD (mkR 0x00#6 0 0 (a1.extractLsb' 5 5) 2 (a1.extractLsb' 0 5)) == 0 && fA (mkR 0x00#6 0 0 (a1.extractLsb' 5 5) 2 (a1.extractLsb' 0 5)) == 0) .nonzeroField (.trap (fB (mkR 0x00#6 0 0 (a1.extractLsb' 5 5) 2 (a1.extractLsb' 0 5)) ++ fMod (mkR 0x00#6 0 0 (a1.extractLsb' 5 5) 2 (a1.extractLsb' 0 5)))) : Except DecodeError Instr) = _
  simp only [fD_mkR, fA_mkR, fB_mkR, fMod_mkR]
  simp only [keepIf]
  try rw [if_pos (by rfl)]
  exact congrArg (fun k => Except.ok (Instr.trap k)) ((extract_join a1 0 5 5).trans (extract_all a1))
theorem brk : ∀ a1, Statement (.brk a1) := by
  intro a1 _ h
  refine (major_00 (mkR 0x00#6 0 0 (a1.extractLsb' 5 5) 3 (a1.extractLsb' 0 5)) (fMajor_mkR ..)).trans ?_
  unfold decodeSys
  rw [if_neg (by simp [fD_mkR, fA_mkR])]
  rw [fMinorR_mkR]
  change (keepIf (fD (mkR 0x00#6 0 0 (a1.extractLsb' 5 5) 3 (a1.extractLsb' 0 5)) == 0 && fA (mkR 0x00#6 0 0 (a1.extractLsb' 5 5) 3 (a1.extractLsb' 0 5)) == 0) .nonzeroField (.brk (fB (mkR 0x00#6 0 0 (a1.extractLsb' 5 5) 3 (a1.extractLsb' 0 5)) ++ fMod (mkR 0x00#6 0 0 (a1.extractLsb' 5 5) 3 (a1.extractLsb' 0 5)))) : Except DecodeError Instr) = _
  simp only [fD_mkR, fA_mkR, fB_mkR, fMod_mkR]
  simp only [keepIf]
  try rw [if_pos (by rfl)]
  exact congrArg (fun k => Except.ok (Instr.brk k)) ((extract_join a1 0 5 5).trans (extract_all a1))
theorem eret : Statement (.eret) := by
  intro _ h
  refine (major_00 (mkR 0x00#6 0 0 0 4 0) (fMajor_mkR ..)).trans ?_
  unfold decodeSys
  rw [if_neg (by simp [fD_mkR, fA_mkR])]
  rw [fMinorR_mkR]
  change (keepIf (fD (mkR 0x00#6 0 0 0 4 0) == 0 && fA (mkR 0x00#6 0 0 0 4 0) == 0 && fB (mkR 0x00#6 0 0 0 4 0) == 0 && fMod (mkR 0x00#6 0 0 0 4 0) == 0) .nonzeroField .eret : Except DecodeError Instr) = _
  simp only [fD_mkR, fA_mkR, fB_mkR, fMod_mkR]
  rfl
theorem yield : Statement (.yield) := by
  intro _ h
  refine (major_00 (mkR 0x00#6 0 0 0 5 0) (fMajor_mkR ..)).trans ?_
  unfold decodeSys
  rw [if_neg (by simp [fD_mkR, fA_mkR])]
  rw [fMinorR_mkR]
  change (keepIf (fD (mkR 0x00#6 0 0 0 5 0) == 0 && fA (mkR 0x00#6 0 0 0 5 0) == 0 && fB (mkR 0x00#6 0 0 0 5 0) == 0 && fMod (mkR 0x00#6 0 0 0 5 0) == 0) .nonzeroField .yield : Except DecodeError Instr) = _
  simp only [fD_mkR, fA_mkR, fB_mkR, fMod_mkR]
  rfl
theorem halt : Statement (.halt) := by
  intro _ h
  refine (major_00 (mkR 0x00#6 0 0 0 6 0) (fMajor_mkR ..)).trans ?_
  unfold decodeSys
  rw [if_neg (by simp [fD_mkR, fA_mkR])]
  rw [fMinorR_mkR]
  change (keepIf (fD (mkR 0x00#6 0 0 0 6 0) == 0 && fA (mkR 0x00#6 0 0 0 6 0) == 0 && fB (mkR 0x00#6 0 0 0 6 0) == 0 && fMod (mkR 0x00#6 0 0 0 6 0) == 0) .nonzeroField .halt : Except DecodeError Instr) = _
  simp only [fD_mkR, fA_mkR, fB_mkR, fMod_mkR]
  rfl
theorem tlbinv : ∀ a1 a2, Statement (.tlbinv a1 a2) := by
  intro a1 a2 _ h
  refine (major_00 (mkR 0x00#6 0 a1 a2 8 0) (fMajor_mkR ..)).trans ?_
  unfold decodeSys
  rw [if_neg (by simp [fD_mkR])]
  rw [fMinorR_mkR]
  change (keepIf (fD (mkR 0x00#6 0 a1 a2 8 0) == 0 && fMod (mkR 0x00#6 0 a1 a2 8 0) == 0) .nonzeroField (.tlbinv (fA (mkR 0x00#6 0 a1 a2 8 0)) (fB (mkR 0x00#6 0 a1 a2 8 0))) : Except DecodeError Instr) = _
  simp only [fD_mkR, fA_mkR, fB_mkR, fMod_mkR]
  rfl
theorem tlbinvall : Statement (.tlbinvall) := by
  intro _ h
  refine (major_00 (mkR 0x00#6 0 0 0 9 0) (fMajor_mkR ..)).trans ?_
  unfold decodeSys
  rw [if_neg (by simp [fD_mkR, fA_mkR])]
  rw [fMinorR_mkR]
  change (keepIf (fD (mkR 0x00#6 0 0 0 9 0) == 0 && fA (mkR 0x00#6 0 0 0 9 0) == 0 && fB (mkR 0x00#6 0 0 0 9 0) == 0 && fMod (mkR 0x00#6 0 0 0 9 0) == 0) .nonzeroField .tlbinvall : Except DecodeError Instr) = _
  simp only [fD_mkR, fA_mkR, fB_mkR, fMod_mkR]
  rfl
theorem add : ∀ a1 a2 a3, Statement (.add a1 a2 a3) := by
  intro a1 a2 a3 _ h
  refine (major_01 (mkR 0x01#6 a1 a2 a3 0 0) (fMajor_mkR ..)).trans ?_
  unfold decodeAlu
  rw [fMinorR_mkR]
  change (keepIf (fMod (mkR 0x01#6 a1 a2 a3 0 0) == 0) .nonzeroField (.add (fD (mkR 0x01#6 a1 a2 a3 0 0)) (fA (mkR 0x01#6 a1 a2 a3 0 0)) (fB (mkR 0x01#6 a1 a2 a3 0 0))) : Except DecodeError Instr) = _
  simp only [fD_mkR, fA_mkR, fB_mkR, fMod_mkR]
  rfl
theorem sub : ∀ a1 a2 a3, Statement (.sub a1 a2 a3) := by
  intro a1 a2 a3 _ h
  refine (major_01 (mkR 0x01#6 a1 a2 a3 1 0) (fMajor_mkR ..)).trans ?_
  unfold decodeAlu
  rw [fMinorR_mkR]
  change (keepIf (fMod (mkR 0x01#6 a1 a2 a3 1 0) == 0) .nonzeroField (.sub (fD (mkR 0x01#6 a1 a2 a3 1 0)) (fA (mkR 0x01#6 a1 a2 a3 1 0)) (fB (mkR 0x01#6 a1 a2 a3 1 0))) : Except DecodeError Instr) = _
  simp only [fD_mkR, fA_mkR, fB_mkR, fMod_mkR]
  rfl
theorem and : ∀ a1 a2 a3, Statement (.and a1 a2 a3) := by
  intro a1 a2 a3 _ h
  refine (major_01 (mkR 0x01#6 a1 a2 a3 2 0) (fMajor_mkR ..)).trans ?_
  unfold decodeAlu
  rw [fMinorR_mkR]
  change (keepIf (fMod (mkR 0x01#6 a1 a2 a3 2 0) == 0) .nonzeroField (.and (fD (mkR 0x01#6 a1 a2 a3 2 0)) (fA (mkR 0x01#6 a1 a2 a3 2 0)) (fB (mkR 0x01#6 a1 a2 a3 2 0))) : Except DecodeError Instr) = _
  simp only [fD_mkR, fA_mkR, fB_mkR, fMod_mkR]
  rfl
theorem or : ∀ a1 a2 a3, Statement (.or a1 a2 a3) := by
  intro a1 a2 a3 _ h
  refine (major_01 (mkR 0x01#6 a1 a2 a3 3 0) (fMajor_mkR ..)).trans ?_
  unfold decodeAlu
  rw [fMinorR_mkR]
  change (keepIf (fMod (mkR 0x01#6 a1 a2 a3 3 0) == 0) .nonzeroField (.or (fD (mkR 0x01#6 a1 a2 a3 3 0)) (fA (mkR 0x01#6 a1 a2 a3 3 0)) (fB (mkR 0x01#6 a1 a2 a3 3 0))) : Except DecodeError Instr) = _
  simp only [fD_mkR, fA_mkR, fB_mkR, fMod_mkR]
  rfl
theorem xor : ∀ a1 a2 a3, Statement (.xor a1 a2 a3) := by
  intro a1 a2 a3 _ h
  refine (major_01 (mkR 0x01#6 a1 a2 a3 4 0) (fMajor_mkR ..)).trans ?_
  unfold decodeAlu
  rw [fMinorR_mkR]
  change (keepIf (fMod (mkR 0x01#6 a1 a2 a3 4 0) == 0) .nonzeroField (.xor (fD (mkR 0x01#6 a1 a2 a3 4 0)) (fA (mkR 0x01#6 a1 a2 a3 4 0)) (fB (mkR 0x01#6 a1 a2 a3 4 0))) : Except DecodeError Instr) = _
  simp only [fD_mkR, fA_mkR, fB_mkR, fMod_mkR]
  rfl
theorem andn : ∀ a1 a2 a3, Statement (.andn a1 a2 a3) := by
  intro a1 a2 a3 _ h
  refine (major_01 (mkR 0x01#6 a1 a2 a3 5 0) (fMajor_mkR ..)).trans ?_
  unfold decodeAlu
  rw [fMinorR_mkR]
  change (keepIf (fMod (mkR 0x01#6 a1 a2 a3 5 0) == 0) .nonzeroField (.andn (fD (mkR 0x01#6 a1 a2 a3 5 0)) (fA (mkR 0x01#6 a1 a2 a3 5 0)) (fB (mkR 0x01#6 a1 a2 a3 5 0))) : Except DecodeError Instr) = _
  simp only [fD_mkR, fA_mkR, fB_mkR, fMod_mkR]
  rfl
theorem sll : ∀ a1 a2 a3, Statement (.sll a1 a2 a3) := by
  intro a1 a2 a3 _ h
  refine (major_01 (mkR 0x01#6 a1 a2 a3 6 0) (fMajor_mkR ..)).trans ?_
  unfold decodeAlu
  rw [fMinorR_mkR]
  change (keepIf (fMod (mkR 0x01#6 a1 a2 a3 6 0) == 0) .nonzeroField (.sll (fD (mkR 0x01#6 a1 a2 a3 6 0)) (fA (mkR 0x01#6 a1 a2 a3 6 0)) (fB (mkR 0x01#6 a1 a2 a3 6 0))) : Except DecodeError Instr) = _
  simp only [fD_mkR, fA_mkR, fB_mkR, fMod_mkR]
  rfl
theorem srl : ∀ a1 a2 a3, Statement (.srl a1 a2 a3) := by
  intro a1 a2 a3 _ h
  refine (major_01 (mkR 0x01#6 a1 a2 a3 7 0) (fMajor_mkR ..)).trans ?_
  unfold decodeAlu
  rw [fMinorR_mkR]
  change (keepIf (fMod (mkR 0x01#6 a1 a2 a3 7 0) == 0) .nonzeroField (.srl (fD (mkR 0x01#6 a1 a2 a3 7 0)) (fA (mkR 0x01#6 a1 a2 a3 7 0)) (fB (mkR 0x01#6 a1 a2 a3 7 0))) : Except DecodeError Instr) = _
  simp only [fD_mkR, fA_mkR, fB_mkR, fMod_mkR]
  rfl
theorem sra : ∀ a1 a2 a3, Statement (.sra a1 a2 a3) := by
  intro a1 a2 a3 _ h
  refine (major_01 (mkR 0x01#6 a1 a2 a3 8 0) (fMajor_mkR ..)).trans ?_
  unfold decodeAlu
  rw [fMinorR_mkR]
  change (keepIf (fMod (mkR 0x01#6 a1 a2 a3 8 0) == 0) .nonzeroField (.sra (fD (mkR 0x01#6 a1 a2 a3 8 0)) (fA (mkR 0x01#6 a1 a2 a3 8 0)) (fB (mkR 0x01#6 a1 a2 a3 8 0))) : Except DecodeError Instr) = _
  simp only [fD_mkR, fA_mkR, fB_mkR, fMod_mkR]
  rfl
theorem slt : ∀ a1 a2 a3, Statement (.slt a1 a2 a3) := by
  intro a1 a2 a3 _ h
  refine (major_01 (mkR 0x01#6 a1 a2 a3 9 0) (fMajor_mkR ..)).trans ?_
  unfold decodeAlu
  rw [fMinorR_mkR]
  change (keepIf (fMod (mkR 0x01#6 a1 a2 a3 9 0) == 0) .nonzeroField (.slt (fD (mkR 0x01#6 a1 a2 a3 9 0)) (fA (mkR 0x01#6 a1 a2 a3 9 0)) (fB (mkR 0x01#6 a1 a2 a3 9 0))) : Except DecodeError Instr) = _
  simp only [fD_mkR, fA_mkR, fB_mkR, fMod_mkR]
  rfl
theorem sltu : ∀ a1 a2 a3, Statement (.sltu a1 a2 a3) := by
  intro a1 a2 a3 _ h
  refine (major_01 (mkR 0x01#6 a1 a2 a3 10 0) (fMajor_mkR ..)).trans ?_
  unfold decodeAlu
  rw [fMinorR_mkR]
  change (keepIf (fMod (mkR 0x01#6 a1 a2 a3 10 0) == 0) .nonzeroField (.sltu (fD (mkR 0x01#6 a1 a2 a3 10 0)) (fA (mkR 0x01#6 a1 a2 a3 10 0)) (fB (mkR 0x01#6 a1 a2 a3 10 0))) : Except DecodeError Instr) = _
  simp only [fD_mkR, fA_mkR, fB_mkR, fMod_mkR]
  rfl
theorem min : ∀ a1 a2 a3, Statement (.min a1 a2 a3) := by
  intro a1 a2 a3 _ h
  refine (major_01 (mkR 0x01#6 a1 a2 a3 11 0) (fMajor_mkR ..)).trans ?_
  unfold decodeAlu
  rw [fMinorR_mkR]
  change (keepIf (fMod (mkR 0x01#6 a1 a2 a3 11 0) == 0) .nonzeroField (.min (fD (mkR 0x01#6 a1 a2 a3 11 0)) (fA (mkR 0x01#6 a1 a2 a3 11 0)) (fB (mkR 0x01#6 a1 a2 a3 11 0))) : Except DecodeError Instr) = _
  simp only [fD_mkR, fA_mkR, fB_mkR, fMod_mkR]
  rfl
theorem max : ∀ a1 a2 a3, Statement (.max a1 a2 a3) := by
  intro a1 a2 a3 _ h
  refine (major_01 (mkR 0x01#6 a1 a2 a3 12 0) (fMajor_mkR ..)).trans ?_
  unfold decodeAlu
  rw [fMinorR_mkR]
  change (keepIf (fMod (mkR 0x01#6 a1 a2 a3 12 0) == 0) .nonzeroField (.max (fD (mkR 0x01#6 a1 a2 a3 12 0)) (fA (mkR 0x01#6 a1 a2 a3 12 0)) (fB (mkR 0x01#6 a1 a2 a3 12 0))) : Except DecodeError Instr) = _
  simp only [fD_mkR, fA_mkR, fB_mkR, fMod_mkR]
  rfl
theorem minu : ∀ a1 a2 a3, Statement (.minu a1 a2 a3) := by
  intro a1 a2 a3 _ h
  refine (major_01 (mkR 0x01#6 a1 a2 a3 13 0) (fMajor_mkR ..)).trans ?_
  unfold decodeAlu
  rw [fMinorR_mkR]
  change (keepIf (fMod (mkR 0x01#6 a1 a2 a3 13 0) == 0) .nonzeroField (.minu (fD (mkR 0x01#6 a1 a2 a3 13 0)) (fA (mkR 0x01#6 a1 a2 a3 13 0)) (fB (mkR 0x01#6 a1 a2 a3 13 0))) : Except DecodeError Instr) = _
  simp only [fD_mkR, fA_mkR, fB_mkR, fMod_mkR]
  rfl
theorem maxu : ∀ a1 a2 a3, Statement (.maxu a1 a2 a3) := by
  intro a1 a2 a3 _ h
  refine (major_01 (mkR 0x01#6 a1 a2 a3 14 0) (fMajor_mkR ..)).trans ?_
  unfold decodeAlu
  rw [fMinorR_mkR]
  change (keepIf (fMod (mkR 0x01#6 a1 a2 a3 14 0) == 0) .nonzeroField (.maxu (fD (mkR 0x01#6 a1 a2 a3 14 0)) (fA (mkR 0x01#6 a1 a2 a3 14 0)) (fB (mkR 0x01#6 a1 a2 a3 14 0))) : Except DecodeError Instr) = _
  simp only [fD_mkR, fA_mkR, fB_mkR, fMod_mkR]
  rfl
theorem clz : ∀ a1 a2, Statement (.clz a1 a2) := by
  intro a1 a2 _ h
  refine (major_01 (mkR 0x01#6 a1 a2 0 15 0) (fMajor_mkR ..)).trans ?_
  unfold decodeAlu
  rw [fMinorR_mkR]
  change (keepIf (fB (mkR 0x01#6 a1 a2 0 15 0) == 0 && fMod (mkR 0x01#6 a1 a2 0 15 0) == 0) .nonzeroField (.clz (fD (mkR 0x01#6 a1 a2 0 15 0)) (fA (mkR 0x01#6 a1 a2 0 15 0))) : Except DecodeError Instr) = _
  simp only [fD_mkR, fA_mkR, fB_mkR, fMod_mkR]
  rfl
theorem ctz : ∀ a1 a2, Statement (.ctz a1 a2) := by
  intro a1 a2 _ h
  refine (major_01 (mkR 0x01#6 a1 a2 0 16 0) (fMajor_mkR ..)).trans ?_
  unfold decodeAlu
  rw [fMinorR_mkR]
  change (keepIf (fB (mkR 0x01#6 a1 a2 0 16 0) == 0 && fMod (mkR 0x01#6 a1 a2 0 16 0) == 0) .nonzeroField (.ctz (fD (mkR 0x01#6 a1 a2 0 16 0)) (fA (mkR 0x01#6 a1 a2 0 16 0))) : Except DecodeError Instr) = _
  simp only [fD_mkR, fA_mkR, fB_mkR, fMod_mkR]
  rfl
theorem popc : ∀ a1 a2, Statement (.popc a1 a2) := by
  intro a1 a2 _ h
  refine (major_01 (mkR 0x01#6 a1 a2 0 17 0) (fMajor_mkR ..)).trans ?_
  unfold decodeAlu
  rw [fMinorR_mkR]
  change (keepIf (fB (mkR 0x01#6 a1 a2 0 17 0) == 0 && fMod (mkR 0x01#6 a1 a2 0 17 0) == 0) .nonzeroField (.popc (fD (mkR 0x01#6 a1 a2 0 17 0)) (fA (mkR 0x01#6 a1 a2 0 17 0))) : Except DecodeError Instr) = _
  simp only [fD_mkR, fA_mkR, fB_mkR, fMod_mkR]
  rfl
theorem rol : ∀ a1 a2 a3, Statement (.rol a1 a2 a3) := by
  intro a1 a2 a3 _ h
  refine (major_01 (mkR 0x01#6 a1 a2 a3 18 0) (fMajor_mkR ..)).trans ?_
  unfold decodeAlu
  rw [fMinorR_mkR]
  change (keepIf (fMod (mkR 0x01#6 a1 a2 a3 18 0) == 0) .nonzeroField (.rol (fD (mkR 0x01#6 a1 a2 a3 18 0)) (fA (mkR 0x01#6 a1 a2 a3 18 0)) (fB (mkR 0x01#6 a1 a2 a3 18 0))) : Except DecodeError Instr) = _
  simp only [fD_mkR, fA_mkR, fB_mkR, fMod_mkR]
  rfl
theorem ror : ∀ a1 a2 a3, Statement (.ror a1 a2 a3) := by
  intro a1 a2 a3 _ h
  refine (major_01 (mkR 0x01#6 a1 a2 a3 19 0) (fMajor_mkR ..)).trans ?_
  unfold decodeAlu
  rw [fMinorR_mkR]
  change (keepIf (fMod (mkR 0x01#6 a1 a2 a3 19 0) == 0) .nonzeroField (.ror (fD (mkR 0x01#6 a1 a2 a3 19 0)) (fA (mkR 0x01#6 a1 a2 a3 19 0)) (fB (mkR 0x01#6 a1 a2 a3 19 0))) : Except DecodeError Instr) = _
  simp only [fD_mkR, fA_mkR, fB_mkR, fMod_mkR]
  rfl
theorem sextw : ∀ a1 a2, Statement (.sextw a1 a2) := by
  intro a1 a2 _ h
  refine (major_01 (mkR 0x01#6 a1 a2 0 20 0) (fMajor_mkR ..)).trans ?_
  unfold decodeAlu
  rw [fMinorR_mkR]
  change (keepIf (fB (mkR 0x01#6 a1 a2 0 20 0) == 0 && fMod (mkR 0x01#6 a1 a2 0 20 0) == 0) .nonzeroField (.sextw (fD (mkR 0x01#6 a1 a2 0 20 0)) (fA (mkR 0x01#6 a1 a2 0 20 0))) : Except DecodeError Instr) = _
  simp only [fD_mkR, fA_mkR, fB_mkR, fMod_mkR]
  rfl
theorem zextw : ∀ a1 a2, Statement (.zextw a1 a2) := by
  intro a1 a2 _ h
  refine (major_01 (mkR 0x01#6 a1 a2 0 21 0) (fMajor_mkR ..)).trans ?_
  unfold decodeAlu
  rw [fMinorR_mkR]
  change (keepIf (fB (mkR 0x01#6 a1 a2 0 21 0) == 0 && fMod (mkR 0x01#6 a1 a2 0 21 0) == 0) .nonzeroField (.zextw (fD (mkR 0x01#6 a1 a2 0 21 0)) (fA (mkR 0x01#6 a1 a2 0 21 0))) : Except DecodeError Instr) = _
  simp only [fD_mkR, fA_mkR, fB_mkR, fMod_mkR]
  rfl
theorem cmov : ∀ a1 a2 a3, Statement (.cmov a1 a2 a3) := by
  intro a1 a2 a3 _ h
  refine (major_01 (mkR 0x01#6 a1 a2 a3 22 0) (fMajor_mkR ..)).trans ?_
  unfold decodeAlu
  rw [fMinorR_mkR]
  change (keepIf (fMod (mkR 0x01#6 a1 a2 a3 22 0) == 0) .nonzeroField (.cmov (fD (mkR 0x01#6 a1 a2 a3 22 0)) (fA (mkR 0x01#6 a1 a2 a3 22 0)) (fB (mkR 0x01#6 a1 a2 a3 22 0))) : Except DecodeError Instr) = _
  simp only [fD_mkR, fA_mkR, fB_mkR, fMod_mkR]
  rfl
theorem addi : ∀ a1 a2 a3, Statement (.addi a1 a2 a3) := by
  intro a1 a2 a3 _ h
  refine (major_02 (mkI 0x02#6 a1 a2 a3) (fMajor_mkI ..)).trans ?_
  simp only [fD_mkI, fA_mkI, fImm16_mkI]
theorem andi : ∀ a1 a2 a3, Statement (.andi a1 a2 a3) := by
  intro a1 a2 a3 _ h
  refine (major_03 (mkI 0x03#6 a1 a2 a3) (fMajor_mkI ..)).trans ?_
  simp only [fD_mkI, fA_mkI, fImm16_mkI]
theorem ori : ∀ a1 a2 a3, Statement (.ori a1 a2 a3) := by
  intro a1 a2 a3 _ h
  refine (major_04 (mkI 0x04#6 a1 a2 a3) (fMajor_mkI ..)).trans ?_
  simp only [fD_mkI, fA_mkI, fImm16_mkI]
theorem xori : ∀ a1 a2 a3, Statement (.xori a1 a2 a3) := by
  intro a1 a2 a3 _ h
  refine (major_05 (mkI 0x05#6 a1 a2 a3) (fMajor_mkI ..)).trans ?_
  simp only [fD_mkI, fA_mkI, fImm16_mkI]
theorem slti : ∀ a1 a2 a3, Statement (.slti a1 a2 a3) := by
  intro a1 a2 a3 _ h
  refine (major_06 (mkI 0x06#6 a1 a2 a3) (fMajor_mkI ..)).trans ?_
  simp only [fD_mkI, fA_mkI, fImm16_mkI]
theorem sltiu : ∀ a1 a2 a3, Statement (.sltiu a1 a2 a3) := by
  intro a1 a2 a3 _ h
  refine (major_07 (mkI 0x07#6 a1 a2 a3) (fMajor_mkI ..)).trans ?_
  simp only [fD_mkI, fA_mkI, fImm16_mkI]
theorem slli : ∀ a1 a2 a3, Statement (.slli a1 a2 a3) := by
  intro a1 a2 a3 _ h
  refine (major_08 (mkI 0x08#6 a1 a2 (0#10 ++ a3)) (fMajor_mkI ..)).trans ?_
  unfold decodeShift
  rw [fImm16_mkI]
  rw [extract_append_high (0#10) a3 6 10 (by decide), extract_append_low (0#10) a3 0 6 (by decide), extract_all, extract_all]
  change (.ok (.slli (fD (mkI 0x08#6 a1 a2 (0#10 ++ a3))) (fA (mkI 0x08#6 a1 a2 (0#10 ++ a3))) a3) : Except DecodeError Instr) = _
  simp only [fD_mkI, fA_mkI]
theorem srli : ∀ a1 a2 a3, Statement (.srli a1 a2 a3) := by
  intro a1 a2 a3 _ h
  refine (major_08 (mkI 0x08#6 a1 a2 (1#10 ++ a3)) (fMajor_mkI ..)).trans ?_
  unfold decodeShift
  rw [fImm16_mkI]
  rw [extract_append_high (1#10) a3 6 10 (by decide), extract_append_low (1#10) a3 0 6 (by decide), extract_all, extract_all]
  change (.ok (.srli (fD (mkI 0x08#6 a1 a2 (1#10 ++ a3))) (fA (mkI 0x08#6 a1 a2 (1#10 ++ a3))) a3) : Except DecodeError Instr) = _
  simp only [fD_mkI, fA_mkI]
theorem srai : ∀ a1 a2 a3, Statement (.srai a1 a2 a3) := by
  intro a1 a2 a3 _ h
  refine (major_08 (mkI 0x08#6 a1 a2 (2#10 ++ a3)) (fMajor_mkI ..)).trans ?_
  unfold decodeShift
  rw [fImm16_mkI]
  rw [extract_append_high (2#10) a3 6 10 (by decide), extract_append_low (2#10) a3 0 6 (by decide), extract_all, extract_all]
  change (.ok (.srai (fD (mkI 0x08#6 a1 a2 (2#10 ++ a3))) (fA (mkI 0x08#6 a1 a2 (2#10 ++ a3))) a3) : Except DecodeError Instr) = _
  simp only [fD_mkI, fA_mkI]
theorem lui : ∀ a1 a2, Statement (.lui a1 a2) := by
  intro a1 a2 _ h
  refine (major_09 (mkU 0x09#6 a1 a2) (fMajor_mkU ..)).trans ?_
  simp only [fD_mkU, fImm21_mkU]
theorem addpc : ∀ a1 a2, Statement (.addpc a1 a2) := by
  intro a1 a2 _ h
  refine (major_0A (mkU 0x0A#6 a1 a2) (fMajor_mkU ..)).trans ?_
  simp only [fD_mkU, fImm21_mkU]
theorem mul : ∀ a1 a2 a3, Statement (.mul a1 a2 a3) := by
  intro a1 a2 a3 _ h
  refine (major_0B (mkR 0x0B#6 a1 a2 a3 0 0) (fMajor_mkR ..)).trans ?_
  unfold decodeMulDiv
  rw [fMinorR_mkR]
  change (keepIf (fMod (mkR 0x0B#6 a1 a2 a3 0 0) == 0) .nonzeroField (.mul (fD (mkR 0x0B#6 a1 a2 a3 0 0)) (fA (mkR 0x0B#6 a1 a2 a3 0 0)) (fB (mkR 0x0B#6 a1 a2 a3 0 0))) : Except DecodeError Instr) = _
  simp only [fD_mkR, fA_mkR, fB_mkR, fMod_mkR]
  rfl
theorem mulh : ∀ a1 a2 a3, Statement (.mulh a1 a2 a3) := by
  intro a1 a2 a3 _ h
  refine (major_0B (mkR 0x0B#6 a1 a2 a3 1 0) (fMajor_mkR ..)).trans ?_
  unfold decodeMulDiv
  rw [fMinorR_mkR]
  change (keepIf (fMod (mkR 0x0B#6 a1 a2 a3 1 0) == 0) .nonzeroField (.mulh (fD (mkR 0x0B#6 a1 a2 a3 1 0)) (fA (mkR 0x0B#6 a1 a2 a3 1 0)) (fB (mkR 0x0B#6 a1 a2 a3 1 0))) : Except DecodeError Instr) = _
  simp only [fD_mkR, fA_mkR, fB_mkR, fMod_mkR]
  rfl
theorem mulhu : ∀ a1 a2 a3, Statement (.mulhu a1 a2 a3) := by
  intro a1 a2 a3 _ h
  refine (major_0B (mkR 0x0B#6 a1 a2 a3 2 0) (fMajor_mkR ..)).trans ?_
  unfold decodeMulDiv
  rw [fMinorR_mkR]
  change (keepIf (fMod (mkR 0x0B#6 a1 a2 a3 2 0) == 0) .nonzeroField (.mulhu (fD (mkR 0x0B#6 a1 a2 a3 2 0)) (fA (mkR 0x0B#6 a1 a2 a3 2 0)) (fB (mkR 0x0B#6 a1 a2 a3 2 0))) : Except DecodeError Instr) = _
  simp only [fD_mkR, fA_mkR, fB_mkR, fMod_mkR]
  rfl
theorem div : ∀ a1 a2 a3, Statement (.div a1 a2 a3) := by
  intro a1 a2 a3 _ h
  refine (major_0B (mkR 0x0B#6 a1 a2 a3 3 0) (fMajor_mkR ..)).trans ?_
  unfold decodeMulDiv
  rw [fMinorR_mkR]
  change (keepIf (fMod (mkR 0x0B#6 a1 a2 a3 3 0) == 0) .nonzeroField (.div (fD (mkR 0x0B#6 a1 a2 a3 3 0)) (fA (mkR 0x0B#6 a1 a2 a3 3 0)) (fB (mkR 0x0B#6 a1 a2 a3 3 0))) : Except DecodeError Instr) = _
  simp only [fD_mkR, fA_mkR, fB_mkR, fMod_mkR]
  rfl
theorem divu : ∀ a1 a2 a3, Statement (.divu a1 a2 a3) := by
  intro a1 a2 a3 _ h
  refine (major_0B (mkR 0x0B#6 a1 a2 a3 4 0) (fMajor_mkR ..)).trans ?_
  unfold decodeMulDiv
  rw [fMinorR_mkR]
  change (keepIf (fMod (mkR 0x0B#6 a1 a2 a3 4 0) == 0) .nonzeroField (.divu (fD (mkR 0x0B#6 a1 a2 a3 4 0)) (fA (mkR 0x0B#6 a1 a2 a3 4 0)) (fB (mkR 0x0B#6 a1 a2 a3 4 0))) : Except DecodeError Instr) = _
  simp only [fD_mkR, fA_mkR, fB_mkR, fMod_mkR]
  rfl
theorem rem : ∀ a1 a2 a3, Statement (.rem a1 a2 a3) := by
  intro a1 a2 a3 _ h
  refine (major_0B (mkR 0x0B#6 a1 a2 a3 5 0) (fMajor_mkR ..)).trans ?_
  unfold decodeMulDiv
  rw [fMinorR_mkR]
  change (keepIf (fMod (mkR 0x0B#6 a1 a2 a3 5 0) == 0) .nonzeroField (.rem (fD (mkR 0x0B#6 a1 a2 a3 5 0)) (fA (mkR 0x0B#6 a1 a2 a3 5 0)) (fB (mkR 0x0B#6 a1 a2 a3 5 0))) : Except DecodeError Instr) = _
  simp only [fD_mkR, fA_mkR, fB_mkR, fMod_mkR]
  rfl
theorem remu : ∀ a1 a2 a3, Statement (.remu a1 a2 a3) := by
  intro a1 a2 a3 _ h
  refine (major_0B (mkR 0x0B#6 a1 a2 a3 6 0) (fMajor_mkR ..)).trans ?_
  unfold decodeMulDiv
  rw [fMinorR_mkR]
  change (keepIf (fMod (mkR 0x0B#6 a1 a2 a3 6 0) == 0) .nonzeroField (.remu (fD (mkR 0x0B#6 a1 a2 a3 6 0)) (fA (mkR 0x0B#6 a1 a2 a3 6 0)) (fB (mkR 0x0B#6 a1 a2 a3 6 0))) : Except DecodeError Instr) = _
  simp only [fD_mkR, fA_mkR, fB_mkR, fMod_mkR]
  rfl
theorem lb : ∀ a1 a2 a3, Statement (.lb a1 a2 a3) := by
  intro a1 a2 a3 _ h
  refine (major_0C (mkM 0x0C#6 a1 a2 0 a3) (fMajor_mkM ..)).trans ?_
  unfold decodeLoad
  rw [fSize_mkM]
  change (.ok (.lb (fD (mkM 0x0C#6 a1 a2 0 a3)) (fA (mkM 0x0C#6 a1 a2 0 a3)) (fOff13 (mkM 0x0C#6 a1 a2 0 a3))) : Except DecodeError Instr) = _
  simp only [fD_mkM, fA_mkM, fOff13_mkM]
theorem lh : ∀ a1 a2 a3, Statement (.lh a1 a2 a3) := by
  intro a1 a2 a3 _ h
  refine (major_0C (mkM 0x0C#6 a1 a2 1 a3) (fMajor_mkM ..)).trans ?_
  unfold decodeLoad
  rw [fSize_mkM]
  change (.ok (.lh (fD (mkM 0x0C#6 a1 a2 1 a3)) (fA (mkM 0x0C#6 a1 a2 1 a3)) (fOff13 (mkM 0x0C#6 a1 a2 1 a3))) : Except DecodeError Instr) = _
  simp only [fD_mkM, fA_mkM, fOff13_mkM]
theorem lw : ∀ a1 a2 a3, Statement (.lw a1 a2 a3) := by
  intro a1 a2 a3 _ h
  refine (major_0C (mkM 0x0C#6 a1 a2 2 a3) (fMajor_mkM ..)).trans ?_
  unfold decodeLoad
  rw [fSize_mkM]
  change (.ok (.lw (fD (mkM 0x0C#6 a1 a2 2 a3)) (fA (mkM 0x0C#6 a1 a2 2 a3)) (fOff13 (mkM 0x0C#6 a1 a2 2 a3))) : Except DecodeError Instr) = _
  simp only [fD_mkM, fA_mkM, fOff13_mkM]
theorem ld : ∀ a1 a2 a3, Statement (.ld a1 a2 a3) := by
  intro a1 a2 a3 _ h
  refine (major_0C (mkM 0x0C#6 a1 a2 3 a3) (fMajor_mkM ..)).trans ?_
  unfold decodeLoad
  rw [fSize_mkM]
  change (.ok (.ld (fD (mkM 0x0C#6 a1 a2 3 a3)) (fA (mkM 0x0C#6 a1 a2 3 a3)) (fOff13 (mkM 0x0C#6 a1 a2 3 a3))) : Except DecodeError Instr) = _
  simp only [fD_mkM, fA_mkM, fOff13_mkM]
theorem lbu : ∀ a1 a2 a3, Statement (.lbu a1 a2 a3) := by
  intro a1 a2 a3 _ h
  refine (major_0C (mkM 0x0C#6 a1 a2 4 a3) (fMajor_mkM ..)).trans ?_
  unfold decodeLoad
  rw [fSize_mkM]
  change (.ok (.lbu (fD (mkM 0x0C#6 a1 a2 4 a3)) (fA (mkM 0x0C#6 a1 a2 4 a3)) (fOff13 (mkM 0x0C#6 a1 a2 4 a3))) : Except DecodeError Instr) = _
  simp only [fD_mkM, fA_mkM, fOff13_mkM]
theorem lhu : ∀ a1 a2 a3, Statement (.lhu a1 a2 a3) := by
  intro a1 a2 a3 _ h
  refine (major_0C (mkM 0x0C#6 a1 a2 5 a3) (fMajor_mkM ..)).trans ?_
  unfold decodeLoad
  rw [fSize_mkM]
  change (.ok (.lhu (fD (mkM 0x0C#6 a1 a2 5 a3)) (fA (mkM 0x0C#6 a1 a2 5 a3)) (fOff13 (mkM 0x0C#6 a1 a2 5 a3))) : Except DecodeError Instr) = _
  simp only [fD_mkM, fA_mkM, fOff13_mkM]
theorem lwu : ∀ a1 a2 a3, Statement (.lwu a1 a2 a3) := by
  intro a1 a2 a3 _ h
  refine (major_0C (mkM 0x0C#6 a1 a2 6 a3) (fMajor_mkM ..)).trans ?_
  unfold decodeLoad
  rw [fSize_mkM]
  change (.ok (.lwu (fD (mkM 0x0C#6 a1 a2 6 a3)) (fA (mkM 0x0C#6 a1 a2 6 a3)) (fOff13 (mkM 0x0C#6 a1 a2 6 a3))) : Except DecodeError Instr) = _
  simp only [fD_mkM, fA_mkM, fOff13_mkM]
theorem sb : ∀ a1 a2 a3, Statement (.sb a1 a2 a3) := by
  intro a1 a2 a3 _ h
  refine (major_0D (mkM 0x0D#6 a1 a2 0 a3) (fMajor_mkM ..)).trans ?_
  unfold decodeStore
  rw [fSize_mkM]
  change (.ok (.sb (fD (mkM 0x0D#6 a1 a2 0 a3)) (fA (mkM 0x0D#6 a1 a2 0 a3)) (fOff13 (mkM 0x0D#6 a1 a2 0 a3))) : Except DecodeError Instr) = _
  simp only [fD_mkM, fA_mkM, fOff13_mkM]
theorem sh : ∀ a1 a2 a3, Statement (.sh a1 a2 a3) := by
  intro a1 a2 a3 _ h
  refine (major_0D (mkM 0x0D#6 a1 a2 1 a3) (fMajor_mkM ..)).trans ?_
  unfold decodeStore
  rw [fSize_mkM]
  change (.ok (.sh (fD (mkM 0x0D#6 a1 a2 1 a3)) (fA (mkM 0x0D#6 a1 a2 1 a3)) (fOff13 (mkM 0x0D#6 a1 a2 1 a3))) : Except DecodeError Instr) = _
  simp only [fD_mkM, fA_mkM, fOff13_mkM]
theorem sw : ∀ a1 a2 a3, Statement (.sw a1 a2 a3) := by
  intro a1 a2 a3 _ h
  refine (major_0D (mkM 0x0D#6 a1 a2 2 a3) (fMajor_mkM ..)).trans ?_
  unfold decodeStore
  rw [fSize_mkM]
  change (.ok (.sw (fD (mkM 0x0D#6 a1 a2 2 a3)) (fA (mkM 0x0D#6 a1 a2 2 a3)) (fOff13 (mkM 0x0D#6 a1 a2 2 a3))) : Except DecodeError Instr) = _
  simp only [fD_mkM, fA_mkM, fOff13_mkM]
theorem sd : ∀ a1 a2 a3, Statement (.sd a1 a2 a3) := by
  intro a1 a2 a3 _ h
  refine (major_0D (mkM 0x0D#6 a1 a2 3 a3) (fMajor_mkM ..)).trans ?_
  unfold decodeStore
  rw [fSize_mkM]
  change (.ok (.sd (fD (mkM 0x0D#6 a1 a2 3 a3)) (fA (mkM 0x0D#6 a1 a2 3 a3)) (fOff13 (mkM 0x0D#6 a1 a2 3 a3))) : Except DecodeError Instr) = _
  simp only [fD_mkM, fA_mkM, fOff13_mkM]
theorem fadd : ∀ a1 a2 a3, Statement (.fadd a1 a2 a3) := by
  intro a1 a2 a3 _ h
  refine (major_0E (mkR 0x0E#6 a1 a2 a3 0 0) (fMajor_mkR ..)).trans ?_
  unfold decodeFps
  rw [fMinorR_mkR]
  change (keepIf (fMod (mkR 0x0E#6 a1 a2 a3 0 0) == 0) .nonzeroField (.fadd (fD (mkR 0x0E#6 a1 a2 a3 0 0)) (fA (mkR 0x0E#6 a1 a2 a3 0 0)) (fB (mkR 0x0E#6 a1 a2 a3 0 0))) : Except DecodeError Instr) = _
  simp only [fD_mkR, fA_mkR, fB_mkR, fMod_mkR]
  rfl
theorem fsub : ∀ a1 a2 a3, Statement (.fsub a1 a2 a3) := by
  intro a1 a2 a3 _ h
  refine (major_0E (mkR 0x0E#6 a1 a2 a3 1 0) (fMajor_mkR ..)).trans ?_
  unfold decodeFps
  rw [fMinorR_mkR]
  change (keepIf (fMod (mkR 0x0E#6 a1 a2 a3 1 0) == 0) .nonzeroField (.fsub (fD (mkR 0x0E#6 a1 a2 a3 1 0)) (fA (mkR 0x0E#6 a1 a2 a3 1 0)) (fB (mkR 0x0E#6 a1 a2 a3 1 0))) : Except DecodeError Instr) = _
  simp only [fD_mkR, fA_mkR, fB_mkR, fMod_mkR]
  rfl
theorem fmul : ∀ a1 a2 a3, Statement (.fmul a1 a2 a3) := by
  intro a1 a2 a3 _ h
  refine (major_0E (mkR 0x0E#6 a1 a2 a3 2 0) (fMajor_mkR ..)).trans ?_
  unfold decodeFps
  rw [fMinorR_mkR]
  change (keepIf (fMod (mkR 0x0E#6 a1 a2 a3 2 0) == 0) .nonzeroField (.fmul (fD (mkR 0x0E#6 a1 a2 a3 2 0)) (fA (mkR 0x0E#6 a1 a2 a3 2 0)) (fB (mkR 0x0E#6 a1 a2 a3 2 0))) : Except DecodeError Instr) = _
  simp only [fD_mkR, fA_mkR, fB_mkR, fMod_mkR]
  rfl
theorem fdiv : ∀ a1 a2 a3, Statement (.fdiv a1 a2 a3) := by
  intro a1 a2 a3 _ h
  refine (major_0E (mkR 0x0E#6 a1 a2 a3 3 0) (fMajor_mkR ..)).trans ?_
  unfold decodeFps
  rw [fMinorR_mkR]
  change (keepIf (fMod (mkR 0x0E#6 a1 a2 a3 3 0) == 0) .nonzeroField (.fdiv (fD (mkR 0x0E#6 a1 a2 a3 3 0)) (fA (mkR 0x0E#6 a1 a2 a3 3 0)) (fB (mkR 0x0E#6 a1 a2 a3 3 0))) : Except DecodeError Instr) = _
  simp only [fD_mkR, fA_mkR, fB_mkR, fMod_mkR]
  rfl
theorem fsqrt : ∀ a1 a2, Statement (.fsqrt a1 a2) := by
  intro a1 a2 _ h
  refine (major_0E (mkR 0x0E#6 a1 a2 0 4 0) (fMajor_mkR ..)).trans ?_
  unfold decodeFps
  rw [fMinorR_mkR]
  change (keepIf (fB (mkR 0x0E#6 a1 a2 0 4 0) == 0 && fMod (mkR 0x0E#6 a1 a2 0 4 0) == 0) .nonzeroField (.fsqrt (fD (mkR 0x0E#6 a1 a2 0 4 0)) (fA (mkR 0x0E#6 a1 a2 0 4 0))) : Except DecodeError Instr) = _
  simp only [fD_mkR, fA_mkR, fB_mkR, fMod_mkR]
  rfl
theorem fmin : ∀ a1 a2 a3, Statement (.fmin a1 a2 a3) := by
  intro a1 a2 a3 _ h
  refine (major_0E (mkR 0x0E#6 a1 a2 a3 5 0) (fMajor_mkR ..)).trans ?_
  unfold decodeFps
  rw [fMinorR_mkR]
  change (keepIf (fMod (mkR 0x0E#6 a1 a2 a3 5 0) == 0) .nonzeroField (.fmin (fD (mkR 0x0E#6 a1 a2 a3 5 0)) (fA (mkR 0x0E#6 a1 a2 a3 5 0)) (fB (mkR 0x0E#6 a1 a2 a3 5 0))) : Except DecodeError Instr) = _
  simp only [fD_mkR, fA_mkR, fB_mkR, fMod_mkR]
  rfl
theorem fmax : ∀ a1 a2 a3, Statement (.fmax a1 a2 a3) := by
  intro a1 a2 a3 _ h
  refine (major_0E (mkR 0x0E#6 a1 a2 a3 6 0) (fMajor_mkR ..)).trans ?_
  unfold decodeFps
  rw [fMinorR_mkR]
  change (keepIf (fMod (mkR 0x0E#6 a1 a2 a3 6 0) == 0) .nonzeroField (.fmax (fD (mkR 0x0E#6 a1 a2 a3 6 0)) (fA (mkR 0x0E#6 a1 a2 a3 6 0)) (fB (mkR 0x0E#6 a1 a2 a3 6 0))) : Except DecodeError Instr) = _
  simp only [fD_mkR, fA_mkR, fB_mkR, fMod_mkR]
  rfl
theorem feq : ∀ a1 a2 a3, Statement (.feq a1 a2 a3) := by
  intro a1 a2 a3 _ h
  refine (major_0E (mkR 0x0E#6 a1 a2 a3 7 0) (fMajor_mkR ..)).trans ?_
  unfold decodeFps
  rw [fMinorR_mkR]
  change (keepIf (fMod (mkR 0x0E#6 a1 a2 a3 7 0) == 0) .nonzeroField (.feq (fD (mkR 0x0E#6 a1 a2 a3 7 0)) (fA (mkR 0x0E#6 a1 a2 a3 7 0)) (fB (mkR 0x0E#6 a1 a2 a3 7 0))) : Except DecodeError Instr) = _
  simp only [fD_mkR, fA_mkR, fB_mkR, fMod_mkR]
  rfl
theorem flt : ∀ a1 a2 a3, Statement (.flt a1 a2 a3) := by
  intro a1 a2 a3 _ h
  refine (major_0E (mkR 0x0E#6 a1 a2 a3 8 0) (fMajor_mkR ..)).trans ?_
  unfold decodeFps
  rw [fMinorR_mkR]
  change (keepIf (fMod (mkR 0x0E#6 a1 a2 a3 8 0) == 0) .nonzeroField (.flt (fD (mkR 0x0E#6 a1 a2 a3 8 0)) (fA (mkR 0x0E#6 a1 a2 a3 8 0)) (fB (mkR 0x0E#6 a1 a2 a3 8 0))) : Except DecodeError Instr) = _
  simp only [fD_mkR, fA_mkR, fB_mkR, fMod_mkR]
  rfl
theorem fle : ∀ a1 a2 a3, Statement (.fle a1 a2 a3) := by
  intro a1 a2 a3 _ h
  refine (major_0E (mkR 0x0E#6 a1 a2 a3 9 0) (fMajor_mkR ..)).trans ?_
  unfold decodeFps
  rw [fMinorR_mkR]
  change (keepIf (fMod (mkR 0x0E#6 a1 a2 a3 9 0) == 0) .nonzeroField (.fle (fD (mkR 0x0E#6 a1 a2 a3 9 0)) (fA (mkR 0x0E#6 a1 a2 a3 9 0)) (fB (mkR 0x0E#6 a1 a2 a3 9 0))) : Except DecodeError Instr) = _
  simp only [fD_mkR, fA_mkR, fB_mkR, fMod_mkR]
  rfl
theorem fcvtfi : ∀ a1 a2, Statement (.fcvtfi a1 a2) := by
  intro a1 a2 _ h
  refine (major_0E (mkR 0x0E#6 a1 a2 0 10 0) (fMajor_mkR ..)).trans ?_
  unfold decodeFps
  rw [fMinorR_mkR]
  change (keepIf (fB (mkR 0x0E#6 a1 a2 0 10 0) == 0 && fMod (mkR 0x0E#6 a1 a2 0 10 0) == 0) .nonzeroField (.fcvtfi (fD (mkR 0x0E#6 a1 a2 0 10 0)) (fA (mkR 0x0E#6 a1 a2 0 10 0))) : Except DecodeError Instr) = _
  simp only [fD_mkR, fA_mkR, fB_mkR, fMod_mkR]
  rfl
theorem fcvtif : ∀ a1 a2, Statement (.fcvtif a1 a2) := by
  intro a1 a2 _ h
  refine (major_0E (mkR 0x0E#6 a1 a2 0 11 0) (fMajor_mkR ..)).trans ?_
  unfold decodeFps
  rw [fMinorR_mkR]
  change (keepIf (fB (mkR 0x0E#6 a1 a2 0 11 0) == 0 && fMod (mkR 0x0E#6 a1 a2 0 11 0) == 0) .nonzeroField (.fcvtif (fD (mkR 0x0E#6 a1 a2 0 11 0)) (fA (mkR 0x0E#6 a1 a2 0 11 0))) : Except DecodeError Instr) = _
  simp only [fD_mkR, fA_mkR, fB_mkR, fMod_mkR]
  rfl
theorem fsgnj : ∀ a1 a2 a3, Statement (.fsgnj a1 a2 a3) := by
  intro a1 a2 a3 _ h
  refine (major_0E (mkR 0x0E#6 a1 a2 a3 12 0) (fMajor_mkR ..)).trans ?_
  unfold decodeFps
  rw [fMinorR_mkR]
  change (keepIf (fMod (mkR 0x0E#6 a1 a2 a3 12 0) == 0) .nonzeroField (.fsgnj (fD (mkR 0x0E#6 a1 a2 a3 12 0)) (fA (mkR 0x0E#6 a1 a2 a3 12 0)) (fB (mkR 0x0E#6 a1 a2 a3 12 0))) : Except DecodeError Instr) = _
  simp only [fD_mkR, fA_mkR, fB_mkR, fMod_mkR]
  rfl
theorem fneg : ∀ a1 a2, Statement (.fneg a1 a2) := by
  intro a1 a2 _ h
  refine (major_0E (mkR 0x0E#6 a1 a2 0 13 0) (fMajor_mkR ..)).trans ?_
  unfold decodeFps
  rw [fMinorR_mkR]
  change (keepIf (fB (mkR 0x0E#6 a1 a2 0 13 0) == 0 && fMod (mkR 0x0E#6 a1 a2 0 13 0) == 0) .nonzeroField (.fneg (fD (mkR 0x0E#6 a1 a2 0 13 0)) (fA (mkR 0x0E#6 a1 a2 0 13 0))) : Except DecodeError Instr) = _
  simp only [fD_mkR, fA_mkR, fB_mkR, fMod_mkR]
  rfl
theorem fabs : ∀ a1 a2, Statement (.fabs a1 a2) := by
  intro a1 a2 _ h
  refine (major_0E (mkR 0x0E#6 a1 a2 0 14 0) (fMajor_mkR ..)).trans ?_
  unfold decodeFps
  rw [fMinorR_mkR]
  change (keepIf (fB (mkR 0x0E#6 a1 a2 0 14 0) == 0 && fMod (mkR 0x0E#6 a1 a2 0 14 0) == 0) .nonzeroField (.fabs (fD (mkR 0x0E#6 a1 a2 0 14 0)) (fA (mkR 0x0E#6 a1 a2 0 14 0))) : Except DecodeError Instr) = _
  simp only [fD_mkR, fA_mkR, fB_mkR, fMod_mkR]
  rfl
theorem fclass : ∀ a1 a2, Statement (.fclass a1 a2) := by
  intro a1 a2 _ h
  refine (major_0E (mkR 0x0E#6 a1 a2 0 15 0) (fMajor_mkR ..)).trans ?_
  unfold decodeFps
  rw [fMinorR_mkR]
  change (keepIf (fB (mkR 0x0E#6 a1 a2 0 15 0) == 0 && fMod (mkR 0x0E#6 a1 a2 0 15 0) == 0) .nonzeroField (.fclass (fD (mkR 0x0E#6 a1 a2 0 15 0)) (fA (mkR 0x0E#6 a1 a2 0 15 0))) : Except DecodeError Instr) = _
  simp only [fD_mkR, fA_mkR, fB_mkR, fMod_mkR]
  rfl
theorem fma : ∀ a1 a2 a3 a4, Statement (.fma a1 a2 a3 a4) := by
  intro a1 a2 a3 a4 _ h
  refine (major_0F (mkQ 0x0F#6 a1 a2 a3 a4 0) (fMajor_mkQ ..)).trans ?_
  unfold decodeFmas
  rw [fMinorQ_mkQ]
  change (.ok (.fma (fD (mkQ 0x0F#6 a1 a2 a3 a4 0)) (fA (mkQ 0x0F#6 a1 a2 a3 a4 0)) (fB (mkQ 0x0F#6 a1 a2 a3 a4 0)) (fC (mkQ 0x0F#6 a1 a2 a3 a4 0))) : Except DecodeError Instr) = _
  simp only [fD_mkQ, fA_mkQ, fB_mkQ, fC_mkQ]
theorem fnma : ∀ a1 a2 a3 a4, Statement (.fnma a1 a2 a3 a4) := by
  intro a1 a2 a3 a4 _ h
  refine (major_0F (mkQ 0x0F#6 a1 a2 a3 a4 1) (fMajor_mkQ ..)).trans ?_
  unfold decodeFmas
  rw [fMinorQ_mkQ]
  change (.ok (.fnma (fD (mkQ 0x0F#6 a1 a2 a3 a4 1)) (fA (mkQ 0x0F#6 a1 a2 a3 a4 1)) (fB (mkQ 0x0F#6 a1 a2 a3 a4 1)) (fC (mkQ 0x0F#6 a1 a2 a3 a4 1))) : Except DecodeError Instr) = _
  simp only [fD_mkQ, fA_mkQ, fB_mkQ, fC_mkQ]
theorem fms : ∀ a1 a2 a3 a4, Statement (.fms a1 a2 a3 a4) := by
  intro a1 a2 a3 a4 _ h
  refine (major_0F (mkQ 0x0F#6 a1 a2 a3 a4 2) (fMajor_mkQ ..)).trans ?_
  unfold decodeFmas
  rw [fMinorQ_mkQ]
  change (.ok (.fms (fD (mkQ 0x0F#6 a1 a2 a3 a4 2)) (fA (mkQ 0x0F#6 a1 a2 a3 a4 2)) (fB (mkQ 0x0F#6 a1 a2 a3 a4 2)) (fC (mkQ 0x0F#6 a1 a2 a3 a4 2))) : Except DecodeError Instr) = _
  simp only [fD_mkQ, fA_mkQ, fB_mkQ, fC_mkQ]
theorem beq : ∀ a1 a2 a3, Statement (.beq a1 a2 a3) := by
  intro a1 a2 a3 _ h
  refine (major_10 (mkM 0x10#6 a1 a2 0 a3) (fMajor_mkM ..)).trans ?_
  unfold decodeBranch
  rw [fSize_mkM]
  change (.ok (.beq (fD (mkM 0x10#6 a1 a2 0 a3)) (fA (mkM 0x10#6 a1 a2 0 a3)) (fOff13 (mkM 0x10#6 a1 a2 0 a3))) : Except DecodeError Instr) = _
  simp only [fD_mkM, fA_mkM, fOff13_mkM]
theorem bne : ∀ a1 a2 a3, Statement (.bne a1 a2 a3) := by
  intro a1 a2 a3 _ h
  refine (major_10 (mkM 0x10#6 a1 a2 1 a3) (fMajor_mkM ..)).trans ?_
  unfold decodeBranch
  rw [fSize_mkM]
  change (.ok (.bne (fD (mkM 0x10#6 a1 a2 1 a3)) (fA (mkM 0x10#6 a1 a2 1 a3)) (fOff13 (mkM 0x10#6 a1 a2 1 a3))) : Except DecodeError Instr) = _
  simp only [fD_mkM, fA_mkM, fOff13_mkM]
theorem blt : ∀ a1 a2 a3, Statement (.blt a1 a2 a3) := by
  intro a1 a2 a3 _ h
  refine (major_10 (mkM 0x10#6 a1 a2 2 a3) (fMajor_mkM ..)).trans ?_
  unfold decodeBranch
  rw [fSize_mkM]
  change (.ok (.blt (fD (mkM 0x10#6 a1 a2 2 a3)) (fA (mkM 0x10#6 a1 a2 2 a3)) (fOff13 (mkM 0x10#6 a1 a2 2 a3))) : Except DecodeError Instr) = _
  simp only [fD_mkM, fA_mkM, fOff13_mkM]
theorem bge : ∀ a1 a2 a3, Statement (.bge a1 a2 a3) := by
  intro a1 a2 a3 _ h
  refine (major_10 (mkM 0x10#6 a1 a2 3 a3) (fMajor_mkM ..)).trans ?_
  unfold decodeBranch
  rw [fSize_mkM]
  change (.ok (.bge (fD (mkM 0x10#6 a1 a2 3 a3)) (fA (mkM 0x10#6 a1 a2 3 a3)) (fOff13 (mkM 0x10#6 a1 a2 3 a3))) : Except DecodeError Instr) = _
  simp only [fD_mkM, fA_mkM, fOff13_mkM]
theorem bltu : ∀ a1 a2 a3, Statement (.bltu a1 a2 a3) := by
  intro a1 a2 a3 _ h
  refine (major_10 (mkM 0x10#6 a1 a2 4 a3) (fMajor_mkM ..)).trans ?_
  unfold decodeBranch
  rw [fSize_mkM]
  change (.ok (.bltu (fD (mkM 0x10#6 a1 a2 4 a3)) (fA (mkM 0x10#6 a1 a2 4 a3)) (fOff13 (mkM 0x10#6 a1 a2 4 a3))) : Except DecodeError Instr) = _
  simp only [fD_mkM, fA_mkM, fOff13_mkM]
theorem bgeu : ∀ a1 a2 a3, Statement (.bgeu a1 a2 a3) := by
  intro a1 a2 a3 _ h
  refine (major_10 (mkM 0x10#6 a1 a2 5 a3) (fMajor_mkM ..)).trans ?_
  unfold decodeBranch
  rw [fSize_mkM]
  change (.ok (.bgeu (fD (mkM 0x10#6 a1 a2 5 a3)) (fA (mkM 0x10#6 a1 a2 5 a3)) (fOff13 (mkM 0x10#6 a1 a2 5 a3))) : Except DecodeError Instr) = _
  simp only [fD_mkM, fA_mkM, fOff13_mkM]
theorem jmp : ∀ a1, Statement (.jmp a1) := by
  intro a1 _ h
  refine (major_11 (mkL 0x11#6 a1) (fMajor_mkL ..)).trans ?_
  simp only [fOff26_mkL]
theorem call : ∀ a1, Statement (.call a1) := by
  intro a1 _ h
  refine (major_12 (mkL 0x12#6 a1) (fMajor_mkL ..)).trans ?_
  simp only [fOff26_mkL]
theorem jr : ∀ a1, Statement (.jr a1) := by
  intro a1 _ h
  refine (major_13 (mkR 0x13#6 0 a1 0 0 0) (fMajor_mkR ..)).trans ?_
  unfold decodeJr
  rw [fMinorR_mkR]
  change (keepIf (fD (mkR 0x13#6 0 a1 0 0 0) == 0 && fB (mkR 0x13#6 0 a1 0 0 0) == 0 && fMod (mkR 0x13#6 0 a1 0 0 0) == 0) .nonzeroField (.jr (fA (mkR 0x13#6 0 a1 0 0 0))) : Except DecodeError Instr) = _
  simp only [fD_mkR, fA_mkR, fB_mkR, fMod_mkR]
  rfl
theorem callr : ∀ a1, Statement (.callr a1) := by
  intro a1 _ h
  refine (major_13 (mkR 0x13#6 0 a1 0 1 0) (fMajor_mkR ..)).trans ?_
  unfold decodeJr
  rw [fMinorR_mkR]
  change (keepIf (fD (mkR 0x13#6 0 a1 0 1 0) == 0 && fB (mkR 0x13#6 0 a1 0 1 0) == 0 && fMod (mkR 0x13#6 0 a1 0 1 0) == 0) .nonzeroField (.callr (fA (mkR 0x13#6 0 a1 0 1 0))) : Except DecodeError Instr) = _
  simp only [fD_mkR, fA_mkR, fB_mkR, fMod_mkR]
  rfl
theorem csrr : ∀ a1 a2, Statement (.csrr a1 a2) := by
  intro a1 a2 _ h
  refine (major_14 (mkC a1 0 a2 0) (fMajor_mkC ..)).trans ?_
  unfold decodeCsr
  rw [fOp4_mkC]
  change (keepIf (fA (mkC a1 0 a2 0) == 0) .nonzeroField (.csrr (fD (mkC a1 0 a2 0)) (fCsr (mkC a1 0 a2 0))) : Except DecodeError Instr) = _
  simp only [fD_mkC, fA_mkC, fCsr_mkC]
  rfl
theorem csrw : ∀ a1 a2 a3, Statement (.csrw a1 a2 a3) := by
  intro a1 a2 a3 _ h
  refine (major_14 (mkC a1 a2 a3 1) (fMajor_mkC ..)).trans ?_
  unfold decodeCsr
  rw [fOp4_mkC]
  change (.ok (.csrw (fD (mkC a1 a2 a3 1)) (fA (mkC a1 a2 a3 1)) (fCsr (mkC a1 a2 a3 1))) : Except DecodeError Instr) = _
  simp only [fD_mkC, fA_mkC, fCsr_mkC]
theorem csrs : ∀ a1 a2 a3, Statement (.csrs a1 a2 a3) := by
  intro a1 a2 a3 _ h
  refine (major_14 (mkC a1 a2 a3 2) (fMajor_mkC ..)).trans ?_
  unfold decodeCsr
  rw [fOp4_mkC]
  change (.ok (.csrs (fD (mkC a1 a2 a3 2)) (fA (mkC a1 a2 a3 2)) (fCsr (mkC a1 a2 a3 2))) : Except DecodeError Instr) = _
  simp only [fD_mkC, fA_mkC, fCsr_mkC]
theorem csrc : ∀ a1 a2 a3, Statement (.csrc a1 a2 a3) := by
  intro a1 a2 a3 _ h
  refine (major_14 (mkC a1 a2 a3 3) (fMajor_mkC ..)).trans ?_
  unfold decodeCsr
  rw [fOp4_mkC]
  change (.ok (.csrc (fD (mkC a1 a2 a3 3)) (fA (mkC a1 a2 a3 3)) (fCsr (mkC a1 a2 a3 3))) : Except DecodeError Instr) = _
  simp only [fD_mkC, fA_mkC, fCsr_mkC]
theorem csrwi : ∀ a1 a2 a3, Statement (.csrwi a1 a2 a3) := by
  intro a1 a2 a3 _ h
  refine (major_14 (mkC a1 a2 a3 4) (fMajor_mkC ..)).trans ?_
  unfold decodeCsr
  rw [fOp4_mkC]
  change (.ok (.csrwi (fD (mkC a1 a2 a3 4)) (fA (mkC a1 a2 a3 4)) (fCsr (mkC a1 a2 a3 4))) : Except DecodeError Instr) = _
  simp only [fD_mkC, fA_mkC, fCsr_mkC]
theorem setvl : ∀ a1 a2, Statement (.setvl a1 a2) := by
  intro a1 a2 _ h
  refine (major_18 (mkR 0x18#6 a1 a2 0 0 0) (fMajor_mkR ..)).trans ?_
  unfold decodeVcfg
  rw [fMinorR_mkR]
  change (keepIf (fB (mkR 0x18#6 a1 a2 0 0 0) == 0 && fMod (mkR 0x18#6 a1 a2 0 0 0) == 0) .nonzeroField (.setvl (fD (mkR 0x18#6 a1 a2 0 0 0)) (fA (mkR 0x18#6 a1 a2 0 0 0))) : Except DecodeError Instr) = _
  simp only [fD_mkR, fA_mkR, fB_mkR, fMod_mkR]
  rfl
theorem setvlmax : ∀ a1, Statement (.setvlmax a1) := by
  intro a1 _ h
  refine (major_18 (mkR 0x18#6 a1 0 0 1 0) (fMajor_mkR ..)).trans ?_
  unfold decodeVcfg
  rw [fMinorR_mkR]
  change (keepIf (fA (mkR 0x18#6 a1 0 0 1 0) == 0 && fB (mkR 0x18#6 a1 0 0 1 0) == 0 && fMod (mkR 0x18#6 a1 0 0 1 0) == 0) .nonzeroField (.setvlmax (fD (mkR 0x18#6 a1 0 0 1 0))) : Except DecodeError Instr) = _
  simp only [fD_mkR, fA_mkR, fB_mkR, fMod_mkR]
  rfl
theorem settype : ∀ a1 a2, Statement (.settype a1 a2) := by
  intro a1 a2 _ h
  refine (major_18 (mkR 0x18#6 a1 a2 0 2 0) (fMajor_mkR ..)).trans ?_
  unfold decodeVcfg
  rw [fMinorR_mkR]
  change (keepIf (fB (mkR 0x18#6 a1 a2 0 2 0) == 0 && fMod (mkR 0x18#6 a1 a2 0 2 0) == 0) .nonzeroField (.settype (fD (mkR 0x18#6 a1 a2 0 2 0)) (fA (mkR 0x18#6 a1 a2 0 2 0))) : Except DecodeError Instr) = _
  simp only [fD_mkR, fA_mkR, fB_mkR, fMod_mkR]
  rfl
theorem settypei : ∀ a1 a2, Statement (.settypei a1 a2) := by
  intro a1 a2 _ h
  refine (major_18 (mkR 0x18#6 a1 0 (0#2 ++ a2.extractLsb' 5 3) 3 (a2.extractLsb' 0 5)) (fMajor_mkR ..)).trans ?_
  unfold decodeVcfg
  rw [fMinorR_mkR]
  change (keepIf (fA (mkR 0x18#6 a1 0 (0#2 ++ a2.extractLsb' 5 3) 3 (a2.extractLsb' 0 5)) == 0 && (fB (mkR 0x18#6 a1 0 (0#2 ++ a2.extractLsb' 5 3) 3 (a2.extractLsb' 0 5))).extractLsb' 3 2 == 0) .nonzeroField (.settypei (fD (mkR 0x18#6 a1 0 (0#2 ++ a2.extractLsb' 5 3) 3 (a2.extractLsb' 0 5))) ((fB (mkR 0x18#6 a1 0 (0#2 ++ a2.extractLsb' 5 3) 3 (a2.extractLsb' 0 5))).extractLsb' 0 3 ++ fMod (mkR 0x18#6 a1 0 (0#2 ++ a2.extractLsb' 5 3) 3 (a2.extractLsb' 0 5)))) : Except DecodeError Instr) = _
  simp only [fD_mkR, fA_mkR, fB_mkR, fMod_mkR]
  rw [extract_append_high (0#2) (a2.extractLsb' 5 3) 3 2 (by decide), extract_append_low (0#2) (a2.extractLsb' 5 3) 0 3 (by decide), extract_extract _ _ _ _ _ (by decide)]
  exact congrArg (fun k => Except.ok (Instr.settypei a1 k)) ((extract_join a2 0 3 5).trans (extract_all a2))
theorem vfaddVv : ∀ a1 a2 a3, Statement (.vfaddVv a1 a2 a3) := by
  intro a1 a2 a3 _ h
  refine (major_19 (mkV 0x19#6 a1 a2 a3 0x0) (fMajor_mkV ..)).trans ?_
  unfold decodeVf
  rw [fSelV_mkV]
  change (.ok (.vfaddVv (fD (mkV 0x19#6 a1 a2 a3 0x0)) (fA (mkV 0x19#6 a1 a2 a3 0x0)) (fB (mkV 0x19#6 a1 a2 a3 0x0))) : Except DecodeError Instr) = _
  simp only [fD_mkV, fA_mkV, fB_mkV]
theorem vfaddVx : ∀ a1 a2 a3, Statement (.vfaddVx a1 a2 a3) := by
  intro a1 a2 a3 _ h
  refine (major_19 (mkV 0x19#6 a1 a2 a3 0x4) (fMajor_mkV ..)).trans ?_
  unfold decodeVf
  rw [fSelV_mkV]
  change (.ok (.vfaddVx (fD (mkV 0x19#6 a1 a2 a3 0x4)) (fA (mkV 0x19#6 a1 a2 a3 0x4)) (fB (mkV 0x19#6 a1 a2 a3 0x4))) : Except DecodeError Instr) = _
  simp only [fD_mkV, fA_mkV, fB_mkV]
theorem vfsubVv : ∀ a1 a2 a3, Statement (.vfsubVv a1 a2 a3) := by
  intro a1 a2 a3 _ h
  refine (major_19 (mkV 0x19#6 a1 a2 a3 0x10) (fMajor_mkV ..)).trans ?_
  unfold decodeVf
  rw [fSelV_mkV]
  change (.ok (.vfsubVv (fD (mkV 0x19#6 a1 a2 a3 0x10)) (fA (mkV 0x19#6 a1 a2 a3 0x10)) (fB (mkV 0x19#6 a1 a2 a3 0x10))) : Except DecodeError Instr) = _
  simp only [fD_mkV, fA_mkV, fB_mkV]
theorem vfsubVx : ∀ a1 a2 a3, Statement (.vfsubVx a1 a2 a3) := by
  intro a1 a2 a3 _ h
  refine (major_19 (mkV 0x19#6 a1 a2 a3 0x14) (fMajor_mkV ..)).trans ?_
  unfold decodeVf
  rw [fSelV_mkV]
  change (.ok (.vfsubVx (fD (mkV 0x19#6 a1 a2 a3 0x14)) (fA (mkV 0x19#6 a1 a2 a3 0x14)) (fB (mkV 0x19#6 a1 a2 a3 0x14))) : Except DecodeError Instr) = _
  simp only [fD_mkV, fA_mkV, fB_mkV]
theorem vfmulVv : ∀ a1 a2 a3, Statement (.vfmulVv a1 a2 a3) := by
  intro a1 a2 a3 _ h
  refine (major_19 (mkV 0x19#6 a1 a2 a3 0x20) (fMajor_mkV ..)).trans ?_
  unfold decodeVf
  rw [fSelV_mkV]
  change (.ok (.vfmulVv (fD (mkV 0x19#6 a1 a2 a3 0x20)) (fA (mkV 0x19#6 a1 a2 a3 0x20)) (fB (mkV 0x19#6 a1 a2 a3 0x20))) : Except DecodeError Instr) = _
  simp only [fD_mkV, fA_mkV, fB_mkV]
theorem vfmulVx : ∀ a1 a2 a3, Statement (.vfmulVx a1 a2 a3) := by
  intro a1 a2 a3 _ h
  refine (major_19 (mkV 0x19#6 a1 a2 a3 0x24) (fMajor_mkV ..)).trans ?_
  unfold decodeVf
  rw [fSelV_mkV]
  change (.ok (.vfmulVx (fD (mkV 0x19#6 a1 a2 a3 0x24)) (fA (mkV 0x19#6 a1 a2 a3 0x24)) (fB (mkV 0x19#6 a1 a2 a3 0x24))) : Except DecodeError Instr) = _
  simp only [fD_mkV, fA_mkV, fB_mkV]
theorem vfdivVv : ∀ a1 a2 a3, Statement (.vfdivVv a1 a2 a3) := by
  intro a1 a2 a3 _ h
  refine (major_19 (mkV 0x19#6 a1 a2 a3 0x30) (fMajor_mkV ..)).trans ?_
  unfold decodeVf
  rw [fSelV_mkV]
  change (.ok (.vfdivVv (fD (mkV 0x19#6 a1 a2 a3 0x30)) (fA (mkV 0x19#6 a1 a2 a3 0x30)) (fB (mkV 0x19#6 a1 a2 a3 0x30))) : Except DecodeError Instr) = _
  simp only [fD_mkV, fA_mkV, fB_mkV]
theorem vfdivVx : ∀ a1 a2 a3, Statement (.vfdivVx a1 a2 a3) := by
  intro a1 a2 a3 _ h
  refine (major_19 (mkV 0x19#6 a1 a2 a3 0x34) (fMajor_mkV ..)).trans ?_
  unfold decodeVf
  rw [fSelV_mkV]
  change (.ok (.vfdivVx (fD (mkV 0x19#6 a1 a2 a3 0x34)) (fA (mkV 0x19#6 a1 a2 a3 0x34)) (fB (mkV 0x19#6 a1 a2 a3 0x34))) : Except DecodeError Instr) = _
  simp only [fD_mkV, fA_mkV, fB_mkV]
theorem vfminVv : ∀ a1 a2 a3, Statement (.vfminVv a1 a2 a3) := by
  intro a1 a2 a3 _ h
  refine (major_19 (mkV 0x19#6 a1 a2 a3 0x40) (fMajor_mkV ..)).trans ?_
  unfold decodeVf
  rw [fSelV_mkV]
  change (.ok (.vfminVv (fD (mkV 0x19#6 a1 a2 a3 0x40)) (fA (mkV 0x19#6 a1 a2 a3 0x40)) (fB (mkV 0x19#6 a1 a2 a3 0x40))) : Except DecodeError Instr) = _
  simp only [fD_mkV, fA_mkV, fB_mkV]
theorem vfminVx : ∀ a1 a2 a3, Statement (.vfminVx a1 a2 a3) := by
  intro a1 a2 a3 _ h
  refine (major_19 (mkV 0x19#6 a1 a2 a3 0x44) (fMajor_mkV ..)).trans ?_
  unfold decodeVf
  rw [fSelV_mkV]
  change (.ok (.vfminVx (fD (mkV 0x19#6 a1 a2 a3 0x44)) (fA (mkV 0x19#6 a1 a2 a3 0x44)) (fB (mkV 0x19#6 a1 a2 a3 0x44))) : Except DecodeError Instr) = _
  simp only [fD_mkV, fA_mkV, fB_mkV]
theorem vfmaxVv : ∀ a1 a2 a3, Statement (.vfmaxVv a1 a2 a3) := by
  intro a1 a2 a3 _ h
  refine (major_19 (mkV 0x19#6 a1 a2 a3 0x50) (fMajor_mkV ..)).trans ?_
  unfold decodeVf
  rw [fSelV_mkV]
  change (.ok (.vfmaxVv (fD (mkV 0x19#6 a1 a2 a3 0x50)) (fA (mkV 0x19#6 a1 a2 a3 0x50)) (fB (mkV 0x19#6 a1 a2 a3 0x50))) : Except DecodeError Instr) = _
  simp only [fD_mkV, fA_mkV, fB_mkV]
theorem vfmaxVx : ∀ a1 a2 a3, Statement (.vfmaxVx a1 a2 a3) := by
  intro a1 a2 a3 _ h
  refine (major_19 (mkV 0x19#6 a1 a2 a3 0x54) (fMajor_mkV ..)).trans ?_
  unfold decodeVf
  rw [fSelV_mkV]
  change (.ok (.vfmaxVx (fD (mkV 0x19#6 a1 a2 a3 0x54)) (fA (mkV 0x19#6 a1 a2 a3 0x54)) (fB (mkV 0x19#6 a1 a2 a3 0x54))) : Except DecodeError Instr) = _
  simp only [fD_mkV, fA_mkV, fB_mkV]
theorem vfsqrt : ∀ a1 a2, Statement (.vfsqrt a1 a2) := by
  intro a1 a2 _ h
  refine (major_19 (mkV 0x19#6 a1 a2 0 0x60) (fMajor_mkV ..)).trans ?_
  unfold decodeVf
  rw [fSelV_mkV]
  change (keepIf (fB (mkV 0x19#6 a1 a2 0 0x60) == 0) .nonzeroField (.vfsqrt (fD (mkV 0x19#6 a1 a2 0 0x60)) (fA (mkV 0x19#6 a1 a2 0 0x60))) : Except DecodeError Instr) = _
  simp only [fD_mkV, fA_mkV, fB_mkV]
  rfl
theorem vfabs : ∀ a1 a2, Statement (.vfabs a1 a2) := by
  intro a1 a2 _ h
  refine (major_19 (mkV 0x19#6 a1 a2 0 0x70) (fMajor_mkV ..)).trans ?_
  unfold decodeVf
  rw [fSelV_mkV]
  change (keepIf (fB (mkV 0x19#6 a1 a2 0 0x70) == 0) .nonzeroField (.vfabs (fD (mkV 0x19#6 a1 a2 0 0x70)) (fA (mkV 0x19#6 a1 a2 0 0x70))) : Except DecodeError Instr) = _
  simp only [fD_mkV, fA_mkV, fB_mkV]
  rfl
theorem vfneg : ∀ a1 a2, Statement (.vfneg a1 a2) := by
  intro a1 a2 _ h
  refine (major_19 (mkV 0x19#6 a1 a2 0 0x80) (fMajor_mkV ..)).trans ?_
  unfold decodeVf
  rw [fSelV_mkV]
  change (keepIf (fB (mkV 0x19#6 a1 a2 0 0x80) == 0) .nonzeroField (.vfneg (fD (mkV 0x19#6 a1 a2 0 0x80)) (fA (mkV 0x19#6 a1 a2 0 0x80))) : Except DecodeError Instr) = _
  simp only [fD_mkV, fA_mkV, fB_mkV]
  rfl
theorem vfsgnjVv : ∀ a1 a2 a3, Statement (.vfsgnjVv a1 a2 a3) := by
  intro a1 a2 a3 _ h
  refine (major_19 (mkV 0x19#6 a1 a2 a3 0x90) (fMajor_mkV ..)).trans ?_
  unfold decodeVf
  rw [fSelV_mkV]
  change (.ok (.vfsgnjVv (fD (mkV 0x19#6 a1 a2 a3 0x90)) (fA (mkV 0x19#6 a1 a2 a3 0x90)) (fB (mkV 0x19#6 a1 a2 a3 0x90))) : Except DecodeError Instr) = _
  simp only [fD_mkV, fA_mkV, fB_mkV]
theorem vfsgnjVx : ∀ a1 a2 a3, Statement (.vfsgnjVx a1 a2 a3) := by
  intro a1 a2 a3 _ h
  refine (major_19 (mkV 0x19#6 a1 a2 a3 0x94) (fMajor_mkV ..)).trans ?_
  unfold decodeVf
  rw [fSelV_mkV]
  change (.ok (.vfsgnjVx (fD (mkV 0x19#6 a1 a2 a3 0x94)) (fA (mkV 0x19#6 a1 a2 a3 0x94)) (fB (mkV 0x19#6 a1 a2 a3 0x94))) : Except DecodeError Instr) = _
  simp only [fD_mkV, fA_mkV, fB_mkV]
theorem vfrsubVv : ∀ a1 a2 a3, Statement (.vfrsubVv a1 a2 a3) := by
  intro a1 a2 a3 _ h
  refine (major_19 (mkV 0x19#6 a1 a2 a3 0xA0) (fMajor_mkV ..)).trans ?_
  unfold decodeVf
  rw [fSelV_mkV]
  change (.ok (.vfrsubVv (fD (mkV 0x19#6 a1 a2 a3 0xA0)) (fA (mkV 0x19#6 a1 a2 a3 0xA0)) (fB (mkV 0x19#6 a1 a2 a3 0xA0))) : Except DecodeError Instr) = _
  simp only [fD_mkV, fA_mkV, fB_mkV]
theorem vfrsubVx : ∀ a1 a2 a3, Statement (.vfrsubVx a1 a2 a3) := by
  intro a1 a2 a3 _ h
  refine (major_19 (mkV 0x19#6 a1 a2 a3 0xA4) (fMajor_mkV ..)).trans ?_
  unfold decodeVf
  rw [fSelV_mkV]
  change (.ok (.vfrsubVx (fD (mkV 0x19#6 a1 a2 a3 0xA4)) (fA (mkV 0x19#6 a1 a2 a3 0xA4)) (fB (mkV 0x19#6 a1 a2 a3 0xA4))) : Except DecodeError Instr) = _
  simp only [fD_mkV, fA_mkV, fB_mkV]
theorem vfeqVv : ∀ a1 a2 a3, Statement (.vfeqVv a1 a2 a3) := by
  intro a1 a2 a3 _ h
  refine (major_19 (mkV 0x19#6 a1 a2 a3 0x100) (fMajor_mkV ..)).trans ?_
  unfold decodeVf
  rw [fSelV_mkV]
  change (.ok (.vfeqVv (fD (mkV 0x19#6 a1 a2 a3 0x100)) (fA (mkV 0x19#6 a1 a2 a3 0x100)) (fB (mkV 0x19#6 a1 a2 a3 0x100))) : Except DecodeError Instr) = _
  simp only [fD_mkV, fA_mkV, fB_mkV]
theorem vfeqVx : ∀ a1 a2 a3, Statement (.vfeqVx a1 a2 a3) := by
  intro a1 a2 a3 _ h
  refine (major_19 (mkV 0x19#6 a1 a2 a3 0x104) (fMajor_mkV ..)).trans ?_
  unfold decodeVf
  rw [fSelV_mkV]
  change (.ok (.vfeqVx (fD (mkV 0x19#6 a1 a2 a3 0x104)) (fA (mkV 0x19#6 a1 a2 a3 0x104)) (fB (mkV 0x19#6 a1 a2 a3 0x104))) : Except DecodeError Instr) = _
  simp only [fD_mkV, fA_mkV, fB_mkV]
theorem vfneVv : ∀ a1 a2 a3, Statement (.vfneVv a1 a2 a3) := by
  intro a1 a2 a3 _ h
  refine (major_19 (mkV 0x19#6 a1 a2 a3 0x110) (fMajor_mkV ..)).trans ?_
  unfold decodeVf
  rw [fSelV_mkV]
  change (.ok (.vfneVv (fD (mkV 0x19#6 a1 a2 a3 0x110)) (fA (mkV 0x19#6 a1 a2 a3 0x110)) (fB (mkV 0x19#6 a1 a2 a3 0x110))) : Except DecodeError Instr) = _
  simp only [fD_mkV, fA_mkV, fB_mkV]
theorem vfneVx : ∀ a1 a2 a3, Statement (.vfneVx a1 a2 a3) := by
  intro a1 a2 a3 _ h
  refine (major_19 (mkV 0x19#6 a1 a2 a3 0x114) (fMajor_mkV ..)).trans ?_
  unfold decodeVf
  rw [fSelV_mkV]
  change (.ok (.vfneVx (fD (mkV 0x19#6 a1 a2 a3 0x114)) (fA (mkV 0x19#6 a1 a2 a3 0x114)) (fB (mkV 0x19#6 a1 a2 a3 0x114))) : Except DecodeError Instr) = _
  simp only [fD_mkV, fA_mkV, fB_mkV]
theorem vfltVv : ∀ a1 a2 a3, Statement (.vfltVv a1 a2 a3) := by
  intro a1 a2 a3 _ h
  refine (major_19 (mkV 0x19#6 a1 a2 a3 0x120) (fMajor_mkV ..)).trans ?_
  unfold decodeVf
  rw [fSelV_mkV]
  change (.ok (.vfltVv (fD (mkV 0x19#6 a1 a2 a3 0x120)) (fA (mkV 0x19#6 a1 a2 a3 0x120)) (fB (mkV 0x19#6 a1 a2 a3 0x120))) : Except DecodeError Instr) = _
  simp only [fD_mkV, fA_mkV, fB_mkV]
theorem vfltVx : ∀ a1 a2 a3, Statement (.vfltVx a1 a2 a3) := by
  intro a1 a2 a3 _ h
  refine (major_19 (mkV 0x19#6 a1 a2 a3 0x124) (fMajor_mkV ..)).trans ?_
  unfold decodeVf
  rw [fSelV_mkV]
  change (.ok (.vfltVx (fD (mkV 0x19#6 a1 a2 a3 0x124)) (fA (mkV 0x19#6 a1 a2 a3 0x124)) (fB (mkV 0x19#6 a1 a2 a3 0x124))) : Except DecodeError Instr) = _
  simp only [fD_mkV, fA_mkV, fB_mkV]
theorem vfleVv : ∀ a1 a2 a3, Statement (.vfleVv a1 a2 a3) := by
  intro a1 a2 a3 _ h
  refine (major_19 (mkV 0x19#6 a1 a2 a3 0x130) (fMajor_mkV ..)).trans ?_
  unfold decodeVf
  rw [fSelV_mkV]
  change (.ok (.vfleVv (fD (mkV 0x19#6 a1 a2 a3 0x130)) (fA (mkV 0x19#6 a1 a2 a3 0x130)) (fB (mkV 0x19#6 a1 a2 a3 0x130))) : Except DecodeError Instr) = _
  simp only [fD_mkV, fA_mkV, fB_mkV]
theorem vfleVx : ∀ a1 a2 a3, Statement (.vfleVx a1 a2 a3) := by
  intro a1 a2 a3 _ h
  refine (major_19 (mkV 0x19#6 a1 a2 a3 0x134) (fMajor_mkV ..)).trans ?_
  unfold decodeVf
  rw [fSelV_mkV]
  change (.ok (.vfleVx (fD (mkV 0x19#6 a1 a2 a3 0x134)) (fA (mkV 0x19#6 a1 a2 a3 0x134)) (fB (mkV 0x19#6 a1 a2 a3 0x134))) : Except DecodeError Instr) = _
  simp only [fD_mkV, fA_mkV, fB_mkV]
theorem vfcvtFi : ∀ a1 a2, Statement (.vfcvtFi a1 a2) := by
  intro a1 a2 _ h
  refine (major_19 (mkV 0x19#6 a1 a2 0 0x180) (fMajor_mkV ..)).trans ?_
  unfold decodeVf
  rw [fSelV_mkV]
  change (keepIf (fB (mkV 0x19#6 a1 a2 0 0x180) == 0) .nonzeroField (.vfcvtFi (fD (mkV 0x19#6 a1 a2 0 0x180)) (fA (mkV 0x19#6 a1 a2 0 0x180))) : Except DecodeError Instr) = _
  simp only [fD_mkV, fA_mkV, fB_mkV]
  rfl
theorem vfcvtFiU : ∀ a1 a2, Statement (.vfcvtFiU a1 a2) := by
  intro a1 a2 _ h
  refine (major_19 (mkV 0x19#6 a1 a2 0 0x181) (fMajor_mkV ..)).trans ?_
  unfold decodeVf
  rw [fSelV_mkV]
  change (keepIf (fB (mkV 0x19#6 a1 a2 0 0x181) == 0) .nonzeroField (.vfcvtFiU (fD (mkV 0x19#6 a1 a2 0 0x181)) (fA (mkV 0x19#6 a1 a2 0 0x181))) : Except DecodeError Instr) = _
  simp only [fD_mkV, fA_mkV, fB_mkV]
  rfl
theorem vfcvtIf : ∀ a1 a2, Statement (.vfcvtIf a1 a2) := by
  intro a1 a2 _ h
  refine (major_19 (mkV 0x19#6 a1 a2 0 0x190) (fMajor_mkV ..)).trans ?_
  unfold decodeVf
  rw [fSelV_mkV]
  change (keepIf (fB (mkV 0x19#6 a1 a2 0 0x190) == 0) .nonzeroField (.vfcvtIf (fD (mkV 0x19#6 a1 a2 0 0x190)) (fA (mkV 0x19#6 a1 a2 0 0x190))) : Except DecodeError Instr) = _
  simp only [fD_mkV, fA_mkV, fB_mkV]
  rfl
theorem vfcvtIfU : ∀ a1 a2, Statement (.vfcvtIfU a1 a2) := by
  intro a1 a2 _ h
  refine (major_19 (mkV 0x19#6 a1 a2 0 0x191) (fMajor_mkV ..)).trans ?_
  unfold decodeVf
  rw [fSelV_mkV]
  change (keepIf (fB (mkV 0x19#6 a1 a2 0 0x191) == 0) .nonzeroField (.vfcvtIfU (fD (mkV 0x19#6 a1 a2 0 0x191)) (fA (mkV 0x19#6 a1 a2 0 0x191))) : Except DecodeError Instr) = _
  simp only [fD_mkV, fA_mkV, fB_mkV]
  rfl
theorem vfwiden : ∀ a1 a2, Statement (.vfwiden a1 a2) := by
  intro a1 a2 _ h
  refine (major_19 (mkV 0x19#6 a1 a2 0 0x1A0) (fMajor_mkV ..)).trans ?_
  unfold decodeVf
  rw [fSelV_mkV]
  change (keepIf (fB (mkV 0x19#6 a1 a2 0 0x1A0) == 0) .nonzeroField (.vfwiden (fD (mkV 0x19#6 a1 a2 0 0x1A0)) (fA (mkV 0x19#6 a1 a2 0 0x1A0))) : Except DecodeError Instr) = _
  simp only [fD_mkV, fA_mkV, fB_mkV]
  rfl
theorem vfnarrow : ∀ a1 a2, Statement (.vfnarrow a1 a2) := by
  intro a1 a2 _ h
  refine (major_19 (mkV 0x19#6 a1 a2 0 0x1B0) (fMajor_mkV ..)).trans ?_
  unfold decodeVf
  rw [fSelV_mkV]
  change (keepIf (fB (mkV 0x19#6 a1 a2 0 0x1B0) == 0) .nonzeroField (.vfnarrow (fD (mkV 0x19#6 a1 a2 0 0x1B0)) (fA (mkV 0x19#6 a1 a2 0 0x1B0))) : Except DecodeError Instr) = _
  simp only [fD_mkV, fA_mkV, fB_mkV]
  rfl
theorem vfma : ∀ a1 a2 a3 a4, Statement (.vfma a1 a2 a3 a4) := by
  intro a1 a2 a3 a4 _ h
  refine (major_1A (mkQ 0x1A#6 a1 a2 a3 a4 0) (fMajor_mkQ ..)).trans ?_
  unfold decodeVfm
  rw [fMinorQ_mkQ]
  change (.ok (.vfma (fD (mkQ 0x1A#6 a1 a2 a3 a4 0)) (fA (mkQ 0x1A#6 a1 a2 a3 a4 0)) (fB (mkQ 0x1A#6 a1 a2 a3 a4 0)) (fC (mkQ 0x1A#6 a1 a2 a3 a4 0))) : Except DecodeError Instr) = _
  simp only [fD_mkQ, fA_mkQ, fB_mkQ, fC_mkQ]
theorem vfnma : ∀ a1 a2 a3 a4, Statement (.vfnma a1 a2 a3 a4) := by
  intro a1 a2 a3 a4 _ h
  refine (major_1A (mkQ 0x1A#6 a1 a2 a3 a4 1) (fMajor_mkQ ..)).trans ?_
  unfold decodeVfm
  rw [fMinorQ_mkQ]
  change (.ok (.vfnma (fD (mkQ 0x1A#6 a1 a2 a3 a4 1)) (fA (mkQ 0x1A#6 a1 a2 a3 a4 1)) (fB (mkQ 0x1A#6 a1 a2 a3 a4 1)) (fC (mkQ 0x1A#6 a1 a2 a3 a4 1))) : Except DecodeError Instr) = _
  simp only [fD_mkQ, fA_mkQ, fB_mkQ, fC_mkQ]
theorem vfms : ∀ a1 a2 a3 a4, Statement (.vfms a1 a2 a3 a4) := by
  intro a1 a2 a3 a4 _ h
  refine (major_1A (mkQ 0x1A#6 a1 a2 a3 a4 2) (fMajor_mkQ ..)).trans ?_
  unfold decodeVfm
  rw [fMinorQ_mkQ]
  change (.ok (.vfms (fD (mkQ 0x1A#6 a1 a2 a3 a4 2)) (fA (mkQ 0x1A#6 a1 a2 a3 a4 2)) (fB (mkQ 0x1A#6 a1 a2 a3 a4 2)) (fC (mkQ 0x1A#6 a1 a2 a3 a4 2))) : Except DecodeError Instr) = _
  simp only [fD_mkQ, fA_mkQ, fB_mkQ, fC_mkQ]
theorem vfmaVx : ∀ a1 a2 a3 a4, Statement (.vfmaVx a1 a2 a3 a4) := by
  intro a1 a2 a3 a4 _ h
  refine (major_1A (mkQ 0x1A#6 a1 a2 a3 a4 3) (fMajor_mkQ ..)).trans ?_
  unfold decodeVfm
  rw [fMinorQ_mkQ]
  change (.ok (.vfmaVx (fD (mkQ 0x1A#6 a1 a2 a3 a4 3)) (fA (mkQ 0x1A#6 a1 a2 a3 a4 3)) (fB (mkQ 0x1A#6 a1 a2 a3 a4 3)) (fC (mkQ 0x1A#6 a1 a2 a3 a4 3))) : Except DecodeError Instr) = _
  simp only [fD_mkQ, fA_mkQ, fB_mkQ, fC_mkQ]
theorem vaddVv : ∀ a1 a2 a3, Statement (.vaddVv a1 a2 a3) := by
  intro a1 a2 a3 _ h
  refine (major_1B (mkV 0x1B#6 a1 a2 a3 0x0) (fMajor_mkV ..)).trans ?_
  unfold decodeVint
  rw [fSelV_mkV]
  change (.ok (.vaddVv (fD (mkV 0x1B#6 a1 a2 a3 0x0)) (fA (mkV 0x1B#6 a1 a2 a3 0x0)) (fB (mkV 0x1B#6 a1 a2 a3 0x0))) : Except DecodeError Instr) = _
  simp only [fD_mkV, fA_mkV, fB_mkV]
theorem vaddVx : ∀ a1 a2 a3, Statement (.vaddVx a1 a2 a3) := by
  intro a1 a2 a3 _ h
  refine (major_1B (mkV 0x1B#6 a1 a2 a3 0x4) (fMajor_mkV ..)).trans ?_
  unfold decodeVint
  rw [fSelV_mkV]
  change (.ok (.vaddVx (fD (mkV 0x1B#6 a1 a2 a3 0x4)) (fA (mkV 0x1B#6 a1 a2 a3 0x4)) (fB (mkV 0x1B#6 a1 a2 a3 0x4))) : Except DecodeError Instr) = _
  simp only [fD_mkV, fA_mkV, fB_mkV]
theorem vaddVi : ∀ a1 a2 a3, Statement (.vaddVi a1 a2 a3) := by
  intro a1 a2 a3 _ h
  refine (major_1B (mkV 0x1B#6 a1 a2 a3 0x8) (fMajor_mkV ..)).trans ?_
  unfold decodeVint
  rw [fSelV_mkV]
  change (.ok (.vaddVi (fD (mkV 0x1B#6 a1 a2 a3 0x8)) (fA (mkV 0x1B#6 a1 a2 a3 0x8)) (fB (mkV 0x1B#6 a1 a2 a3 0x8))) : Except DecodeError Instr) = _
  simp only [fD_mkV, fA_mkV, fB_mkV]
theorem vaddSatVv : ∀ a1 a2 a3, Statement (.vaddSatVv a1 a2 a3) := by
  intro a1 a2 a3 _ h
  refine (major_1B (mkV 0x1B#6 a1 a2 a3 0x1) (fMajor_mkV ..)).trans ?_
  unfold decodeVint
  rw [fSelV_mkV]
  change (.ok (.vaddSatVv (fD (mkV 0x1B#6 a1 a2 a3 0x1)) (fA (mkV 0x1B#6 a1 a2 a3 0x1)) (fB (mkV 0x1B#6 a1 a2 a3 0x1))) : Except DecodeError Instr) = _
  simp only [fD_mkV, fA_mkV, fB_mkV]
theorem vaddSatVx : ∀ a1 a2 a3, Statement (.vaddSatVx a1 a2 a3) := by
  intro a1 a2 a3 _ h
  refine (major_1B (mkV 0x1B#6 a1 a2 a3 0x5) (fMajor_mkV ..)).trans ?_
  unfold decodeVint
  rw [fSelV_mkV]
  change (.ok (.vaddSatVx (fD (mkV 0x1B#6 a1 a2 a3 0x5)) (fA (mkV 0x1B#6 a1 a2 a3 0x5)) (fB (mkV 0x1B#6 a1 a2 a3 0x5))) : Except DecodeError Instr) = _
  simp only [fD_mkV, fA_mkV, fB_mkV]
theorem vaddSatVi : ∀ a1 a2 a3, Statement (.vaddSatVi a1 a2 a3) := by
  intro a1 a2 a3 _ h
  refine (major_1B (mkV 0x1B#6 a1 a2 a3 0x9) (fMajor_mkV ..)).trans ?_
  unfold decodeVint
  rw [fSelV_mkV]
  change (.ok (.vaddSatVi (fD (mkV 0x1B#6 a1 a2 a3 0x9)) (fA (mkV 0x1B#6 a1 a2 a3 0x9)) (fB (mkV 0x1B#6 a1 a2 a3 0x9))) : Except DecodeError Instr) = _
  simp only [fD_mkV, fA_mkV, fB_mkV]
theorem vaddUsatVv : ∀ a1 a2 a3, Statement (.vaddUsatVv a1 a2 a3) := by
  intro a1 a2 a3 _ h
  refine (major_1B (mkV 0x1B#6 a1 a2 a3 0x2) (fMajor_mkV ..)).trans ?_
  unfold decodeVint
  rw [fSelV_mkV]
  change (.ok (.vaddUsatVv (fD (mkV 0x1B#6 a1 a2 a3 0x2)) (fA (mkV 0x1B#6 a1 a2 a3 0x2)) (fB (mkV 0x1B#6 a1 a2 a3 0x2))) : Except DecodeError Instr) = _
  simp only [fD_mkV, fA_mkV, fB_mkV]
theorem vaddUsatVx : ∀ a1 a2 a3, Statement (.vaddUsatVx a1 a2 a3) := by
  intro a1 a2 a3 _ h
  refine (major_1B (mkV 0x1B#6 a1 a2 a3 0x6) (fMajor_mkV ..)).trans ?_
  unfold decodeVint
  rw [fSelV_mkV]
  change (.ok (.vaddUsatVx (fD (mkV 0x1B#6 a1 a2 a3 0x6)) (fA (mkV 0x1B#6 a1 a2 a3 0x6)) (fB (mkV 0x1B#6 a1 a2 a3 0x6))) : Except DecodeError Instr) = _
  simp only [fD_mkV, fA_mkV, fB_mkV]
theorem vaddUsatVi : ∀ a1 a2 a3, Statement (.vaddUsatVi a1 a2 a3) := by
  intro a1 a2 a3 _ h
  refine (major_1B (mkV 0x1B#6 a1 a2 a3 0xA) (fMajor_mkV ..)).trans ?_
  unfold decodeVint
  rw [fSelV_mkV]
  change (.ok (.vaddUsatVi (fD (mkV 0x1B#6 a1 a2 a3 0xA)) (fA (mkV 0x1B#6 a1 a2 a3 0xA)) (fB (mkV 0x1B#6 a1 a2 a3 0xA))) : Except DecodeError Instr) = _
  simp only [fD_mkV, fA_mkV, fB_mkV]
theorem vsubVv : ∀ a1 a2 a3, Statement (.vsubVv a1 a2 a3) := by
  intro a1 a2 a3 _ h
  refine (major_1B (mkV 0x1B#6 a1 a2 a3 0x10) (fMajor_mkV ..)).trans ?_
  unfold decodeVint
  rw [fSelV_mkV]
  change (.ok (.vsubVv (fD (mkV 0x1B#6 a1 a2 a3 0x10)) (fA (mkV 0x1B#6 a1 a2 a3 0x10)) (fB (mkV 0x1B#6 a1 a2 a3 0x10))) : Except DecodeError Instr) = _
  simp only [fD_mkV, fA_mkV, fB_mkV]
theorem vsubVx : ∀ a1 a2 a3, Statement (.vsubVx a1 a2 a3) := by
  intro a1 a2 a3 _ h
  refine (major_1B (mkV 0x1B#6 a1 a2 a3 0x14) (fMajor_mkV ..)).trans ?_
  unfold decodeVint
  rw [fSelV_mkV]
  change (.ok (.vsubVx (fD (mkV 0x1B#6 a1 a2 a3 0x14)) (fA (mkV 0x1B#6 a1 a2 a3 0x14)) (fB (mkV 0x1B#6 a1 a2 a3 0x14))) : Except DecodeError Instr) = _
  simp only [fD_mkV, fA_mkV, fB_mkV]
theorem vsubVi : ∀ a1 a2 a3, Statement (.vsubVi a1 a2 a3) := by
  intro a1 a2 a3 _ h
  refine (major_1B (mkV 0x1B#6 a1 a2 a3 0x18) (fMajor_mkV ..)).trans ?_
  unfold decodeVint
  rw [fSelV_mkV]
  change (.ok (.vsubVi (fD (mkV 0x1B#6 a1 a2 a3 0x18)) (fA (mkV 0x1B#6 a1 a2 a3 0x18)) (fB (mkV 0x1B#6 a1 a2 a3 0x18))) : Except DecodeError Instr) = _
  simp only [fD_mkV, fA_mkV, fB_mkV]
theorem vsubSatVv : ∀ a1 a2 a3, Statement (.vsubSatVv a1 a2 a3) := by
  intro a1 a2 a3 _ h
  refine (major_1B (mkV 0x1B#6 a1 a2 a3 0x11) (fMajor_mkV ..)).trans ?_
  unfold decodeVint
  rw [fSelV_mkV]
  change (.ok (.vsubSatVv (fD (mkV 0x1B#6 a1 a2 a3 0x11)) (fA (mkV 0x1B#6 a1 a2 a3 0x11)) (fB (mkV 0x1B#6 a1 a2 a3 0x11))) : Except DecodeError Instr) = _
  simp only [fD_mkV, fA_mkV, fB_mkV]
theorem vsubSatVx : ∀ a1 a2 a3, Statement (.vsubSatVx a1 a2 a3) := by
  intro a1 a2 a3 _ h
  refine (major_1B (mkV 0x1B#6 a1 a2 a3 0x15) (fMajor_mkV ..)).trans ?_
  unfold decodeVint
  rw [fSelV_mkV]
  change (.ok (.vsubSatVx (fD (mkV 0x1B#6 a1 a2 a3 0x15)) (fA (mkV 0x1B#6 a1 a2 a3 0x15)) (fB (mkV 0x1B#6 a1 a2 a3 0x15))) : Except DecodeError Instr) = _
  simp only [fD_mkV, fA_mkV, fB_mkV]
theorem vsubSatVi : ∀ a1 a2 a3, Statement (.vsubSatVi a1 a2 a3) := by
  intro a1 a2 a3 _ h
  refine (major_1B (mkV 0x1B#6 a1 a2 a3 0x19) (fMajor_mkV ..)).trans ?_
  unfold decodeVint
  rw [fSelV_mkV]
  change (.ok (.vsubSatVi (fD (mkV 0x1B#6 a1 a2 a3 0x19)) (fA (mkV 0x1B#6 a1 a2 a3 0x19)) (fB (mkV 0x1B#6 a1 a2 a3 0x19))) : Except DecodeError Instr) = _
  simp only [fD_mkV, fA_mkV, fB_mkV]
theorem vsubUsatVv : ∀ a1 a2 a3, Statement (.vsubUsatVv a1 a2 a3) := by
  intro a1 a2 a3 _ h
  refine (major_1B (mkV 0x1B#6 a1 a2 a3 0x12) (fMajor_mkV ..)).trans ?_
  unfold decodeVint
  rw [fSelV_mkV]
  change (.ok (.vsubUsatVv (fD (mkV 0x1B#6 a1 a2 a3 0x12)) (fA (mkV 0x1B#6 a1 a2 a3 0x12)) (fB (mkV 0x1B#6 a1 a2 a3 0x12))) : Except DecodeError Instr) = _
  simp only [fD_mkV, fA_mkV, fB_mkV]
theorem vsubUsatVx : ∀ a1 a2 a3, Statement (.vsubUsatVx a1 a2 a3) := by
  intro a1 a2 a3 _ h
  refine (major_1B (mkV 0x1B#6 a1 a2 a3 0x16) (fMajor_mkV ..)).trans ?_
  unfold decodeVint
  rw [fSelV_mkV]
  change (.ok (.vsubUsatVx (fD (mkV 0x1B#6 a1 a2 a3 0x16)) (fA (mkV 0x1B#6 a1 a2 a3 0x16)) (fB (mkV 0x1B#6 a1 a2 a3 0x16))) : Except DecodeError Instr) = _
  simp only [fD_mkV, fA_mkV, fB_mkV]
theorem vsubUsatVi : ∀ a1 a2 a3, Statement (.vsubUsatVi a1 a2 a3) := by
  intro a1 a2 a3 _ h
  refine (major_1B (mkV 0x1B#6 a1 a2 a3 0x1A) (fMajor_mkV ..)).trans ?_
  unfold decodeVint
  rw [fSelV_mkV]
  change (.ok (.vsubUsatVi (fD (mkV 0x1B#6 a1 a2 a3 0x1A)) (fA (mkV 0x1B#6 a1 a2 a3 0x1A)) (fB (mkV 0x1B#6 a1 a2 a3 0x1A))) : Except DecodeError Instr) = _
  simp only [fD_mkV, fA_mkV, fB_mkV]
theorem vmulVv : ∀ a1 a2 a3, Statement (.vmulVv a1 a2 a3) := by
  intro a1 a2 a3 _ h
  refine (major_1B (mkV 0x1B#6 a1 a2 a3 0x20) (fMajor_mkV ..)).trans ?_
  unfold decodeVint
  rw [fSelV_mkV]
  change (.ok (.vmulVv (fD (mkV 0x1B#6 a1 a2 a3 0x20)) (fA (mkV 0x1B#6 a1 a2 a3 0x20)) (fB (mkV 0x1B#6 a1 a2 a3 0x20))) : Except DecodeError Instr) = _
  simp only [fD_mkV, fA_mkV, fB_mkV]
theorem vmulVx : ∀ a1 a2 a3, Statement (.vmulVx a1 a2 a3) := by
  intro a1 a2 a3 _ h
  refine (major_1B (mkV 0x1B#6 a1 a2 a3 0x24) (fMajor_mkV ..)).trans ?_
  unfold decodeVint
  rw [fSelV_mkV]
  change (.ok (.vmulVx (fD (mkV 0x1B#6 a1 a2 a3 0x24)) (fA (mkV 0x1B#6 a1 a2 a3 0x24)) (fB (mkV 0x1B#6 a1 a2 a3 0x24))) : Except DecodeError Instr) = _
  simp only [fD_mkV, fA_mkV, fB_mkV]
theorem vmulVi : ∀ a1 a2 a3, Statement (.vmulVi a1 a2 a3) := by
  intro a1 a2 a3 _ h
  refine (major_1B (mkV 0x1B#6 a1 a2 a3 0x28) (fMajor_mkV ..)).trans ?_
  unfold decodeVint
  rw [fSelV_mkV]
  change (.ok (.vmulVi (fD (mkV 0x1B#6 a1 a2 a3 0x28)) (fA (mkV 0x1B#6 a1 a2 a3 0x28)) (fB (mkV 0x1B#6 a1 a2 a3 0x28))) : Except DecodeError Instr) = _
  simp only [fD_mkV, fA_mkV, fB_mkV]
theorem vmulhVv : ∀ a1 a2 a3, Statement (.vmulhVv a1 a2 a3) := by
  intro a1 a2 a3 _ h
  refine (major_1B (mkV 0x1B#6 a1 a2 a3 0x30) (fMajor_mkV ..)).trans ?_
  unfold decodeVint
  rw [fSelV_mkV]
  change (.ok (.vmulhVv (fD (mkV 0x1B#6 a1 a2 a3 0x30)) (fA (mkV 0x1B#6 a1 a2 a3 0x30)) (fB (mkV 0x1B#6 a1 a2 a3 0x30))) : Except DecodeError Instr) = _
  simp only [fD_mkV, fA_mkV, fB_mkV]
theorem vmulhVx : ∀ a1 a2 a3, Statement (.vmulhVx a1 a2 a3) := by
  intro a1 a2 a3 _ h
  refine (major_1B (mkV 0x1B#6 a1 a2 a3 0x34) (fMajor_mkV ..)).trans ?_
  unfold decodeVint
  rw [fSelV_mkV]
  change (.ok (.vmulhVx (fD (mkV 0x1B#6 a1 a2 a3 0x34)) (fA (mkV 0x1B#6 a1 a2 a3 0x34)) (fB (mkV 0x1B#6 a1 a2 a3 0x34))) : Except DecodeError Instr) = _
  simp only [fD_mkV, fA_mkV, fB_mkV]
theorem vmulhVi : ∀ a1 a2 a3, Statement (.vmulhVi a1 a2 a3) := by
  intro a1 a2 a3 _ h
  refine (major_1B (mkV 0x1B#6 a1 a2 a3 0x38) (fMajor_mkV ..)).trans ?_
  unfold decodeVint
  rw [fSelV_mkV]
  change (.ok (.vmulhVi (fD (mkV 0x1B#6 a1 a2 a3 0x38)) (fA (mkV 0x1B#6 a1 a2 a3 0x38)) (fB (mkV 0x1B#6 a1 a2 a3 0x38))) : Except DecodeError Instr) = _
  simp only [fD_mkV, fA_mkV, fB_mkV]
theorem vmulhUVv : ∀ a1 a2 a3, Statement (.vmulhUVv a1 a2 a3) := by
  intro a1 a2 a3 _ h
  refine (major_1B (mkV 0x1B#6 a1 a2 a3 0x31) (fMajor_mkV ..)).trans ?_
  unfold decodeVint
  rw [fSelV_mkV]
  change (.ok (.vmulhUVv (fD (mkV 0x1B#6 a1 a2 a3 0x31)) (fA (mkV 0x1B#6 a1 a2 a3 0x31)) (fB (mkV 0x1B#6 a1 a2 a3 0x31))) : Except DecodeError Instr) = _
  simp only [fD_mkV, fA_mkV, fB_mkV]
theorem vmulhUVx : ∀ a1 a2 a3, Statement (.vmulhUVx a1 a2 a3) := by
  intro a1 a2 a3 _ h
  refine (major_1B (mkV 0x1B#6 a1 a2 a3 0x35) (fMajor_mkV ..)).trans ?_
  unfold decodeVint
  rw [fSelV_mkV]
  change (.ok (.vmulhUVx (fD (mkV 0x1B#6 a1 a2 a3 0x35)) (fA (mkV 0x1B#6 a1 a2 a3 0x35)) (fB (mkV 0x1B#6 a1 a2 a3 0x35))) : Except DecodeError Instr) = _
  simp only [fD_mkV, fA_mkV, fB_mkV]
theorem vmulhUVi : ∀ a1 a2 a3, Statement (.vmulhUVi a1 a2 a3) := by
  intro a1 a2 a3 _ h
  refine (major_1B (mkV 0x1B#6 a1 a2 a3 0x39) (fMajor_mkV ..)).trans ?_
  unfold decodeVint
  rw [fSelV_mkV]
  change (.ok (.vmulhUVi (fD (mkV 0x1B#6 a1 a2 a3 0x39)) (fA (mkV 0x1B#6 a1 a2 a3 0x39)) (fB (mkV 0x1B#6 a1 a2 a3 0x39))) : Except DecodeError Instr) = _
  simp only [fD_mkV, fA_mkV, fB_mkV]
theorem vandVv : ∀ a1 a2 a3, Statement (.vandVv a1 a2 a3) := by
  intro a1 a2 a3 _ h
  refine (major_1B (mkV 0x1B#6 a1 a2 a3 0x40) (fMajor_mkV ..)).trans ?_
  unfold decodeVint
  rw [fSelV_mkV]
  change (.ok (.vandVv (fD (mkV 0x1B#6 a1 a2 a3 0x40)) (fA (mkV 0x1B#6 a1 a2 a3 0x40)) (fB (mkV 0x1B#6 a1 a2 a3 0x40))) : Except DecodeError Instr) = _
  simp only [fD_mkV, fA_mkV, fB_mkV]
theorem vandVx : ∀ a1 a2 a3, Statement (.vandVx a1 a2 a3) := by
  intro a1 a2 a3 _ h
  refine (major_1B (mkV 0x1B#6 a1 a2 a3 0x44) (fMajor_mkV ..)).trans ?_
  unfold decodeVint
  rw [fSelV_mkV]
  change (.ok (.vandVx (fD (mkV 0x1B#6 a1 a2 a3 0x44)) (fA (mkV 0x1B#6 a1 a2 a3 0x44)) (fB (mkV 0x1B#6 a1 a2 a3 0x44))) : Except DecodeError Instr) = _
  simp only [fD_mkV, fA_mkV, fB_mkV]
theorem vandVi : ∀ a1 a2 a3, Statement (.vandVi a1 a2 a3) := by
  intro a1 a2 a3 _ h
  refine (major_1B (mkV 0x1B#6 a1 a2 a3 0x48) (fMajor_mkV ..)).trans ?_
  unfold decodeVint
  rw [fSelV_mkV]
  change (.ok (.vandVi (fD (mkV 0x1B#6 a1 a2 a3 0x48)) (fA (mkV 0x1B#6 a1 a2 a3 0x48)) (fB (mkV 0x1B#6 a1 a2 a3 0x48))) : Except DecodeError Instr) = _
  simp only [fD_mkV, fA_mkV, fB_mkV]
theorem vorVv : ∀ a1 a2 a3, Statement (.vorVv a1 a2 a3) := by
  intro a1 a2 a3 _ h
  refine (major_1B (mkV 0x1B#6 a1 a2 a3 0x50) (fMajor_mkV ..)).trans ?_
  unfold decodeVint
  rw [fSelV_mkV]
  change (.ok (.vorVv (fD (mkV 0x1B#6 a1 a2 a3 0x50)) (fA (mkV 0x1B#6 a1 a2 a3 0x50)) (fB (mkV 0x1B#6 a1 a2 a3 0x50))) : Except DecodeError Instr) = _
  simp only [fD_mkV, fA_mkV, fB_mkV]
theorem vorVx : ∀ a1 a2 a3, Statement (.vorVx a1 a2 a3) := by
  intro a1 a2 a3 _ h
  refine (major_1B (mkV 0x1B#6 a1 a2 a3 0x54) (fMajor_mkV ..)).trans ?_
  unfold decodeVint
  rw [fSelV_mkV]
  change (.ok (.vorVx (fD (mkV 0x1B#6 a1 a2 a3 0x54)) (fA (mkV 0x1B#6 a1 a2 a3 0x54)) (fB (mkV 0x1B#6 a1 a2 a3 0x54))) : Except DecodeError Instr) = _
  simp only [fD_mkV, fA_mkV, fB_mkV]
theorem vorVi : ∀ a1 a2 a3, Statement (.vorVi a1 a2 a3) := by
  intro a1 a2 a3 _ h
  refine (major_1B (mkV 0x1B#6 a1 a2 a3 0x58) (fMajor_mkV ..)).trans ?_
  unfold decodeVint
  rw [fSelV_mkV]
  change (.ok (.vorVi (fD (mkV 0x1B#6 a1 a2 a3 0x58)) (fA (mkV 0x1B#6 a1 a2 a3 0x58)) (fB (mkV 0x1B#6 a1 a2 a3 0x58))) : Except DecodeError Instr) = _
  simp only [fD_mkV, fA_mkV, fB_mkV]
theorem vxorVv : ∀ a1 a2 a3, Statement (.vxorVv a1 a2 a3) := by
  intro a1 a2 a3 _ h
  refine (major_1B (mkV 0x1B#6 a1 a2 a3 0x60) (fMajor_mkV ..)).trans ?_
  unfold decodeVint
  rw [fSelV_mkV]
  change (.ok (.vxorVv (fD (mkV 0x1B#6 a1 a2 a3 0x60)) (fA (mkV 0x1B#6 a1 a2 a3 0x60)) (fB (mkV 0x1B#6 a1 a2 a3 0x60))) : Except DecodeError Instr) = _
  simp only [fD_mkV, fA_mkV, fB_mkV]
theorem vxorVx : ∀ a1 a2 a3, Statement (.vxorVx a1 a2 a3) := by
  intro a1 a2 a3 _ h
  refine (major_1B (mkV 0x1B#6 a1 a2 a3 0x64) (fMajor_mkV ..)).trans ?_
  unfold decodeVint
  rw [fSelV_mkV]
  change (.ok (.vxorVx (fD (mkV 0x1B#6 a1 a2 a3 0x64)) (fA (mkV 0x1B#6 a1 a2 a3 0x64)) (fB (mkV 0x1B#6 a1 a2 a3 0x64))) : Except DecodeError Instr) = _
  simp only [fD_mkV, fA_mkV, fB_mkV]
theorem vxorVi : ∀ a1 a2 a3, Statement (.vxorVi a1 a2 a3) := by
  intro a1 a2 a3 _ h
  refine (major_1B (mkV 0x1B#6 a1 a2 a3 0x68) (fMajor_mkV ..)).trans ?_
  unfold decodeVint
  rw [fSelV_mkV]
  change (.ok (.vxorVi (fD (mkV 0x1B#6 a1 a2 a3 0x68)) (fA (mkV 0x1B#6 a1 a2 a3 0x68)) (fB (mkV 0x1B#6 a1 a2 a3 0x68))) : Except DecodeError Instr) = _
  simp only [fD_mkV, fA_mkV, fB_mkV]
theorem vsllVv : ∀ a1 a2 a3, Statement (.vsllVv a1 a2 a3) := by
  intro a1 a2 a3 _ h
  refine (major_1B (mkV 0x1B#6 a1 a2 a3 0x70) (fMajor_mkV ..)).trans ?_
  unfold decodeVint
  rw [fSelV_mkV]
  change (.ok (.vsllVv (fD (mkV 0x1B#6 a1 a2 a3 0x70)) (fA (mkV 0x1B#6 a1 a2 a3 0x70)) (fB (mkV 0x1B#6 a1 a2 a3 0x70))) : Except DecodeError Instr) = _
  simp only [fD_mkV, fA_mkV, fB_mkV]
theorem vsllVx : ∀ a1 a2 a3, Statement (.vsllVx a1 a2 a3) := by
  intro a1 a2 a3 _ h
  refine (major_1B (mkV 0x1B#6 a1 a2 a3 0x74) (fMajor_mkV ..)).trans ?_
  unfold decodeVint
  rw [fSelV_mkV]
  change (.ok (.vsllVx (fD (mkV 0x1B#6 a1 a2 a3 0x74)) (fA (mkV 0x1B#6 a1 a2 a3 0x74)) (fB (mkV 0x1B#6 a1 a2 a3 0x74))) : Except DecodeError Instr) = _
  simp only [fD_mkV, fA_mkV, fB_mkV]
theorem vsllVi : ∀ a1 a2 a3, Statement (.vsllVi a1 a2 a3) := by
  intro a1 a2 a3 _ h
  refine (major_1B (mkV 0x1B#6 a1 a2 a3 0x78) (fMajor_mkV ..)).trans ?_
  unfold decodeVint
  rw [fSelV_mkV]
  change (.ok (.vsllVi (fD (mkV 0x1B#6 a1 a2 a3 0x78)) (fA (mkV 0x1B#6 a1 a2 a3 0x78)) (fB (mkV 0x1B#6 a1 a2 a3 0x78))) : Except DecodeError Instr) = _
  simp only [fD_mkV, fA_mkV, fB_mkV]
theorem vsrlVv : ∀ a1 a2 a3, Statement (.vsrlVv a1 a2 a3) := by
  intro a1 a2 a3 _ h
  refine (major_1B (mkV 0x1B#6 a1 a2 a3 0x80) (fMajor_mkV ..)).trans ?_
  unfold decodeVint
  rw [fSelV_mkV]
  change (.ok (.vsrlVv (fD (mkV 0x1B#6 a1 a2 a3 0x80)) (fA (mkV 0x1B#6 a1 a2 a3 0x80)) (fB (mkV 0x1B#6 a1 a2 a3 0x80))) : Except DecodeError Instr) = _
  simp only [fD_mkV, fA_mkV, fB_mkV]
theorem vsrlVx : ∀ a1 a2 a3, Statement (.vsrlVx a1 a2 a3) := by
  intro a1 a2 a3 _ h
  refine (major_1B (mkV 0x1B#6 a1 a2 a3 0x84) (fMajor_mkV ..)).trans ?_
  unfold decodeVint
  rw [fSelV_mkV]
  change (.ok (.vsrlVx (fD (mkV 0x1B#6 a1 a2 a3 0x84)) (fA (mkV 0x1B#6 a1 a2 a3 0x84)) (fB (mkV 0x1B#6 a1 a2 a3 0x84))) : Except DecodeError Instr) = _
  simp only [fD_mkV, fA_mkV, fB_mkV]
theorem vsrlVi : ∀ a1 a2 a3, Statement (.vsrlVi a1 a2 a3) := by
  intro a1 a2 a3 _ h
  refine (major_1B (mkV 0x1B#6 a1 a2 a3 0x88) (fMajor_mkV ..)).trans ?_
  unfold decodeVint
  rw [fSelV_mkV]
  change (.ok (.vsrlVi (fD (mkV 0x1B#6 a1 a2 a3 0x88)) (fA (mkV 0x1B#6 a1 a2 a3 0x88)) (fB (mkV 0x1B#6 a1 a2 a3 0x88))) : Except DecodeError Instr) = _
  simp only [fD_mkV, fA_mkV, fB_mkV]
theorem vsraVv : ∀ a1 a2 a3, Statement (.vsraVv a1 a2 a3) := by
  intro a1 a2 a3 _ h
  refine (major_1B (mkV 0x1B#6 a1 a2 a3 0x90) (fMajor_mkV ..)).trans ?_
  unfold decodeVint
  rw [fSelV_mkV]
  change (.ok (.vsraVv (fD (mkV 0x1B#6 a1 a2 a3 0x90)) (fA (mkV 0x1B#6 a1 a2 a3 0x90)) (fB (mkV 0x1B#6 a1 a2 a3 0x90))) : Except DecodeError Instr) = _
  simp only [fD_mkV, fA_mkV, fB_mkV]
theorem vsraVx : ∀ a1 a2 a3, Statement (.vsraVx a1 a2 a3) := by
  intro a1 a2 a3 _ h
  refine (major_1B (mkV 0x1B#6 a1 a2 a3 0x94) (fMajor_mkV ..)).trans ?_
  unfold decodeVint
  rw [fSelV_mkV]
  change (.ok (.vsraVx (fD (mkV 0x1B#6 a1 a2 a3 0x94)) (fA (mkV 0x1B#6 a1 a2 a3 0x94)) (fB (mkV 0x1B#6 a1 a2 a3 0x94))) : Except DecodeError Instr) = _
  simp only [fD_mkV, fA_mkV, fB_mkV]
theorem vsraVi : ∀ a1 a2 a3, Statement (.vsraVi a1 a2 a3) := by
  intro a1 a2 a3 _ h
  refine (major_1B (mkV 0x1B#6 a1 a2 a3 0x98) (fMajor_mkV ..)).trans ?_
  unfold decodeVint
  rw [fSelV_mkV]
  change (.ok (.vsraVi (fD (mkV 0x1B#6 a1 a2 a3 0x98)) (fA (mkV 0x1B#6 a1 a2 a3 0x98)) (fB (mkV 0x1B#6 a1 a2 a3 0x98))) : Except DecodeError Instr) = _
  simp only [fD_mkV, fA_mkV, fB_mkV]
theorem vminVv : ∀ a1 a2 a3, Statement (.vminVv a1 a2 a3) := by
  intro a1 a2 a3 _ h
  refine (major_1B (mkV 0x1B#6 a1 a2 a3 0xA0) (fMajor_mkV ..)).trans ?_
  unfold decodeVint
  rw [fSelV_mkV]
  change (.ok (.vminVv (fD (mkV 0x1B#6 a1 a2 a3 0xA0)) (fA (mkV 0x1B#6 a1 a2 a3 0xA0)) (fB (mkV 0x1B#6 a1 a2 a3 0xA0))) : Except DecodeError Instr) = _
  simp only [fD_mkV, fA_mkV, fB_mkV]
theorem vminVx : ∀ a1 a2 a3, Statement (.vminVx a1 a2 a3) := by
  intro a1 a2 a3 _ h
  refine (major_1B (mkV 0x1B#6 a1 a2 a3 0xA4) (fMajor_mkV ..)).trans ?_
  unfold decodeVint
  rw [fSelV_mkV]
  change (.ok (.vminVx (fD (mkV 0x1B#6 a1 a2 a3 0xA4)) (fA (mkV 0x1B#6 a1 a2 a3 0xA4)) (fB (mkV 0x1B#6 a1 a2 a3 0xA4))) : Except DecodeError Instr) = _
  simp only [fD_mkV, fA_mkV, fB_mkV]
theorem vminVi : ∀ a1 a2 a3, Statement (.vminVi a1 a2 a3) := by
  intro a1 a2 a3 _ h
  refine (major_1B (mkV 0x1B#6 a1 a2 a3 0xA8) (fMajor_mkV ..)).trans ?_
  unfold decodeVint
  rw [fSelV_mkV]
  change (.ok (.vminVi (fD (mkV 0x1B#6 a1 a2 a3 0xA8)) (fA (mkV 0x1B#6 a1 a2 a3 0xA8)) (fB (mkV 0x1B#6 a1 a2 a3 0xA8))) : Except DecodeError Instr) = _
  simp only [fD_mkV, fA_mkV, fB_mkV]
theorem vmaxVv : ∀ a1 a2 a3, Statement (.vmaxVv a1 a2 a3) := by
  intro a1 a2 a3 _ h
  refine (major_1B (mkV 0x1B#6 a1 a2 a3 0xB0) (fMajor_mkV ..)).trans ?_
  unfold decodeVint
  rw [fSelV_mkV]
  change (.ok (.vmaxVv (fD (mkV 0x1B#6 a1 a2 a3 0xB0)) (fA (mkV 0x1B#6 a1 a2 a3 0xB0)) (fB (mkV 0x1B#6 a1 a2 a3 0xB0))) : Except DecodeError Instr) = _
  simp only [fD_mkV, fA_mkV, fB_mkV]
theorem vmaxVx : ∀ a1 a2 a3, Statement (.vmaxVx a1 a2 a3) := by
  intro a1 a2 a3 _ h
  refine (major_1B (mkV 0x1B#6 a1 a2 a3 0xB4) (fMajor_mkV ..)).trans ?_
  unfold decodeVint
  rw [fSelV_mkV]
  change (.ok (.vmaxVx (fD (mkV 0x1B#6 a1 a2 a3 0xB4)) (fA (mkV 0x1B#6 a1 a2 a3 0xB4)) (fB (mkV 0x1B#6 a1 a2 a3 0xB4))) : Except DecodeError Instr) = _
  simp only [fD_mkV, fA_mkV, fB_mkV]
theorem vmaxVi : ∀ a1 a2 a3, Statement (.vmaxVi a1 a2 a3) := by
  intro a1 a2 a3 _ h
  refine (major_1B (mkV 0x1B#6 a1 a2 a3 0xB8) (fMajor_mkV ..)).trans ?_
  unfold decodeVint
  rw [fSelV_mkV]
  change (.ok (.vmaxVi (fD (mkV 0x1B#6 a1 a2 a3 0xB8)) (fA (mkV 0x1B#6 a1 a2 a3 0xB8)) (fB (mkV 0x1B#6 a1 a2 a3 0xB8))) : Except DecodeError Instr) = _
  simp only [fD_mkV, fA_mkV, fB_mkV]
theorem vminuVv : ∀ a1 a2 a3, Statement (.vminuVv a1 a2 a3) := by
  intro a1 a2 a3 _ h
  refine (major_1B (mkV 0x1B#6 a1 a2 a3 0xC0) (fMajor_mkV ..)).trans ?_
  unfold decodeVint
  rw [fSelV_mkV]
  change (.ok (.vminuVv (fD (mkV 0x1B#6 a1 a2 a3 0xC0)) (fA (mkV 0x1B#6 a1 a2 a3 0xC0)) (fB (mkV 0x1B#6 a1 a2 a3 0xC0))) : Except DecodeError Instr) = _
  simp only [fD_mkV, fA_mkV, fB_mkV]
theorem vminuVx : ∀ a1 a2 a3, Statement (.vminuVx a1 a2 a3) := by
  intro a1 a2 a3 _ h
  refine (major_1B (mkV 0x1B#6 a1 a2 a3 0xC4) (fMajor_mkV ..)).trans ?_
  unfold decodeVint
  rw [fSelV_mkV]
  change (.ok (.vminuVx (fD (mkV 0x1B#6 a1 a2 a3 0xC4)) (fA (mkV 0x1B#6 a1 a2 a3 0xC4)) (fB (mkV 0x1B#6 a1 a2 a3 0xC4))) : Except DecodeError Instr) = _
  simp only [fD_mkV, fA_mkV, fB_mkV]
theorem vminuVi : ∀ a1 a2 a3, Statement (.vminuVi a1 a2 a3) := by
  intro a1 a2 a3 _ h
  refine (major_1B (mkV 0x1B#6 a1 a2 a3 0xC8) (fMajor_mkV ..)).trans ?_
  unfold decodeVint
  rw [fSelV_mkV]
  change (.ok (.vminuVi (fD (mkV 0x1B#6 a1 a2 a3 0xC8)) (fA (mkV 0x1B#6 a1 a2 a3 0xC8)) (fB (mkV 0x1B#6 a1 a2 a3 0xC8))) : Except DecodeError Instr) = _
  simp only [fD_mkV, fA_mkV, fB_mkV]
theorem vmaxuVv : ∀ a1 a2 a3, Statement (.vmaxuVv a1 a2 a3) := by
  intro a1 a2 a3 _ h
  refine (major_1B (mkV 0x1B#6 a1 a2 a3 0xD0) (fMajor_mkV ..)).trans ?_
  unfold decodeVint
  rw [fSelV_mkV]
  change (.ok (.vmaxuVv (fD (mkV 0x1B#6 a1 a2 a3 0xD0)) (fA (mkV 0x1B#6 a1 a2 a3 0xD0)) (fB (mkV 0x1B#6 a1 a2 a3 0xD0))) : Except DecodeError Instr) = _
  simp only [fD_mkV, fA_mkV, fB_mkV]
theorem vmaxuVx : ∀ a1 a2 a3, Statement (.vmaxuVx a1 a2 a3) := by
  intro a1 a2 a3 _ h
  refine (major_1B (mkV 0x1B#6 a1 a2 a3 0xD4) (fMajor_mkV ..)).trans ?_
  unfold decodeVint
  rw [fSelV_mkV]
  change (.ok (.vmaxuVx (fD (mkV 0x1B#6 a1 a2 a3 0xD4)) (fA (mkV 0x1B#6 a1 a2 a3 0xD4)) (fB (mkV 0x1B#6 a1 a2 a3 0xD4))) : Except DecodeError Instr) = _
  simp only [fD_mkV, fA_mkV, fB_mkV]
theorem vmaxuVi : ∀ a1 a2 a3, Statement (.vmaxuVi a1 a2 a3) := by
  intro a1 a2 a3 _ h
  refine (major_1B (mkV 0x1B#6 a1 a2 a3 0xD8) (fMajor_mkV ..)).trans ?_
  unfold decodeVint
  rw [fSelV_mkV]
  change (.ok (.vmaxuVi (fD (mkV 0x1B#6 a1 a2 a3 0xD8)) (fA (mkV 0x1B#6 a1 a2 a3 0xD8)) (fB (mkV 0x1B#6 a1 a2 a3 0xD8))) : Except DecodeError Instr) = _
  simp only [fD_mkV, fA_mkV, fB_mkV]
theorem veqVv : ∀ a1 a2 a3, Statement (.veqVv a1 a2 a3) := by
  intro a1 a2 a3 _ h
  refine (major_1B (mkV 0x1B#6 a1 a2 a3 0x100) (fMajor_mkV ..)).trans ?_
  unfold decodeVint
  rw [fSelV_mkV]
  change (.ok (.veqVv (fD (mkV 0x1B#6 a1 a2 a3 0x100)) (fA (mkV 0x1B#6 a1 a2 a3 0x100)) (fB (mkV 0x1B#6 a1 a2 a3 0x100))) : Except DecodeError Instr) = _
  simp only [fD_mkV, fA_mkV, fB_mkV]
theorem veqVx : ∀ a1 a2 a3, Statement (.veqVx a1 a2 a3) := by
  intro a1 a2 a3 _ h
  refine (major_1B (mkV 0x1B#6 a1 a2 a3 0x104) (fMajor_mkV ..)).trans ?_
  unfold decodeVint
  rw [fSelV_mkV]
  change (.ok (.veqVx (fD (mkV 0x1B#6 a1 a2 a3 0x104)) (fA (mkV 0x1B#6 a1 a2 a3 0x104)) (fB (mkV 0x1B#6 a1 a2 a3 0x104))) : Except DecodeError Instr) = _
  simp only [fD_mkV, fA_mkV, fB_mkV]
theorem veqVi : ∀ a1 a2 a3, Statement (.veqVi a1 a2 a3) := by
  intro a1 a2 a3 _ h
  refine (major_1B (mkV 0x1B#6 a1 a2 a3 0x108) (fMajor_mkV ..)).trans ?_
  unfold decodeVint
  rw [fSelV_mkV]
  change (.ok (.veqVi (fD (mkV 0x1B#6 a1 a2 a3 0x108)) (fA (mkV 0x1B#6 a1 a2 a3 0x108)) (fB (mkV 0x1B#6 a1 a2 a3 0x108))) : Except DecodeError Instr) = _
  simp only [fD_mkV, fA_mkV, fB_mkV]
theorem vneVv : ∀ a1 a2 a3, Statement (.vneVv a1 a2 a3) := by
  intro a1 a2 a3 _ h
  refine (major_1B (mkV 0x1B#6 a1 a2 a3 0x110) (fMajor_mkV ..)).trans ?_
  unfold decodeVint
  rw [fSelV_mkV]
  change (.ok (.vneVv (fD (mkV 0x1B#6 a1 a2 a3 0x110)) (fA (mkV 0x1B#6 a1 a2 a3 0x110)) (fB (mkV 0x1B#6 a1 a2 a3 0x110))) : Except DecodeError Instr) = _
  simp only [fD_mkV, fA_mkV, fB_mkV]
theorem vneVx : ∀ a1 a2 a3, Statement (.vneVx a1 a2 a3) := by
  intro a1 a2 a3 _ h
  refine (major_1B (mkV 0x1B#6 a1 a2 a3 0x114) (fMajor_mkV ..)).trans ?_
  unfold decodeVint
  rw [fSelV_mkV]
  change (.ok (.vneVx (fD (mkV 0x1B#6 a1 a2 a3 0x114)) (fA (mkV 0x1B#6 a1 a2 a3 0x114)) (fB (mkV 0x1B#6 a1 a2 a3 0x114))) : Except DecodeError Instr) = _
  simp only [fD_mkV, fA_mkV, fB_mkV]
theorem vneVi : ∀ a1 a2 a3, Statement (.vneVi a1 a2 a3) := by
  intro a1 a2 a3 _ h
  refine (major_1B (mkV 0x1B#6 a1 a2 a3 0x118) (fMajor_mkV ..)).trans ?_
  unfold decodeVint
  rw [fSelV_mkV]
  change (.ok (.vneVi (fD (mkV 0x1B#6 a1 a2 a3 0x118)) (fA (mkV 0x1B#6 a1 a2 a3 0x118)) (fB (mkV 0x1B#6 a1 a2 a3 0x118))) : Except DecodeError Instr) = _
  simp only [fD_mkV, fA_mkV, fB_mkV]
theorem vltVv : ∀ a1 a2 a3, Statement (.vltVv a1 a2 a3) := by
  intro a1 a2 a3 _ h
  refine (major_1B (mkV 0x1B#6 a1 a2 a3 0x120) (fMajor_mkV ..)).trans ?_
  unfold decodeVint
  rw [fSelV_mkV]
  change (.ok (.vltVv (fD (mkV 0x1B#6 a1 a2 a3 0x120)) (fA (mkV 0x1B#6 a1 a2 a3 0x120)) (fB (mkV 0x1B#6 a1 a2 a3 0x120))) : Except DecodeError Instr) = _
  simp only [fD_mkV, fA_mkV, fB_mkV]
theorem vltVx : ∀ a1 a2 a3, Statement (.vltVx a1 a2 a3) := by
  intro a1 a2 a3 _ h
  refine (major_1B (mkV 0x1B#6 a1 a2 a3 0x124) (fMajor_mkV ..)).trans ?_
  unfold decodeVint
  rw [fSelV_mkV]
  change (.ok (.vltVx (fD (mkV 0x1B#6 a1 a2 a3 0x124)) (fA (mkV 0x1B#6 a1 a2 a3 0x124)) (fB (mkV 0x1B#6 a1 a2 a3 0x124))) : Except DecodeError Instr) = _
  simp only [fD_mkV, fA_mkV, fB_mkV]
theorem vltVi : ∀ a1 a2 a3, Statement (.vltVi a1 a2 a3) := by
  intro a1 a2 a3 _ h
  refine (major_1B (mkV 0x1B#6 a1 a2 a3 0x128) (fMajor_mkV ..)).trans ?_
  unfold decodeVint
  rw [fSelV_mkV]
  change (.ok (.vltVi (fD (mkV 0x1B#6 a1 a2 a3 0x128)) (fA (mkV 0x1B#6 a1 a2 a3 0x128)) (fB (mkV 0x1B#6 a1 a2 a3 0x128))) : Except DecodeError Instr) = _
  simp only [fD_mkV, fA_mkV, fB_mkV]
theorem vltuVv : ∀ a1 a2 a3, Statement (.vltuVv a1 a2 a3) := by
  intro a1 a2 a3 _ h
  refine (major_1B (mkV 0x1B#6 a1 a2 a3 0x130) (fMajor_mkV ..)).trans ?_
  unfold decodeVint
  rw [fSelV_mkV]
  change (.ok (.vltuVv (fD (mkV 0x1B#6 a1 a2 a3 0x130)) (fA (mkV 0x1B#6 a1 a2 a3 0x130)) (fB (mkV 0x1B#6 a1 a2 a3 0x130))) : Except DecodeError Instr) = _
  simp only [fD_mkV, fA_mkV, fB_mkV]
theorem vltuVx : ∀ a1 a2 a3, Statement (.vltuVx a1 a2 a3) := by
  intro a1 a2 a3 _ h
  refine (major_1B (mkV 0x1B#6 a1 a2 a3 0x134) (fMajor_mkV ..)).trans ?_
  unfold decodeVint
  rw [fSelV_mkV]
  change (.ok (.vltuVx (fD (mkV 0x1B#6 a1 a2 a3 0x134)) (fA (mkV 0x1B#6 a1 a2 a3 0x134)) (fB (mkV 0x1B#6 a1 a2 a3 0x134))) : Except DecodeError Instr) = _
  simp only [fD_mkV, fA_mkV, fB_mkV]
theorem vltuVi : ∀ a1 a2 a3, Statement (.vltuVi a1 a2 a3) := by
  intro a1 a2 a3 _ h
  refine (major_1B (mkV 0x1B#6 a1 a2 a3 0x138) (fMajor_mkV ..)).trans ?_
  unfold decodeVint
  rw [fSelV_mkV]
  change (.ok (.vltuVi (fD (mkV 0x1B#6 a1 a2 a3 0x138)) (fA (mkV 0x1B#6 a1 a2 a3 0x138)) (fB (mkV 0x1B#6 a1 a2 a3 0x138))) : Except DecodeError Instr) = _
  simp only [fD_mkV, fA_mkV, fB_mkV]
theorem vleVv : ∀ a1 a2 a3, Statement (.vleVv a1 a2 a3) := by
  intro a1 a2 a3 _ h
  refine (major_1B (mkV 0x1B#6 a1 a2 a3 0x140) (fMajor_mkV ..)).trans ?_
  unfold decodeVint
  rw [fSelV_mkV]
  change (.ok (.vleVv (fD (mkV 0x1B#6 a1 a2 a3 0x140)) (fA (mkV 0x1B#6 a1 a2 a3 0x140)) (fB (mkV 0x1B#6 a1 a2 a3 0x140))) : Except DecodeError Instr) = _
  simp only [fD_mkV, fA_mkV, fB_mkV]
theorem vleVx : ∀ a1 a2 a3, Statement (.vleVx a1 a2 a3) := by
  intro a1 a2 a3 _ h
  refine (major_1B (mkV 0x1B#6 a1 a2 a3 0x144) (fMajor_mkV ..)).trans ?_
  unfold decodeVint
  rw [fSelV_mkV]
  change (.ok (.vleVx (fD (mkV 0x1B#6 a1 a2 a3 0x144)) (fA (mkV 0x1B#6 a1 a2 a3 0x144)) (fB (mkV 0x1B#6 a1 a2 a3 0x144))) : Except DecodeError Instr) = _
  simp only [fD_mkV, fA_mkV, fB_mkV]
theorem vleVi : ∀ a1 a2 a3, Statement (.vleVi a1 a2 a3) := by
  intro a1 a2 a3 _ h
  refine (major_1B (mkV 0x1B#6 a1 a2 a3 0x148) (fMajor_mkV ..)).trans ?_
  unfold decodeVint
  rw [fSelV_mkV]
  change (.ok (.vleVi (fD (mkV 0x1B#6 a1 a2 a3 0x148)) (fA (mkV 0x1B#6 a1 a2 a3 0x148)) (fB (mkV 0x1B#6 a1 a2 a3 0x148))) : Except DecodeError Instr) = _
  simp only [fD_mkV, fA_mkV, fB_mkV]
theorem vid : ∀ a1, Statement (.vid a1) := by
  intro a1 _ h
  refine (major_1B (mkV 0x1B#6 a1 0 0 0x180) (fMajor_mkV ..)).trans ?_
  unfold decodeVint
  rw [fSelV_mkV]
  change (keepIf (fA (mkV 0x1B#6 a1 0 0 0x180) == 0 && fB (mkV 0x1B#6 a1 0 0 0x180) == 0) .nonzeroField (.vid (fD (mkV 0x1B#6 a1 0 0 0x180))) : Except DecodeError Instr) = _
  simp only [fD_mkV, fA_mkV, fB_mkV]
  rfl
theorem vbcastVv : ∀ a1 a2, Statement (.vbcastVv a1 a2) := by
  intro a1 a2 _ h
  refine (major_1B (mkV 0x1B#6 a1 0 a2 0x190) (fMajor_mkV ..)).trans ?_
  unfold decodeVint
  rw [fSelV_mkV]
  change (keepIf (fA (mkV 0x1B#6 a1 0 a2 0x190) == 0) .nonzeroField (.vbcastVv (fD (mkV 0x1B#6 a1 0 a2 0x190)) (fB (mkV 0x1B#6 a1 0 a2 0x190))) : Except DecodeError Instr) = _
  simp only [fD_mkV, fA_mkV, fB_mkV]
  rfl
theorem vbcastVx : ∀ a1 a2, Statement (.vbcastVx a1 a2) := by
  intro a1 a2 _ h
  refine (major_1B (mkV 0x1B#6 a1 0 a2 0x194) (fMajor_mkV ..)).trans ?_
  unfold decodeVint
  rw [fSelV_mkV]
  change (keepIf (fA (mkV 0x1B#6 a1 0 a2 0x194) == 0) .nonzeroField (.vbcastVx (fD (mkV 0x1B#6 a1 0 a2 0x194)) (fB (mkV 0x1B#6 a1 0 a2 0x194))) : Except DecodeError Instr) = _
  simp only [fD_mkV, fA_mkV, fB_mkV]
  rfl
theorem vbcastVi : ∀ a1 a2, Statement (.vbcastVi a1 a2) := by
  intro a1 a2 _ h
  refine (major_1B (mkV 0x1B#6 a1 0 a2 0x198) (fMajor_mkV ..)).trans ?_
  unfold decodeVint
  rw [fSelV_mkV]
  change (keepIf (fA (mkV 0x1B#6 a1 0 a2 0x198) == 0) .nonzeroField (.vbcastVi (fD (mkV 0x1B#6 a1 0 a2 0x198)) (fB (mkV 0x1B#6 a1 0 a2 0x198))) : Except DecodeError Instr) = _
  simp only [fD_mkV, fA_mkV, fB_mkV]
  rfl
theorem vmergeVv : ∀ a1 a2 a3, Statement (.vmergeVv a1 a2 a3) := by
  intro a1 a2 a3 _ h
  refine (major_1B (mkV 0x1B#6 a1 a2 a3 0x1A0) (fMajor_mkV ..)).trans ?_
  unfold decodeVint
  rw [fSelV_mkV]
  change (.ok (.vmergeVv (fD (mkV 0x1B#6 a1 a2 a3 0x1A0)) (fA (mkV 0x1B#6 a1 a2 a3 0x1A0)) (fB (mkV 0x1B#6 a1 a2 a3 0x1A0))) : Except DecodeError Instr) = _
  simp only [fD_mkV, fA_mkV, fB_mkV]
theorem vmergeVx : ∀ a1 a2 a3, Statement (.vmergeVx a1 a2 a3) := by
  intro a1 a2 a3 _ h
  refine (major_1B (mkV 0x1B#6 a1 a2 a3 0x1A4) (fMajor_mkV ..)).trans ?_
  unfold decodeVint
  rw [fSelV_mkV]
  change (.ok (.vmergeVx (fD (mkV 0x1B#6 a1 a2 a3 0x1A4)) (fA (mkV 0x1B#6 a1 a2 a3 0x1A4)) (fB (mkV 0x1B#6 a1 a2 a3 0x1A4))) : Except DecodeError Instr) = _
  simp only [fD_mkV, fA_mkV, fB_mkV]
theorem vmergeVi : ∀ a1 a2 a3, Statement (.vmergeVi a1 a2 a3) := by
  intro a1 a2 a3 _ h
  refine (major_1B (mkV 0x1B#6 a1 a2 a3 0x1A8) (fMajor_mkV ..)).trans ?_
  unfold decodeVint
  rw [fSelV_mkV]
  change (.ok (.vmergeVi (fD (mkV 0x1B#6 a1 a2 a3 0x1A8)) (fA (mkV 0x1B#6 a1 a2 a3 0x1A8)) (fB (mkV 0x1B#6 a1 a2 a3 0x1A8))) : Except DecodeError Instr) = _
  simp only [fD_mkV, fA_mkV, fB_mkV]
theorem vslideup : ∀ a1 a2 a3 a4, Statement (.vslideup a1 a2 a3 a4) := by
  intro a1 a2 a3 a4 _ h
  refine (major_1C (mkQ 0x1C#6 a1 a2 a3 a4 0) (fMajor_mkQ ..)).trans ?_
  unfold decodeVperm
  rw [fMinorQ_mkQ]
  change (.ok (.vslideup (fD (mkQ 0x1C#6 a1 a2 a3 a4 0)) (fA (mkQ 0x1C#6 a1 a2 a3 a4 0)) (fB (mkQ 0x1C#6 a1 a2 a3 a4 0)) (fC (mkQ 0x1C#6 a1 a2 a3 a4 0))) : Except DecodeError Instr) = _
  simp only [fD_mkQ, fA_mkQ, fB_mkQ, fC_mkQ]
theorem vslidedn : ∀ a1 a2 a3 a4, Statement (.vslidedn a1 a2 a3 a4) := by
  intro a1 a2 a3 a4 _ h
  refine (major_1C (mkQ 0x1C#6 a1 a2 a3 a4 1) (fMajor_mkQ ..)).trans ?_
  unfold decodeVperm
  rw [fMinorQ_mkQ]
  change (.ok (.vslidedn (fD (mkQ 0x1C#6 a1 a2 a3 a4 1)) (fA (mkQ 0x1C#6 a1 a2 a3 a4 1)) (fB (mkQ 0x1C#6 a1 a2 a3 a4 1)) (fC (mkQ 0x1C#6 a1 a2 a3 a4 1))) : Except DecodeError Instr) = _
  simp only [fD_mkQ, fA_mkQ, fB_mkQ, fC_mkQ]
theorem vgather : ∀ a1 a2 a3 a4, Statement (.vgather a1 a2 a3 a4) := by
  intro a1 a2 a3 a4 _ h
  refine (major_1C (mkQ 0x1C#6 a1 a2 a3 a4 2) (fMajor_mkQ ..)).trans ?_
  unfold decodeVperm
  rw [fMinorQ_mkQ]
  change (.ok (.vgather (fD (mkQ 0x1C#6 a1 a2 a3 a4 2)) (fA (mkQ 0x1C#6 a1 a2 a3 a4 2)) (fB (mkQ 0x1C#6 a1 a2 a3 a4 2)) (fC (mkQ 0x1C#6 a1 a2 a3 a4 2))) : Except DecodeError Instr) = _
  simp only [fD_mkQ, fA_mkQ, fB_mkQ, fC_mkQ]
theorem vcompress : ∀ a1 a2, Statement (.vcompress a1 a2) := by
  intro a1 a2 _ h
  refine (major_1C (mkQ 0x1C#6 a1 a2 0 0 3) (fMajor_mkQ ..)).trans ?_
  unfold decodeVperm
  rw [fMinorQ_mkQ]
  change (keepIf (fB (mkQ 0x1C#6 a1 a2 0 0 3) == 0 && fC (mkQ 0x1C#6 a1 a2 0 0 3) == 0) .nonzeroField (.vcompress (fD (mkQ 0x1C#6 a1 a2 0 0 3)) (fA (mkQ 0x1C#6 a1 a2 0 0 3))) : Except DecodeError Instr) = _
  simp only [fD_mkQ, fA_mkQ, fB_mkQ, fC_mkQ]
  rfl
theorem vmvxs : ∀ a1 a2 a3, Statement (.vmvxs a1 a2 a3) := by
  intro a1 a2 a3 _ h
  refine (major_1C (mkQ 0x1C#6 a1 a2 a3 0 4) (fMajor_mkQ ..)).trans ?_
  unfold decodeVperm
  rw [fMinorQ_mkQ]
  change (keepIf (fC (mkQ 0x1C#6 a1 a2 a3 0 4) == 0) .nonzeroField (.vmvxs (fD (mkQ 0x1C#6 a1 a2 a3 0 4)) (fA (mkQ 0x1C#6 a1 a2 a3 0 4)) (fB (mkQ 0x1C#6 a1 a2 a3 0 4))) : Except DecodeError Instr) = _
  simp only [fD_mkQ, fA_mkQ, fB_mkQ, fC_mkQ]
  rfl
theorem vmvsx : ∀ a1 a2 a3, Statement (.vmvsx a1 a2 a3) := by
  intro a1 a2 a3 _ h
  refine (major_1C (mkQ 0x1C#6 a1 a2 a3 0 5) (fMajor_mkQ ..)).trans ?_
  unfold decodeVperm
  rw [fMinorQ_mkQ]
  change (keepIf (fC (mkQ 0x1C#6 a1 a2 a3 0 5) == 0) .nonzeroField (.vmvsx (fD (mkQ 0x1C#6 a1 a2 a3 0 5)) (fA (mkQ 0x1C#6 a1 a2 a3 0 5)) (fB (mkQ 0x1C#6 a1 a2 a3 0 5))) : Except DecodeError Instr) = _
  simp only [fD_mkQ, fA_mkQ, fB_mkQ, fC_mkQ]
  rfl
theorem vmand : ∀ a1 a2 a3, Statement (.vmand a1 a2 a3) := by
  intro a1 a2 a3 _ h
  refine (major_1D (mkV 0x1D#6 a1 a2 a3 0x0) (fMajor_mkV ..)).trans ?_
  unfold decodeVmask
  rw [fSelV_mkV]
  change (.ok (.vmand (fD (mkV 0x1D#6 a1 a2 a3 0x0)) (fA (mkV 0x1D#6 a1 a2 a3 0x0)) (fB (mkV 0x1D#6 a1 a2 a3 0x0))) : Except DecodeError Instr) = _
  simp only [fD_mkV, fA_mkV, fB_mkV]
theorem vmor : ∀ a1 a2 a3, Statement (.vmor a1 a2 a3) := by
  intro a1 a2 a3 _ h
  refine (major_1D (mkV 0x1D#6 a1 a2 a3 0x10) (fMajor_mkV ..)).trans ?_
  unfold decodeVmask
  rw [fSelV_mkV]
  change (.ok (.vmor (fD (mkV 0x1D#6 a1 a2 a3 0x10)) (fA (mkV 0x1D#6 a1 a2 a3 0x10)) (fB (mkV 0x1D#6 a1 a2 a3 0x10))) : Except DecodeError Instr) = _
  simp only [fD_mkV, fA_mkV, fB_mkV]
theorem vmxor : ∀ a1 a2 a3, Statement (.vmxor a1 a2 a3) := by
  intro a1 a2 a3 _ h
  refine (major_1D (mkV 0x1D#6 a1 a2 a3 0x20) (fMajor_mkV ..)).trans ?_
  unfold decodeVmask
  rw [fSelV_mkV]
  change (.ok (.vmxor (fD (mkV 0x1D#6 a1 a2 a3 0x20)) (fA (mkV 0x1D#6 a1 a2 a3 0x20)) (fB (mkV 0x1D#6 a1 a2 a3 0x20))) : Except DecodeError Instr) = _
  simp only [fD_mkV, fA_mkV, fB_mkV]
theorem vmnot : ∀ a1 a2, Statement (.vmnot a1 a2) := by
  intro a1 a2 _ h
  refine (major_1D (mkV 0x1D#6 a1 a2 0 0x30) (fMajor_mkV ..)).trans ?_
  unfold decodeVmask
  rw [fSelV_mkV]
  change (keepIf (fB (mkV 0x1D#6 a1 a2 0 0x30) == 0) .nonzeroField (.vmnot (fD (mkV 0x1D#6 a1 a2 0 0x30)) (fA (mkV 0x1D#6 a1 a2 0 0x30))) : Except DecodeError Instr) = _
  simp only [fD_mkV, fA_mkV, fB_mkV]
  rfl
theorem vmcnt : ∀ a1 a2, Statement (.vmcnt a1 a2) := by
  intro a1 a2 _ h
  refine (major_1D (mkV 0x1D#6 a1 a2 0 0x40) (fMajor_mkV ..)).trans ?_
  unfold decodeVmask
  rw [fSelV_mkV]
  change (keepIf (fB (mkV 0x1D#6 a1 a2 0 0x40) == 0) .nonzeroField (.vmcnt (fD (mkV 0x1D#6 a1 a2 0 0x40)) (fA (mkV 0x1D#6 a1 a2 0 0x40))) : Except DecodeError Instr) = _
  simp only [fD_mkV, fA_mkV, fB_mkV]
  rfl
theorem vmlead : ∀ a1 a2, Statement (.vmlead a1 a2) := by
  intro a1 a2 _ h
  refine (major_1D (mkV 0x1D#6 a1 a2 0 0x50) (fMajor_mkV ..)).trans ?_
  unfold decodeVmask
  rw [fSelV_mkV]
  change (keepIf (fB (mkV 0x1D#6 a1 a2 0 0x50) == 0) .nonzeroField (.vmlead (fD (mkV 0x1D#6 a1 a2 0 0x50)) (fA (mkV 0x1D#6 a1 a2 0 0x50))) : Except DecodeError Instr) = _
  simp only [fD_mkV, fA_mkV, fB_mkV]
  rfl
theorem vmrank : ∀ a1 a2, Statement (.vmrank a1 a2) := by
  intro a1 a2 _ h
  refine (major_1D (mkV 0x1D#6 a1 a2 0 0x60) (fMajor_mkV ..)).trans ?_
  unfold decodeVmask
  rw [fSelV_mkV]
  change (keepIf (fB (mkV 0x1D#6 a1 a2 0 0x60) == 0) .nonzeroField (.vmrank (fD (mkV 0x1D#6 a1 a2 0 0x60)) (fA (mkV 0x1D#6 a1 a2 0 0x60))) : Except DecodeError Instr) = _
  simp only [fD_mkV, fA_mkV, fB_mkV]
  rfl
theorem vfredsum : ∀ a1 a2, Statement (.vfredsum a1 a2) := by
  intro a1 a2 _ h
  refine (major_1E (mkV 0x1E#6 a1 a2 0 0x0) (fMajor_mkV ..)).trans ?_
  unfold decodeVred
  rw [fSelV_mkV]
  change (keepIf (fB (mkV 0x1E#6 a1 a2 0 0x0) == 0) .nonzeroField (.vfredsum (fD (mkV 0x1E#6 a1 a2 0 0x0)) (fA (mkV 0x1E#6 a1 a2 0 0x0))) : Except DecodeError Instr) = _
  simp only [fD_mkV, fA_mkV, fB_mkV]
  rfl
theorem vfredmax : ∀ a1 a2, Statement (.vfredmax a1 a2) := by
  intro a1 a2 _ h
  refine (major_1E (mkV 0x1E#6 a1 a2 0 0x10) (fMajor_mkV ..)).trans ?_
  unfold decodeVred
  rw [fSelV_mkV]
  change (keepIf (fB (mkV 0x1E#6 a1 a2 0 0x10) == 0) .nonzeroField (.vfredmax (fD (mkV 0x1E#6 a1 a2 0 0x10)) (fA (mkV 0x1E#6 a1 a2 0 0x10))) : Except DecodeError Instr) = _
  simp only [fD_mkV, fA_mkV, fB_mkV]
  rfl
theorem vfredmin : ∀ a1 a2, Statement (.vfredmin a1 a2) := by
  intro a1 a2 _ h
  refine (major_1E (mkV 0x1E#6 a1 a2 0 0x20) (fMajor_mkV ..)).trans ?_
  unfold decodeVred
  rw [fSelV_mkV]
  change (keepIf (fB (mkV 0x1E#6 a1 a2 0 0x20) == 0) .nonzeroField (.vfredmin (fD (mkV 0x1E#6 a1 a2 0 0x20)) (fA (mkV 0x1E#6 a1 a2 0 0x20))) : Except DecodeError Instr) = _
  simp only [fD_mkV, fA_mkV, fB_mkV]
  rfl
theorem vredsum : ∀ a1 a2, Statement (.vredsum a1 a2) := by
  intro a1 a2 _ h
  refine (major_1E (mkV 0x1E#6 a1 a2 0 0x30) (fMajor_mkV ..)).trans ?_
  unfold decodeVred
  rw [fSelV_mkV]
  change (keepIf (fB (mkV 0x1E#6 a1 a2 0 0x30) == 0) .nonzeroField (.vredsum (fD (mkV 0x1E#6 a1 a2 0 0x30)) (fA (mkV 0x1E#6 a1 a2 0 0x30))) : Except DecodeError Instr) = _
  simp only [fD_mkV, fA_mkV, fB_mkV]
  rfl
theorem vredmax : ∀ a1 a2, Statement (.vredmax a1 a2) := by
  intro a1 a2 _ h
  refine (major_1E (mkV 0x1E#6 a1 a2 0 0x40) (fMajor_mkV ..)).trans ?_
  unfold decodeVred
  rw [fSelV_mkV]
  change (keepIf (fB (mkV 0x1E#6 a1 a2 0 0x40) == 0) .nonzeroField (.vredmax (fD (mkV 0x1E#6 a1 a2 0 0x40)) (fA (mkV 0x1E#6 a1 a2 0 0x40))) : Except DecodeError Instr) = _
  simp only [fD_mkV, fA_mkV, fB_mkV]
  rfl
theorem vredmin : ∀ a1 a2, Statement (.vredmin a1 a2) := by
  intro a1 a2 _ h
  refine (major_1E (mkV 0x1E#6 a1 a2 0 0x50) (fMajor_mkV ..)).trans ?_
  unfold decodeVred
  rw [fSelV_mkV]
  change (keepIf (fB (mkV 0x1E#6 a1 a2 0 0x50) == 0) .nonzeroField (.vredmin (fD (mkV 0x1E#6 a1 a2 0 0x50)) (fA (mkV 0x1E#6 a1 a2 0 0x50))) : Except DecodeError Instr) = _
  simp only [fD_mkV, fA_mkV, fB_mkV]
  rfl
theorem vld : ∀ a1 a2 a3 a4, Statement (.vld a1 a2 a3 a4) := by
  intro a1 a2 a3 a4 _ h
  refine (major_20 (mkVM 0x20#6 a1 a2 a3 a4 0x00) (fMajor_mkVM ..)).trans ?_
  unfold decodeVload
  rw [fSelVM_mkVM]
  change (keepWf .reservedFormat (.vld (fD (mkVM 0x20#6 a1 a2 a3 a4 0x00)) (fA (mkVM 0x20#6 a1 a2 a3 a4 0x00)) (fB (mkVM 0x20#6 a1 a2 a3 a4 0x00)) (fFmt (mkVM 0x20#6 a1 a2 a3 a4 0x00))) : Except DecodeError Instr) = _
  simp only [fD_mkVM, fA_mkVM, fB_mkVM, fFmt_mkVM]
  simp [keepWf, h]
theorem vlds : ∀ a1 a2 a3 a4, Statement (.vlds a1 a2 a3 a4) := by
  intro a1 a2 a3 a4 _ h
  refine (major_20 (mkVM 0x20#6 a1 a2 a3 a4 0x10) (fMajor_mkVM ..)).trans ?_
  unfold decodeVload
  rw [fSelVM_mkVM]
  change (keepWf .reservedFormat (.vlds (fD (mkVM 0x20#6 a1 a2 a3 a4 0x10)) (fA (mkVM 0x20#6 a1 a2 a3 a4 0x10)) (fB (mkVM 0x20#6 a1 a2 a3 a4 0x10)) (fFmt (mkVM 0x20#6 a1 a2 a3 a4 0x10))) : Except DecodeError Instr) = _
  simp only [fD_mkVM, fA_mkVM, fB_mkVM, fFmt_mkVM]
  simp [keepWf, h]
theorem vldx : ∀ a1 a2 a3 a4, Statement (.vldx a1 a2 a3 a4) := by
  intro a1 a2 a3 a4 _ h
  refine (major_20 (mkVM 0x20#6 a1 a2 a3 a4 0x20) (fMajor_mkVM ..)).trans ?_
  unfold decodeVload
  rw [fSelVM_mkVM]
  change (keepWf .reservedFormat (.vldx (fD (mkVM 0x20#6 a1 a2 a3 a4 0x20)) (fA (mkVM 0x20#6 a1 a2 a3 a4 0x20)) (fB (mkVM 0x20#6 a1 a2 a3 a4 0x20)) (fFmt (mkVM 0x20#6 a1 a2 a3 a4 0x20))) : Except DecodeError Instr) = _
  simp only [fD_mkVM, fA_mkVM, fB_mkVM, fFmt_mkVM]
  simp [keepWf, h]
theorem vsegld2 : ∀ a1 a2 a3 a4, Statement (.vsegld2 a1 a2 a3 a4) := by
  intro a1 a2 a3 a4 _ h
  refine (major_20 (mkVM 0x20#6 a1 a2 a3 a4 0x30) (fMajor_mkVM ..)).trans ?_
  unfold decodeVload
  rw [fSelVM_mkVM]
  change (keepWf .reservedFormat (.vsegld2 (fD (mkVM 0x20#6 a1 a2 a3 a4 0x30)) (fA (mkVM 0x20#6 a1 a2 a3 a4 0x30)) (fB (mkVM 0x20#6 a1 a2 a3 a4 0x30)) (fFmt (mkVM 0x20#6 a1 a2 a3 a4 0x30))) : Except DecodeError Instr) = _
  simp only [fD_mkVM, fA_mkVM, fB_mkVM, fFmt_mkVM]
  simp [keepWf, h]
theorem vsegld3 : ∀ a1 a2 a3 a4, Statement (.vsegld3 a1 a2 a3 a4) := by
  intro a1 a2 a3 a4 _ h
  refine (major_20 (mkVM 0x20#6 a1 a2 a3 a4 0x31) (fMajor_mkVM ..)).trans ?_
  unfold decodeVload
  rw [fSelVM_mkVM]
  change (keepWf .reservedFormat (.vsegld3 (fD (mkVM 0x20#6 a1 a2 a3 a4 0x31)) (fA (mkVM 0x20#6 a1 a2 a3 a4 0x31)) (fB (mkVM 0x20#6 a1 a2 a3 a4 0x31)) (fFmt (mkVM 0x20#6 a1 a2 a3 a4 0x31))) : Except DecodeError Instr) = _
  simp only [fD_mkVM, fA_mkVM, fB_mkVM, fFmt_mkVM]
  simp [keepWf, h]
theorem vsegld4 : ∀ a1 a2 a3 a4, Statement (.vsegld4 a1 a2 a3 a4) := by
  intro a1 a2 a3 a4 _ h
  refine (major_20 (mkVM 0x20#6 a1 a2 a3 a4 0x32) (fMajor_mkVM ..)).trans ?_
  unfold decodeVload
  rw [fSelVM_mkVM]
  change (keepWf .reservedFormat (.vsegld4 (fD (mkVM 0x20#6 a1 a2 a3 a4 0x32)) (fA (mkVM 0x20#6 a1 a2 a3 a4 0x32)) (fB (mkVM 0x20#6 a1 a2 a3 a4 0x32)) (fFmt (mkVM 0x20#6 a1 a2 a3 a4 0x32))) : Except DecodeError Instr) = _
  simp only [fD_mkVM, fA_mkVM, fB_mkVM, fFmt_mkVM]
  simp [keepWf, h]
theorem vsegld5 : ∀ a1 a2 a3 a4, Statement (.vsegld5 a1 a2 a3 a4) := by
  intro a1 a2 a3 a4 _ h
  refine (major_20 (mkVM 0x20#6 a1 a2 a3 a4 0x33) (fMajor_mkVM ..)).trans ?_
  unfold decodeVload
  rw [fSelVM_mkVM]
  change (keepWf .reservedFormat (.vsegld5 (fD (mkVM 0x20#6 a1 a2 a3 a4 0x33)) (fA (mkVM 0x20#6 a1 a2 a3 a4 0x33)) (fB (mkVM 0x20#6 a1 a2 a3 a4 0x33)) (fFmt (mkVM 0x20#6 a1 a2 a3 a4 0x33))) : Except DecodeError Instr) = _
  simp only [fD_mkVM, fA_mkVM, fB_mkVM, fFmt_mkVM]
  simp [keepWf, h]
theorem vsegld6 : ∀ a1 a2 a3 a4, Statement (.vsegld6 a1 a2 a3 a4) := by
  intro a1 a2 a3 a4 _ h
  refine (major_20 (mkVM 0x20#6 a1 a2 a3 a4 0x34) (fMajor_mkVM ..)).trans ?_
  unfold decodeVload
  rw [fSelVM_mkVM]
  change (keepWf .reservedFormat (.vsegld6 (fD (mkVM 0x20#6 a1 a2 a3 a4 0x34)) (fA (mkVM 0x20#6 a1 a2 a3 a4 0x34)) (fB (mkVM 0x20#6 a1 a2 a3 a4 0x34)) (fFmt (mkVM 0x20#6 a1 a2 a3 a4 0x34))) : Except DecodeError Instr) = _
  simp only [fD_mkVM, fA_mkVM, fB_mkVM, fFmt_mkVM]
  simp [keepWf, h]
theorem vsegld7 : ∀ a1 a2 a3 a4, Statement (.vsegld7 a1 a2 a3 a4) := by
  intro a1 a2 a3 a4 _ h
  refine (major_20 (mkVM 0x20#6 a1 a2 a3 a4 0x35) (fMajor_mkVM ..)).trans ?_
  unfold decodeVload
  rw [fSelVM_mkVM]
  change (keepWf .reservedFormat (.vsegld7 (fD (mkVM 0x20#6 a1 a2 a3 a4 0x35)) (fA (mkVM 0x20#6 a1 a2 a3 a4 0x35)) (fB (mkVM 0x20#6 a1 a2 a3 a4 0x35)) (fFmt (mkVM 0x20#6 a1 a2 a3 a4 0x35))) : Except DecodeError Instr) = _
  simp only [fD_mkVM, fA_mkVM, fB_mkVM, fFmt_mkVM]
  simp [keepWf, h]
theorem vsegld8 : ∀ a1 a2 a3 a4, Statement (.vsegld8 a1 a2 a3 a4) := by
  intro a1 a2 a3 a4 _ h
  refine (major_20 (mkVM 0x20#6 a1 a2 a3 a4 0x36) (fMajor_mkVM ..)).trans ?_
  unfold decodeVload
  rw [fSelVM_mkVM]
  change (keepWf .reservedFormat (.vsegld8 (fD (mkVM 0x20#6 a1 a2 a3 a4 0x36)) (fA (mkVM 0x20#6 a1 a2 a3 a4 0x36)) (fB (mkVM 0x20#6 a1 a2 a3 a4 0x36)) (fFmt (mkVM 0x20#6 a1 a2 a3 a4 0x36))) : Except DecodeError Instr) = _
  simp only [fD_mkVM, fA_mkVM, fB_mkVM, fFmt_mkVM]
  simp [keepWf, h]
theorem vst : ∀ a1 a2 a3 a4, Statement (.vst a1 a2 a3 a4) := by
  intro a1 a2 a3 a4 _ h
  refine (major_21 (mkVM 0x21#6 a1 a2 a3 a4 0x00) (fMajor_mkVM ..)).trans ?_
  unfold decodeVstore
  rw [fSelVM_mkVM]
  change (keepWf .reservedFormat (.vst (fD (mkVM 0x21#6 a1 a2 a3 a4 0x00)) (fA (mkVM 0x21#6 a1 a2 a3 a4 0x00)) (fB (mkVM 0x21#6 a1 a2 a3 a4 0x00)) (fFmt (mkVM 0x21#6 a1 a2 a3 a4 0x00))) : Except DecodeError Instr) = _
  simp only [fD_mkVM, fA_mkVM, fB_mkVM, fFmt_mkVM]
  simp [keepWf, h]
theorem vsts : ∀ a1 a2 a3 a4, Statement (.vsts a1 a2 a3 a4) := by
  intro a1 a2 a3 a4 _ h
  refine (major_21 (mkVM 0x21#6 a1 a2 a3 a4 0x10) (fMajor_mkVM ..)).trans ?_
  unfold decodeVstore
  rw [fSelVM_mkVM]
  change (keepWf .reservedFormat (.vsts (fD (mkVM 0x21#6 a1 a2 a3 a4 0x10)) (fA (mkVM 0x21#6 a1 a2 a3 a4 0x10)) (fB (mkVM 0x21#6 a1 a2 a3 a4 0x10)) (fFmt (mkVM 0x21#6 a1 a2 a3 a4 0x10))) : Except DecodeError Instr) = _
  simp only [fD_mkVM, fA_mkVM, fB_mkVM, fFmt_mkVM]
  simp [keepWf, h]
theorem vstx : ∀ a1 a2 a3 a4, Statement (.vstx a1 a2 a3 a4) := by
  intro a1 a2 a3 a4 _ h
  refine (major_21 (mkVM 0x21#6 a1 a2 a3 a4 0x20) (fMajor_mkVM ..)).trans ?_
  unfold decodeVstore
  rw [fSelVM_mkVM]
  change (keepWf .reservedFormat (.vstx (fD (mkVM 0x21#6 a1 a2 a3 a4 0x20)) (fA (mkVM 0x21#6 a1 a2 a3 a4 0x20)) (fB (mkVM 0x21#6 a1 a2 a3 a4 0x20)) (fFmt (mkVM 0x21#6 a1 a2 a3 a4 0x20))) : Except DecodeError Instr) = _
  simp only [fD_mkVM, fA_mkVM, fB_mkVM, fFmt_mkVM]
  simp [keepWf, h]
theorem vsegst2 : ∀ a1 a2 a3 a4, Statement (.vsegst2 a1 a2 a3 a4) := by
  intro a1 a2 a3 a4 _ h
  refine (major_21 (mkVM 0x21#6 a1 a2 a3 a4 0x30) (fMajor_mkVM ..)).trans ?_
  unfold decodeVstore
  rw [fSelVM_mkVM]
  change (keepWf .reservedFormat (.vsegst2 (fD (mkVM 0x21#6 a1 a2 a3 a4 0x30)) (fA (mkVM 0x21#6 a1 a2 a3 a4 0x30)) (fB (mkVM 0x21#6 a1 a2 a3 a4 0x30)) (fFmt (mkVM 0x21#6 a1 a2 a3 a4 0x30))) : Except DecodeError Instr) = _
  simp only [fD_mkVM, fA_mkVM, fB_mkVM, fFmt_mkVM]
  simp [keepWf, h]
theorem vsegst3 : ∀ a1 a2 a3 a4, Statement (.vsegst3 a1 a2 a3 a4) := by
  intro a1 a2 a3 a4 _ h
  refine (major_21 (mkVM 0x21#6 a1 a2 a3 a4 0x31) (fMajor_mkVM ..)).trans ?_
  unfold decodeVstore
  rw [fSelVM_mkVM]
  change (keepWf .reservedFormat (.vsegst3 (fD (mkVM 0x21#6 a1 a2 a3 a4 0x31)) (fA (mkVM 0x21#6 a1 a2 a3 a4 0x31)) (fB (mkVM 0x21#6 a1 a2 a3 a4 0x31)) (fFmt (mkVM 0x21#6 a1 a2 a3 a4 0x31))) : Except DecodeError Instr) = _
  simp only [fD_mkVM, fA_mkVM, fB_mkVM, fFmt_mkVM]
  simp [keepWf, h]
theorem vsegst4 : ∀ a1 a2 a3 a4, Statement (.vsegst4 a1 a2 a3 a4) := by
  intro a1 a2 a3 a4 _ h
  refine (major_21 (mkVM 0x21#6 a1 a2 a3 a4 0x32) (fMajor_mkVM ..)).trans ?_
  unfold decodeVstore
  rw [fSelVM_mkVM]
  change (keepWf .reservedFormat (.vsegst4 (fD (mkVM 0x21#6 a1 a2 a3 a4 0x32)) (fA (mkVM 0x21#6 a1 a2 a3 a4 0x32)) (fB (mkVM 0x21#6 a1 a2 a3 a4 0x32)) (fFmt (mkVM 0x21#6 a1 a2 a3 a4 0x32))) : Except DecodeError Instr) = _
  simp only [fD_mkVM, fA_mkVM, fB_mkVM, fFmt_mkVM]
  simp [keepWf, h]
theorem vsegst5 : ∀ a1 a2 a3 a4, Statement (.vsegst5 a1 a2 a3 a4) := by
  intro a1 a2 a3 a4 _ h
  refine (major_21 (mkVM 0x21#6 a1 a2 a3 a4 0x33) (fMajor_mkVM ..)).trans ?_
  unfold decodeVstore
  rw [fSelVM_mkVM]
  change (keepWf .reservedFormat (.vsegst5 (fD (mkVM 0x21#6 a1 a2 a3 a4 0x33)) (fA (mkVM 0x21#6 a1 a2 a3 a4 0x33)) (fB (mkVM 0x21#6 a1 a2 a3 a4 0x33)) (fFmt (mkVM 0x21#6 a1 a2 a3 a4 0x33))) : Except DecodeError Instr) = _
  simp only [fD_mkVM, fA_mkVM, fB_mkVM, fFmt_mkVM]
  simp [keepWf, h]
theorem vsegst6 : ∀ a1 a2 a3 a4, Statement (.vsegst6 a1 a2 a3 a4) := by
  intro a1 a2 a3 a4 _ h
  refine (major_21 (mkVM 0x21#6 a1 a2 a3 a4 0x34) (fMajor_mkVM ..)).trans ?_
  unfold decodeVstore
  rw [fSelVM_mkVM]
  change (keepWf .reservedFormat (.vsegst6 (fD (mkVM 0x21#6 a1 a2 a3 a4 0x34)) (fA (mkVM 0x21#6 a1 a2 a3 a4 0x34)) (fB (mkVM 0x21#6 a1 a2 a3 a4 0x34)) (fFmt (mkVM 0x21#6 a1 a2 a3 a4 0x34))) : Except DecodeError Instr) = _
  simp only [fD_mkVM, fA_mkVM, fB_mkVM, fFmt_mkVM]
  simp [keepWf, h]
theorem vsegst7 : ∀ a1 a2 a3 a4, Statement (.vsegst7 a1 a2 a3 a4) := by
  intro a1 a2 a3 a4 _ h
  refine (major_21 (mkVM 0x21#6 a1 a2 a3 a4 0x35) (fMajor_mkVM ..)).trans ?_
  unfold decodeVstore
  rw [fSelVM_mkVM]
  change (keepWf .reservedFormat (.vsegst7 (fD (mkVM 0x21#6 a1 a2 a3 a4 0x35)) (fA (mkVM 0x21#6 a1 a2 a3 a4 0x35)) (fB (mkVM 0x21#6 a1 a2 a3 a4 0x35)) (fFmt (mkVM 0x21#6 a1 a2 a3 a4 0x35))) : Except DecodeError Instr) = _
  simp only [fD_mkVM, fA_mkVM, fB_mkVM, fFmt_mkVM]
  simp [keepWf, h]
theorem vsegst8 : ∀ a1 a2 a3 a4, Statement (.vsegst8 a1 a2 a3 a4) := by
  intro a1 a2 a3 a4 _ h
  refine (major_21 (mkVM 0x21#6 a1 a2 a3 a4 0x36) (fMajor_mkVM ..)).trans ?_
  unfold decodeVstore
  rw [fSelVM_mkVM]
  change (keepWf .reservedFormat (.vsegst8 (fD (mkVM 0x21#6 a1 a2 a3 a4 0x36)) (fA (mkVM 0x21#6 a1 a2 a3 a4 0x36)) (fB (mkVM 0x21#6 a1 a2 a3 a4 0x36)) (fFmt (mkVM 0x21#6 a1 a2 a3 a4 0x36))) : Except DecodeError Instr) = _
  simp only [fD_mkVM, fA_mkVM, fB_mkVM, fFmt_mkVM]
  simp [keepWf, h]
theorem plsta : ∀ a1 a2, Statement (.plsta a1 a2) := by
  intro a1 a2 _ h
  refine (major_21 (mkVM 0x21#6 a1 a2 0 0 0x40) (fMajor_mkVM ..)).trans ?_
  unfold decodeVstore
  rw [fSelVM_mkVM]
  change (keepIf (fFmt (mkVM 0x21#6 a1 a2 0 0 0x40) == 0 && fB (mkVM 0x21#6 a1 a2 0 0 0x40) == 0) .reservedFormat (.plsta (fD (mkVM 0x21#6 a1 a2 0 0 0x40)) (fA (mkVM 0x21#6 a1 a2 0 0 0x40))) : Except DecodeError Instr) = _
  simp only [fD_mkVM, fA_mkVM, fB_mkVM, fFmt_mkVM]
  rfl
theorem plstb : ∀ a1 a2, Statement (.plstb a1 a2) := by
  intro a1 a2 _ h
  refine (major_21 (mkVM 0x21#6 a1 a2 0 0 0x50) (fMajor_mkVM ..)).trans ?_
  unfold decodeVstore
  rw [fSelVM_mkVM]
  change (if fFmt (mkVM 0x21#6 a1 a2 0 0 0x50) == 9 then keepIf (fFmt (mkVM 0x21#6 a1 a2 0 0 0x50) == 9 && fB (mkVM 0x21#6 a1 a2 0 0 0x50) == 0) .reservedFormat (.plstbDpw8 (fD (mkVM 0x21#6 a1 a2 0 0 0x50)) (fA (mkVM 0x21#6 a1 a2 0 0 0x50))) else keepIf (fFmt (mkVM 0x21#6 a1 a2 0 0 0x50) == 0 && fB (mkVM 0x21#6 a1 a2 0 0 0x50) == 0) .reservedFormat (.plstb (fD (mkVM 0x21#6 a1 a2 0 0 0x50)) (fA (mkVM 0x21#6 a1 a2 0 0 0x50))) : Except DecodeError Instr) = _
  simp only [fD_mkVM, fA_mkVM, fB_mkVM, fFmt_mkVM]
  rfl
theorem plstbDpw8 : ∀ a1 a2, Statement (.plstbDpw8 a1 a2) := by
  intro a1 a2 _ h
  refine (major_21 (mkVM 0x21#6 a1 a2 0 9 0x50) (fMajor_mkVM ..)).trans ?_
  unfold decodeVstore
  rw [fSelVM_mkVM]
  change (if fFmt (mkVM 0x21#6 a1 a2 0 9 0x50) == 9 then keepIf (fFmt (mkVM 0x21#6 a1 a2 0 9 0x50) == 9 && fB (mkVM 0x21#6 a1 a2 0 9 0x50) == 0) .reservedFormat (.plstbDpw8 (fD (mkVM 0x21#6 a1 a2 0 9 0x50)) (fA (mkVM 0x21#6 a1 a2 0 9 0x50))) else keepIf (fFmt (mkVM 0x21#6 a1 a2 0 9 0x50) == 0 && fB (mkVM 0x21#6 a1 a2 0 9 0x50) == 0) .reservedFormat (.plstb (fD (mkVM 0x21#6 a1 a2 0 9 0x50)) (fA (mkVM 0x21#6 a1 a2 0 9 0x50))) : Except DecodeError Instr) = _
  simp only [fD_mkVM, fA_mkVM, fB_mkVM, fFmt_mkVM]
  rfl
theorem vglk : ∀ a1 a2 a3 a4, Statement (.vglk a1 a2 a3 a4) := by
  intro a1 a2 a3 a4 _ h
  refine (major_22 (mkVM 0x22#6 a1 a2 a3 a4 0x20) (fMajor_mkVM ..)).trans ?_
  unfold decodeVatom
  rw [fSelVM_mkVM]
  change (keepWf .reservedFormat (.vglk (fD (mkVM 0x22#6 a1 a2 a3 a4 0x20)) (fA (mkVM 0x22#6 a1 a2 a3 a4 0x20)) (fB (mkVM 0x22#6 a1 a2 a3 a4 0x20)) (fFmt (mkVM 0x22#6 a1 a2 a3 a4 0x20))) : Except DecodeError Instr) = _
  simp only [fD_mkVM, fA_mkVM, fB_mkVM, fFmt_mkVM]
  simp [keepWf, h]
theorem vscc : ∀ a1 a2 a3 a4, Statement (.vscc a1 a2 a3 a4) := by
  intro a1 a2 a3 a4 _ h
  refine (major_22 (mkVM 0x22#6 a1 a2 a3 a4 0x21) (fMajor_mkVM ..)).trans ?_
  unfold decodeVatom
  rw [fSelVM_mkVM]
  change (keepWf .reservedFormat (.vscc (fD (mkVM 0x22#6 a1 a2 a3 a4 0x21)) (fA (mkVM 0x22#6 a1 a2 a3 a4 0x21)) (fB (mkVM 0x22#6 a1 a2 a3 a4 0x21)) (fFmt (mkVM 0x22#6 a1 a2 a3 a4 0x21))) : Except DecodeError Instr) = _
  simp only [fD_mkVM, fA_mkVM, fB_mkVM, fFmt_mkVM]
  simp [keepWf, h]
theorem vapnd : ∀ a1 a2 a3, Statement (.vapnd a1 a2 a3) := by
  intro a1 a2 a3 _ h
  refine (major_22 (mkVM 0x22#6 a1 a2 a3 11 0x02) (fMajor_mkVM ..)).trans ?_
  unfold decodeVatom
  rw [fSelVM_mkVM]
  change (keepIf (fFmt (mkVM 0x22#6 a1 a2 a3 11 0x02) == 11) .reservedFormat (.vapnd (fD (mkVM 0x22#6 a1 a2 a3 11 0x02)) (fA (mkVM 0x22#6 a1 a2 a3 11 0x02)) (fB (mkVM 0x22#6 a1 a2 a3 11 0x02))) : Except DecodeError Instr) = _
  simp only [fD_mkVM, fA_mkVM, fB_mkVM, fFmt_mkVM]
  rfl
theorem sbind : ∀ a1 a2, Statement (.sbind a1 a2) := by
  intro a1 a2 _ h
  refine (major_23 (mkR 0x23#6 a1 a2 0 0 0) (fMajor_mkR ..)).trans ?_
  unfold decodeStream
  rw [fMinorR_mkR]
  change (if fB (mkR 0x23#6 a1 a2 0 0 0) == 0 && fMod (mkR 0x23#6 a1 a2 0 0 0) == 0 then keepWf .reservedRegister (.sbind (fD (mkR 0x23#6 a1 a2 0 0 0)) (fA (mkR 0x23#6 a1 a2 0 0 0))) else .error .nonzeroField : Except DecodeError Instr) = _
  simp only [fD_mkR, fA_mkR, fB_mkR, fMod_mkR]
  simp [keepWf, h]
theorem sunbind : ∀ a1, Statement (.sunbind a1) := by
  intro a1 _ h
  refine (major_23 (mkR 0x23#6 a1 0 0 1 0) (fMajor_mkR ..)).trans ?_
  unfold decodeStream
  rw [fMinorR_mkR]
  change (if fA (mkR 0x23#6 a1 0 0 1 0) == 0 && fB (mkR 0x23#6 a1 0 0 1 0) == 0 && fMod (mkR 0x23#6 a1 0 0 1 0) == 0 then keepWf .reservedRegister (.sunbind (fD (mkR 0x23#6 a1 0 0 1 0))) else .error .nonzeroField : Except DecodeError Instr) = _
  simp only [fD_mkR, fA_mkR, fB_mkR, fMod_mkR]
  simp [keepWf, h]
theorem spos : ∀ a1 a2, Statement (.spos a1 a2) := by
  intro a1 a2 _ h
  refine (major_23 (mkR 0x23#6 a1 a2 0 2 0) (fMajor_mkR ..)).trans ?_
  unfold decodeStream
  rw [fMinorR_mkR]
  change (if fB (mkR 0x23#6 a1 a2 0 2 0) == 0 && fMod (mkR 0x23#6 a1 a2 0 2 0) == 0 then keepWf .reservedRegister (.spos (fD (mkR 0x23#6 a1 a2 0 2 0)) (fA (mkR 0x23#6 a1 a2 0 2 0))) else .error .nonzeroField : Except DecodeError Instr) = _
  simp only [fD_mkR, fA_mkR, fB_mkR, fMod_mkR]
  simp [keepWf, h]
theorem turn : ∀ a1 a2 a3 a4 a5, Statement (.turn a1 a2 a3 a4 a5) := by
  intro a1 a2 a3 a4 a5 _ h
  refine (major_24 (mkQ 0x24#6 a1 a2 a3 a4 ((0 : BitVec 3) ++ a5)) (fMajor_mkQ ..)).trans ?_
  unfold decodeMemord
  rw [fMinorQ_mkQ]
  rw [extract_append_high (0 : BitVec 3) a5 3 3 (by decide), extract_append_low (0 : BitVec 3) a5 0 3 (by decide), extract_all, extract_all]
  change (keepWf .reservedLevel (.turn (fD (mkQ 0x24#6 a1 a2 a3 a4 ((0 : BitVec 3) ++ a5))) (fA (mkQ 0x24#6 a1 a2 a3 a4 ((0 : BitVec 3) ++ a5))) (fB (mkQ 0x24#6 a1 a2 a3 a4 ((0 : BitVec 3) ++ a5))) (fC (mkQ 0x24#6 a1 a2 a3 a4 ((0 : BitVec 3) ++ a5))) a5) : Except DecodeError Instr) = _
  simp only [fD_mkQ, fA_mkQ, fB_mkQ, fC_mkQ]
  simp [keepWf, h]
theorem turnall : ∀ a1 a2 a3, Statement (.turnall a1 a2 a3) := by
  intro a1 a2 a3 _ h
  refine (major_24 (mkQ 0x24#6 a1 0 0 a2 ((1 : BitVec 3) ++ a3)) (fMajor_mkQ ..)).trans ?_
  unfold decodeMemord
  rw [fMinorQ_mkQ]
  rw [extract_append_high (1 : BitVec 3) a3 3 3 (by decide), extract_append_low (1 : BitVec 3) a3 0 3 (by decide), extract_all, extract_all]
  change (if fA (mkQ 0x24#6 a1 0 0 a2 ((1 : BitVec 3) ++ a3)) == 0 && fB (mkQ 0x24#6 a1 0 0 a2 ((1 : BitVec 3) ++ a3)) == 0 then keepWf .reservedLevel (.turnall (fD (mkQ 0x24#6 a1 0 0 a2 ((1 : BitVec 3) ++ a3))) (fC (mkQ 0x24#6 a1 0 0 a2 ((1 : BitVec 3) ++ a3))) a3) else .error .nonzeroField : Except DecodeError Instr) = _
  simp only [fD_mkQ, fA_mkQ, fB_mkQ, fC_mkQ]
  simp [keepWf, h]
theorem fence : ∀ a1 a2 a3, Statement (.fence a1 a2 a3) := by
  intro a1 a2 a3 _ h
  refine (major_24 (mkQ 0x24#6 a1 a2 0 a3 16) (fMajor_mkQ ..)).trans ?_
  unfold decodeMemord
  rw [fMinorQ_mkQ]
  change (keepIf (fB (mkQ 0x24#6 a1 a2 0 a3 16) == 0 && (16#6).extractLsb' 0 3 == 0) .nonzeroField (.fence (fD (mkQ 0x24#6 a1 a2 0 a3 16)) (fA (mkQ 0x24#6 a1 a2 0 a3 16)) (fC (mkQ 0x24#6 a1 a2 0 a3 16))) : Except DecodeError Instr) = _
  simp only [fD_mkQ, fA_mkQ, fB_mkQ, fC_mkQ]
  rfl
theorem publish : ∀ a1 a2, Statement (.publish a1 a2) := by
  intro a1 a2 _ h
  refine (major_24 (mkQ 0x24#6 a1 0 0 a2 24) (fMajor_mkQ ..)).trans ?_
  unfold decodeMemord
  rw [fMinorQ_mkQ]
  change (keepIf (fA (mkQ 0x24#6 a1 0 0 a2 24) == 0 && fB (mkQ 0x24#6 a1 0 0 a2 24) == 0 && (24#6).extractLsb' 0 3 == 0) .nonzeroField (.publish (fD (mkQ 0x24#6 a1 0 0 a2 24)) (fC (mkQ 0x24#6 a1 0 0 a2 24))) : Except DecodeError Instr) = _
  simp only [fD_mkQ, fA_mkQ, fB_mkQ, fC_mkQ]
  rfl
theorem copy : ∀ a1 a2 a3, Statement (.copy a1 a2 a3) := by
  intro a1 a2 a3 _ h
  refine (major_25 (mkQ 0x25#6 a1 a2 a3 0 0) (fMajor_mkQ ..)).trans ?_
  unfold decodeAsync
  rw [fMinorQ_mkQ]
  change (keepIf (fC (mkQ 0x25#6 a1 a2 a3 0 0) == 0) .nonzeroField (.copy (fD (mkQ 0x25#6 a1 a2 a3 0 0)) (fA (mkQ 0x25#6 a1 a2 a3 0 0)) (fB (mkQ 0x25#6 a1 a2 a3 0 0))) : Except DecodeError Instr) = _
  simp only [fD_mkQ, fA_mkQ, fB_mkQ, fC_mkQ]
  rfl
theorem copyb : ∀ a1 a2 a3 a4, Statement (.copyb a1 a2 a3 a4) := by
  intro a1 a2 a3 a4 _ h
  refine (major_25 (mkQ 0x25#6 a1 a2 a3 a4 1) (fMajor_mkQ ..)).trans ?_
  unfold decodeAsync
  rw [fMinorQ_mkQ]
  change (.ok (.copyb (fD (mkQ 0x25#6 a1 a2 a3 a4 1)) (fA (mkQ 0x25#6 a1 a2 a3 a4 1)) (fB (mkQ 0x25#6 a1 a2 a3 a4 1)) (fC (mkQ 0x25#6 a1 a2 a3 a4 1))) : Except DecodeError Instr) = _
  simp only [fD_mkQ, fA_mkQ, fB_mkQ, fC_mkQ]
theorem putq : ∀ a1 a2 a3 a4, Statement (.putq a1 a2 a3 a4) := by
  intro a1 a2 a3 a4 _ h
  refine (major_25 (mkQ 0x25#6 a1 a2 a3 a4 2) (fMajor_mkQ ..)).trans ?_
  unfold decodeAsync
  rw [fMinorQ_mkQ]
  change (.ok (.putq (fD (mkQ 0x25#6 a1 a2 a3 a4 2)) (fA (mkQ 0x25#6 a1 a2 a3 a4 2)) (fB (mkQ 0x25#6 a1 a2 a3 a4 2)) (fC (mkQ 0x25#6 a1 a2 a3 a4 2))) : Except DecodeError Instr) = _
  simp only [fD_mkQ, fA_mkQ, fB_mkQ, fC_mkQ]
theorem settile : ∀ a1 a2 a3, Statement (.settile a1 a2 a3) := by
  intro a1 a2 a3 _ h
  refine (major_28 (mkQ 0x28#6 0 a1 a2 a3 0) (fMajor_mkQ ..)).trans ?_
  unfold decodeTile
  rw [fMinorQ_mkQ]
  change (keepIf (fD (mkQ 0x28#6 0 a1 a2 a3 0) == 0) .nonzeroField (.settile (fA (mkQ 0x28#6 0 a1 a2 a3 0)) (fB (mkQ 0x28#6 0 a1 a2 a3 0)) (fC (mkQ 0x28#6 0 a1 a2 a3 0))) : Except DecodeError Instr) = _
  simp only [fD_mkQ, fA_mkQ, fB_mkQ, fC_mkQ]
  rfl
theorem tzero : ∀ a1, Statement (.tzero a1) := by
  intro a1 _ h
  refine (major_28 (mkQ 0x28#6 (accField a1) 0 0 0 1) (fMajor_mkQ ..)).trans ?_
  unfold decodeTile
  rw [fMinorQ_mkQ]
  change (keepIf (fA (mkQ 0x28#6 (accField a1) 0 0 0 1) == 0 && fB (mkQ 0x28#6 (accField a1) 0 0 0 1) == 0 && fC (mkQ 0x28#6 (accField a1) 0 0 0 1) == 0 && (fD (mkQ 0x28#6 (accField a1) 0 0 0 1)).extractLsb' 4 1 == 0) .nonzeroField (.tzero (fieldAcc (fD (mkQ 0x28#6 (accField a1) 0 0 0 1)))) : Except DecodeError Instr) = _
  simp only [fD_mkQ, fA_mkQ, fB_mkQ, fC_mkQ]
  simp only [accField_top, fieldAcc_accField]
  rfl
theorem tmac : ∀ a1 a2 a3 a4, Statement (.tmac a1 a2 a3 a4) := by
  intro a1 a2 a3 a4 _ h
  refine (major_28 (mkQ 0x28#6 (accField a1) a2 a3 a4 2) (fMajor_mkQ ..)).trans ?_
  unfold decodeTile
  rw [fMinorQ_mkQ]
  change (keepIf ((fD (mkQ 0x28#6 (accField a1) a2 a3 a4 2)).extractLsb' 4 1 == 0) .nonzeroField (.tmac (fieldAcc (fD (mkQ 0x28#6 (accField a1) a2 a3 a4 2))) (fA (mkQ 0x28#6 (accField a1) a2 a3 a4 2)) (fB (mkQ 0x28#6 (accField a1) a2 a3 a4 2)) (fC (mkQ 0x28#6 (accField a1) a2 a3 a4 2))) : Except DecodeError Instr) = _
  simp only [fD_mkQ, fA_mkQ, fB_mkQ, fC_mkQ]
  simp only [accField_top, fieldAcc_accField]
  rfl
theorem tmacw : ∀ a1 a2 a3 a4, Statement (.tmacw a1 a2 a3 a4) := by
  intro a1 a2 a3 a4 _ h
  refine (major_28 (mkQ 0x28#6 (accField a1) a2 a3 a4 3) (fMajor_mkQ ..)).trans ?_
  unfold decodeTile
  rw [fMinorQ_mkQ]
  change (keepIf ((fD (mkQ 0x28#6 (accField a1) a2 a3 a4 3)).extractLsb' 4 1 == 0) .nonzeroField (.tmacw (fieldAcc (fD (mkQ 0x28#6 (accField a1) a2 a3 a4 3))) (fA (mkQ 0x28#6 (accField a1) a2 a3 a4 3)) (fB (mkQ 0x28#6 (accField a1) a2 a3 a4 3)) (fC (mkQ 0x28#6 (accField a1) a2 a3 a4 3))) : Except DecodeError Instr) = _
  simp only [fD_mkQ, fA_mkQ, fB_mkQ, fC_mkQ]
  simp only [accField_top, fieldAcc_accField]
  rfl
theorem tmovr : ∀ a1 a2 a3, Statement (.tmovr a1 a2 a3) := by
  intro a1 a2 a3 _ h
  refine (major_28 (mkQ 0x28#6 (accField a1) a2 a3 0 4) (fMajor_mkQ ..)).trans ?_
  unfold decodeTile
  rw [fMinorQ_mkQ]
  change (keepIf (fC (mkQ 0x28#6 (accField a1) a2 a3 0 4) == 0 && (fD (mkQ 0x28#6 (accField a1) a2 a3 0 4)).extractLsb' 4 1 == 0) .nonzeroField (.tmovr (fieldAcc (fD (mkQ 0x28#6 (accField a1) a2 a3 0 4))) (fA (mkQ 0x28#6 (accField a1) a2 a3 0 4)) (fB (mkQ 0x28#6 (accField a1) a2 a3 0 4))) : Except DecodeError Instr) = _
  simp only [fD_mkQ, fA_mkQ, fB_mkQ, fC_mkQ]
  simp only [accField_top, fieldAcc_accField]
  rfl
theorem tmovc : ∀ a1 a2 a3, Statement (.tmovc a1 a2 a3) := by
  intro a1 a2 a3 _ h
  refine (major_28 (mkQ 0x28#6 (accField a1) a2 a3 0 5) (fMajor_mkQ ..)).trans ?_
  unfold decodeTile
  rw [fMinorQ_mkQ]
  change (keepIf (fC (mkQ 0x28#6 (accField a1) a2 a3 0 5) == 0 && (fD (mkQ 0x28#6 (accField a1) a2 a3 0 5)).extractLsb' 4 1 == 0) .nonzeroField (.tmovc (fieldAcc (fD (mkQ 0x28#6 (accField a1) a2 a3 0 5))) (fA (mkQ 0x28#6 (accField a1) a2 a3 0 5)) (fB (mkQ 0x28#6 (accField a1) a2 a3 0 5))) : Except DecodeError Instr) = _
  simp only [fD_mkQ, fA_mkQ, fB_mkQ, fC_mkQ]
  simp only [accField_top, fieldAcc_accField]
  rfl
theorem tld : ∀ a1 a2 a3, Statement (.tld a1 a2 a3) := by
  intro a1 a2 a3 _ h
  refine (major_28 (mkQ 0x28#6 (accField a1) a2 a3 0 6) (fMajor_mkQ ..)).trans ?_
  unfold decodeTile
  rw [fMinorQ_mkQ]
  change (keepIf (fC (mkQ 0x28#6 (accField a1) a2 a3 0 6) == 0 && (fD (mkQ 0x28#6 (accField a1) a2 a3 0 6)).extractLsb' 4 1 == 0) .nonzeroField (.tld (fieldAcc (fD (mkQ 0x28#6 (accField a1) a2 a3 0 6))) (fA (mkQ 0x28#6 (accField a1) a2 a3 0 6)) (fB (mkQ 0x28#6 (accField a1) a2 a3 0 6))) : Except DecodeError Instr) = _
  simp only [fD_mkQ, fA_mkQ, fB_mkQ, fC_mkQ]
  simp only [accField_top, fieldAcc_accField]
  rfl
theorem tst : ∀ a1 a2 a3, Statement (.tst a1 a2 a3) := by
  intro a1 a2 a3 _ h
  refine (major_28 (mkQ 0x28#6 (accField a1) a2 a3 0 7) (fMajor_mkQ ..)).trans ?_
  unfold decodeTile
  rw [fMinorQ_mkQ]
  change (keepIf (fC (mkQ 0x28#6 (accField a1) a2 a3 0 7) == 0 && (fD (mkQ 0x28#6 (accField a1) a2 a3 0 7)).extractLsb' 4 1 == 0) .nonzeroField (.tst (fieldAcc (fD (mkQ 0x28#6 (accField a1) a2 a3 0 7))) (fA (mkQ 0x28#6 (accField a1) a2 a3 0 7)) (fB (mkQ 0x28#6 (accField a1) a2 a3 0 7))) : Except DecodeError Instr) = _
  simp only [fD_mkQ, fA_mkQ, fB_mkQ, fC_mkQ]
  simp only [accField_top, fieldAcc_accField]
  rfl
theorem tadd : ∀ a1 a2, Statement (.tadd a1 a2) := by
  intro a1 a2 _ h
  refine (major_28 (mkQ 0x28#6 (accField a1) (accField a2) 0 0 8) (fMajor_mkQ ..)).trans ?_
  unfold decodeTile
  rw [fMinorQ_mkQ]
  change (keepIf (fB (mkQ 0x28#6 (accField a1) (accField a2) 0 0 8) == 0 && fC (mkQ 0x28#6 (accField a1) (accField a2) 0 0 8) == 0 && (fA (mkQ 0x28#6 (accField a1) (accField a2) 0 0 8)).extractLsb' 4 1 == 0 && (fD (mkQ 0x28#6 (accField a1) (accField a2) 0 0 8)).extractLsb' 4 1 == 0) .nonzeroField (.tadd (fieldAcc (fD (mkQ 0x28#6 (accField a1) (accField a2) 0 0 8))) (fieldAcc (fA (mkQ 0x28#6 (accField a1) (accField a2) 0 0 8)))) : Except DecodeError Instr) = _
  simp only [fD_mkQ, fA_mkQ, fB_mkQ, fC_mkQ]
  simp only [accField_top, fieldAcc_accField]
  rfl
theorem sigcfg : ∀ a1 a2 a3, Statement (.sigcfg a1 a2 a3) := by
  intro a1 a2 a3 _ h
  refine (major_29 (mkQ 0x29#6 a1 a2 a3 0 0) (fMajor_mkQ ..)).trans ?_
  unfold decodeSig
  rw [fMinorQ_mkQ]
  change (keepIf (fC (mkQ 0x29#6 a1 a2 a3 0 0) == 0) .nonzeroField (.sigcfg (fD (mkQ 0x29#6 a1 a2 a3 0 0)) (fA (mkQ 0x29#6 a1 a2 a3 0 0)) (fB (mkQ 0x29#6 a1 a2 a3 0 0))) : Except DecodeError Instr) = _
  simp only [fD_mkQ, fA_mkQ, fB_mkQ, fC_mkQ]
  rfl
theorem siginit : Statement (.siginit) := by
  intro _ h
  refine (major_29 (mkQ 0x29#6 0 0 0 0 1) (fMajor_mkQ ..)).trans ?_
  unfold decodeSig
  rw [fMinorQ_mkQ]
  change (keepIf (fD (mkQ 0x29#6 0 0 0 0 1) == 0 && fA (mkQ 0x29#6 0 0 0 0 1) == 0 && fB (mkQ 0x29#6 0 0 0 0 1) == 0 && fC (mkQ 0x29#6 0 0 0 0 1) == 0) .nonzeroField .siginit : Except DecodeError Instr) = _
  simp only [fD_mkQ, fA_mkQ, fB_mkQ, fC_mkQ]
  rfl
theorem sigupd : ∀ a1, Statement (.sigupd a1) := by
  intro a1 _ h
  refine (major_29 (mkQ 0x29#6 0 a1 0 0 2) (fMajor_mkQ ..)).trans ?_
  unfold decodeSig
  rw [fMinorQ_mkQ]
  change (keepIf (fD (mkQ 0x29#6 0 a1 0 0 2) == 0 && fB (mkQ 0x29#6 0 a1 0 0 2) == 0 && fC (mkQ 0x29#6 0 a1 0 0 2) == 0) .nonzeroField (.sigupd (fA (mkQ 0x29#6 0 a1 0 0 2))) : Except DecodeError Instr) = _
  simp only [fD_mkQ, fA_mkQ, fB_mkQ, fC_mkQ]
  rfl
theorem sigjoin : ∀ a1, Statement (.sigjoin a1) := by
  intro a1 _ h
  refine (major_29 (mkQ 0x29#6 0 a1 0 0 3) (fMajor_mkQ ..)).trans ?_
  unfold decodeSig
  rw [fMinorQ_mkQ]
  change (keepIf (fD (mkQ 0x29#6 0 a1 0 0 3) == 0 && fB (mkQ 0x29#6 0 a1 0 0 3) == 0 && fC (mkQ 0x29#6 0 a1 0 0 3) == 0) .nonzeroField (.sigjoin (fA (mkQ 0x29#6 0 a1 0 0 3))) : Except DecodeError Instr) = _
  simp only [fD_mkQ, fA_mkQ, fB_mkQ, fC_mkQ]
  rfl
theorem sigjoinl : ∀ a1, Statement (.sigjoinl a1) := by
  intro a1 _ h
  refine (major_29 (mkQ 0x29#6 0 a1 0 0 4) (fMajor_mkQ ..)).trans ?_
  unfold decodeSig
  rw [fMinorQ_mkQ]
  change (keepIf (fD (mkQ 0x29#6 0 a1 0 0 4) == 0 && fB (mkQ 0x29#6 0 a1 0 0 4) == 0 && fC (mkQ 0x29#6 0 a1 0 0 4) == 0) .nonzeroField (.sigjoinl (fA (mkQ 0x29#6 0 a1 0 0 4))) : Except DecodeError Instr) = _
  simp only [fD_mkQ, fA_mkQ, fB_mkQ, fC_mkQ]
  rfl
theorem siglog : Statement (.siglog) := by
  intro _ h
  refine (major_29 (mkQ 0x29#6 0 0 0 0 5) (fMajor_mkQ ..)).trans ?_
  unfold decodeSig
  rw [fMinorQ_mkQ]
  change (keepIf (fD (mkQ 0x29#6 0 0 0 0 5) == 0 && fA (mkQ 0x29#6 0 0 0 0 5) == 0 && fB (mkQ 0x29#6 0 0 0 0 5) == 0 && fC (mkQ 0x29#6 0 0 0 0 5) == 0) .nonzeroField .siglog : Except DecodeError Instr) = _
  simp only [fD_mkQ, fA_mkQ, fB_mkQ, fC_mkQ]
  rfl
theorem sigld : ∀ a1, Statement (.sigld a1) := by
  intro a1 _ h
  refine (major_29 (mkQ 0x29#6 0 a1 0 0 6) (fMajor_mkQ ..)).trans ?_
  unfold decodeSig
  rw [fMinorQ_mkQ]
  change (keepIf (fD (mkQ 0x29#6 0 a1 0 0 6) == 0 && fB (mkQ 0x29#6 0 a1 0 0 6) == 0 && fC (mkQ 0x29#6 0 a1 0 0 6) == 0) .nonzeroField (.sigld (fA (mkQ 0x29#6 0 a1 0 0 6))) : Except DecodeError Instr) = _
  simp only [fD_mkQ, fA_mkQ, fB_mkQ, fC_mkQ]
  rfl
theorem sigst : ∀ a1, Statement (.sigst a1) := by
  intro a1 _ h
  refine (major_29 (mkQ 0x29#6 0 a1 0 0 7) (fMajor_mkQ ..)).trans ?_
  unfold decodeSig
  rw [fMinorQ_mkQ]
  change (keepIf (fD (mkQ 0x29#6 0 a1 0 0 7) == 0 && fB (mkQ 0x29#6 0 a1 0 0 7) == 0 && fC (mkQ 0x29#6 0 a1 0 0 7) == 0) .nonzeroField (.sigst (fA (mkQ 0x29#6 0 a1 0 0 7))) : Except DecodeError Instr) = _
  simp only [fD_mkQ, fA_mkQ, fB_mkQ, fC_mkQ]
  rfl
theorem waitc : ∀ a1 a2 a3 a4 a5 a6, Statement (.waitc a1 a2 a3 a4 a5 a6) := by
  intro a1 a2 a3 a4 a5 a6 _ h
  refine (major_2C (mkI 0x2C#6 a1 a2 (a3 ++ a4 ++ a5 ++ a6)) (fMajor_mkI ..)).trans ?_
  simp only [fD_mkI, fA_mkI, fImm16_mkI]
  obtain ⟨h1, h2, h3, h4⟩ := limits_join a3 a4 a5 a6
  rw [h1, h2, h3, h4]
theorem waitw : ∀ a1 a2 a3 a4, Statement (.waitw a1 a2 a3 a4) := by
  intro a1 a2 a3 a4 _ h
  refine (major_2D (mkQ 0x2D#6 a1 a2 a3 a4 0) (fMajor_mkQ ..)).trans ?_
  unfold decodeWaito
  rw [fMinorQ_mkQ]
  change (.ok (.waitw (fD (mkQ 0x2D#6 a1 a2 a3 a4 0)) (fA (mkQ 0x2D#6 a1 a2 a3 a4 0)) (fB (mkQ 0x2D#6 a1 a2 a3 a4 0)) (fC (mkQ 0x2D#6 a1 a2 a3 a4 0))) : Except DecodeError Instr) = _
  simp only [fD_mkQ, fA_mkQ, fB_mkQ, fC_mkQ]
theorem barw : ∀ a1 a2 a3 a4, Statement (.barw a1 a2 a3 a4) := by
  intro a1 a2 a3 a4 _ h
  refine (major_2D (mkQ 0x2D#6 a1 a2 a3 a4 1) (fMajor_mkQ ..)).trans ?_
  unfold decodeWaito
  rw [fMinorQ_mkQ]
  change (.ok (.barw (fD (mkQ 0x2D#6 a1 a2 a3 a4 1)) (fA (mkQ 0x2D#6 a1 a2 a3 a4 1)) (fB (mkQ 0x2D#6 a1 a2 a3 a4 1)) (fC (mkQ 0x2D#6 a1 a2 a3 a4 1))) : Except DecodeError Instr) = _
  simp only [fD_mkQ, fA_mkQ, fB_mkQ, fC_mkQ]
theorem bara : ∀ a1 a2 a3, Statement (.bara a1 a2 a3) := by
  intro a1 a2 a3 _ h
  refine (major_2D (mkQ 0x2D#6 a1 a2 a3 0 2) (fMajor_mkQ ..)).trans ?_
  unfold decodeWaito
  rw [fMinorQ_mkQ]
  change (keepIf (fC (mkQ 0x2D#6 a1 a2 a3 0 2) == 0) .nonzeroField (.bara (fD (mkQ 0x2D#6 a1 a2 a3 0 2)) (fA (mkQ 0x2D#6 a1 a2 a3 0 2)) (fB (mkQ 0x2D#6 a1 a2 a3 0 2))) : Except DecodeError Instr) = _
  simp only [fD_mkQ, fA_mkQ, fB_mkQ, fC_mkQ]
  rfl
theorem baraw : ∀ a1 a2 a3, Statement (.baraw a1 a2 a3) := by
  intro a1 a2 a3 _ h
  refine (major_2D (mkQ 0x2D#6 a1 a2 a3 0 3) (fMajor_mkQ ..)).trans ?_
  unfold decodeWaito
  rw [fMinorQ_mkQ]
  change (keepIf (fC (mkQ 0x2D#6 a1 a2 a3 0 3) == 0) .nonzeroField (.baraw (fD (mkQ 0x2D#6 a1 a2 a3 0 3)) (fA (mkQ 0x2D#6 a1 a2 a3 0 3)) (fB (mkQ 0x2D#6 a1 a2 a3 0 3))) : Except DecodeError Instr) = _
  simp only [fD_mkQ, fA_mkQ, fB_mkQ, fC_mkQ]
  rfl
theorem barexp : ∀ a1 a2 a3 a4, Statement (.barexp a1 a2 a3 a4) := by
  intro a1 a2 a3 a4 _ h
  refine (major_2D (mkQ 0x2D#6 a1 a2 a3 a4 4) (fMajor_mkQ ..)).trans ?_
  unfold decodeWaito
  rw [fMinorQ_mkQ]
  change (.ok (.barexp (fD (mkQ 0x2D#6 a1 a2 a3 a4 4)) (fA (mkQ 0x2D#6 a1 a2 a3 a4 4)) (fB (mkQ 0x2D#6 a1 a2 a3 a4 4)) (fC (mkQ 0x2D#6 a1 a2 a3 a4 4))) : Except DecodeError Instr) = _
  simp only [fD_mkQ, fA_mkQ, fB_mkQ, fC_mkQ]
theorem qsend : ∀ a1 a2 a3 a4, Statement (.qsend a1 a2 a3 a4) := by
  intro a1 a2 a3 a4 _ h
  refine (major_2D (mkQ 0x2D#6 a1 a2 a3 a4 5) (fMajor_mkQ ..)).trans ?_
  unfold decodeWaito
  rw [fMinorQ_mkQ]
  change (.ok (.qsend (fD (mkQ 0x2D#6 a1 a2 a3 a4 5)) (fA (mkQ 0x2D#6 a1 a2 a3 a4 5)) (fB (mkQ 0x2D#6 a1 a2 a3 a4 5)) (fC (mkQ 0x2D#6 a1 a2 a3 a4 5))) : Except DecodeError Instr) = _
  simp only [fD_mkQ, fA_mkQ, fB_mkQ, fC_mkQ]
theorem qrecv : ∀ a1 a2 a3 a4, Statement (.qrecv a1 a2 a3 a4) := by
  intro a1 a2 a3 a4 _ h
  refine (major_2D (mkQ 0x2D#6 a1 a2 a3 a4 6) (fMajor_mkQ ..)).trans ?_
  unfold decodeWaito
  rw [fMinorQ_mkQ]
  change (.ok (.qrecv (fD (mkQ 0x2D#6 a1 a2 a3 a4 6)) (fA (mkQ 0x2D#6 a1 a2 a3 a4 6)) (fB (mkQ 0x2D#6 a1 a2 a3 a4 6)) (fC (mkQ 0x2D#6 a1 a2 a3 a4 6))) : Except DecodeError Instr) = _
  simp only [fD_mkQ, fA_mkQ, fB_mkQ, fC_mkQ]
theorem taskadd : ∀ a1 a2 a3 a4, Statement (.taskadd a1 a2 a3 a4) := by
  intro a1 a2 a3 a4 _ h
  refine (major_2D (mkQ 0x2D#6 a1 a2 a3 a4 7) (fMajor_mkQ ..)).trans ?_
  unfold decodeWaito
  rw [fMinorQ_mkQ]
  change (.ok (.taskadd (fD (mkQ 0x2D#6 a1 a2 a3 a4 7)) (fA (mkQ 0x2D#6 a1 a2 a3 a4 7)) (fB (mkQ 0x2D#6 a1 a2 a3 a4 7)) (fC (mkQ 0x2D#6 a1 a2 a3 a4 7))) : Except DecodeError Instr) = _
  simp only [fD_mkQ, fA_mkQ, fB_mkQ, fC_mkQ]
theorem tasktake : ∀ a1 a2 a3 a4, Statement (.tasktake a1 a2 a3 a4) := by
  intro a1 a2 a3 a4 _ h
  refine (major_2D (mkQ 0x2D#6 a1 a2 a3 a4 8) (fMajor_mkQ ..)).trans ?_
  unfold decodeWaito
  rw [fMinorQ_mkQ]
  change (.ok (.tasktake (fD (mkQ 0x2D#6 a1 a2 a3 a4 8)) (fA (mkQ 0x2D#6 a1 a2 a3 a4 8)) (fB (mkQ 0x2D#6 a1 a2 a3 a4 8)) (fC (mkQ 0x2D#6 a1 a2 a3 a4 8))) : Except DecodeError Instr) = _
  simp only [fD_mkQ, fA_mkQ, fB_mkQ, fC_mkQ]
theorem tasksteal : ∀ a1 a2 a3 a4, Statement (.tasksteal a1 a2 a3 a4) := by
  intro a1 a2 a3 a4 _ h
  refine (major_2D (mkQ 0x2D#6 a1 a2 a3 a4 9) (fMajor_mkQ ..)).trans ?_
  unfold decodeWaito
  rw [fMinorQ_mkQ]
  change (.ok (.tasksteal (fD (mkQ 0x2D#6 a1 a2 a3 a4 9)) (fA (mkQ 0x2D#6 a1 a2 a3 a4 9)) (fB (mkQ 0x2D#6 a1 a2 a3 a4 9)) (fC (mkQ 0x2D#6 a1 a2 a3 a4 9))) : Except DecodeError Instr) = _
  simp only [fD_mkQ, fA_mkQ, fB_mkQ, fC_mkQ]
theorem apwait : ∀ a1 a2 a3 a4, Statement (.apwait a1 a2 a3 a4) := by
  intro a1 a2 a3 a4 _ h
  refine (major_2D (mkQ 0x2D#6 a1 a2 a3 a4 10) (fMajor_mkQ ..)).trans ?_
  unfold decodeWaito
  rw [fMinorQ_mkQ]
  change (.ok (.apwait (fD (mkQ 0x2D#6 a1 a2 a3 a4 10)) (fA (mkQ 0x2D#6 a1 a2 a3 a4 10)) (fB (mkQ 0x2D#6 a1 a2 a3 a4 10)) (fC (mkQ 0x2D#6 a1 a2 a3 a4 10))) : Except DecodeError Instr) = _
  simp only [fD_mkQ, fA_mkQ, fB_mkQ, fC_mkQ]
theorem cwait : ∀ a1 a2 a3, Statement (.cwait a1 a2 a3) := by
  intro a1 a2 a3 _ h
  refine (major_2D (mkQ 0x2D#6 a1 a2 0 a3 11) (fMajor_mkQ ..)).trans ?_
  unfold decodeWaito
  rw [fMinorQ_mkQ]
  change (keepIf (fB (mkQ 0x2D#6 a1 a2 0 a3 11) == 0) .nonzeroField (.cwait (fD (mkQ 0x2D#6 a1 a2 0 a3 11)) (fA (mkQ 0x2D#6 a1 a2 0 a3 11)) (fC (mkQ 0x2D#6 a1 a2 0 a3 11))) : Except DecodeError Instr) = _
  simp only [fD_mkQ, fA_mkQ, fB_mkQ, fC_mkQ]
  rfl
theorem launch : ∀ a1 a2 a3 a4, Statement (.launch a1 a2 a3 a4) := by
  intro a1 a2 a3 a4 _ h
  refine (major_2E (mkQ 0x2E#6 a1 a2 a3 a4 0) (fMajor_mkQ ..)).trans ?_
  unfold decodeLaunch
  rw [fMinorQ_mkQ]
  change (.ok (.launch (fD (mkQ 0x2E#6 a1 a2 a3 a4 0)) (fA (mkQ 0x2E#6 a1 a2 a3 a4 0)) (fB (mkQ 0x2E#6 a1 a2 a3 a4 0)) (fC (mkQ 0x2E#6 a1 a2 a3 a4 0))) : Except DecodeError Instr) = _
  simp only [fD_mkQ, fA_mkQ, fB_mkQ, fC_mkQ]
theorem lwait : ∀ a1 a2 a3, Statement (.lwait a1 a2 a3) := by
  intro a1 a2 a3 _ h
  refine (major_2E (mkQ 0x2E#6 a1 a2 a3 0 1) (fMajor_mkQ ..)).trans ?_
  unfold decodeLaunch
  rw [fMinorQ_mkQ]
  change (keepIf (fC (mkQ 0x2E#6 a1 a2 a3 0 1) == 0) .nonzeroField (.lwait (fD (mkQ 0x2E#6 a1 a2 a3 0 1)) (fA (mkQ 0x2E#6 a1 a2 a3 0 1)) (fB (mkQ 0x2E#6 a1 a2 a3 0 1))) : Except DecodeError Instr) = _
  simp only [fD_mkQ, fA_mkQ, fB_mkQ, fC_mkQ]
  rfl
theorem lcancel : ∀ a1 a2 a3, Statement (.lcancel a1 a2 a3) := by
  intro a1 a2 a3 _ h
  refine (major_2E (mkQ 0x2E#6 a1 a2 a3 0 2) (fMajor_mkQ ..)).trans ?_
  unfold decodeLaunch
  rw [fMinorQ_mkQ]
  change (keepIf (fC (mkQ 0x2E#6 a1 a2 a3 0 2) == 0) .nonzeroField (.lcancel (fD (mkQ 0x2E#6 a1 a2 a3 0 2)) (fA (mkQ 0x2E#6 a1 a2 a3 0 2)) (fB (mkQ 0x2E#6 a1 a2 a3 0 2))) : Except DecodeError Instr) = _
  simp only [fD_mkQ, fA_mkQ, fB_mkQ, fC_mkQ]
  rfl

end Sys2Proof.Laws.Round
end

