-- ==== Sys2Proof/Tests/Slice0.lean ====
section
/-! SUPPORT. Tests: the checks of WellFormed, words of the specification's listings, one step of instructions on the specification's own examples or values worked out by hand from its rules, and for each statement with hypotheses a state and operands that meet them. -/

namespace Sys2Proof.Tests
open Sys2Proof Machine
set_option Elab.async false
set_option maxRecDepth 4000

/-! ### The checks of WellFormed -/

/-- For each check a term that it refuses: a level 5 to 7, a format 12 to 15, a nibble format in a mode without it, a segment past v31, no stream register, and events of units that do not exist. -/
noncomputable def illFormed : List Instr :=
  [.turn 1 2 3 4 5, .turnall 1 2 7, .vld 1 2 0 12, .vst 1 2 0 15, .vglk 1 2 3 12, .vscc 1 2 3 13, .vlds 1 2 0 5, .vldx 1 2 3 8, .vsts 1 2 0 5, .vstx 1 2 3 14,
   .vsegld2 31 2 0 1, .vsegld8 25 2 0 1, .vsegst3 30 2 0 1, .vsegst2 1 2 0 8, .sbind 27 1, .sunbind 0, .spos 1 27,
   .doorbellWrite 2 0, .doorbellWrite 0 256, .modctlReset 8 0, .registerWrite 2 0 0, .bar2HostRead 2 0 8, .dieWake 24, .flitCheckFail 48, .routeEntryRead 0 262144, .routeUpdate 262144 0,
   .strandStart 384, .copyRetire 0 8, .streamFill 1 4, .relayRoundComplete 0 256, .dbgctlHalt 0 8]

theorem test_ill_formed : illFormed.all (fun i => !i.wf) = true := by decide +kernel

/-- At the other side of each bound. -/
noncomputable def wellFormed : List Instr :=
  [.turn 1 2 3 4 4, .vld 1 2 0 11, .vld 1 2 0 5, .vlds 1 2 0 4, .vsegld2 30 2 0 1, .vsegld8 24 2 0 1, .sbind 28 1, .spos 1 31, .doorbellWrite 1 255, .modctlReset 7 0, .dieWake 23,
   .flitCheckFail 47, .strandStart 383, .copyRetire 383 7, .streamFill 1 3, .relayRoundComplete 0 255]

theorem test_well_formed : wellFormed.all Instr.wf = true := by decide +kernel

/-- Every word of the list reads as its instruction. -/
noncomputable def readsAll (l : List (InsnWord × Instr)) : Bool := l.all (fun p => (decodeWord p.1).toOption == some p.2)

/-- Every word of the list encodes its instruction. -/
def writesAll (l : List (InsnWord × Instr)) : Bool := l.all (fun p => encode p.2 == p.1)

/-- Words of R178, R307 and R166: `nop`, `trap 5`, `brk 0`, `eret`, `yield`, `halt`, `tlbinv x3, x4`, `tlbinvall`, the marker of words 2 and 16. -/
def sysWords : List (InsnWord × Instr) :=
  [(0x00000020, .nop), (0x00000045, .trap 5), (0x00000060, .brk 0), (0x00000080, .eret), (0x000000A0, .yield), (0x000000C0, .halt),
   (0x00032100, .tlbinv 3 4), (0x00000120, .tlbinvall), (0x03E00102, .lineMarker 0x81)]

/-- Words of the worked listings of the assembler and scalar chapters. -/
def scalarWords : List (InsnWord × Instr) :=
  [(0x04A52800, .add 5 5 5), (0x08A00064, .addi 5 0 100), (0x08A5FFFF, .addi 5 5 0xFFFF), (0x2CA63800, .mul 5 6 7), (0x2CA63860, .div 5 6 7),
   (0x20A60003, .slli 5 6 3), (0x20A60083, .srai 5 6 3), (0x24A00012, .lui 5 0x12), (0x30DE6010, .ld 6 30 0x010), (0x34DE7FF8, .sd 6 30 0x1FF8),
   (0x36464000, .sw 18 6 0), (0x38A63800, .fadd 5 6 7), (0x3CA63A00, .fma 5 6 7 8), (0x40A00002, .beq 5 0 2), (0x40A67FFF, .bge 5 6 0x1FFF),
   (0x48000002, .call 2), (0x4C1F0000, .jr 31)]

/-- Words of the CSR listing (R196) and of the vector chapter's table. -/
noncomputable def vectorWords : List (InsnWord × Instr) :=
  [(0x50A00000, .csrr 5 0), (0x50C02000, .csrr 6 0x200), (0x50052001, .csrw 0 5 0x200), (0x50050011, .csrw 0 5 1), (0x50C70602, .csrs 6 7 0x060),
   (0x50130024, .csrwi 0 0x13 2), (0x61A20000, .setvl 13 2), (0x60000061, .settypei 0 1), (0x6C200180, .vid 1), (0x6C210804, .vaddVx 1 1 1),
   (0x6C642801, .vaddSatVv 3 4 5), (0x6C410820, .vmulVv 2 1 1), (0x6C221878, .vsllVi 1 2 3), (0x642201B0, .vfnarrow 1 2),
   (0x64221800, .vfaddVv 1 2 3), (0x64221824, .vfmulVx 1 2 3), (0x68221900, .vfma 1 2 3 4), (0x68A18083, .vfmaVx 5 1 16 2),
   (0x6C206194, .vbcastVx 1 12), (0x64210190, .vfcvtIf 1 1), (0x64C42910, .vfneVv 6 4 5),
   (0x70A63A00, .vslideup 5 6 7 8), (0x72056004, .vmvxs 16 5 12), (0x74A60040, .vmcnt 5 6), (0x79C20030, .vredsum 14 2)]

/-- Words of the memory chapters: vector accesses, plane stores, streams, ordering, elements of R243 to R247, and copies. -/
noncomputable def memoryWords : List (InsnWord × Instr) :=
  [(0x80250000, .vld 1 5 0 0), (0x80460090, .vlds 2 6 0 1), (0x80652020, .vldx 3 5 4 0), (0x80254980, .vld 1 5 9 3 ),
   (0x81050031, .vsegld3 8 5 0 0), (0x84250000, .vst 1 5 0 0), (0x84911020, .vstx 4 17 2 0), (0x84460040, .plsta 2 6), (0x84670050, .plstb 3 7), (0x846704D0, .plstbDpw8 3 7),
   (0x88251520, .vglk 1 5 2 10), (0x88251521, .vscc 1 5 2 10), (0x88E84D82, .vapnd 7 8 9), (0x8F850000, .sbind 28 5), (0x8F800020, .sunbind 28), (0x8CDC0040, .spos 6 28),
   (0x90A63A02, .turn 5 6 7 8 2), (0x90A0020B, .turnall 5 8 3), (0x90A60210, .fence 5 6 8), (0x90A00218, .publish 5 8),
   (0x94A63800, .copy 5 6 7), (0x94A63A01, .copyb 5 6 7 8), (0x94A63A02, .putq 5 6 7 8)]

/-- Words of R278 and R308. -/
noncomputable def unitWords : List (InsnWord × Instr) :=
  [(0xA00531C0, .settile 5 6 7), (0xA0600001, .tzero 3), (0xA00531C2, .tmac 0 5 6 7), (0xA02531C3, .tmacw 1 5 6 7), (0xA0444004, .tmovr 2 4 8), (0xA0444005, .tmovc 2 4 8),
   (0xA0453006, .tld 2 5 6), (0xA0453007, .tst 2 5 6), (0xA0220008, .tadd 1 2), (0xA4E53000, .sigcfg 7 5 6), (0xA4000001, .siginit), (0xA4010002, .sigupd 1),
   (0xA4050003, .sigjoin 5), (0xA4050004, .sigjoinl 5), (0xA4000005, .siglog), (0xA4050006, .sigld 5), (0xA40A0007, .sigst 10),
   (0xB0A6F0FF, .waitc 5 6 15 0 15 15), (0xB4A63A00, .waitw 5 6 7 8), (0xB4A63A01, .barw 5 6 7 8), (0xB4A63802, .bara 5 6 7), (0xB62F2803, .baraw 17 15 5),
   (0xB4A63A04, .barexp 5 6 7 8), (0xB4A63A05, .qsend 5 6 7 8), (0xB4A63A06, .qrecv 5 6 7 8), (0xB4A63A07, .taskadd 5 6 7 8), (0xB4A63A08, .tasktake 5 6 7 8),
   (0xB4A63A09, .tasksteal 5 6 7 8), (0xB4A63A0A, .apwait 5 6 7 8), (0xB4A6020B, .cwait 5 6 8), (0xB8A63A00, .launch 5 6 7 8), (0xB8A63801, .lwait 5 6 7), (0xB8A63802, .lcancel 5 6 7)]

theorem test_decode_sys : readsAll sysWords = true := by decide +kernel
theorem test_decode_scalar : readsAll scalarWords = true := by decide +kernel
theorem test_decode_vector : readsAll vectorWords = true := by decide +kernel
theorem test_decode_memory : readsAll memoryWords = true := by decide +kernel
theorem test_decode_units : readsAll unitWords = true := by decide +kernel
theorem test_encode_words : (writesAll sysWords && writesAll scalarWords && writesAll vectorWords && writesAll memoryWords && writesAll unitWords) = true := by decide +kernel

/-- The reserved words that the encoding, scalar, vector and unit chapters name. -/
theorem test_decode_reserved :
    ([0x00000000, 0x54000000, 0x20A500C3, 0x6422180C, 0x000000E0, 0x30DEE010, 0x04A63801, 0x64221801, 0x74221804, 0xA0600041, 0xB4A63A02] : List InsnWord).all
      (fun w => (decodeWord w).toOption == none) = true := by decide +kernel
/-! ### Small states -/

/-- A running user strand in slot 0 of core 0 of a started module, with four lanes. -/
def base : State := { State.reset with
  cur := { Strand.reset with
    id := { Ident.reset with sid := 1, save := 0xF000000004000000, lid := 7, lanes := 1 }
    run := .running, pc := 0x800000 }
  front := { Front.reset with modstat := 5, linkUp := Vector.replicate 2 true, phase := .done }
  nextSid := 2 }

/-- `base` with scalar registers set. -/
def withX (s : State) (l : List (Reg × Word)) : State := l.foldl (fun s e => s.wx e.1 e.2) s

/-- A supervisor strand. -/
def asSup (s : State) : State := s.setC { s.cur.c with sstatus := s.cur.c.sstatus ||| 1 }

/-- EW code (0: 16, 1: 32, 2: 64 bits) and VL. -/
def withV (s : State) (ew vl : Nat) : State := s.setC { s.cur.c with vtype := BitVec.ofNat 64 ew, vl := BitVec.ofNat 64 vl }

/-- Elements of a vector register from 0 on. -/
def withE (s : State) (r : Reg) (l : List Nat) : State := { s with cur := s.cur.setElems r ((upto 0 l.length).zip l) }

/-- What holds of the state that a meaning answers. -/
def after (o : Out) (p : State → Bool) : Bool := match o with | .next t => p t | _ => false

/-- x[d] after a meaning that goes on to the next word. -/
def result (o : Out) (d : Reg) (v : Word) : Bool := after o (fun t => t.rx d == v && t.cur.pc == 0x800004)

/-- Elements of v[d] after a meaning that goes on, with FCSR. -/
def elems (o : Out) (d : Reg) (l : List Nat) (fcsr : Word) : Bool :=
  after o (fun t => (upto 0 l.length).map (t.cur.elem d) == l && t.cur.c.fcsr == fcsr && t.cur.pc == 0x800004)

/-- The cause and TVAL of a trap. -/
def trapsWith (o : Out) (cause : BitVec 10) (tval : Word) : Bool :=
  after o (fun t => field t.cur.c.tcause 0 10 == cause.toNat && t.cur.c.tval == tval && t.cur.nest)
/-! ### Scalar instructions -/

/-- x5 = −7, x6 = 2. -/
def s1 : State := withX base [(5, -7), (6, 2), (7, 0x8000000000000000), (8, -1), (9, 0x7FC01234), (10, 0x80000001), (11, 0x7F800000)]

/-- R183: quotients are truncated toward zero, the remainder takes the dividend's sign; the high products. -/
theorem test_divide : (result (exec (.div 4 5 6) s1) 4 (-3) && result (exec (.rem 4 5 6) s1) 4 (-1) && result (exec (.divu 4 8 6) s1) 4 0x7FFFFFFFFFFFFFFF &&
  result (exec (.remu 4 8 6) s1) 4 1 && result (exec (.mulh 4 8 8) s1) 4 0 && result (exec (.mulh 4 8 6) s1) 4 (-1) && result (exec (.mulhu 4 8 6) s1) 4 1) = true := by decide +kernel
/-- R184. -/
theorem test_divide_borderline : (result (exec (.div 4 5 0) s1) 4 (-1) && result (exec (.rem 4 5 0) s1) 4 (-7) && result (exec (.div 4 7 8) s1) 4 0x8000000000000000 &&
  result (exec (.rem 4 7 8) s1) 4 0 && result (exec (.divu 4 7 8) s1) 4 0) = true := by decide +kernel
/-- R179: 64-bit wrap, arithmetic shift, comparisons of both kinds, counts. -/
theorem test_alu : (result (exec (.add 4 8 8) s1) 4 (-2) && result (exec (.sub 4 0 7) s1) 4 0x8000000000000000 && result (exec (.sra 4 5 6) s1) 4 (-2) &&
  result (exec (.slt 4 5 6) s1) 4 1 && result (exec (.sltu 4 5 6) s1) 4 0 && result (exec (.minu 4 5 6) s1) 4 2 && result (exec (.max 4 5 6) s1) 4 2 &&
  result (exec (.clz 4 6) s1) 4 62 && result (exec (.ctz 4 7) s1) 4 63 && result (exec (.popc 4 8) s1) 4 64 && result (exec (.rol 4 7 6) s1) 4 2 &&
  result (exec (.andn 4 8 5) s1) 4 6 && result (exec (.sextw 4 10) s1) 4 0xFFFFFFFF80000001) = true := by decide +kernel
/-- R177: a write of x0 is discarded. -/
theorem test_x0 : result (exec (.addi 0 5 3) s1) 0 0 = true := by decide +kernel
/-- R180 to R182: sign extension of immediates. -/
theorem test_immediates : (result (exec (.addi 4 6 0xFFFF) s1) 4 1 && result (exec (.sltiu 4 6 0xFFFF) s1) 4 1 && result (exec (.andi 4 8 0x8000) s1) 4 0x8000 &&
  result (exec (.lui 4 0x1FFFFF) s1) 4 0xFFFFFFFFFFFF0000 && result (exec (.addpc 4 1) s1) 4 0x810000) = true := by decide +kernel
/-- R188, R189, R190: FNEG and FCLASS leave the pattern of a NaN alone; the class words. -/
theorem test_float_moves : (result (exec (.fneg 4 9) s1) 4 0xFFC01234 && result (exec (.fabs 4 10) s1) 4 1 && result (exec (.fclass 4 10) s1) 4 0x11 &&
  result (exec (.fclass 4 11) s1) 4 0xFF03 && result (exec (.fclass 4 9) s1) 4 0xFF04) = true := by decide +kernel
/-- R191: FMA rounds once: (1 + 2^−23)² − (1 + 2^−22) is 2^−46, which two roundings lose. -/
theorem test_fma : result (exec (.fms 4 5 5 6) (withX base [(5, 0x3F800001), (6, 0x3F800002)])) 4 0x28800000 = true := by decide +kernel
/-- R114, R115: 2^24 + 1 ties to even with NX; a division by zero sets DZ and is exact. -/
theorem test_float_flags : (after (exec (.fadd 4 5 6) (withX base [(5, 0x4B800000), (6, 0x3F800000)])) (fun t => t.rx 4 == 0x4B800000 && t.cur.c.fcsr == 1) &&
  after (exec (.fdiv 4 6 0) (withX base [(6, 0x3F800000)])) (fun t => t.rx 4 == 0x7F800000 && t.cur.c.fcsr == 8)) = true := by decide +kernel

/-- R192, R152: branches count in 64-byte blocks from the branch's own block. -/
theorem test_branch : (after (exec (.beq 0 0 2) base) (fun t => t.cur.pc == 0x800080) && after (exec (.bne 0 0 2) base) (fun t => t.cur.pc == 0x800004) &&
  after (exec (.bltu 6 5 0x1FFF) s1) (fun t => t.cur.pc == 0x7FFFC0) && after (exec (.blt 6 5 2) s1) (fun t => t.cur.pc == 0x800004)) = true := by decide +kernel
/-- R193, R194: CALL links the next block; a register target that is no multiple of 64 traps and leaves x31. -/
theorem test_call : (after (exec (.call 4) base) (fun t => t.cur.pc == 0x800100 && t.rx 31 == 0x800040) &&
  after (exec (.callr 31) (withX base [(31, 0x800080)])) (fun t => t.cur.pc == 0x800080 && t.rx 31 == 0x800040) &&
  after (exec (.callr 31) (withX base [(31, 0x800081)])) (fun t => t.rx 31 == 0x800081 && field t.cur.c.tcause 0 10 == 0x010 && t.cur.c.tval == 0x800081)) = true := by decide +kernel

/-- x6 = 0xE0…0010, and the doubleword 0x8877665544332211 stands at offset 0x10 of the scratchpad. -/
def spad : State := withX ({ base with mem := Memory.setBytes [] (spadKey 0 0x10) (toBytes 8 0x8877665544332211) }) [(6, 0xE000000000000010), (7, 0xABCD)]

/-- R186, R187, R5: little-endian loads, extended as the mnemonic says. -/
theorem test_loads : (result (exec (.ld 4 6 0) spad) 4 0x8877665544332211 && result (exec (.lb 4 6 7) spad) 4 0xFFFFFFFFFFFFFF88 && result (exec (.lbu 4 6 7) spad) 4 0x88 &&
  result (exec (.lh 4 6 6) spad) 4 0xFFFFFFFFFFFF8877 && result (exec (.lhu 4 6 2) spad) 4 0x4433 && result (exec (.lw 4 6 4) spad) 4 0xFFFFFFFF88776655 &&
  result (exec (.lwu 4 6 4) spad) 4 0x88776655 && trapsWith (exec (.lw 4 6 2) spad) 0x085 0xE000000000000012) = true := by decide +kernel
/-- R83, R187: a store waits in the outbound buffer: its mask and its data, with memory as it was. -/
theorem test_store : (after (exec (.sh 7 6 2) spad) (fun t => t.mem == spad.mem && t.core.outb.map (fun e => (e.line, e.mask, e.data)) ==
    [(spadKey 0 0 / 64, (0xC0000 : BitVec 64), (0xABCD#512 <<< 144))] && t.cur.wlog == [⟨spadKey 0 0, 64, none, [⟨spadKey 0 0 / 64, spadKey 0 0 / 64 + 1, none⟩]⟩]) &&
  trapsWith (exec (.sd 7 6 4) spad) 0x085 0xE000000000000014) = true := by decide +kernel
/-- R95, R88: the un-turned byte that the strand itself wrote is refused to it, cause 0x090. -/
theorem test_unturned : trapsWith (exec (.ld 4 6 0) { spad with tags := [(spadKey 0 0 / 64, ⟨6, 0, 1, 0⟩)] }) 0x090 0xE000000000000010 = true := by decide +kernel

/-! ### Control registers, traps, the SYS instructions -/

/-- R196, R171, R163: a write returns the old value; a supervisor register is refused to a user strand, an unassigned number to every one. -/
theorem test_csr : (after (exec (.csrw 4 5 0x040) s1) (fun t => t.cur.c.widbase == -7 && t.rx 4 == 0) &&
  trapsWith (exec (.csrr 4 0x105) s1) 0x002 0x50801050 && trapsWith (exec (.csrr 4 0x300) s1) 0x001 0x50803000 &&
  after (exec (.csrs 4 6 0x060) (s1.setC { s1.cur.c with fcsr := 1 })) (fun t => t.cur.c.fcsr == 3 && t.rx 4 == 1)) = true := by decide +kernel
/-- R173, R174: VL is trimmed when EW grows; SETVL grants at most VLMAX (R44: four lanes at EW 32 hold 8). -/
theorem test_vl : (after (exec (.settypei 4 2) (withV base 0 16)) (fun t => t.cur.c.vl == 4 && t.rx 4 == 4) &&
  after (exec (.setvl 4 5) (withX (withV base 1 0) [(5, 100)])) (fun t => t.cur.c.vl == 8 && t.rx 4 == 8) && after (exec (.setvlmax 4) (withV base 0 0)) (fun t => t.cur.c.vl == 16)) = true := by decide +kernel
/-- R386, R393: a software trap: cause, TVAL, EPC the next word, PRIV and NEST, and the frame's first register at 0x40 of the save area. -/
theorem test_trap : after (exec (.trap 5) (withX base [(12, 0x1122)])) (fun t => t.cur.c.tcause == 0x0F0 && t.cur.c.tval == 5 && t.cur.c.epc == 0x800004 && t.cur.sup && t.cur.nest &&
  t.byte 0x4000040 == 0x22 && t.byte 0x4000041 == 0x11) = true := by decide +kernel
/-- R387: the return takes the frame back and goes on at EPC in PPRIV. -/
theorem test_eret : after (exec .eret ((asSup base).setC { base.cur.c with sstatus := 5, epc := 0x900000 } |>.setBytes 0x4000040 [0x22, 0x11]))
  (fun t => t.cur.pc == 0x900000 && t.rx 12 == 0x1122 && !t.cur.sup && !t.cur.nest) = true := by decide +kernel
/-- R386: a trap in a handler loses the strand with cause 0x3F1. -/
theorem test_nested_trap : after (exec (.trap 5) (base.setC { base.cur.c with sstatus := 5 })) (fun t => t.cur.run == .lost 0x3F1) = true := by decide +kernel
/-- R163: ERET of a user strand is cause 0x002, with the word as TVAL. -/
theorem test_privilege : (trapsWith (exec .eret base) 0x002 0x80 && trapsWith (exec .eret (asSup base)) 0x006 0x80 && trapsWith (exec (.tlbinv 3 4) base) 0x002 0x32100) = true := by decide +kernel
/-- R66: HALT ends the strand. -/
theorem test_halt : after (exec .halt base) (fun t => t.cur.run == .ended) = true := by decide +kernel

/-! ### Vectors -/

/-- EW 16, VL 4: v2 = 0xFFFF, 1, 0x8000, 5; v3 = 1, 2, 0xFFFF, 0x7FFF; v4 the mask 1, 0, 1, 0. -/
def v1 : State := withE (withE (withE (withV s1 0 4) 2 [0xFFFF, 1, 0x8000, 5]) 3 [1, 2, 0xFFFF, 0x7FFF]) 4 [1, 0, 1, 0]

/-- R211: wrapping, saturating and high-half results at 16 bits. -/
theorem test_vint : (elems (exec (.vaddVv 1 2 3) v1) 1 [0, 3, 0x7FFF, 0x8004] 0 && elems (exec (.vaddSatVv 1 2 3) v1) 1 [0, 3, 0x8000, 0x7FFF] 0 &&
  elems (exec (.vaddUsatVv 1 2 3) v1) 1 [0xFFFF, 3, 0xFFFF, 0x8004] 0 && elems (exec (.vsubUsatVv 1 2 3) v1) 1 [0xFFFE, 0, 0, 0] 0 &&
  elems (exec (.vmulhVv 1 2 3) v1) 1 [0xFFFF, 0, 0, 2] 0 && elems (exec (.vmulhUVv 1 2 3) v1) 1 [0, 0, 0x7FFF, 2] 0 &&
  elems (exec (.vsraVi 1 2 17) v1) 1 [0xFFFF, 0, 0xC000, 2] 0 && elems (exec (.vltVv 1 2 3) v1) 1 [1, 1, 1, 1] 0 && elems (exec (.vltuVv 1 2 3) v1) 1 [0, 1, 1, 1] 0) = true := by decide +kernel
/-- R202: a masked instruction leaves inactive elements; VX takes the low 16 bits of the register. -/
theorem test_mask : (elems (exec (.vaddVx 2 2 8) (v1.setC { v1.cur.c with vm := 0x24 })) 2 [0xFFFE, 1, 0x7FFF, 5] 0) = true := by decide +kernel
/-- R44: at EW 16 and four lanes element 5 stands in lane 1, slot 1. -/
theorem test_placement : ((withE base 2 [0, 0, 0, 0, 0, 0xABCD]).cur.vr 2 == (0xABCD#8192 <<< 80)) = true := by decide +kernel
/-- R213, R214: mask counts, ranks, slides, gather, compress, moves. -/
theorem test_permute : (result (exec (.vmcnt 4 4) v1) 4 2 && result (exec (.vmlead 5 4) v1) 5 0 && elems (exec (.vmrank 1 4) v1) 1 [0, 1, 1, 2] 0 &&
  elems (exec (.vslideup 1 2 6 8) v1) 1 [0xFFFF, 0xFFFF, 0xFFFF, 1] 0 && elems (exec (.vslidedn 1 2 6 8) v1) 1 [0x8000, 5, 0xFFFF, 0xFFFF] 0 &&
  elems (exec (.vgather 1 2 3 0) v1) 1 [1, 0x8000, 0, 0] 0 && elems (exec (.vcompress 1 2) (v1.setC { v1.cur.c with vm := 0x24 })) 1 [0xFFFF, 0x8000] 0 &&
  result (exec (.vmvxs 4 2 6) v1) 4 0xFFFFFFFFFFFF8000) = true := by decide +kernel
/-- R129: 2^24 + 1 + 1 + 1 + 1 in FP32 by the tree: (2^24 + 1 = 2^24) + (1 + 1), then + 1: 16,777,218 + 1 ties to 16,777,220, with NX. -/
theorem test_fredsum : after (exec (.vfredsum 4 2) (withE (withV base 1 5) 2 [0x4B800000, 0x3F800000, 0x3F800000, 0x3F800000, 0x3F800000])) (fun t => t.rx 4 == 0x4B800002 && t.cur.c.fcsr == 1) = true := by decide +kernel
/-- R129, R215: integer reductions, sign-extended. -/
theorem test_redsum : (result (exec (.vredsum 4 2) v1) 4 0xFFFFFFFFFFFF8005 && result (exec (.vredmax 4 2) v1) 4 5 && result (exec (.vredmin 4 2) v1) 4 0xFFFFFFFFFFFF8000) = true := by decide +kernel
/-- R208: BF16 elements at EW 16: 1.0 + 2.0 = 3.0; at EW 64 cause 0x100. -/
theorem test_vf : (elems (exec (.vfaddVv 1 2 3) (withE (withE (withV base 0 1) 2 [0x3F80]) 3 [0x4000])) 1 [0x4040] 0 &&
  trapsWith (exec (.vfaddVv 1 2 3) (withV base 2 1)) 0x100 2 && elems (exec (.vfcvtFi 1 2) (withE (withV base 0 1) 2 [0xC020])) 1 [0xFFFE] 1) = true := by decide +kernel

/-! ### Number formats -/

/-- The examples of R119's E2M1 conversions: value, code, flags. -/
theorem test_e2m1 : ((E2M1.convertSat (.fin false 5 (-1)) == (4, fNX)) && (E2M1.convertSat (.fin false 5 0) == (6, fNX)) && (E2M1.convertSat (.fin false 1 (-2)) == (0, fNX ||| fUF)) &&
  (E2M1.convertSat (.fin false 3 (-2)) == (2, fNX)) && (E2M1.convertSat (.fin true 9 0) == (15, fNX ||| fOF))) = true := by decide +kernel
/-- R122's example: 1,000 and 3.3 in E4M3 under one scale, and what a load gives. -/
theorem test_block : (let q := blockStore 3 [.fin false 1000 0, .fin false 0xD33333 (-22)]
  q.1 == 0x81 && q.2.1 == [0x78, 0x35] && scaledLoad 3 32 0x81 0x78 == 0x44800000 && scaledLoad 3 32 0x81 0x35 == 0x40500000) = true := by decide +kernel
/-- R128's example: the A-group of 3.0, −0.7, 0.1, its plane words, and the group value 77/64. -/
theorem test_group : (let xs : List Fp := .fin false 3 0 :: .fin true 0xB33333 (-24) :: .fin false 0xCCCCCD (-27) :: List.replicate 29 (.fin false 0 0)
  let g := planeGroup 8 xs
  g.1 == 0x80 && g.2.1.take 3 == [96, -22, 3] && (upto 0 8).map (fun p => planeWord 8 p g.2.1) == [4, 6, 0, 2, 0, 3, 3, 2] &&
  (groupValue 8 false (g.2.1, 0x80) (16384 :: 16384 :: 16384 :: List.replicate 29 0, 0x7E)).cmp (.fin false 77 (-6)) == 0) = true := by decide +kernel
/-- R119's examples: 11 and 100 in DPW8. -/
theorem test_dpw8 : (dpConvert (.fin false 11 0) == (0x42, fNX) && dpConvert (.fin false 100 0) == (0x76, fNX)) = true := by decide +kernel

/-! ### Memory instructions -/

/-- R217, R218, R220: four bytes 0x10 … of the scratchpad as I8 elements at EW 64; as E2M1 nibbles 1 and 2 in BF16. -/
theorem test_vld : (elems (exec (.vld 1 6 0 6) (withV spad 2 4)) 1 [0x11, 0x22, 0x33, 0x44] 0 && elems (exec (.vld 1 6 0 5) (withV spad 0 4)) 1 [0x3F00, 0x3F00, 0x3F80, 0x3F80] 0 &&
  trapsWith (exec (.vld 1 6 0 0) (withV spad 0 4)) 0x101 0 && elems (exec (.vlds 1 6 0 1) ((withV spad 0 2).setC { (withV spad 0 2).cur.c with vstr := 4 })) 1 [0x2211, 0x6655] 0) = true := by decide +kernel
/-- R223: the two fields of each segment. -/
theorem test_vseg : after (exec (.vsegld2 1 6 0 1) (withV spad 0 2)) (fun t => (upto 0 2).map (t.cur.elem 1) == [0x2211, 0x6655] && (upto 0 2).map (t.cur.elem 2) == [0x4433, 0x8877]) = true := by decide +kernel
/-- R217, R83: a unit store of two BF16 elements puts four bytes into the outbound buffer. -/
theorem test_vst : after (exec (.vst 2 6 0 1) (withE (withV spad 0 2) 2 [0xAAAA, 0xBBBB])) (fun t => t.core.outb.map (fun e => (e.mask, e.data)) == [((0xF0000 : BitVec 64), (0xBBBBAAAA#512 <<< 128))]) = true := by decide +kernel
/-- R228, R227: PLSTA at P = 2 of 32 zeros is three words of zeros; at P = 1 it is cause 0x281. -/
theorem test_plsta : (after (exec (.plsta 2 6) ((withV spad 1 1).setC { (withV spad 1 1).cur.c with tprec := 2 })) (fun t => t.core.outb.map (fun e => e.mask) == [(0xFFF0000 : BitVec 64)]) &&
  trapsWith (exec (.plsta 2 6) (withV spad 1 1)) 0x281 0) = true := by decide +kernel
/-- R250: a copy on an idle channel 2 returns 1 command queued and starts. -/
theorem test_copy : after (exec (.copy 4 5 6) (withX (withV base 2 1) [(4, 2), (5, 0xE000000000000040), (6, 0xE000000000000080)]))
  (fun t => t.rx 4 == 0x100 && (t.core.chans.getD 2 Chan.reset).busy && ((t.core.chans.getD 2 Chan.reset).queue.map (·.bytes)) == [8]) = true := by decide +kernel
/-- R293: with nothing queued WAITW is done with the watermark; channel 8 is cause 0x200. -/
theorem test_waitw : (result (exec (.waitw 4 0 0 0) base) 4 0 && trapsWith (exec (.waitw 4 0 5 0) (withX base [(5, 8)])) 0x200 8) = true := by decide +kernel
/-- R287: WAITC whose counts are all within their limits is done. -/
theorem test_waitc : result (exec (.waitc 4 0 0 0 0 0) base) 4 0 = true := by decide +kernel

/-- A barrier object at offset 0x40 of core 0's scratchpad-free vault: type 1, PHASE 5, two arrivals expected, one in. -/
def barrier : State := withX ({ asSup base with mem := Memory.setBytes [] 0x1000040 ([1, 0, 0, 0] ++ toBytes 4 5 ++ toBytes 4 2 ++ toBytes 4 1) }) [(5, 0xF000000001000040), (6, 5), (7, 7)]

/-- R294 to R296: the second arrival completes phase 5; a wait for phase 7 as a poll times out with phase 5. -/
theorem test_barrier : (after (exec (.bara 4 0 5) barrier) (fun t => t.rx 4 == 0x500 && t.byte 0x1000044 == 6 && t.byte 0x100004C == 0) && result (exec (.barw 4 0 5 6) barrier) 4 0x500 &&
  result (exec (.barw 4 0 5 7) barrier) 4 0x501) = true := by decide +kernel
/-- R296: an arrival at a full barrier is cause 0x186. -/
theorem test_barrier_full : trapsWith (exec (.bara 4 0 5) { barrier with mem := Memory.setBytes barrier.mem 0x100004C (toBytes 4 2) }) 0x186 0xF000000001000040 = true := by decide +kernel
/-- R296: PHASE reaches q modulo 2^32. -/
theorem test_phase : (phaseReached 7 5 && phaseReached 2 0xFFFFFFFF && !phaseReached 5 7) = true := by decide +kernel

/-! ### The tile store and the signature unit -/

/-- A holder of the tile store with 2 channels and depth 2; v1 = 1.0, 0, 0, 1.0 (the worked example of two steps). -/
def sig : State := let s := withE (withV base 1 4) 1 [0x3F800000, 0, 0, 0x3F800000]
  { s with cur := { s.cur with c := { s.cur.c with ten := 1, sigcfg := 0x800002 } }, core := { s.core with holder := some 1, l0 := 0x3FFF0000000000000000000000000000 } }

/-- R270: SIGCFG of depth 2 and 2 channels: 128 cells, an image of 2,064 bytes. -/
theorem test_sigcfg : after (exec (.sigcfg 7 5 6) (withX sig [(5, 2), (6, 2)])) (fun t => t.rx 7 == 2064 && t.cur.c.sigcfg == 0x800002) = true := by decide +kernel
/-- R275: SIGUPD of (1, 0) and (0, 1) leaves 1, 1 and 0.5, 1, 0, 0.5. -/
theorem test_sigupd : after (exec (.sigupd 1) sig) (fun t => after (exec (.engineCommandRetire 0) t) (fun u =>
  u.core.cells == [(0, 0x3FFF0000000000000000000000000000), (1, 0x3FFF0000000000000000000000000000), (64, 0x3FFE0000000000000000000000000000),
    (65, 0x3FFF0000000000000000000000000000), (67, 0x3FFE0000000000000000000000000000)])) = true := by decide +kernel
/-- R261, R254: SETTILE caps rows at 64 and depth at 256; without TEN it is cause 0x280. -/
theorem test_settile : (after (exec (.settile 5 6 7) (withX sig [(5, 100), (6, 2), (7, 33)])) (fun t => t.cur.c.tshape == 0x400240) && trapsWith (exec (.settile 5 6 7) base) 0x280 0) = true := by decide +kernel

/-! ### Events -/

/-- R28: a start leaves READY and an empty memory; a doorbell of link 2 is no event. -/
theorem test_start : (after (exec (.powerOnReset 0 0) State.reset) (fun t => t.front.modstat == 5) && (match exec (.doorbellWrite 2 0) base with | .fault _ => true | _ => false)) = true := by decide +kernel
/-- R88: a partial write by another strand to an un-turned line leaves writer 0xFFF. -/
theorem test_tags : ((tagAfter ⟨6, 8, 3, 0⟩ 9 0 false == some ⟨6, 0xFFF, 4, 0⟩) && (tagAfter ⟨7, 8, 3, 0⟩ 9 0 false == none) && (tagAfter ⟨2, 8, 511, 0⟩ 9 0 false == some ⟨6, 9, 0, 0⟩)) = true := by decide +kernel
/-- R3: distances of a strand at core 0 slot 0 to itself, its core, its die, its module and beyond. -/
theorem test_distance : ((distance 0 0 true, distance 0 1 true, distance 0 8 true, distance 0 128 true, distance 0 0 false, distance 0 0xFFF true) == (0, 1, 2, 3, 4, 4)) = true := by decide +kernel
/-- A step of a placed word: ADD x4, x5, x6. -/
theorem test_step : (match step (s1.withFetchWord 32 (encode (.add 4 5 6)).toNat) with | .next t => t.rx 4 == -5 && t.cur.pc == 0x800004 | _ => false) = true := by decide +kernel
/-! ### Witnesses: for each statement with hypotheses, and each of its clauses, a state and operands that meet them -/

/-- A read that answers a value, and one that answers a fault. -/
def isOk {ε α β : Type} (p : Except ε α × β) : Bool := match p.1 with | .ok _ => true | .error _ => false

/-- The state with the tag of the scratchpad block at offset 0x10 or of vault line 16. -/
def tagged (t : Tag) : State := { spad with tags := [(16, t), (spadKey 0 0 / 64, t)] }

theorem witness_products : s1.rx 6 ≠ 0 := by decide +kernel
theorem witness_borderline : s1.rx 0 = 0 ∧ s1.rx 7 = 0x8000000000000000#64 ∧ s1.rx 8 = 0xFFFFFFFFFFFFFFFF#64 := by decide +kernel
theorem witness_cmov : s1.rx 6 ≠ 0 ∧ s1.rx 0 = 0 := by decide +kernel
theorem witness_rounding : FP32.round .rne false 0x1000001 0 false = (0x4B800000, fNX) ∧ 0x4B800000 ≤ FP32.maxCode ∧ BF16.round .rne false 1 0 false = (0x3F80, 0) := by decide +kernel
theorem witness_loads : Claim.address spad 6 0 = 0xE000000000000010 ∧ isOk (spad.loadAt spad.me 0xE000000000000010 1) = true ∧ isOk (spad.loadAt spad.me 0xE0000000007FFFFE 2) = true ∧
  isOk (spad.loadAt spad.me 0xE0000000007FFFFC 4) = true ∧ isOk (spad.loadAt spad.me 0xE0000000007FFFF8 8) = true := by decide +kernel
theorem witness_own_scratchpad : spad.cur.id.slot < 8 ∧ spad.dieAnswers (spad.cur.id.core / 16) = true ∧ spad.homes.wnet = [] ∧ (spad.coreAt 0).early (spadKey 0 (2 ^ 23 - 8)) = false ∧ (spad.dieAt 0).phase ≠ .failed ∧
  (spad.tag (spadKey 0 16 / 64)).state = 5 ∧ distance spad.cur.writer 0 true ≤ 0 ∧ 1 < distance spad.cur.writer 8 true ∧ ((tagged ⟨1, 8, 0, 0⟩).tag (spadKey 0 16 / 64)).state.toNat ≤ 4 ∧
  ((tagged ⟨6, 8, 0, 0⟩).tag (spadKey 0 16 / 64)).state = 6 ∧ ((tagged ⟨6, 0xFFF, 0, 0⟩).tag (spadKey 0 16 / 64)).writer = 0xFFF ∧ ((tagged ⟨7, 0, 0, 0⟩).tag (spadKey 0 16 / 64)).state = 7 := by decide +kernel
theorem witness_misaligned : (Claim.address spad 6 1).toNat % 2 ≠ 0 ∧ (Claim.address spad 6 2).toNat % 4 ≠ 0 ∧ (Claim.address spad 6 4).toNat % 8 ≠ 0 := by decide +kernel
theorem witness_store : (spad.resolveAddr spad.me 0xE000000000000010 .write).1.toOption = some (spadKey 0 16) ∧ spad.outUsed spad.cur.id.core < 4096 ∧ Claim.younger spad (spadKey 0 16) = false ∧ spadKey 0 16 % 8 = 0 := by decide +kernel
theorem witness_landed : isSpad (64 * 16) = false ∧ Memory.wf spad.mem = true ∧ (spad.tag 16).state.toNat ≤ 5 ∧ ((tagged ⟨6, 0, 0, 0⟩).tag 16).state = 6 ∧ ((tagged ⟨6, 0, 0, 0⟩).tag 16).wmod = spad.front.modnum ∧
  ¬ (((tagged ⟨6, 9, 0, 0⟩).tag 16).writer = 0 ∧ ((tagged ⟨6, 9, 0, 0⟩).tag 16).wmod = 0) ∧ ((tagged ⟨7, 0, 0, 0⟩).tag 16).state = 7 := by decide +kernel
theorem witness_branches : s1.rx 5 ≠ s1.rx 6 ∧ s1.rx 0 = s1.rx 1 ∧ (s1.rx 5).toInt < (s1.rx 6).toInt ∧ (s1.rx 6).toNat < (s1.rx 5).toNat := by decide +kernel
theorem witness_user_transfers : base.cur.sup = false ∧ (base.rx 0).toNat % 64 = 0 ∧ (s1.rx 6).toNat % 64 ≠ 0 := by decide +kernel

/-- A supervisor strand at 0x800000, where a marker marks words 2 and 16. -/
def marked : State := asSup (base.withFetchWord 32 0x03E00102)

theorem witness_marked : (marked.fetch marked.me (0x800008 &&& ~~~127#64)).1.toOption = some 0x03E00102 ∧ marked.cur.sup = true ∧ (marked.target marked.me 0x800008).1 = .marked ∧
  Claim.blockAt marked.cur.pc 1 = 0x800040 ∧ (marked.target marked.me 0x800040).1 = .marked ∧ (marked.target marked.me 0x800010).1 = .refused ∧ Claim.blockAt marked.cur.pc 2 = 0x800080 ∧
  (marked.target marked.me 0x800080).1 = .refused ∧ (marked.target marked.me 0x90000008).1 = .unread := by decide +kernel
/-- In that strand each branch has operands that take it. -/
theorem witness_supervisor_branches : (let s := withX marked [(5, -7), (6, 2)]
  s.rx 0 = s.rx 1 ∧ s.rx 5 ≠ s.rx 6 ∧ (s.rx 5).toInt < (s.rx 6).toInt ∧ (s.rx 6).toNat < (s.rx 5).toNat ∧ s.cur.sup = true ∧ (s.target s.me 0x800040).1 = .marked ∧ (s.target s.me 0x800080).1 = .refused) := by decide +kernel
theorem witness_csr_access : 0x300 ∉ Claim.userAndSupervisor ++ Claim.supervisorWrites ++ Claim.nobodyWrites ++ Claim.supervisorOnly ∧ 0x200 ∈ Claim.supervisorOnly ∧ 0x069 ∈ Claim.supervisorWrites ∧
  0x005 ∈ Claim.nobodyWrites ∧ base.cur.sup = false := by decide +kernel
theorem witness_csr_writes : 0x001 ∈ Claim.userAndSupervisor ∧ (asSup base).cur.sup = true ∧ 0x111 ∈ Claim.supervisorOnly ∧ csrCodeOk 0x001 2 = true ∧ csrCodeOk 0x001 3 = false := by decide +kernel
theorem witness_vtype_writes : (2 : Word).extractLsb' 0 2 ≠ (withV base 0 16).cur.c.vtype.extractLsb' 0 2 ∧ base.cur.grant * 64 / 64 < ((withV base 0 16).cur.c.vl.extractLsb' 0 10).toNat ∧
  ((withV base 0 4).cur.c.vl.extractLsb' 0 10).toNat ≤ base.cur.grant * 64 / 64 := by decide +kernel

/-- A second strand in slot 1 of core 0. -/
def other : Strand := { base.cur with id := { base.cur.id with sid := 2, slot := 1, save := 0xF000000004010000 } }

/-- A supervisor strand that writes DBGCTL, alone on its core and beside another. -/
theorem witness_dbgctl : (let s := withX (asSup base) [(5, 0x2000000), (6, 0x4000000)]; let u := { s with strands := [other] }
  s.cur.sup = true ∧ s.cur.run = .running ∧ s.cur.id.core = s.core.id ∧ s.cur.id.slot < 8 ∧ s.cur.id.sid ≠ 0 ∧ s.strands = [] ∧ u.strands = [other] ∧ other.id.core = u.core.id ∧
  other.id.slot ≠ u.cur.id.slot ∧ other.id.sid ≠ u.cur.id.sid ∧ other.run = .running ∧ other.nest = false ∧ other.dbg = false ∧ other.stepping = false ∧ other.areaOk = true ∧
  (let v := { s with cur := { s.cur with stepping := true }, core := { s.core with dbgctl := 0x1010000 } }; v.cur.stepping = true ∧ v.core.dbgctl.getLsbD (24 + v.cur.id.slot) = true) ∧
  (u.rx 5).getLsbD (24 + other.id.slot) = true ∧ (u.rx 6).getLsbD (24 + other.id.slot) = false) := by decide +kernel
/-- `base` with another strand that holds the tile store. -/
def taken : State := { base with strands := [other], core := { base.core with holder := some 2 } }

theorem witness_ten : (withX base [(5, 1)]).rx 5 = 1 ∧ base.cur.c.ten.getLsbD 0 = false ∧ base.core.clearing = false ∧ base.core.holder = none ∧ taken.core.holder.bind taken.strand = some other ∧
  taken.cur.sup = false ∧ sig.cur.c.ten.getLsbD 0 = true ∧ sig.cur.records = [] ∧ sig.tilesOut sig.cur = 0 := by decide +kernel

def ctx0 : Context := ⟨false, true, 0, 1, 0, 0, 0, 64, 0, 64, 0xF000000004000000, 1, 1, 0, 1, 1⟩
def packet0 : Packet := ⟨0x800000, 8, 0, 0, 0, Vector.replicate 8 0⟩
/-- A live launch of 8 elements with watermark 4. -/
def launch0 : Launch := ⟨9, 0, 0, packet0, ctx0, none, true, [], 8, 0, 4, [], none, []⟩

/-- A strand that depends on `launch0`, which may have failed. -/
def consumer (stop : Option (Bool × BitVec 10)) : State := let s := withX (withV base 1 0) [(5, 8), (6, 4)]
  { s with cur := { s.cur with id := { s.cur.id with producer := 9, depdl := 100 } }, starter := if stop.isSome then { Starter.reset with retired := [⟨9, 0, 0x102, 4⟩] } else { Starter.reset with live := [launch0] } }

theorem witness_setvl : base.cur.request = none ∧ base.cur.run = .running ∧ base.cur.id.producer = 0 ∧ (consumer none).cur.c.widbase.toNat + 4 ≤ ((consumer none).producerW 9).1 ∧
  ((consumer none).producerW 9).1 < (consumer none).cur.c.widbase.toNat + 8 ∧ ((consumer none).producerW 9).2 = false ∧ ((consumer (some (false, 1))).producerW 9).2 = true ∧ (consumer none).cur.hold = none ∧
  0 < min ((consumer none).cur.id.depdl.toNat % 2 ^ 63) ((consumer none).core.dlcap.toNat % 2 ^ 63) := by decide +kernel
theorem witness_settype : (2#8).extractLsb' 0 2 ≠ 3#2 ∧ (3#8).extractLsb' 0 2 = 3#2 ∧ ((0x10#8).extractLsb' 2 3).toNat ≤ 4 ∧ ¬ ((0x14#8).extractLsb' 2 3).toNat ≤ 4 := by decide +kernel
/-- A user strand whose TVEC is a marked word. -/
def vectored : State := let s := base.withFetchWord 32 0x03E00102
  s.setC { s.cur.c with tvec := 0x800008 }

theorem witness_trap_entry : vectored.cur.nest = false ∧ vectored.cur.id.sid ≠ 0 ∧ Memory.wf vectored.mem = true ∧ (vectored.trapEntry 0x0F0 2 true 0 0 0 0).cur.run = .running ∧
  (base.trapEntry 0x0F0 2 true 0 0 0 0).cur.run = .lost 0x011 := by decide +kernel
/-- TVEC where it is a target, where its marker cannot be read, and where it is refused; the strand's launch. -/
theorem witness_vectors : (vectored.target vectored.me vectored.cur.c.tvec).1 = .marked ∧ (let s := base.setC { base.cur.c with tvec := 0x90000008 }; (s.target s.me s.cur.c.tvec).1 = .unread ∧ s.cur.nest = false) ∧
  (base.target base.me base.cur.c.tvec).1 = .refused ∧ ({ base with starter := { Starter.reset with live := [{ launch0 with id := 7 }] } }).starter.live.find? (fun q => q.id == base.cur.id.lid) = some { launch0 with id := 7 } ∧ launch0.stop = none := by decide +kernel
theorem witness_lost : (base.setC { base.cur.c with sstatus := 4 }).cur.nest = true ∧ ({ base with starter := { Starter.reset with live := [{ launch0 with id := 7 }] } }).starter.live.find? (fun q => q.id == base.cur.id.lid) =
  some { launch0 with id := 7 } := by decide +kernel
theorem witness_brk : base.core.dbgctl.getLsbD 13 = false ∧ (0x2000#64).getLsbD 13 = true ∧ base.cur.areaOk = true := by decide +kernel

/-- A supervisor strand in a handler. -/
def handler : State := base.setC { base.cur.c with sstatus := 7 }

theorem witness_eret : handler.cur.sup = true ∧ handler.cur.nest = true ∧ handler.cur.records = [] ∧ (handler.coreAt 0).outb = [] ∧ handler.homes.wnet = [] := by decide +kernel
theorem witness_system : base.cur.sup = false ∧ (asSup base).cur.sup = true ∧ (asSup base).cur.nest = false ∧ base.cur.request = none ∧ base.cur.pc.toNat % 128 = 0 := by decide +kernel
theorem witness_invalidation : (asSup base).cur.sup = true ∧ (asSup base).cur.id.core / 16 = 0 ∧ ((asSup base).dieAt 0).parked = [] ∧
  (∀ core < 16, ∀ ch < 8, (((asSup base).chanAt core ch).queue.head?).bind CopyCmd.park = none) := by decide +kernel
theorem witness_halt : base.cur.records = [] ∧ base.cur.request = none ∧ base.cur.streams = Vector.replicate 4 none ∧ base.cur.wlog = [] ∧ base.engStores = false ∧ base.homes.invals = [] ∧ base.homes.acks = [] ∧
  base.tilesOut base.cur = 0 ∧ base.copiesOut base.cur = 0 ∧ ({ sig with core := { sig.core with eng := [] } }).core.holder = some 1 := by decide +kernel

/-! #### Vectors -/

theorem witness_elements : 0 < v1.cur.grant ∧ v1.cur.grant ≤ 128 ∧ 15 < v1.cur.vlmax ∧ v1.cur.c.vtype.extractLsb' 0 2 ≠ 3 ∧ 3 ∈ v1.cur.active ∧ base.cur.active = [] := by decide +kernel
theorem witness_plain : v1.cur.streams = Vector.replicate 4 none ∧ v1.limit = none ∧ v1.cur.ew = 16 ∧ (withV base 1 1).cur.ew = 32 ∧ (withV base 2 1).cur.ew = 64 := by decide +kernel
theorem witness_single : (s1.rx 6).toNat < (withV s1 2 1).cur.vlmax ∧ (withV s1 2 1).cur.vlmax ≤ (withX s1 [(6, 4)] |>.rx 6).toNat := by decide +kernel

/-- An affine stream over 8 BF16 elements from offset 0, as input (kind 0) or output (kind 1), bound to v28. -/
def stream0 (kind : Nat) : Stream := ⟨#v[BitVec.ofNat 64 (0x100 + kind), 0, 0x800000002, 0x100000000], 0, (upto 0 4).map (fun i => (BitVec.ofNat 64 i, none)), none, none, false, []⟩
def streaming (kind : Nat) : State := let s := withV base 0 4
  { s with cur := s.cur.setStream 0 (some (stream0 kind)) }

theorem witness_stream_misuse : (streaming 1).cur.stream 28 = some (stream0 1) ∧ (stream0 1).desc[0].extractLsb' 0 2 = 1 ∧ (streaming 0).cur.stream 28 = some (stream0 0) ∧ (stream0 0).desc[0].extractLsb' 0 2 = 0 ∧
  (streaming 0).cur.stream 1 = none ∧ (streaming 0).cur.ew ≠ 64 := by decide +kernel
theorem witness_stream_elements : (streaming 0).limit = none ∧ (streaming 0).cur.resuming = false ∧ 0 < (streaming 1).cur.grant ∧ (streaming 1).cur.grant ≤ 128 ∧ (streaming 1).cur.vl ≤ (streaming 1).cur.vlmax ∧ (streaming 1).cur.c.vtype.extractLsb' 0 2 ≠ 3 ∧ fmtKind (stream0 0).fmt 16 false = some true ∧ (stream0 0).count + (streaming 0).cur.vl ≤ (stream0 0).total ∧ (stream0 0).partner = none ∧
  (stream0 0).kind = 0 ∧ (streaming 0).cur.vl ≤ (stream0 0).ahead.length ∧ ((stream0 0).ahead.take 4).all (fun e => e.2.isNone) = true ∧ (stream0 1).kind = 1 ∧ (streaming 1).cur.c.vm.getLsbD 5 = false ∧
  (streaming 1).cur.c.vstart = 0 ∧ (streaming 1).cur.resuming = false := by decide +kernel

/-! #### Vector memory -/

/-- EW 16 with 2 elements over the scratchpad bytes, no mask. -/
def vm : State := withE (withV spad 0 2) 2 [0x3F80, 0xC000]

theorem witness_ready : vm.cur.streams = Vector.replicate 4 none ∧ vm.limit = none ∧ vm.cur.stall = none ∧ vm.cur.due = none ∧ vm.cur.blockedOn = none ∧ vm.sched.slip = [] ∧ blockScaled vm.cur.c.vtype 1 = false ∧
  fmtKind 1 vm.cur.ew false = some true ∧ (vm.rx 6).toNat % fmtSize 1 = 0 ∧ vm.isCollective 6 1 = false ∧ vm.cur.c.vstr.toNat % 2 = 0 := by decide +kernel
theorem witness_vector_loads : vm.cur.active.all (fun i => !spadOutside (Claim.unit vm 6 1 i) && !spadOutside (Claim.strided vm 6 i) && !spadOutside (Claim.indexed vm 6 9 i)) = true ∧
  (vm.loadLoop 2 (fun i => [Claim.unit vm 6 1 i]) vm.cur.active).2.1 = none ∧ (vm.loadLoop 2 (fun i => [Claim.strided vm 6 i]) vm.cur.active).2.1 = none ∧
  (vm.loadLoop 2 (fun i => [Claim.indexed vm 6 9 i]) vm.cur.active).2.1 = none := by decide +kernel
theorem witness_segmented : (vm.loadLoop 2 (fun i => (List.range 8).map (Claim.field' vm 6 1 8 i)) vm.cur.active).2.1 = none ∧ (vm.loadLoop 2 (fun i => (List.range 2).map (Claim.field' vm 6 1 2 i)) vm.cur.active).2.1 = none ∧
  vm.cur.active.all (fun i => (List.range 8).all (fun k => !spadOutside (Claim.field' vm 6 1 8 i k))) = true ∧ (24 : Reg).toNat + 8 ≤ 32 ∧ 8 ≤ vm.cur.vlmax ∧
  (withE vm 5 [1, 0]).cur.elem 5 1 = 0 := by decide +kernel
theorem witness_vector_stores : (vm.bump.storeLoop 0 2 (fun i => [Claim.unit vm 6 1 i]) (Claim.storedAt vm 1 true 2) vm.cur.active).2.2.1 = none ∧
  (vm.bump.storeLoop 0 2 (fun i => (List.range 2).map (Claim.field' vm 6 1 2 i)) (Claim.storedFields vm 1 true 2 0 2) vm.cur.active).2.2.1 = none ∧
  vm.rx 6 = BitVec.ofNat 64 (0xE0 * 2 ^ 56 + 16) ∧ vm.outUsed vm.cur.id.core + vm.cur.vl ≤ 4096 := by decide +kernel
/-- The second of the two elements is refused: its block is un-turned under another writer. -/
theorem witness_vector_fault : (let s := { (withX vm [(6, 0xE00000000000003E)]) with tags := [(spadKey 0 64 / 64, ⟨6, 8, 0, 0⟩)] }
  (s.loadLoop 2 (fun i => [Claim.unit s 6 1 i]) s.cur.active).2.1.isSome && (s.loadLoop 2 (fun i => [Claim.unit s 6 1 i]) s.cur.active).1.length == 1) = true := by decide +kernel
/-- Accesses in each mode that stop at an element whose page is absent. -/
theorem witness_access_stops : (let s := withX vm [(6, 0x10000)]; let u (f : Nat → List Word) := (s.loadLoop 2 f s.cur.active).2.1.isSome && (s.bump.storeLoop 0 2 f (Claim.storedAt s 1 true 2) s.cur.active).2.2.1.isSome
  u (fun i => [Claim.unit s 6 1 i]) && u (fun i => [Claim.strided s 6 i]) && u (fun i => [Claim.indexed s 6 9 i]) && !s.isCollective 6 1 && s.cur.active.all (fun i => !spadOutside (Claim.unit s 6 1 i)) &&
  (s.loadLoop 2 (fun i => (List.range 2).map (Claim.field' s 6 1 2 i)) s.cur.active).2.1.isSome &&
  (s.bump.storeLoop 0 2 (fun i => (List.range 2).map (Claim.field' s 6 1 2 i)) (Claim.storedFields s 1 true 2 0 2) s.cur.active).2.2.1.isSome) = true := by decide +kernel
/-- In each mode element 1 is the first outside the scratchpad's range. -/
theorem witness_trims : (let s := (withE (withX vm [(6, 0xE0000000007FFFFE)]) 9 [0, 2]).setC { vm.cur.c with vstr := 2 }; let s' := withX s [(6, 0xE0000000007FFFFC)]
  spadOutside (Claim.strided s 6 1) && !spadOutside (Claim.strided s 6 0) && spadOutside (Claim.indexed s 6 9 1) && !spadOutside (Claim.indexed s 6 9 0) && s.cur.active.contains 1 &&
  (List.range 2).any (fun k => spadOutside (Claim.field' s' 6 1 2 1 k)) && !(List.range 2).any (fun k => spadOutside (Claim.field' s' 6 1 2 0 k))) = true := by decide +kernel
theorem witness_trim : (let s := withX vm [(6, 0xE0000000007FFFFE)]; spadOutside (Claim.unit s 6 1 1) && !spadOutside (Claim.unit s 6 1 0) && s.cur.active.contains 1) = true ∧
  spadOutside (Claim.unit (withX vm [(6, 0xE000000000800000)]) 6 1 0) = true := by decide +kernel
theorem witness_access_checks : blockScaled 0x20 3 = true ∧ blockScaled 0 3 = false ∧ fmtKind 0 16 false = none ∧ fmtKind 3 16 true = some true ∧ fmtKind 3 64 true = none ∧ (withX vm [(6, 1)] |>.rx 6).toNat % 2 ≠ 0 ∧
  (vm.setC { vm.cur.c with vstr := 1 }).cur.c.vstr.toNat % 2 ≠ 0 := by decide +kernel
theorem witness_blocks : Claim.mag (.fin false 1000 0) < 2 ^ (128 : ℤ) ∧ Claim.finite (.inf false) = false ∧ Claim.mag (.fin false 0 0) = 0 := by
  refine ⟨?_, rfl, ?_⟩ <;> norm_num [Claim.mag]
theorem witness_block_access : (let s := withV spad 0x20 2
  blockScaled s.cur.c.vtype 3 && (fmtKind 3 s.cur.ew true == some true) && (s.blockLoads 3 1 4 6 16 1 (Claim.unit s 6 3) (Claim.code 3) [0]).2 &&
  (s.bump.blockStores 0 3 1 4 6 16 1 (Claim.unit s 6 3) (fun r i => s.cur.elem r i) [0]).2) = true := by decide +kernel
theorem witness_block_value : (let c' := 0x3FC00000; Claim.finite (fmtValue 3 0x3C) && FP32.decode c' == .fin false 0xC00000 (-23) && fmtValue 3 0x3C == .fin false 12 (-3) && decide (c' ≤ FP32.maxCode)) = true := by decide +kernel
theorem witness_groups : (2 ≤ 16 ∧ 16 ≤ 16) ∧ Claim.finite (.nan true false) = false ∧ (List.replicate 32 (Fp.fin false 3 0)).length = 32 := by decide +kernel
theorem witness_plane_stores : (let s := vm.setC { vm.cur.c with tprec := 2 }
  s.cur.resuming == false && (s.rx 6).toNat / 2 ^ 23 == 0xE0 * 2 ^ 33 && (s.rx 6).toNat % 4 == 0 && decide (0x10 + 68 ≤ 2 ^ 23)) = true ∧ (withV vm 2 1).cur.ew = 64 ∧
  ((0xE100000000000000#64).extractLsb' 56 8 ≠ 0xE0#8) ∧ (0xE000000000000002#64).toNat % 4 ≠ 0 := by decide +kernel
theorem witness_gather : (let s := vm; decide ((s.rx 6).toNat % fmtSize 1 = 0) && decide ((withX s [(6, 1)] |>.rx 6).toNat % fmtSize 1 ≠ 0) && ({ s with cur := { s.cur with link := [] } }.vglkLoop 2 (Claim.indexed s 6 9) s.cur.active).2.1.isNone && !s.cur.resuming) = true := by decide +kernel

/-- A strand with a link entry for element 0 that still holds, and a mask. -/
def linked : State := let s := (withE vm 4 [1, 1]).setC { vm.cur.c with vm := 0x24 }
  { s with cur := { s.cur with link := [⟨0, spadKey 0 0, 0, 0, 0⟩] }, tags := [] }

theorem witness_scatter : (linked.elemKey 0xE000000000000010 2 .write).1.toOption = some (spadKey 0 16) ∧ (linked.elemKey 0xE000000000000010 2 .write).2 = linked ∧ keyModule (spadKey 0 16) = 0 ∧ (linked.dieAt (homeDie (spadKey 0 16))).phase ≠ .failed ∧ linked.olderWrites 0 1 linked.cur.pos (spadKey 0 16 / 64) = false ∧ linked.core.id = linked.cur.id.core ∧ linked.core.outb = [] ∧
  linked.homes.wnet = [] ∧ Memory.wf linked.mem = true ∧ linked.cur.link.find? (fun e => e.elem == 0) = some ⟨0, 64 * (spadKey 0 16 / 64), 0, 0, 0⟩ ∧ (linked.now + 2 ^ 48 - 0) % 2 ^ 48 < 640 ∧
  (linked.tag (spadKey 0 16 / 64)).gen = 0 ∧ linked.epochAt (spadKey 0 16) = 0 ∧ linked.cur.link.find? (fun e => e.elem == 1) = none := by decide +kernel
theorem witness_scatter_loop : linked.cur.c.vm.getLsbD 5 = true ∧ (linked.bump.vsccLoop (encode (.vscc 2 6 9 1)) 2 (Claim.indexed linked 6 9) (fun i => linked.cur.elem 2 i) linked.cur.active).2.1 = none ∧ vm.cur.c.vm.getLsbD 5 = false := by decide +kernel

/-- The elements of an indexed access in blocks that nothing has written: where VGLK and VSCC complete. -/
theorem witness_linked_words : linked.cur.id.core < 384 ∧ linked.core.id = linked.cur.id.core ∧ linked.cur.id.sid ≠ 0 ∧ linked.core.outb = [] ∧ linked.homes.wnet = [] ∧
  (linked.dieAt 0).phase = .steady ∧ linked.dieState 0 = 0 ∧ linked.cur.active ≠ [] ∧ linked.limit = none ∧ linked.sched.slip = [] ∧
  (∀ i ∈ linked.cur.active, Claim.indexed linked 6 9 i = 0xE000000000000010) ∧ (linked.tag (spadKey 0 0x10 / 64)).state = 5 ∧
  linked.cur.ew = 16 ∧ (linked.rx 6).toNat % fmtSize 1 = 0 ∧ linked.cur.c.vm.getLsbD 5 = true ∧ (2 : Reg) ≠ linked.cur.c.vm.extractLsb' 0 5 := by decide +kernel
/-! #### Streams and turns -/

/-- A descriptor of 8 BF16 elements at offset 0x100 of the scratchpad. -/
def descr : State := withX ({ base with mem := Memory.setBytes [] (spadKey 0 0x100) (toBytes 8 0x100 ++ toBytes 8 0 ++ toBytes 8 0x800000002 ++ toBytes 8 0x100000000) }) [(5, 0xE000000000000100), (6, 0xE000000000000104)]

theorem witness_descriptors : (Claim.bound (stream0 0).desc).kind < 2 ∧ descOk (stream0 0).desc = true ∧ (Claim.bound #v[2, 0, 0, 0]).kind = 2 ∧ descOk #v[0x100, 0, 0, 0] = false := by decide +kernel
theorem witness_bind : 28 ≤ (28 : Reg).toNat ∧ descr.cur.stall = none ∧ descr.cur.blockedOn = none ∧ descr.cur.stream 28 = none ∧ (descr.rx 5).toNat % 32 = 0 ∧
  (descr.loadAt descr.me (descr.rx 5) 32).1.toOption.map (fun n => descOk (Claim.words n)) = some true ∧ (spad.loadAt spad.me 0xE000000000000000 32).1.toOption.map (fun n => descOk (Claim.words n)) = some false ∧
  (descr.rx 6).toNat % 32 ≠ 0 ∧ (stream0 1).kind = 1 ∧ { stream0 3 with group := some (16, []) }.group.isSome = true := by decide +kernel
theorem witness_turned_tags : isSpad (64 * (spadKey 0 0 / 64)) = true ∧ (6#3).toNat = 6 ∧ (4#3).toNat ≤ 4 := by decide +kernel
theorem witness_turned_lines : base.cur.id.sid ≠ 0 ∧ isSpad (64 * 16) = false ∧ (base.coreAt 0).outb = [] ∧ base.homes.wnet = [] := by decide +kernel

/-- A strand with one un-turned span and one at C. -/
def logged : State := { base with cur := { base.cur with wlog := [⟨0x1000000, 64, none, [⟨0x40000, 0x40001, none⟩]⟩, ⟨0x1000080, 128, some 1, [⟨0x40002, 0x40004, some 1⟩]⟩] } }

theorem witness_write_log : (logged.turnLog 3 false).2.1 = true ∧ (logged.turnLog 3 false).1 = 192 ∧ (logged.turnLog 1 true).2.1 = false := by decide +kernel
theorem witness_turn : base.cur.request = none ∧ base.engStores = false ∧ turnOutside 0xE000000000000000 64 = false ∧ turnOutside 0x0200000000000000 64 = true ∧ (withX base [(5, 0x8000000000000040)] |>.rx 5).getLsbD 63 = true ∧
  (base.turnRegion 1 false false 0xE000000000000000 64).1.fault = none ∧ (base.turnRegion 1 false false 0x1000 64).1.fault.isSome = true ∧ ((asSup base).turnRegion 3 true true 0xF000000001000000 64).1.all = false := by decide +kernel
/-- A store waits, so the class of stores is not complete. -/
theorem witness_fence : (2 &&& spad.classesDone spad.cur = 2) ∧ (after (exec (.sd 7 6 0) spad) (fun t => 2 &&& t.classesDone t.cur == 0 && 3 &&& t.classesDone t.cur == 1)) = true ∧ spad.cur.records = [] ∧ spad.cur.request = none := by decide +kernel
theorem witness_polls : Claim.polls base 0 = true ∧ Claim.polls base 100 = false ∧ (logged.turnLog logged.cur.id.publvl true).2.1 = false ∧ (logged.turnLog 3 false).2.1 = true := by decide +kernel
/-- ESCAL stands at 16: the sixteenth timeout in a row escalates. -/
theorem witness_escalation : (let s := base.setC { base.cur.c with tocnt := 15 }
  s.cur.c.tocnt.toNat % 2 ^ 32 != 2 ^ 32 - 1 && s.core.escal.toNat % 2 ^ 32 == s.cur.c.tocnt.toNat % 2 ^ 32 + 1 && (Claim.stat 1 0 0).extractLsb' 0 3 == 1 && (Claim.stat 3 0 0).extractLsb' 0 3 == 3) = true := by decide +kernel
/-- Two store instructions are outstanding: a limit of 1 is exceeded, one of 2 is met. -/
theorem witness_counts : (after (exec (.sd 7 6 0) spad) (fun t => after (exec (.sb 7 6 8) t) (fun u => (u.storesOut u.cur).length == 2 && u.loadsOut u.cur == 0 && u.copiesOut u.cur == 0 && u.tilesOut u.cur == 0))) = true := by decide +kernel

/-- A copy command of 8 bytes from offset 0x80 to 0x40, issued in channel 2. -/
def copy0 : CopyCmd := ⟨1, 0, false, 0, 0xE000000000000040, 0xE000000000000080, 0, 2, 8, 0, 0, 0, 1, 2, 1000000000, 0, 0, 1, 1, [], [], none, 0, 0, false, 0, []⟩

/-- It heads channel 2; it may have stopped. -/
def copying (dead : Bool) : State := { base with core := { base.core with chans := base.core.chans.set 2 { Chan.reset with
  queue := [{ copy0 with dead := dead }], busy := true, rng := 0x9000000008000040, wm := 0x40 } } }

theorem witness_channel : (let k (b : Bool) := (copying b).core.chans.getD 2 Chan.reset
  (k false).queue.all (fun q => !q.covers 0x48) && !(k false).queue.all (fun q => !q.covers 0x40) && decide (¬ 0x40 < (k false).wm.toNat % 2 ^ 24) && decide (0x3F < (k false).wm.toNat % 2 ^ 24) &&
  ((k true).queue.head?.map (·.dead) == some true) && ((k false).queue.head?.map (·.dead) == some false)) = true ∧ ((0xE000000000000040#64).extractLsb' 56 8 = 0xE0#8) ∧ (0xE000000000800000#64).extractLsb' 23 33 ≠ 0 := by decide +kernel

/-! #### Objects -/

theorem witness_settled : barrier.cur.records = [] ∧ barrier.cur.request = none ∧ barrier.cur.wlog = [] ∧ barrier.engStores = false ∧ barrier.homes.invals = [] ∧ barrier.homes.acks = [] ∧ barrier.homes.waiters = [] ∧ Memory.wf barrier.mem = true := by decide +kernel
theorem witness_barrier_line : (let l := barrier.line (0x1000040 / 64)
  ((barrier.readObj barrier.me (barrier.rx 5) 1).1.toOption == some (0x1000040, l)) && decide (Claim.fld l 0xC 4 ≠ Claim.fld l 8 4) && (arrive l).isSome && decide ((Claim.fld l 4 4 + 2 ^ 32 - 5) % 2 ^ 32 < 2 ^ 31) &&
  !decide ((Claim.fld l 4 4 + 2 ^ 32 - 7) % 2 ^ 32 < 2 ^ 31) && decide (Claim.fld (barrierSettle ((arrive l).getD 0)) 4 4 ≠ 5)) = true := by decide +kernel
/-- The object is read twice and stands as it stood; only the mark of the move changes. -/
def readsTwice (s : State) (va : Word) (type key : Nat) : Bool :=
  let r := s.readObj s.me va type
  let q := r.2.readObj s.me va type
  r.1.toOption == some (key, s.line (key / 64)) && r.2 == { s with mark := r.2.mark } && q.1.toOption == r.1.toOption && q.2 == { s with mark := q.2.mark }

theorem witness_reads_twice : readsTwice barrier 0xF000000001000040 1 0x1000040 = true ∧ barrier.sched.soft = [] ∧ barrier.cur.search = none := by decide +kernel
/-- Three expected: the arrival does not complete the phase. A full barrier refuses. -/
theorem witness_barrier_other : (let l (n k : Nat) := (BitVec.ofNat 512 (ofBytes ([1, 0, 0, 0] ++ toBytes 4 5 ++ toBytes 4 n ++ toBytes 4 k)) : Line)
  barrierOk (l 3 1) && (Claim.fld (barrierSettle ((arrive (l 3 1)).getD 0)) 4 4 == 5) && (arrive (l 2 2)).isNone && (Claim.fld (l 2 2) 0x18 8 == 0)) = true := by decide +kernel

/-- A queue object (type 2, 3 or 4) of two entries at 0x1000080 with its ring at 0x1000100 of core 0's vault, holding `n` entries; a deque of the strand. -/
def queue (type n : Nat) : State := withX ({ asSup base with
    mem := Memory.setBytes [] 0x1000080 ([BitVec.ofNat 8 type, 0, 1, 0] ++ toBytes 4 0 ++ toBytes 4 n ++ toBytes 4 0 ++ toBytes 8 0x1000100 ++ (if type = 4 then toBytes 8 7 ++ toBytes 8 0 else [])) })
  [(5, 0xF000000001000080), (7, 0x55)] |>.setC { (asSup base).cur.c with launchid := 7, vtype := 2, vl := 2 }

theorem witness_queue : (let s := queue 2 1; let l := s.line (0x1000080 / 64)
  ((s.readObj s.me (s.rx 5) 2).1.toOption == some (0x1000080, l)) && queueOk 2 l && decide (Claim.held l < 2 ^ Claim.fld l 2 1) && decide (Claim.held l ≠ 0) && isOk (s.ringOk s.me 0x1000100, s) && isOk (s.qPush s.me 0x1000080 l 5) && isOk (s.qPop s.me 0x1000080 l) &&
  !isOk (({ s with tags := [(0x1000100 / 64, ⟨6, 9, 0, 0⟩)] }).ringOk s.me 0x1000100, s)) = true := by decide +kernel
theorem witness_queue_ends : Claim.held ((queue 2 0).line (0x1000080 / 64)) = 0 ∧ ¬ Claim.held ((queue 2 2).line (0x1000080 / 64)) < 2 ^ Claim.fld ((queue 2 2).line (0x1000080 / 64)) 2 1 ∧ isOk ((queue 2 2).readObj (queue 2 2).me 0xF000000001000080 2) = true := by decide +kernel
theorem witness_apwait : (queue 3 2).cur.ew = 64 ∧ (queue 3 2).cur.vl ≤ Claim.held ((queue 3 2).line (0x1000080 / 64)) ∧ isOk ((queue 3 2).qTake (queue 3 2).me 0x1000080 ((queue 3 2).line (0x1000080 / 64)) 2) = true ∧
  Claim.held ((queue 3 1).line (0x1000080 / 64)) < (queue 3 1).cur.vl ∧ isOk ((queue 3 1).qTake (queue 3 1).me 0x1000080 ((queue 3 1).line (0x1000080 / 64)) 1) = true ∧ ((queue 3 1).ringBad (queue 3 1).me (ringKeys 0x1000080 ((queue 3 1).line (0x1000080 / 64)) 0 1)).isNone = true ∧
  (({ queue 3 1 with tags := [(0x1000100 / 64, ⟨6, 9, 0, 0⟩)] }).ringBad (queue 3 1).me (ringKeys 0x1000080 ((queue 3 1).line (0x1000080 / 64)) 0 1)).isSome = true ∧ base.cur.ew ≠ 64 := by decide +kernel
theorem witness_deque : (let s := queue 4 1; let l := s.line (0x1000080 / 64)
  isOk (s.readObj s.me (s.rx 5) 4) && (Claim.fld l 0x18 8 == s.cur.c.launchid.toNat) && (Claim.fld l 0x20 8 == s.cur.id.first.toNat) && decide (Claim.held l = 1) && isOk (s.ringOk s.me 0x1000100, s) && (s.rx 5 != 0) && isOk (s.qPop s.me 0x1000080 l)) = true ∧
  Claim.held ((queue 4 0).line (0x1000080 / 64)) = 0 ∧ Claim.fld ((queue 4 0).line (0x1000080 / 64)) 0x18 8 ≠ ((queue 4 0).setC { (queue 4 0).cur.c with launchid := 8 }).cur.c.launchid.toNat := by decide +kernel
theorem witness_steal : base.cur.request = none ∧ base.rx 0 = 0 ∧ base.cur.id.deq = false ∧ base.strands = [] := by decide +kernel
/-- Two identifiers where there is room for two, and where there is room for one. -/
theorem witness_append : (let f (n : Nat) := ((queue 3 n).qAppend (queue 3 n).me 0x1000080 ((queue 3 n).line (0x1000080 / 64)) [0, 1]).1.toOption.map (·.1)
  (f 0 == some 2) && (f 1 == some 1) && (f 2 == some 0) && (queue 3 0).cur.active == [0, 1] && !(queue 3 0).cur.resuming) = true := by decide +kernel

/-- A VAPND under a mask; a ring line that may not be written. -/
theorem witness_append_masked : (let s := (queue 3 0).setC { (queue 3 0).cur.c with vm := 0x24 }; let u := withE s 4 [1, 1]
  u.cur.c.vm.getLsbD 5 && (u.cur.active == [0, 1]) && isOk (u.qAppend u.me 0x1000080 (u.line (0x1000080 / 64)) [0, 1]) &&
  !isOk (({ u with tags := [(0x1000100 / 64, ⟨6, 9, 0, 0⟩)] }).qAppend u.me 0x1000080 (u.line (0x1000080 / 64)) [0, 1])) = true := by decide +kernel
/-- Group 1 of one rank with 2 slots of 64 bytes, its member record at 0x2000000, staged at 0x10000; the strand is its rank 0. -/
def grouped (staged : Bool) : State := let s := base.setC { base.cur.c with cgroup := 0x100000000 }
  { s with
    mem := Memory.setBytes [] 0x8000 (toBytes 2 1 ++ toBytes 2 0 ++ toBytes 4 1 ++ toBytes 8 0x2000000 ++ toBytes 8 0x10000 ++ toBytes 4 64 ++ toBytes 2 2)
    cur := { s.cur with slots := [⟨1, 1, 3, [], staged⟩] } }

theorem witness_collective : ((grouped true).groupEntry 0 (grouped true).cur.groupNum 0).1.map (fun g => g.map (·.slots)) = .ok (some 2) ∧ (grouped true).cur.group = none ∧ (grouped true).myGroup.1.map (·.slots) = .ok 2 ∧ ((grouped true).myGroup.2.cur.group).isSome = true ∧
  base.myGroup.1.map (·.slots) = .error ⟨0x206, 0, 0⟩ ∧ ((grouped true).cur.slotUse 1).staged = true ∧ ((grouped false).cur.slotUse 1).staged = false ∧ base.groupEntry 0 base.cur.groupNum 0 = (.ok none, base) := by decide +kernel
/-- The group table lies on a die that has failed. -/
theorem witness_collective_failed : (let s := (grouped true).setDie { Die.reset 0 with phase := .failed }
  !isOk (s.groupEntry 0 s.cur.groupNum 0) && !isOk s.myGroup && s.cur.group.isNone && decide ((s.rx 0).toNat < 256)) = true := by decide +kernel

/-- A context for queue 3 and a packet of 8 elements at 0x1000000, which the strand may launch. -/
def launching : State := withX ({ asSup base with
    mem := Memory.setBytes (Memory.setBytes [] (128 * 3) (toBytes 2 1 ++ toBytes 2 0 ++ toBytes 2 1 ++ toBytes 2 0 ++ toBytes 8 0 ++ toBytes 8 0 ++ toBytes 8 0 ++ toBytes 8 64 ++ toBytes 8 0 ++ toBytes 8 64 ++ toBytes 8 0xF000000004000000 ++
      toBytes 4 1 ++ toBytes 2 1 ++ toBytes 2 0 ++ toBytes 4 0 ++ toBytes 2 1 ++ toBytes 2 1)) 0x1000000 (toBytes 8 0x800000 ++ toBytes 8 8 ++ toBytes 8 3) })
  [(5, 0xF000000001000000), (6, 3), (7, 9)]

theorem witness_launch : ((launching.loadPacket (launching.rx 5)).1.toOption.map (fun b => !launching.malformed b && (packetOf b).w 4 == 0)) = some true ∧ launching.credits 3 = 64 ∧ (launching.launchContext 3).1.isSome = true ∧
  (launching.launchContext 9).1 = none ∧ ({ launching with starter := { Starter.reset with queued := List.replicate 64 { launch0 with queue := 3 } } }).credits 3 = 0 := by decide +kernel
/-- A launch whose strands have all ended and one that has strands left. -/
theorem witness_lcancel : (let s (n : Nat) : State := { base with starter := { Starter.reset with live := [{ launch0 with left := n }] } }
  (s 0).namedLaunch 9 = some 9 ∧ (s 0).retiredOf 9 = none ∧ (s 0).launch 9 = some { launch0 with left := 0 } ∧ (s 8).namedLaunch 9 = some 9 ∧ (s 8).launch 9 = some launch0 ∧ launch0.stop = none ∧ launch0.left ≠ 0) := by decide +kernel
/-- The strand's own launch waits for launch 9 of its address space: it lives, it has retired, it never was. -/
theorem witness_lwait : (consumer none).namedLaunch 9 = some 9 ∧ (consumer none).retiredOf 9 = none ∧ ({ base with starter := { Starter.reset with retired := [⟨9, 0, 0, wMax⟩] } }).namedLaunch 9 = some 9 ∧
  ({ base with starter := { Starter.reset with retired := [⟨9, 0, 0, wMax⟩] } }).retiredOf 9 = some ⟨9, 0, 0, wMax⟩ ∧ base.namedLaunch 9 = none := by decide +kernel

/-! #### Copies, the tile store, the signature unit -/

theorem witness_copy : (withX base [(4, 0x7F)] |>.rx 4).toNat < 128 ∧ (0x47#64).getLsbD 3 = false ∧ (0x47#64).toNat / 16 ≤ 4 ∧ ¬ (0x58#64).toNat / 16 ≤ 4 ∧ selectorFault false 0xE000000000000040 = none ∧ (selectorFault false 0xF000000000000000).isSome = true ∧
  (0xE000000000000040#64).toNat % 2 ^ 56 + 8 ≤ (0xE000000000000048#64).toNat % 2 ^ 56 ∧ (copying false).core.chans[2].queue.length = 1 ∧ (copying false).core.chans[2].queue ≠ [] ∧ base.core.chans[2].queue = [] := by decide +kernel
theorem witness_tile : base.cur.c.ten.getLsbD 0 = false ∧ sig.cur.c.ten.getLsbD 0 = true ∧ sig.tilesOut sig.cur = 0 ∧ Claim.firstCell 2 3 = 128 ∧ 65536 < Claim.firstCell 16 6 ∧ Claim.firstCell 2 9 ≤ 65536 := by decide +kernel
theorem witness_engine : sig.core.eng.length < 16 ∧ sig.front.capHold = false ∧ sig.cur.engHalted = false ∧ (0xE0000000007FFFF0#64).toNat / 2 ^ 23 = 0xE0 * 2 ^ 33 ∧ (0xE0000000007FFFF0#64).toNat % 16 = 0 ∧
  (0xE000000000800000#64).toNat / 2 ^ 23 ≠ 0xE0 * 2 ^ 33 ∧ Claim.tm sig.cur.c.tshape = 0 ∧ Claim.recordsFit 0xE000000000000000 64 8 1024 68 36 := by
  unfold Claim.recordsFit; decide +kernel
theorem witness_readout : sig.cur.ew = 32 ∧ sig.cur.vl ≤ 64 ∧ sig.cur.records = [] ∧ sig.limit = none ∧ sig.cur.streams = Vector.replicate 4 none := by decide +kernel
theorem witness_signature : (sig.cur.c.sigcfg.extractLsb' 0 4).toNat ≠ 0 ∧ (base.cur.c.sigcfg.extractLsb' 0 4).toNat = 0 ∧ sig.cur.vl % 2 = 0 ∧ (withV sig 1 3).cur.vl % 2 ≠ 0 ∧ sig.cur.stall = none ∧
  (0xE000000000000000#64).toNat % 2 ^ 23 + 16 * (1 + (sig.cur.c.sigcfg.extractLsb' 16 17).toNat) ≤ 2 ^ 23 ∧ ¬ (0xE0000000007FFFF0#64).toNat % 2 ^ 23 + 16 * 129 ≤ 2 ^ 23 ∧ (0xE400000000000000#64).extractLsb' 28 28 = 0 := by decide +kernel
theorem witness_group_values : (List.replicate 32 (1 : Int)).length = 32 ∧ (254 : Nat) ≠ 255 := by decide

/-- A command of the strand at the head of core 0's engine queue. -/
def engine (op : EngOp) : State := { sig with core := { sig.core with
  eng := [⟨op, 1, 0, 0, 1, 0, 0, 0, 0, [], 0x200201, 0, 8, 0x800002, 0, 1, 0, 0, 1, 1⟩], cells := [(0, 0x3FFF0000000000000000000000000000), (4096, 0x3FFF0000000000000000000000000000)] } }

theorem witness_engine_retires : (engine .tadd).frozen 0 1 = false ∧ (engine .tadd).engHeld 0 = false ∧ (engine .tadd).core.eng ≠ [] ∧ Claim.tm 0x200201 = 1 ∧ Claim.tn 0x200201 = 2 ∧ (engine .tadd).core.cells.Pairwise (fun x y => x.1 < y.1) ∧
  (engine .tadd).core.cells.all (fun e => e.2 != 0) = true := by decide +kernel

/-- The command can run: its operands' blocks are clear, its records fit, and its cells are listed in order. -/
theorem witness_engine_reads (op : EngOp) : Claim.EngineTurn (engine op) 0 ⟨op, 1, 0, 0, 1, 0, 0, 0, 0, [], 0x200201, 0, 8, 0x800002, 0, 1, 0, 0, 1, 1⟩ [] ∧ Claim.CellsOrdered (engine op).core ∧ ∀ key n, Claim.Readable (engine op) 0 key n :=
  ⟨by unfold Claim.EngineTurn; cases op <;> decide +kernel, by unfold Claim.CellsOrdered; cases op <;> decide +kernel, fun _ _ _ _ _ => .inl rfl⟩
theorem witness_products_shape : Claim.tm 0x200201 = 1 ∧ Claim.tn 0x200201 = 2 ∧ Claim.tk 0x200201 / 32 = 1 ∧ Claim.inOwn 0xE000000000000000 ∧ Claim.recordsFit 0xE000000000000000 1 1 0 0 36 ∧ ((engine .tmac).dieAt 0).phase ≠ .failed ∧
  (0xE000000000000000#64).toNat % 16 = 0 ∧ (0xE000000000000000#64).toNat % 2 ^ 23 + 16 * (1 + 128) ≤ 2 ^ 23 := by unfold Claim.inOwn Claim.recordsFit; decide
/-- L0 = 1 and empty cells hold the unit tensor of depth 2 over 2 channels; a NaN in L0 is found. -/
theorem witness_signature_holds : Claim.Holds 0x3FFF0000000000000000000000000000 (fun _ => 0) 2 2 (fun k _ => if k = 0 then 1 else 0) ∧ Claim.NotFinite (BitVec.ofNat 128 B128.nan) (fun _ => 0) 2 2 ∧
  Claim.firstCell 2 3 = 128 ∧ Claim.finite (FP32.decode 0x3F800000) = true ∧ Claim.finite (FP32.decode 0x7F800000) = false := by
  have one : B128.decode 0x3FFF0000000000000000000000000000 = .fin false (2 ^ 112) (-112) := by decide +kernel
  have zero : B128.decode 0 = .fin false 0 (-16494) := by decide +kernel
  refine ⟨⟨by decide +kernel, ?_, ?_⟩, .inl (by decide +kernel), by decide, by decide +kernel, by decide +kernel⟩
  · show Claim.val (B128.decode 0x3FFF0000000000000000000000000000) = _
    rw [one]; norm_num [Claim.val]
  · intro k hk _ i _
    show Claim.finite (B128.decode 0) = true ∧ Claim.val (B128.decode 0) = if k = 0 then 1 else 0
    rw [zero, if_neg (Nat.ne_of_gt hk)]; exact ⟨rfl, by norm_num [Claim.val]⟩
/-- Engine stores of the strand that are to come: a TURN over their lines, a TURNALL and a PUBLISH wait, or have no time left. -/
theorem witness_stalls : (engine .tst).engStores = true ∧ (engine .tst).turnOut 0xE000000000000000 64 = true ∧ (engine .tst).turnOut 0xE000000000700000 64 = false ∧
  Claim.noTime (engine .tst) 100 = false ∧ Claim.noTime (engine .tst) 0 = true ∧ base.cur.due.isNone = true ∧
  Claim.polls { base with cur := { base.cur with due := some (⟨false, 7⟩, true) } } 100 = true := by decide +kernel

/-! #### Events of the module -/

/-- `base` at another wall-clock tick, with a front end and a die 3 changed. -/
def later (n : Nat) : State := { base with dclkw := BitVec.ofNat 63 n }
def die3 (s : State) (p : DiePhase) : State := s.setDie { Die.reset 3 with phase := p }

theorem witness_start : State.reset.front.failed ≤ 3 ∧ Memory.wf State.reset.mem = true ∧ State.reset.tags = [] ∧ State.reset.front.phase = .resetReleased ∧ State.reset.dclkw.toNat < 2000000000 ∧
  ({ State.reset with dclkw := 2000000000 }).dclkw.toNat = 2000000000 ∧
  after (exec (.powerOnReset 3 0x0301) State.reset) (fun t => t.front.phase == .failed 0 && decide (t.dclkw.toNat < 0 + 100000000)) = true := by decide +kernel
theorem witness_fail_codes : Claim.FailCode 1 0x0102 ∧ Claim.FailCode 3 0x0317 ∧ ¬ Claim.FailCode 3 0x0318 ∧ ¬ Claim.FailCode 6 0x0600 := by
  refine ⟨.inl ?_, .inr (.inr ?_), ?_, ?_⟩ <;> first | decide | (unfold Claim.FailCode; decide)
theorem witness_host_registers : base.front.modstat.getLsbD 0 = true ∧ base.front.linkUp.getD 1 false = true ∧ base.starter.live = [] ∧ base.starter.queued = [] ∧ (consumer none).starter.live ≠ [] ∧
  (2#64).getLsbD 1 = true ∧ (1#64).getLsbD 1 = false ∧ (1#64).getLsbD 0 = true ∧ (0x1FFFF8 < 2 ^ 26 ∧ 0x1FFFF8 % 0x1000 ≠ 0x90 ∧ 0x80 < 0x1FFFF8 % 0x1000) := by decide +kernel

/-- Queue 3's context, with the window's packet that the launching strand's memory holds. -/
def rung (n : Nat) : State := { launching with
  front := { launching.front with windows := [⟨0, 3, #v[0x800000, 8, 3, 0, 0, 0, 0, 0, 0, 0, 0, 0, 0, 0, 0, 0], 0, 0, 0⟩] }
  starter := { Starter.reset with queued := List.replicate n { launch0 with queue := 3 } } }

theorem witness_doorbell : (let s := rung 0; let W := s.window 0 3
  isOk (s.context 3) && !s.malformed W.bytes && (match (s.context 9).1 with | .error e => e == 2 | .ok _ => false) && s.malformed (rung 0 |>.setWindow { W with pkt := W.pkt.set 0 1 } |>.window 0 3).bytes &&
  decide (64 ≤ ((rung 64).starter.queued.filter (fun l => l.queue == 3)).length) && decide (2 < 256)) = true := by decide +kernel
/-- In minimal mode a context that names other dies is unavailable. -/
theorem witness_doorbell_minimal : (let s := rung 0; let s := { s with front := { s.front with modstat := 7 }, mem := Memory.setBytes s.mem (128 * 3 + 0x40) [3, 0, 0, 0] }
  (match (s.context 3).1 with | .error e => e == 3 | .ok _ => false)) = true := by decide +kernel
/-- BAR2 of both links at its least size, with BAR2BASE at `b`. -/
def windowed (b : Word) : State := { base with front := { base.front with bar2 := Vector.replicate 2 (some 0), bar2base := b } }

theorem witness_bar2 : (let s := windowed 0; let pa := (s.front.bar2base.toNat + (0x1000#42).toNat) % 2 ^ 42
  pa % 64 + 8 ≤ 64 ∧ (0x1000#42).toNat + 8 ≤ s.bar2Size 0 ∧ keyDie pa < 24 ∧ (s.dieAt (keyDie pa)).phase ≠ .failed ∧ (s.tag (pa / 64)).state = 5 ∧ ((tagged ⟨6, 0xF80, 0, 0⟩).tag 16).state = 6) ∧
  (let s := windowed 0x3C000000000; 24 ≤ keyDie ((s.front.bar2base.toNat + (0#42).toNat) % 2 ^ 42) ∧ (0#42).toNat + 8 ≤ s.bar2Size 1) ∧ ((tagged ⟨7, 0, 0, 0⟩).tag 16).state = 7 := by decide +kernel
theorem witness_links : base.front.modstat.getLsbD 2 = true ∧ base.front.linkUp.getD 0 false = true ∧ State.reset.front.linkUp.getD 0 true = false ∧ State.reset.front.modstat.getLsbD 1 = false ∧
  ({ base with front := { base.front with phase := .terminal, modstat := 2 } }).front.phase = .terminal := by decide +kernel

/-- LATTOL that permits A1 and A2 everywhere, and A3 to die 3. -/
def tolerant (n : Nat) : State := let s := later n
  { s with front := { s.front with lattol := BitVec.ofNat 64 (2 ^ 35 + 5000) } }

theorem witness_idle_entry : (let s := tolerant 20000000; s.dieAt 3 == Die.reset 3 && !s.busyDies.contains 3 && Claim.dieCode s 3 == 0 && decide (Claim.latency 3 ≤ (s.front.lattol.extractLsb' 0 32).toNat * 1000) && s.front.lattol.getLsbD 35 &&
  decide ((s.dieAt 3).idleAt + Claim.entryTime 3 ≤ s.now) && !s.front.lattol.getLsbD 36 && decide (Claim.latency 2 ≤ (s.front.lattol.extractLsb' 0 32).toNat * 1000) && decide ((s.dieAt 3).idleAt + Claim.entryTime 2 ≤ s.now) && !(tolerant 5).front.lattol.getLsbD 36) = true := by decide +kernel
theorem witness_die_phases : ((die3 base (.entering 2 0)).dieAt 3).phase = .entering 2 0 ∧ ((die3 (later 9000000) (.exiting 0)).dieAt 3).phase = .exiting 0 ∧ 0 + 4 * Claim.latency (Claim.dieCode (later 9000000) 3) ≤ (later 9000000).now ∧
  0 + 1000000 ≤ (later 9000000).now ∧ (base.dieAt 3).phase = .steady ∧ Claim.dieCode { base with front := { base.front with diestate := 0xC0 } } 3 = 3 := by decide +kernel
/-- Entries within 1 ms and later; exits before their latency, within four times it, and after. -/
theorem witness_die_windows : (let s (n : Nat) (p : DiePhase) := die3 { later n with front := { base.front with diestate := 0xC0 } } p
  ((s 900000 (.entering 2 0)).dieAt 3).phase = .entering 2 0 ∧ (s 900000 (.entering 2 0)).now ≤ 0 + 1000000 ∧ 0 + 1000000 < (s 1100000 (.entering 2 0)).now ∧ ((s 5 (.exiting 0)).dieAt 3).phase = .exiting 0 ∧
  (s 5 (.exiting 0)).now < 0 + Claim.latency 3 ∧ 0 + Claim.latency 3 ≤ (s 5000000 (.exiting 0)).now ∧ (s 5000000 (.exiting 0)).now ≤ 0 + 4 * Claim.latency 3 ∧ 0 + 4 * Claim.latency 3 < (s 90000000 (.exiting 0)).now) := by decide +kernel
/-- An entry that has lasted more than 1 ms when a wake-up or LATTOL comes, one that has not, and a die with no store that stands still. -/
theorem witness_late_entry : (let s (n : Nat) := die3 { later n with front := { base.front with diestate := 0 } } (.entering 2 0)
  0 + 1000000 < (s 1100000).now ∧ ((s 1100000).dieAt 3).phase = .entering 2 0 ∧ (s 900000).now ≤ 0 + 1000000 ∧ base.storesHeld 3 = false ∧ ¬ Claim.latency 2 ≤ 1 * 1000) := by decide +kernel
theorem witness_failed_die : base.cur.live = true ∧ base.cur.id.core / 16 = 0 ∧ base.strand 1 = some base.cur ∧ ((base.setDie { Die.reset 0 with phase := .exiting 0 }).dieAt 0).phase = .exiting 0 := by decide +kernel
/-- A die in A2 when LATTOL permits A1 only, and when it permits nothing. -/
theorem witness_lattol : (let s := { base with front := { base.front with diestate := 0x80 } }
  Claim.dieCode s 3 == 2 && decide (Claim.latency 1 ≤ 2 * 1000) && !decide (Claim.latency 2 ≤ 2 * 1000) && !decide (Claim.latency 1 ≤ 1 * 1000) && (s.dieAt 3).phase == .steady && Claim.dieCode s 4 == 0) = true := by decide +kernel
theorem witness_average : ({ later 5 with front := { base.front with avgAt := some 0 } }).now < 0 + 100000 ∧ base.front.avgAt = none := by decide +kernel
theorem witness_cap : (let s := { later 3000000 with front := { base.front with overSince := some 0, pwrstat := 0x60000 } }
  s.front.overSince == some 0 && decide (0 + 1000000 ≤ s.now) && !s.front.capHold && decide ((s.front.pwrcap.extractLsb' 0 16).toNat < (17000#16).toNat) && (s.front.pwrstat.extractLsb' 16 4).toNat == 6) = true := by decide +kernel

/-- Port 5 up (or retraining), with a write on it that completed locally at tick 0. -/
def flight0 (p : Option Nat) : Flight := ⟨⟨1, 0, 0x2000000, 0xFF, 7, 0x800000, 0, 0, 1, [(1, 0xFF)]⟩, 0, p, 0, some 0, none⟩
def porting (status : Nat) : State := let s := later 3000000
  { s with front := { s.front with ports := [⟨5, status, 16, [⟨7, 0, 0, none, 64, 1⟩], 0⟩] }, homes := { s.homes with wnet := [flight0 (some 5)] } }

theorem witness_fabric : (porting 1).front.ports.find? (fun q => q.id == 5) = some ⟨5, 1, 16, [⟨7, 0, 0, none, 64, 1⟩], 0⟩ ∧ (porting 1).front.modstat.getLsbD 2 = true ∧ (∃ q ∈ (porting 2).front.ports, q.id = 5 ∧ q.status = 2) ∧
  (porting 1).homes.wnet[0]? = some (flight0 (some 5)) ∧ (flight0 (some 5)).port ≠ none ∧ (flight0 (some 5)).local_ = some 0 ∧ 0 + 1000000 ≤ (porting 1).now ∧
  (let q : Port := ⟨5, 2, 16, [], 0⟩; q.since + 50000000 < (later 60000000).now ∧ (porting 2).now ≤ q.since + 50000000 ∧ 16 ≤ q.replays) ∧
  (let g := { flight0 (some 5) with entry := { (flight0 (some 5)).entry with pos := 0 } }; g.ahead (flight0 (some 5)) = true ∧ arriving (fun e => e.ahead (flight0 (some 5))) [g] = ([g], [])) := by
  decide +kernel
theorem witness_route : 7 ≠ base.front.modnum.toNat ∧ 2 ∈ perimeter ∧ 7 ∉ perimeter ∧ (base.dieAt 2).routes = [] ∧ (base.tag ((0x400000 + 8 * 7) / 64)).state = 5 ∧
  (let s := { base with tags := [((0x400000 + 8 * 7) / 64, ⟨6, 1, 0, 0⟩)] }; (s.tag ((0x400000 + 8 * 7) / 64)).state ≠ 5 ∧ (s.tag ((0x400000 + 8 * 7) / 64)).state ≠ 4) := by decide +kernel

/-! #### The homes -/

/-- A write on its way to line 32 of core 0's vault, an invalidation and a load reply on their way. -/
def homing : State := { base with homes := { base.homes with wnet := [⟨⟨1, 0, 32, 0xFF, 7, 0x800000, 0, 0, 1, [(1, 0xFF)]⟩, 0, none, 0, none, none⟩], invals := [⟨0, 32, 1, 1⟩], acks := [⟨0, 33, 1, 1⟩], loads := [⟨1, 6, 0x55, 32, some 0⟩] } }

theorem witness_home_write : homing.held (flight0 none) = false ∧ (flight0 none).overdue homing.now = false ∧ (flight0 none).block = none ∧ homing.homes.wnet[0]? = some ⟨⟨1, 0, 32, 0xFF, 7, 0x800000, 0, 0, 1, [(1, 0xFF)]⟩, 0, none, 0, none, none⟩ ∧ keyModule (64 * 32) = 0 ∧ (homing.dieAt (keyDie (64 * 32))).phase ≠ .failed ∧
  (homing.landAt 32 0 0xFF 7).1 = true ∧ (({ homing with tags := [(32, ⟨7, 0, 0, 0⟩)] }).landAt 32 0 0xFF 7).1 = false := by decide +kernel
theorem witness_home_read : homing.strand 1 = some homing.cur ∧ homing.cur.run = .running ∧ isOk (homing.readHome 0 homing.cur.writer 32) = true ∧ isOk (({ homing with tags := [(32, ⟨6, 8, 0, 0⟩)] }).readHome 0 homing.cur.writer 32) = false ∧
  homing.homes.loads[0]? = some ⟨1, 6, 0x55, 32, some 0⟩ ∧ homing.homes.invals.find? (fun e => e.core == 0) = some ⟨0, 32, 1, 1⟩ := by decide +kernel
theorem witness_home_drain : after (exec (.sd 7 6 0) spad) (fun t => t.core.outb.length == 1 && t.core.outb.all (fun o => !t.blocked 0 o && !t.outHeld o.sid && decide (t.dclkw.toNat < o.last + 4000))) = true := by decide +kernel
theorem witness_scrub : (base.coreAt 0).patrol < 2048 ∧ Memory.wf base.mem = true ∧ 64 * ((0 * 2 ^ 33) / 64 + (base.coreAt 0).patrol) < 2 ^ 42 ∧ (base.coreAt 383).patrol = 0 ∧ 64 * ((383 * 2 ^ 33) / 64 + 0) < 2 ^ 42 := by decide +kernel
theorem witness_walk : isOk (base.translate base.cur.agent 0xF000000000000000 .read) = false ∧ isOk ((base.withFetchWord 32 0x20).translate (base.withFetchWord 32 0x20).cur.agent 0x800000 .exec) = true ∧
  ({ base with core := { base.core with clearing := true } }).core.eng = [] := by decide +kernel
/-- A strand of module 3, whose packets come on port 2. -/
def party0 : Party := ⟨2, 3, 9, false⟩
/-- The state in a module that has its number, so that other modules reach it, by port 2. -/
def numbered (s : State) : State := { s with front := { s.front with assigned := true, ports := [⟨2, 1, 0, [], 0⟩] } }

theorem witness_objects : (let s := numbered barrier; let d := s.line (0x1000040 / 64); ((s.partyObj party0 0x1000040 1).1 == some d && decide (Claim.fld d 0xC 4 ≠ Claim.fld d 8 4) && decide ((3#64).toNat ≤ Claim.fld (lset d 0x18 8 5) 0x18 8) && decide (Claim.fld d 0x18 8 < (9#64).toNat)) = true) ∧
  (let s := numbered (queue 2 1); let d := s.line (0x1000080 / 64); ((s.partyObj party0 0x1000080 2).1 == some d && decide (Claim.held d < 2 ^ Claim.fld d 2 1) && decide (Claim.held d ≠ 0) && isOk (s.qPush partyAgent 0x1000080 d 5) && isOk (s.qPop partyAgent 0x1000080 d)) = true) ∧
  ((numbered (queue 2 2)).partyObj party0 0x1000080 2).1 = some ((queue 2 2).line (0x1000080 / 64)) := by decide +kernel

/-! #### Copies, streams, the Relay -/

/-- The head of channel 2 with some blocks done, a step and a place where it waits. -/
def copying' (kind step : Nat) (done : List Nat) (park : Option (Nat × Word)) : State := let s := copying false
  s.onHead 0 2 (fun c => { c with kind := kind, step := step, done := done, park := park, obj := if kind = 2 then 0xF000000001000080 else 0xF000000001000040 })

theorem witness_copy_fill : (let s := copying' 0 0 [] none; (s.chanAt 0 2).queue.length = 1 ∧ (s.chanAt 0 2).queue.head?.map (fun c => c.pieces == [(0, 8)] && !c.dead && c.park.isNone && !s.frozen 0 c.sid && c.landed == 0 && c.sent.isEmpty && !spadOutside c.dst) = some true ∧
  (s.chanAt 0 2).queue.head?.map (fun c => isOk (s.copyRead (c.agent 0) 3 c.src 8) && (s.resolveAddr (c.agent 0) c.dst .write).1.toOption == some (spadKey 0 0x40) &&
    ((s.olderFirst 0 c.sid c.pos (spadKey 0 0x40 / 64)).landAt (spadKey 0 0x40 / 64) 0 0xFF 0).1) = some true ∧ keyModule (spadKey 0 0x40) = 0 ∧ (s.dieAt (homeDie (spadKey 0 0x40))).phase ≠ .failed) := by decide +kernel
/-- A copy to a page of another module, with a route to it. -/
def sending : State := let s := numbered (copying' 0 0 [] none)
  { (s.setDie { Die.reset (sendDie 0) with routes := [(1, 0x101000005)] }) with
    front := { s.front with ports := [⟨5, 1, 0, [], 0⟩] }, core := { s.core with tlb := [⟨0x10000, 65536, 0, 0x40000010079⟩], chans := s.core.chans.set 2 { s.core.chans[2] with queue := [{ copy0 with dst := 0x10040 }] } } }

theorem witness_copy_away : ((sending.resolveAddr (({ copy0 with dst := 0x10040 } : CopyCmd).agent 0) 0x10040 .write).1.toOption.map keyModule) = some 1 ∧
  sending.olderWrites 0 1 1 (0x40000010040 / 64) = false ∧ (sending.splitOlder 0 1 1 (0x40000010040 / 64)).1 = none ∧ (sending.portFor 0 0x40000010040).1 = some 5 := by decide +kernel
theorem witness_copy_end : ((copying' 1 0 [0] none).chanAt 0 2).queue.head?.map (fun c => (c.landed, c.step, c.kind)) = some (8, 0, 1) ∧ ((copying' 0 2 [0] none).chanAt 0 2).queue.head?.map (fun c => c.step) = some 2 ∧
  ((copying' 0 0 [] (some (0, 0x10000))).chanAt 0 2).queue.head?.map (fun c => c.park) = some (some (0, 0x10000)) := by decide +kernel
/-- The turn of a payload begins: every line can be turned, or none is because the page of another module has no route left, or because the page is absent. -/
theorem witness_copy_turn : (let c := { copy0 with dst := 0x10040, done := [0] }; let t (s : State) := (s.turnBegin 0 2 c).1.toOption; let cause (s : State) := match (s.turnBegin 0 2 c).1 with | .error x => some x.cause | .ok _ => none
  let cut : State := { sending with front := { sending.front with ports := [] } }
  t sending == some [0x40000010040 / 64] && cause cut == some 0x300 && cause (copying false) == some 0x080) = true := by decide +kernel
/-- Two credits of one strand to one line: the first goes first, and one that has arrived waits for none. -/
theorem witness_copy_order : (let m : Credit := ⟨0, 2, copy0, 0, some 32, false⟩; base.msgAhead m m && !base.msgAhead { m with there := true } m && !base.msgAhead { m with line := none } m) = true := by decide +kernel
/-- The credit of a COPYB whose barrier expects more or less; the message of a PUTQ to a queue with room and without. -/
theorem witness_copy_objects : (let s := copying' 1 1 [0] none
  ((s.chanAt 0 2).queue.head?.map (fun c => ({ s with mem := Memory.setBytes [] 0x1000040 ([1, 0, 0, 0] ++ toBytes 4 5 ++ toBytes 4 2 ++ toBytes 4 1 ++ toBytes 8 0 ++ toBytes 8 8) }).readObj (({ c with sup := true } : CopyCmd).agent 0) c.obj 1 |>.1.toOption.map (fun (p : Nat × Line) => Claim.fld p.2 0x18 8))) == some (some 8)) = true ∧
  (let s := queue 2 1; isOk (s.readObj s.me 0xF000000001000080 2) && isOk (s.qPush s.me 0x1000080 (s.line (0x1000080 / 64)) 3)) = true ∧ Claim.fld (barrier.line (0x1000040 / 64)) 0x18 8 < 8 ∧ 0 + 1000000000 ≤ (later 1000000001).now := by decide +kernel
theorem witness_copy_page : (copying false).harrierHeld 0 = false ∧ ({ base with cur := { base.cur with records := [{ copy0.record 0x0A0 0 1 2 0 with ring := 16, pos := 1 }] } } : State).harrierHeld 0 = true ∧ isOk ((base.withFetchWord 32 0x20).lookup (base.withFetchWord 32 0x20).me 0x800000) = true ∧ isOk (base.lookup base.me 0x10000) = false ∧ 0 + (base.coreAt 0).dlcap.toNat % 2 ^ 63 ≤ (later 1000000001).now := by decide +kernel

/-- A strand with a paired stream of kind 2 or 3 bound to v29, and its partner in slot 1 with a group produced. -/
def paired : State := { streaming 0 with
  cur := { (streaming 0).cur with streams := (streaming 0).cur.streams.set 1 (some ⟨#v[2, 1, 0, 0], 0, [], none, none, false, []⟩), stall := some 0, blockedOn := some 29, run := .running }
  strands := [{ other with streams := (Vector.replicate 4 none).set 0 (some ⟨#v[7, 0, 0, 0], 1, [], some (16, [1]), none, false, []⟩) }]
  dclkw := BitVec.ofNat 63 2000000000 }

/-- An affine output with an element to drain, which nothing younger overwrites. -/
def draining : State := { base with cur := base.cur.setStream 0 (some { stream0 1 with count := 1, ahead := [], pend := [⟨1, 0x100, 2, 0x3F80⟩] }) }

theorem witness_drain : (draining.cur.streams.getD 0 none).map (fun b => (b.kind, b.pend)) = some (1, [⟨1, 0x100, 2, 0x3F80⟩]) ∧ draining.outUsed 0 + 1 ≤ 4096 ∧ (2 : Nat) ∈ [1, 2, 4, 8] ∧ 0x100 % 2 = 0 ∧ 0x100 + 2 ≤ 2 ^ 23 ∧
  Claim.writtenBeyond draining 0 1 1 (spadKey 0 0x100) = false := by decide +kernel
theorem witness_pair : paired.pairOf paired.cur 1 = some 2 ∧ ((paired.strand 2).bind (fun u => (u.streams.getD 0 none).bind Stream.group)) = some (16, [1]) ∧ (paired.cur.streams.getD 1 none).map Stream.reg = some 0 ∧
  paired.cur.live = true ∧ paired.cur.nest = false := by decide +kernel
theorem witness_streams : paired.cur.streams.getD 0 none = some (stream0 0) ∧ (stream0 0).kind = 0 ∧ (stream0 0).count + (stream0 0).ahead.length < (stream0 0).n0 * (stream0 0).n1 ∧ (stream0 1).kind = 1 ∧ (stream0 1).pend = [] ∧
  (paired.cur.streams.getD 1 none).map (fun b => (b.kind, b.group)) = some (2, none) ∧ paired.cur.blockedOn = some 29 ∧ paired.cur.stall = some 0 ∧ paired.cur.stepping = false ∧ 0 + (paired.coreAt 0).dlcap.toNat % 2 ^ 63 ≤ paired.now := by decide +kernel
def record0 : Record := copy0.record 0x0A0 0 1 2 0
/-- The one rank's contribution to slot 1 of group 1. -/
def given0 : Contribution := ⟨1, 0, (upto 0 64).map (fun i => (i, 0)), 0, 0, false, false, 0, record0⟩

theorem witness_round : (let s := { grouped false with rounds := [⟨1, 1, [given0]⟩] }; let r : Round := ⟨1, 1, [given0]⟩
  (s.rounds.find? (fun r => r.group == 1 && r.slot == 1)).map (fun r => r.parts) == some [given0] && s.strand 1 == some s.cur && (s.roundGroup r).1.isSome && !s.relayHeld 1 && !s.roundFrozen r && given0.sid != 0 &&
  (s.roundGroup r).1.any (fun g => r.ready g given0 && r.full g 0 0 0 && !r.mismatch g given0 && (⟨1, 1, [given0, { given0 with op := 1 }]⟩ : Round).mismatch g given0 &&
    !(⟨1, 1, [{ given0 with bytes := [] }]⟩ : Round).full g 0 0 0 && isOk (s.ranks g r) && (s.roundCrosses g r given0 []).1 && !(s.roundCrosses g r given0 [7]).1 &&
    isOk (s.translate s.cur.agent (g.stgbase + 64) .write) == false)) = true := by decide +kernel
/-- A rank here whose record of the Relay waits for a ring entry, and a contribution that the Relay has sent. -/
theorem witness_round_waits : (let rec_ := { record0 with ring := 16, unit := 3 }; let s : State := { grouped false with cur := { (grouped false).cur with records := [rec_] } }
  let f : State := { grouped false with core := { (grouped false).core with dbgctl := 0x1004000 } }
  s.relayHeld 1 && !(grouped false).relayHeld 1 && !(grouped false).chunkFrozen given0 && !f.chunkFrozen { given0 with sent := 64 }) = true := by decide +kernel
/-- An arrival parked at die 0 whose page is still absent, then present, then turned away. -/
theorem witness_parked : (let p : Parked := ⟨1, 1, 1, 0, [1], 0, false, 4, record0⟩; let s := (grouped false).setDie { Die.reset 0 with parked := [p] }
  let land (leaf : Word) : Option (BitVec 10) := let s := { s with core := { s.core with tlb := [⟨0x10000, 65536, 0, leaf⟩] } }; (s.landPiece s.cur 0x10040 [0] [1]).1.map (·.cause)
  s.allParked[0]? == some (0, p) && !s.relayHeld 1 && (s.groupFor 1 1).1.isSome && (s.landPiece s.cur 0x10040 [0] [1]).1.map (·.cause) == some 0x080 && land 0x10079 == none && land 0x10009 == some 0x081) = true := by decide +kernel

/-! #### Waits, launches, pre-emption, debug -/

/-- A strand in a wait. -/
def waits (w : WaitFor) (exp : Bool) (refused : Option Nat) : State := let s := { barrier with dclkw := BitVec.ofNat 63 5000 }
  { s with cur := { s.cur with run := .waiting ⟨0, 6, ⟨false, 4000⟩, w, refused, exp⟩ }, homes := { s.homes with waiters := if refused.isNone then [⟨1, 0x1000040, none⟩] else [] } }

theorem witness_waits : (waits (.counts 0 0 0 0) false none).strand 1 = some (waits (.counts 0 0 0 0) false none).cur ∧ (⟨false, 4000⟩ : Deadline).tick < (waits (.counts 0 0 0 0) false none).dclkw.toNat ∧ (WaitFor.counts 0 0 0 0).obj = none ∧
  ((waits (.counts 0 0 0 0) false none).localTry (waits (.counts 0 0 0 0) false none).cur (.counts 0 0 0 0)).isSome = true ∧ ((waits (.round 3) false none).localTry (waits (.round 3) false none).cur (.round 3)).isNone = true ∧
  (WaitFor.phase 0x1000040 6).obj = some 0x1000040 ∧ (waits (.phase 0x1000040 6) true none).homes.waiters.any (fun q => q.sid == 1 && q.put.isNone) = true ∧ (WaitFor.arrival 0x1000040 6).obj ≠ none := by decide +kernel
theorem witness_waitFault : let s := waits (.fence 2) false none
  ((waits (.counts 0 0 0 0) false none).waitFault (waits (.counts 0 0 0 0) false none).cur ⟨0, 6, ⟨false, 4000⟩, .counts 0 0 0 0, none, false⟩).isNone = true ∧
  ((waits (.round 3) false none).waitFault (waits (.round 3) false none).cur ⟨0, 6, ⟨false, 4000⟩, .round 3, none, false⟩).isNone = true ∧
  (s.waitFault { s.cur with records := [⟨0x300, 0, 0, 0, 0, 0, 0, 0, 0, 0, 0, 0, 0, 0, 0, 0, 0, 0, false⟩] } ⟨0, 6, ⟨false, 4000⟩, .fence 2, none, false⟩).isSome = true := by decide +kernel
/-- A refused BARW whose phase has passed is done when it is tried again. -/
theorem witness_again : (let s := waits (.phase 0x1000040 5) false (some 0); match s.cur.run with | .waiting w => (match (s.attemptAgain s.cur w).1 with | .done _ => true | _ => false) | _ => false) = true := by decide +kernel
theorem witness_refused : (let s := waits (.phase 0x1000040 5) false (some 0); s.homes.waiters == [] && decide (0 + 1000 ≤ s.now) && decide ((Claim.fld (s.line (0x1000040 / 64)) 4 4 + 2 ^ 32 - (5#32).toNat) % 2 ^ 32 < 2 ^ 31) && s.cur.stepping == false) = true ∧
  (let q := ({ base with homes := { base.homes with wakes := [⟨1, 0, none, none⟩] } } : State); q.homes.wakes[0]? = some ⟨1, 0, none, none⟩ ∧ q.firstWake ⟨1, 0, none, none⟩ = 0) ∧
  (let s := waits (.append 0x1000080 [] 4) false none; s.cur.stepping = false ∧ s.cur.resuming = false ∧ (encode (.vapnd 6 5 7)).extractLsb' 26 6 = 0x22 ∧ (0#32).extractLsb' 26 6 ≠ 0x22#6) := by decide +kernel
/-- A BARAW whose withdrawal is on its way, and a wake-up that comes in time or too late. -/
theorem witness_late_wake : (let w : WaitRec := ⟨0, 6, ⟨false, 4000⟩, .arrival 0x1000040 5, none, true⟩; let s := waits (.arrival 0x1000040 5) true none
  let q : State := { s with homes := { s.homes with wakes := [⟨1, 0, none, none⟩] } }
  s.cur.run = .waiting w ∧ w.expired = true ∧ (⟨false, 4000⟩ : Deadline).tick < s.dclkw.toNat ∧ q.homes.wakes[0]? = some ⟨1, 0, none, none⟩ ∧ (waits (.arrival 0x1000040 5) false none).cur.waitRec = some { w with expired := false } ∧
  ({ waits (.arrival 0x1000040 5) false none with dclkw := 3999 } : State).dclkw.toNat ≤ 4000) := by decide +kernel
/-- A declaration of the first 4 elements; a hold that W meets, and one that has run out. -/
theorem witness_dependence : (let s := consumer none
  s.cur.id.sid != 0 && s.cur.stepping == false && launch0.id == 9 && oneModule launch0.ctx && decide (launch0.watermark < launch0.packet.count.toNat) && decide (4 ≤ launch0.watermark ∧ launch0.watermark < 6) && decide (4 ≤ (s.producerW 9).1) && decide ((s.producerW 9).1 < 8) &&
  ((consumer (some (true, 0))).producerW 9).2) = true ∧
  (let s (rises : List (Nat × Nat)) : State := { consumer none with dclkw := 50, starter := { Starter.reset with live := [launch0, { launch0 with id := 7, rises := rises }] } }
   (s [(8, 30)]).dclkw.toNat = 50 ∧ ((s [(8, 30)]).launch 7).map (·.rises) = some [(8, 30)] ∧ (s [(8, 45)]).cur.id.lid = 7 ∧ (40 : Nat) < 50 ∧ ¬ (8 ≤ 8 ∧ 45 ≤ 40) ∧ (8 ≤ 8 ∧ 30 ≤ 40)) := by decide +kernel

/-- A hold that a pre-emption request reached in an earlier tick. -/
theorem witness_hold_ends : (let s := { consumer none with dclkw := 50 }; let t := { s.cur with request := some 40, run := .holding }
  t.nest == false && decide (40 < s.dclkw.toNat) && !(s.starter.live.any (fun l => l.id == s.cur.id.lid && l.rises.any (fun e => decide (e.2 ≤ 40)))) && !t.sent && !t.stepping && t.run == .holding && decide (40 ≤ (⟨false, 45⟩ : Deadline).tick)) = true := by decide +kernel

/-- A launch that waits in its queue, one that has been taken, and a strand of it that may start. -/
def startable (taken : Bool) (left : Nat) : State := let l := { launch0 with queue := 1, taken := taken, left := left, watermark := 0, packet := { packet0 with ctrl := 3 } }
  { base with starter := if taken then { Starter.reset with live := [l] } else { Starter.reset with queued := [l] } }

theorem witness_starter : (startable false 1).nextLaunch.isSome = true ∧ (startable false 1).starter.queued ≠ [] ∧ (startable false 1).starter.live.length < 960 ∧ (startable true 1).dieRuns 0 = true ∧ ((startable true 1).pick 0 ((startable true 1).waitList 0) []).map (fun q => (q.2.1, q.2.2.1)) = some (1, 0) ∧ launch0.ctx.sup = false ∧
  (startable true 1).nextSid ≠ 0 ∧ (∀ u ∈ (startable true 1).all, u.id.sid < (startable true 1).nextSid) ∧ ((startable true 0).launch 9).map (fun l => l.left) = some 0 ∧ (({ base with starter := { Starter.reset with live := [{ launch0 with stop := some (true, 0) }] } } : State).launch 9).map (fun l => l.stop) = some (some (true, 0)) := by
  decide +kernel
/-- A strand that yielded and may come back. -/
theorem witness_resume : (let s := { base with cur := { base.cur with run := .away .yield none } }
  s.dieRuns 0 && (s.pick 0 (s.waitList 0) []).any (fun q => match q.1 with | .away t => t == s.cur | _ => false)) = true := by decide +kernel

/-- Its save area is being read, and nothing else is to do. -/
def returning : State := { base with cur := { base.cur with run := .restoring .yield none } }
theorem witness_restore : returning.strand 1 = some returning.cur ∧ returning.cur.request = none ∧ (returning.coreAt 0).outb = [] ∧ returning.homes.wnet = [] ∧ returning.sched.agenda = [] ∧ returning.pacer.isNone = true ∧
  (match returning.restorer with | some (.next _) => true | _ => false) = true ∧ ({ returning with dclkw := 2000000 }).cur.saveAt + 1000000 ≤ ({ returning with dclkw := 2000000 } : State).now := by decide +kernel
/-- Every lane is held by the strand, of class 1, when a strand of class 0 could start. -/
def crowded : State := let s := startable true 1
  { s with cur := { s.cur with id := { s.cur.id with cls := 1, lanes := 0xFFFFFFFF } } }

theorem witness_preemption : crowded.plan 0 = [1] ∧ (Claim.requested crowded 0).plan 0 = [1] ∧ crowded.strand 1 = some crowded.cur ∧ crowded.cur.id.cls = 1 ∧ crowded.cur.dbg = false ∧ crowded.cur.resident = true ∧
  base.plan 0 = [] ∧ crowded.waiters 0 ≠ [] := by decide +kernel
def asked (at_ : Nat) : State := { later 20000000 with cur := { base.cur with request := some at_, repeats := 4096 } }
theorem witness_forced : (let s := asked 0; s.cur.request == some 0 && decide (0 + 8000 ≤ s.now) && !s.cur.dbg && decide (4096 ≤ s.cur.repeats) && s.loadsOut s.cur == 0 && ({ s.cur with sent := true }).sent && decide (0 + 1000000 ≤ s.now) && s.cur.areaOk && s.cur.stall.isNone) = true ∧ Memory.wf base.mem = true := by decide +kernel
theorem witness_late : (let r := record0
  let s := (base.addRecord 1 r).setC { base.cur.c with dclkr := 20000000 }
  (nextRecord (s.cur.records.filter (Record.late s.cur.c.dclkr.toNat))).isSome && !s.cur.nest && s.cur.stall.isNone) = true ∧ handler.cur.nest = true ∧ handler.cur.nestAt = 0 ∧ handler.cur.nestAt + 10000000 ≤ ({ handler.cur with stay := 20000000 }).stay := by decide +kernel
theorem witness_debug : base.inSlot 0 3 = none ∧ base.inSlot 0 0 = some base.cur ∧ base.strand 1 = some base.cur ∧ base.cur.dbg = false ∧ base.cur.stepping = false ∧ base.cur.areaOk = true ∧
  (let t := { base.cur with dbg := true, run := .away .forced none }; ({ base with cur := t }).inSlot 0 0 = some t) ∧ base.cur.c.ten.getLsbD 0 = false ∧ base.core.holder = none ∧ sig.cur.c.ten.getLsbD 0 = true ∧ sig.tilesOut sig.cur = 0 := by decide +kernel

/-! #### The whole machine -/

/-- ADD x5, x5, x5 at the program counter; a reserved word; and no page there. -/
theorem witness_step : (let s := base.withFetchWord 32 0x04A52800
  s.sched.agenda.isEmpty && s.pacer.isNone && s.restorer.isNone && s.lastPoint.isNone && s.due.isNone && s.mayIssue s.cur && s.cur.escal.isNone && s.fetchWord.1.toOption == some 0x04A52800) = true ∧
  (base.withFetchWord 32 0).fetchWord.1.toOption = some 0 ∧ isOk base.fetchWord = false ∧ base.pacer.isNone = true ∧ base.due.isNone = true := by decide +kernel
theorem witness_well_formed : (Instr.add 5 5 5).isWord = true ∧ (Instr.add 5 5 5).wf = true ∧ (Instr.lineMarker 0x81).wf = true ∧ (Instr.sd 6 30 0x1FF8).wf = true := by decide +kernel
theorem witness_step_next : Memory.wf (base.withFetchWord 32 0x04A52800).mem = true ∧ (match step (base.withFetchWord 32 0x04A52800) with | .next t => t.cur.pc == 0x800004 | _ => false) = true := by decide +kernel
end Sys2Proof.Tests
end

section
/-! PROOF. Every step keeps the canonical form of memory (log entry 6). One lemma per operation of the model that can touch the
state says either that the operation leaves memory as it is (`_mem`) or that it keeps the form (`_wf`, and `kept` for outcomes:
`_kept`); an operation's lemma rests on the lemmas of the operations that it calls. They follow the order of the model. -/

namespace Sys2Proof.MemoryForm

open Machine Laws

/-! ### Rules -/

/-- An operation that leaves memory as it is keeps its form. -/
theorem wf_of_mem {s t : State} (e : t.mem = s.mem) (h : Memory.wf s.mem = true) : Memory.wf t.mem = true := by
  rw [e]; exact h

/-- The form of what an operation leaves, once a case of its result is known. -/
theorem wf_of_eq {α : Type} {q : α × State} {a : α} {t : State} (e : q = (a, t)) (h : Memory.wf q.2.mem = true) :
    Memory.wf t.mem = true := by
  rw [e] at h; exact h

theorem asStrand_wf (s : State) (sid : Nat) (f : State → State)
    (hf : ∀ t, Memory.wf (State.mem t) = true → Memory.wf (f t).mem = true) :
    Memory.wf s.mem = true → Memory.wf (State.asStrand s sid f).mem = true := by
  intro h
  have hs := hf (s.focus sid) (wf_of_mem (focus_mem s sid) h)
  grind [State.asStrand, focus_mem]

theorem kept_next {t : State} (h : Memory.wf t.mem = true) : kept (.next t) = true := h

/-- A whole line of memory replaced. -/
theorem wf_setLine {m : List Host.Cell} (l d : Nat) (h : Memory.wf m = true) :
    Memory.wf (Memory.setMasked m (64 * l) (2 ^ 64 - 1) d 64) = true :=
  @wf_setMasked 64 m (64 * l) (2 ^ 64 - 1) d h

/-- A recursion over a list leaves memory alone when each of its turns does. It is stated of any turn `F`, lest the kernel compute
with the addresses in a given one. -/
theorem brecOn_mem {α β : Type} (F : (t : List α) → List.below (motive := fun _ => State → β × State) t → State → β × State)
    (hnil : ∀ f s, (F [] f s).2.mem = s.mem)
    (hcons : ∀ a l (f : List.below (motive := fun _ => State → β × State) (a :: l)), (∀ s, (f.1 s).2.mem = s.mem) →
      ∀ s, (F (a :: l) f s).2.mem = s.mem) (l : List α) (s : State) :
    (List.brecOn (motive := fun _ => State → β × State) l F s).2.mem = s.mem := by
  induction l generalizing s with
  | nil => exact hnil _ s
  | cons a l ih => exact hcons a l _ ih s

/-! ### Homes -/

theorem answer_mem (s : State) (a : Party) (key n : Nat) : (State.answer s a key n).mem = s.mem := by
  grind [State.answer, routeEntry_mem, emit_mem, passes_mem]

theorem readG_mem (s : State) (core key n : Nat) : (State.readG s core key n).2.mem = s.mem := by
  grind [State.readG, decodesIn_mem, touch_mem, crosses_mem]

theorem onChan_mem (s : State) (core ch : Nat) (f : Chan → Chan) : (State.onChan s core ch f).mem = s.mem := by
  grind [State.onChan, onCore_mem]

theorem onHead_mem (s : State) (core ch : Nat) (f : CopyCmd → CopyCmd) : (State.onHead s core ch f).mem = s.mem := by
  grind [State.onHead, onChan_mem]

theorem cmdFault_wf (s : State) (core ch : Nat) (cause : BitVec 10) (tval : Word) (unit : Nat) :
    Memory.wf s.mem = true → Memory.wf (State.cmdFault s core ch cause tval unit).mem = true := by
  grind [State.cmdFault, onHead_mem, addRecord_wf]

theorem ackCmd_mem (s : State) (m : Credit) : (State.ackCmd s m).mem = s.mem := by
  grind [State.ackCmd, onHead_mem]

theorem emitFor_mem (s : State) (core cls p key n : Nat) : (State.emitFor s core cls p key n).mem = s.mem := rfl

/-! ### Collectives -/

theorem relayRead_mem (s : State) (core key n : Nat) : (State.relayRead s core key n).2.mem = s.mem := by
  grind [State.relayRead, readG_mem]

theorem groupLine_mem (s : State) (core handle : Nat) : (State.groupLine s core handle).2.mem = s.mem := by
  grind [State.groupLine, relayRead_mem]

theorem groupEntry_mem (s : State) (core handle : Nat) (asid : BitVec 16) :
    (State.groupEntry s core handle asid).2.mem = s.mem := by
  grind [State.groupEntry, groupLine_mem]

theorem member_mem (s : State) (core : Nat) (g : Group) (r : Nat) : (State.member s core g r).2.mem = s.mem := by
  grind [State.member, relayRead_mem]

theorem myGroup_mem (s : State) : (State.myGroup s).2.mem = s.mem := by
  grind [State.myGroup, groupEntry_mem, member_mem]

theorem winCheck_mem (s : State) (a : Reg) (f : BitVec 4) (act : List Nat) (len : Group → Nat) (load : Bool) :
    (State.winCheck s a f act len load).2.mem = s.mem := by
  grind [State.winCheck, myGroup_mem]

theorem collectiveStore_kept (s : State) (w : InsnWord) (v a : Reg) (f : BitVec 4) (rd : Reg → Nat → Nat) :
    Memory.wf s.mem = true → kept (State.collectiveStore s w v a f rd) = true := by
  fun_cases State.collectiveStore s w v a f rd <;> grind [adv_mem, winCheck_mem, trapX_kept, trap_kept, bump_mem, kept]

theorem readStaged_mem (s : State) (base : Word) (n : Nat) : (State.readStaged s base n).2.mem = s.mem := by
  grind [State.readStaged, translate_mem, readHome_mem]

theorem readResults_mem (s : State) (addr : Nat → Word) (n : Nat) (l : List Nat) :
    (State.readResults s addr n l).2.mem = s.mem := by
  fun_induction State.readResults s addr n l <;> grind [readStaged_mem]

theorem collectiveLoad_kept (s : State) (d a : Reg) (f : BitVec 4) :
    Memory.wf s.mem = true → kept (State.collectiveLoad s d a f) = true := by
  grind [State.collectiveLoad, writeBack_mem, setC_mem, adv_mem, deliverPoint_kept, winCheck_mem, trapX_kept, trap_kept, readResults_mem,
      kept]

/-! ### Saves and restores -/

theorem yieldInWait_wf (s : State) : Memory.wf s.mem = true → Memory.wf (State.yieldInWait s).mem = true := by
  grind [State.yieldInWait, beginSave_wf]

/-! ### Vector loads and stores -/

theorem slipDone_mem (s : State) : (State.slipDone s).mem = s.mem := rfl

theorem elemKey_mem (s : State) (va : Word) (n : Nat) (need : Need) : (State.elemKey s va n need).2.mem = s.mem := by
  grind [State.elemKey, resolveAddr_mem]

theorem elemLoad_mem (s : State) (va : Word) (n : Nat) : (State.elemLoad s va n).2.mem = s.mem := by
  grind [State.elemLoad, elemKey_mem, loadKey_mem]

theorem elemLoads_mem (s : State) (n : Nat) (l : List Word) : (State.elemLoads s n l).2.mem = s.mem := by
  fun_induction State.elemLoads s n l <;> grind [elemLoad_mem]

theorem loadLoop_mem (s : State) (n : Nat) (addrs : Nat → List Word) (l : List Nat) :
    (State.loadLoop s n addrs l).2.2.mem = s.mem := by
  fun_induction State.loadLoop s n addrs l <;> grind [elemLoads_mem]

theorem elemKeys_mem (s : State) (n : Nat) (l : List Word) : (State.elemKeys s n l).2.mem = s.mem := by
  fun_induction State.elemKeys s n l <;> grind [elemKey_mem]

theorem stores_wf {α : Type} (key val : α → Nat) (n : Nat) (w : InsnWord) (l : List α) (s : State) (h : Memory.wf s.mem = true) :
    Memory.wf (l.foldl (fun s e => s.store (key e) n (val e) w) s).mem = true :=
  foldl_wf _ (fun s _ q => store_wf s _ _ _ _ q) l s h

theorem storeLoop_wf (s : State) (w : InsnWord) (n : Nat) (addrs : Nat → List Word) (data : Nat → List Nat × FFlags) (l : List Nat) :
    Memory.wf s.mem = true → Memory.wf (State.storeLoop s w n addrs data l).2.2.2.mem = true := by
  fun_induction State.storeLoop s w n addrs data l with
  | case1 => exact id
  | case2 s i r x s1 e => exact fun h => wf_of_eq e (wf_of_mem (elemKeys_mem ..) h)
  | case3 s i r ks s1 e _ s2 q ih =>
    exact fun h => ih (stores_wf _ _ _ _ _ _ (wf_of_eq e (wf_of_mem (elemKeys_mem ..) h)))

theorem stopElem_wf (s : State) (x : XFault) (left : List Nat) (unit : Nat) :
    Memory.wf s.mem = true → Memory.wf (State.stopElem s x left unit).mem = true :=
  fun h => trapEntry_wf _ _ _ _ _ _ _ _ h

theorem trimSpad_mem (s : State) (addrs : Nat → List Word) (act : List Nat) : (State.trimSpad s addrs act).2.mem = s.mem := by
  grind [State.trimSpad, setC_mem]

theorem vmemEnd_kept (s : State) (left : List Nat) : Memory.wf s.mem = true → kept (State.vmemEnd s left) = true := by
  grind [State.vmemEnd, adv_mem, stopHere_kept, kept]

theorem writeGroups_mem (ds : List Reg) (s : State) : (ds.foldl State.writeGroup s).mem = s.mem :=
  foldl_mem _ writeGroup_mem ds s

theorem writeGroupsIf_mem (c : Prop) [Decidable c] (ds : List Reg) (s : State) :
    (if c then ds.foldl State.writeGroup s else s).mem = s.mem := by
  split
  · exact writeGroups_mem ds s
  · rfl

theorem vecLoad_kept (s : State) (f : BitVec 4) (isF : Bool) (regs : List Reg) (addrs : Nat → List Word) (pick : Nat → Nat → Nat) :
    Memory.wf s.mem = true → kept (State.vecLoad s f isF regs addrs pick) = true := by
  intro h
  fun_cases State.vecLoad s f isF regs addrs pick with
  | case1 x s1 e => exact trapX_kept _ _ (wf_of_eq e (wf_of_mem (trimSpad_mem ..) h))
  | case2 act s1 e now done s2 left conv s3 s4 x e2 =>
    have h3 : s3.mem = s1.mem := (foldl_mem _ (fun _ _ => writePart_mem ..) _ _).trans
      ((congrArg (fun q => q.2.2.mem) e2).symm.trans (loadLoop_mem ..))
    exact stopElem_wf _ _ _ _ (wf_of_mem ((writeGroupsIf_mem ..).trans h3) (wf_of_eq e (wf_of_mem (trimSpad_mem ..) h)))
  | case3 act s1 e now done s2 left conv s3 s4 e2 =>
    have h3 : s3.mem = s1.mem := (foldl_mem _ (fun _ _ => writePart_mem ..) _ _).trans
      ((congrArg (fun q => q.2.2.mem) e2).symm.trans (loadLoop_mem ..))
    exact vmemEnd_kept _ _ (wf_of_mem ((writeGroupsIf_mem ..).trans h3) (wf_of_eq e (wf_of_mem (trimSpad_mem ..) h)))

theorem vecStore_kept (s : State) (w : InsnWord) (n : Nat) (addrs : Nat → List Word) (data : Nat → List Nat × FFlags) :
    Memory.wf s.mem = true → kept (State.vecStore s w n addrs data) = true := by
  grind [State.vecStore, trimSpad_mem, trapX_kept, storeLoop_wf, bump_mem, slipDone_mem, setC_mem, stopElem_wf, vmemEnd_kept, kept]

theorem stopBlock_wf (s : State) (x : XFault) (bs j : Nat) :
    Memory.wf s.mem = true → Memory.wf (State.stopBlock s x bs j).mem = true :=
  stopElem_wf _ _ _ _

theorem blockLoads_wf (s : State) (f : BitVec 4) (d sc a : Reg) (bs nb : Nat) (addr : Nat → Word) (pick : Nat → Nat → Nat)
    (l : List Nat) : Memory.wf s.mem = true → Memory.wf (State.blockLoads s f d sc a bs nb addr pick l).1.mem = true := by
  fun_induction State.blockLoads s f d sc a bs nb addr pick l <;>
    grind [elemLoad_mem, stopBlock_wf, loadLoop_mem, writePart_mem]

theorem blockPuts_wf (s : State) (w : InsnWord) (f : BitVec 4) (addr : Nat → Word) (act : List Nat) (code : Nat → Nat)
    (l : List Nat) : Memory.wf s.mem = true → Memory.wf (State.blockPuts s w f addr act code l).2.mem = true := by
  fun_induction State.blockPuts s w f addr act code l <;> grind [elemKey_mem, store_wf]

theorem blockStores_wf (s : State) (w : InsnWord) (f : BitVec 4) (v sc a : Reg) (bs nb : Nat) (addr : Nat → Word)
    (rd : Reg → Nat → Nat) (l : List Nat) :
    Memory.wf s.mem = true → Memory.wf (State.blockStores s w f v sc a bs nb addr rd l).1.mem = true := by
  fun_induction State.blockStores s w f v sc a bs nb addr rd l <;>
    grind [elemKey_mem, stopBlock_wf, store_wf, blockPuts_wf, writePart_mem]

theorem blockEnd_kept (r : State × Bool) (bs : Nat) (dsts : List Reg) (left : List Nat) :
    Memory.wf r.1.mem = true → kept (blockEnd r bs dsts left) = true := by
  intro h
  unfold blockEnd
  split
  · exact h
  · split
    · exact wf_of_mem (writeGroups_mem dsts r.1) h
    · exact stopHere_kept _ _ _ h

theorem vaccess_kept (s : State) (w : InsnWord) (v a b : Reg) (f : BitVec 4) (strided : Bool) (k : Bool → Out)
    (hk : ∀ isF, kept (k isF) = true) : Memory.wf s.mem = true → kept (State.vaccess s w v a b f strided k) = true := by
  intro h
  unfold State.vaccess
  dsimp only
  split
  · exact trapWord_kept _ _ _ h
  split
  · exact trap_kept _ _ _ h
  split
  · exact trapWord_kept _ _ _ h
  split
  · exact trap_kept _ _ _ h
  split
  · exact trap_kept _ _ _ h
  · exact hk _

theorem vload_kept (s : State) (w : InsnWord) (v a b : Reg) (f : BitVec 4) (strided : Bool) :
    Memory.wf s.mem = true → kept (State.vload s w v a b f strided) = true := by
  grind [State.vload, trapWord_kept, trap_kept, withSources_kept, collectiveLoad_kept, vaccess_kept, withOperands_kept, trimSpad_mem,
      trapX_kept, blockEnd_kept, blockLoads_wf, vecLoad_kept, kept]

theorem vstore_kept (s : State) (w : InsnWord) (v a b : Reg) (f : BitVec 4) (strided : Bool) :
    Memory.wf s.mem = true → kept (State.vstore s w v a b f strided) = true := by
  grind [State.vstore, trapWord_kept, trap_kept, withOperands_kept, collectiveStore_kept, vaccess_kept, trimSpad_mem, trapX_kept,
      blockEnd_kept, blockStores_wf, bump_mem, vecStore_kept, kept]

theorem xaccess_kept (s : State) (w : InsnWord) (f : BitVec 4) (k : Bool → Out)
    (hk : ∀ t, kept (k t) = true) :
    Memory.wf s.mem = true → kept (State.xaccess s w f k) = true := by
  grind [State.xaccess, trapWord_kept, trap_kept, kept]

theorem vloadx_kept (s : State) (w : InsnWord) (v a b : Reg) (f : BitVec 4) :
    Memory.wf s.mem = true → kept (State.vloadx s w v a b f) = true := by
  grind [State.vloadx, xaccess_kept, trap_kept, withSources_kept, vecLoad_kept, kept]

theorem vstorex_kept (s : State) (w : InsnWord) (v a b : Reg) (f : BitVec 4) :
    Memory.wf s.mem = true → kept (State.vstorex s w v a b f) = true := by
  grind [State.vstorex, xaccess_kept, trap_kept, withSources_kept, vecStore_kept, kept]

theorem segRegs_mem (s : State) (v b : Reg) (n : Nat) (rd : Reg → Nat → Nat) : (State.segRegs s v b n rd).2.mem = s.mem := by
  grind [State.segRegs, draw_mem]

theorem withPermutation_kept (s : State) (v b : Reg) (n : Nat) (k : State → (Reg → Nat → Nat) → Out)
    (hk : ∀ t x, Memory.wf t.mem = true → kept (k t x) = true) :
    Memory.wf s.mem = true → kept (State.withPermutation s v b n k) = true := by
  grind [State.withPermutation, withOperands_kept, kept]

theorem vsegld_kept (s : State) (w : InsnWord) (v a b : Reg) (f : BitVec 4) (n : Nat) :
    Memory.wf s.mem = true → kept (State.vsegld s w v a b f n) = true := by
  grind [State.vsegld, xaccess_kept, trapWord_kept, withPermutation_kept, segRegs_mem, trap_kept, withOperands_kept, vecLoad_kept, kept]

theorem vsegst_kept (s : State) (w : InsnWord) (v a b : Reg) (f : BitVec 4) (n : Nat) :
    Memory.wf s.mem = true → kept (State.vsegst s w v a b f n) = true := by
  grind [State.vsegst, xaccess_kept, withPermutation_kept, segRegs_mem, trapWord_kept, trap_kept, withOperands_kept, vecStore_kept, kept]

theorem execVld_kept (v a b : Reg) (f : BitVec 4) (s : State) : Memory.wf s.mem = true → kept (execVld v a b f s) = true := by
  grind [execVld, vload_kept, kept]

theorem execVlds_kept (v a b : Reg) (f : BitVec 4) (s : State) : Memory.wf s.mem = true → kept (execVlds v a b f s) = true := by
  grind [execVlds, vload_kept, kept]

theorem execVldx_kept (v a b : Reg) (f : BitVec 4) (s : State) : Memory.wf s.mem = true → kept (execVldx v a b f s) = true := by
  grind [execVldx, vloadx_kept, kept]

theorem execVst_kept (v a b : Reg) (f : BitVec 4) (s : State) : Memory.wf s.mem = true → kept (execVst v a b f s) = true := by
  grind [execVst, vstore_kept, kept]

theorem execVsts_kept (v a b : Reg) (f : BitVec 4) (s : State) : Memory.wf s.mem = true → kept (execVsts v a b f s) = true := by
  grind [execVsts, vstore_kept, kept]

theorem execVstx_kept (v a b : Reg) (f : BitVec 4) (s : State) : Memory.wf s.mem = true → kept (execVstx v a b f s) = true := by
  grind [execVstx, vstorex_kept, kept]

/-! ### Objects -/

theorem objKey_mem (s : State) (a : Agent) (va : Word) : (State.objKey s a va).2.mem = s.mem := by
  grind [State.objKey, resolveAddr_mem, translate_mem]

theorem readObj_mem (s : State) (a : Agent) (va : Word) (type : Nat) : (State.readObj s a va type).2.mem = s.mem := by
  grind [State.readObj, objKey_mem, readHome_mem]

theorem putObj_wf (s : State) (key : Nat) (d : Line) : Memory.wf s.mem = true → Memory.wf (State.putObj s key d).mem = true := by
  intro h
  unfold State.putObj
  dsimp only
  split
  · exact h
  · rw [invalidateAll_mem]
    with_reducible exact wf_setLine _ _ h

theorem putEntry_wf (s : State) (rk : Nat) (v : Word) :
    Memory.wf s.mem = true → Memory.wf (State.putEntry s rk v).mem = true := by
  intro h
  unfold State.putEntry
  dsimp only
  split
  · with_reducible exact wf_setLine _ _ h
  · rw [invalidateAll_mem]
    with_reducible exact wf_setLine _ _ h

theorem qPush_wf (s : State) (a : Agent) (key : Nat) (d : Line) (v : Word) :
    Memory.wf s.mem = true → Memory.wf (State.qPush s a key d v).2.mem = true := by
  grind [State.qPush, decodes_mem, putEntry_wf, putObj_wf]

theorem qPop_wf (s : State) (a : Agent) (key : Nat) (d : Line) :
    Memory.wf s.mem = true → Memory.wf (State.qPop s a key d).2.mem = true := by
  grind [State.qPop, decodes_mem, putObj_wf]

theorem decodeRing_mem (s : State) (a : Agent) (ks : List Nat) : (State.decodeRing s a ks).mem = s.mem :=
  foldl_mem _ (fun s _ => decodes_mem s _ _ _) ks s

theorem qTake_wf (s : State) (a : Agent) (key : Nat) (d : Line) (n : Nat) :
    Memory.wf s.mem = true → Memory.wf (State.qTake s a key d n).2.mem = true := by
  grind [State.qTake, decodeRing_mem, putObj_wf]

theorem putEntries_wf (l : List (Nat × Word)) (s : State) (h : Memory.wf s.mem = true) :
    Memory.wf (l.foldl (fun s e => s.putEntry e.1 e.2) s).mem = true :=
  foldl_wf _ (fun s _ q => putEntry_wf s _ _ q) l s h

theorem qAppend_wf (s : State) (a : Agent) (key : Nat) (d : Line) (vs : List Word) :
    Memory.wf s.mem = true → Memory.wf (State.qAppend s a key d vs).2.mem = true := by
  intro h
  fun_cases State.qAppend s a key d vs with
  | case1 n ks s1 c e => exact wf_of_mem (decodeRing_mem s a ks) h
  | case2 n ks s1 e s2 d2 =>
    have h2 : Memory.wf s2.mem = true := putEntries_wf _ _ (wf_of_mem (decodeRing_mem s a ks) h)
    dsimp only
    exact putObj_wf _ _ _ h2

theorem attemptObj_wf (s : State) (a : Agent) (wid : Word) (w : WaitFor) :
    Memory.wf s.mem = true → Memory.wf (State.attemptObj s a wid w).2.mem = true := by
  fun_cases State.attemptObj s a wid w <;> grind [qPush_wf, qPop_wf, qTake_wf, qAppend_wf]

theorem clearAppended_wf (s : State) (sid : Nat) (es : List Nat) :
    Memory.wf s.mem = true → Memory.wf (State.clearAppended s sid es).mem = true := by
  fun_cases State.clearAppended s sid es <;> grind [setStrand_mem, saveWrite_wf]

theorem unregister_mem (s : State) (sid : Nat) : (State.unregister s sid).mem = s.mem := rfl

theorem saveCounters_wf (s : State) (t : Strand) : Memory.wf s.mem = true → Memory.wf (State.saveCounters s t).mem = true :=
  fun h => saveCsr_wf _ _ _ _ (foldl_wf _ (fun s _ q => saveCsr_wf s _ _ _ q) _ _ (saveCsr_wf _ _ _ _ h))

theorem unpend_wf (s : State) (t : Strand) (w : WaitRec) (run : Run) :
    Memory.wf s.mem = true → Memory.wf (State.unpend s t w run).mem = true := by
  grind [State.unpend, setStrand_mem, saveCounters_wf]

theorem ringFault_wf (s : State) (sid : Nat) (c : RingFault) :
    Memory.wf s.mem = true → Memory.wf (State.ringFault s sid c).mem = true := by
  fun_cases State.ringFault s sid c <;> grind [asStrand_wf, unregister_mem, stepDone_wf, stopElem_wf, trapEntry_wf, unpend_wf]

theorem unregisterPut_mem (s : State) (core ch : Nat) : (State.unregisterPut s core ch).mem = s.mem := rfl

theorem tryPut_wf (s : State) (m : Credit) (key : Nat) :
    Memory.wf s.mem = true → Memory.wf (State.tryPut s m key).mem = true := by
  grind [State.tryPut, qPush_wf, cmdFault_wf, unregisterPut_mem, ackCmd_mem]

theorem serveOne_wf (s : State) (q : Waiter) : Memory.wf s.mem = true → Memory.wf (State.serveOne s q).mem = true := by
  fun_cases State.serveOne s q <;> grind [tryPut_wf, unregisterPut_mem, unregister_mem, attemptObj_wf, clearAppended_wf, onStrand_mem,
      ringFault_wf]

theorem serveRounds_wf (s : State) (obj fuel : Nat) :
    Memory.wf s.mem = true → Memory.wf (State.serveRounds s obj fuel).mem = true := by
  induction fuel generalizing s with
  | zero => exact id
  | succ n ih =>
    intro h
    have hs := foldl_wf _ (fun s q p => serveOne_wf s q p) (s.homes.waiters.filter (fun w => w.obj == obj)) s h
    unfold State.serveRounds
    extract_lets ws d s1
    split
    · exact hs
    · exact ih _ hs

theorem serve_wf (s : State) (obj : Nat) : Memory.wf s.mem = true → Memory.wf (State.serve s obj).mem = true := by
  grind [State.serve, serveRounds_wf]

theorem putBarrier_wf (s : State) (key : Nat) (d : Line) :
    Memory.wf s.mem = true → Memory.wf (State.putBarrier s key d).mem = true := by
  grind [State.putBarrier, serve_wf, putObj_wf]

theorem registerAs_mem (s : State) (q : Waiter) : (State.registerAs s q).2.mem = s.mem := by
  grind [State.registerAs]

theorem register_mem (s : State) (obj : Nat) : (State.register s obj).2.mem = s.mem := by
  grind [State.register, registerAs_mem]

theorem objWaitOn_kept (s : State) (word : InsnWord) (d : Reg) (op : Word) (w : WaitFor) (ended : Strand → Strand)
    (timeout : State → WaitFor → WaitEnd × State)
    (htimeout : ∀ t x, Memory.wf t.mem = true → Memory.wf (timeout t x).2.mem = true) :
    Memory.wf s.mem = true → kept (State.objWaitOn s word d op w ended timeout) = true := by
  grind [State.objWaitOn, serve_wf, attemptObj_wf, trap_kept, finish_wf, startWait_mem, register_mem, kept]

theorem objWait_kept (s : State) (word : InsnWord) (d : Reg) (op : Word) (w : WaitFor) (timeout : State → WaitFor → WaitEnd × State)
    (htimeout : ∀ t x, Memory.wf t.mem = true → Memory.wf (timeout t x).2.mem = true) :
    Memory.wf s.mem = true → kept (State.objWait s word d op w timeout) = true := by
  grind [State.objWait, objWaitOn_kept, kept]

theorem timeoutEnd_wf (s : State) (a : Agent) (w : WaitFor) :
    Memory.wf s.mem = true → Memory.wf (State.timeoutEnd s a w).2.mem = true := by
  fun_cases State.timeoutEnd s a w <;> grind [qTake_wf]

/-! ### The Starter -/

theorem context_mem (s : State) (n : Nat) : (State.context s n).2.mem = s.mem := by
  grind [State.context, readG_mem]

theorem onLaunch_mem (s : State) (id : Word) (f : Launch → Launch) : (State.onLaunch s id f).mem = s.mem := rfl

theorem hostEvent_mem (s : State) (e : ToHost) : (State.hostEvent s e).mem = s.mem := rfl

theorem hosterr_mem (s : State) (kind link addr : Nat) : (State.hosterr s kind link addr).mem = s.mem := by
  fun_cases State.hosterr s kind link addr
  grind

theorem setWindow_mem (s : State) (w : Window) : (State.setWindow s w).mem = s.mem := rfl

theorem complete_mem (s : State) (l : Launch) (st : Word) : (State.complete s l st).mem = s.mem := by
  grind [State.complete, hostEvent_mem, hosterr_mem]

theorem retire_mem (s : State) (l : Launch) : (State.retire s l).mem = s.mem := rfl

theorem accept_mem (s : State) (n : Nat) (c : Context) (b : List Byte) (link : Option Nat) :
    (State.accept s n c b link).2.mem = s.mem := by
  grind [State.accept, complete_mem, retire_mem]

theorem noteRises_mem (s : State) : (State.noteRises s).mem = s.mem := rfl

theorem comeBack_mem (s : State) (t : Strand) (g lanes : Nat) : (State.comeBack s t g lanes).mem = s.mem := by
  grind [State.comeBack, setStrand_mem]

theorem restoreEnd_wf (s : State) (t : Strand) : Memory.wf s.mem = true → Memory.wf (State.restoreEnd s t).mem = true := by
  fun_cases State.restoreEnd s t <;> grind [asStrand_wf, decodesIn_mem, passes_mem, touch_mem, drain_wf, saveWrite_wf, setStrand_mem,
      yieldInWait_wf]

theorem setDieState_mem (s : State) (die v : Nat) : (State.setDieState s die v).mem = s.mem := rfl

theorem loseSpads_wf (s : State) (die : Nat) : Memory.wf s.mem = true → Memory.wf (State.loseSpads s die).mem = true :=
  fun h => wf_of_mem (onCores_mem _ _) (wf_filter _ h)

theorem leaveState_wf (s : State) (die next : Nat) :
    Memory.wf s.mem = true → Memory.wf (State.leaveState s die next).mem = true := by
  grind [State.leaveState, loseSpads_wf, setDieState_mem]

theorem entryFailed_wf (s : State) (die : Nat) : Memory.wf s.mem = true → Memory.wf (State.entryFailed s die).mem = true := by
  grind [State.entryFailed, hosterr_mem, onDie_mem, leaveState_wf]

theorem stayAwake_wf (s : State) (die : Nat) : Memory.wf s.mem = true → Memory.wf (State.stayAwake s die).mem = true := by
  fun_cases State.stayAwake s die <;> grind [entryFailed_wf, onDie_mem]

theorem startOne_wf (s : State) (core : Nat) : Memory.wf s.mem = true → Memory.wf (State.startOne s core).mem = true := by
  intro h
  fun_cases State.startOne s core with
  | case1 hf => exact wf_of_mem (foldl_mem _ (fun s _ => failLaunch_mem s _ _) _ _) h
  | _ => grind [saveWrite_wf, target_mem, onStrand_mem, lose_wf, stayAwake_wf, onLaunch_mem, comeBack_mem, hosterr_mem]

/-! ### Waits and launches -/

theorem localWait_kept (s : State) (word : InsnWord) (d : Reg) (op : Word) (w : WaitFor) :
    Memory.wf s.mem = true → kept (State.localWait s word d op w) = true := by
  grind [State.localWait, finish_wf, startWait_mem, kept]

theorem objFault_kept (s : State) (word : InsnWord) (d : Reg) (op : Word) (x : XFault) :
    Memory.wf s.mem = true → kept (State.objFault s word d op x) = true := by
  grind [State.objFault, localWait_kept, addReached_wf, trapX_kept, kept]

theorem saveReg_wf (s : State) (t : Strand) (r : Reg) (v : Word) :
    Memory.wf s.mem = true → Memory.wf (State.saveReg s t r v).mem = true := by
  grind [State.saveReg, saveWrite_wf]

theorem endAway_wf (s : State) (t : Strand) (w : WaitRec) (e : WaitEnd) (run : Run) :
    Memory.wf s.mem = true → Memory.wf (State.endAway s t w e run).mem = true := by
  fun_cases State.endAway s t w e run
  grind [saveReg_wf, saveWrite_wf, saveCsr_wf, wx_mem, setStrand_mem]

theorem endWait_wf (s : State) (sid : Nat) (e : WaitEnd) :
    Memory.wf s.mem = true → Memory.wf (State.endWait s sid e).mem = true := by
  fun_cases State.endWait s sid e <;> grind [asStrand_wf, ringFault_wf, stepDone_wf, finish_wf, endAway_wf]

theorem execWaitc_kept (d a : Reg) (l : BitVec 4) (s' : BitVec 4) (c t : BitVec 4) (s : State) :
    Memory.wf s.mem = true → kept (execWaitc d a l s' c t s) = true := by
  grind [execWaitc, waitPoint_kept, localWait_kept, placeStreams_wf, kept]

theorem execWaitw_kept (d a b c : Reg) (s : State) : Memory.wf s.mem = true → kept (execWaitw d a b c s) = true := by
  grind [execWaitw, preemptPoint_kept, trap_kept, localWait_kept, kept]

theorem execCwait_kept (d a c : Reg) (s : State) : Memory.wf s.mem = true → kept (execCwait d a c s) = true := by
  grind [execCwait, waitPoint_kept, trap_kept, myGroup_mem, trapX_kept, localWait_kept, kept]

theorem stallUnder_kept (s : State) (op : Word) : Memory.wf s.mem = true → kept (State.stallUnder s op) = true := by
  grind [State.stallUnder, stallHere_kept, kept]

theorem turning_kept (s : State) (op : Word) (out : Bool) (late k : State → Out) (hlate : ∀ t,
    Memory.wf t.mem = true → kept (late t) = true)
    (hk : ∀ t, Memory.wf t.mem = true → kept (k t) = true) :
    Memory.wf s.mem = true → kept (State.turning s op out late k) = true := by
  grind [State.turning, stallUnder_kept, kept]

theorem turnThen_kept (s : State) (word : InsnWord) (d : Reg) (op va : Word) (type : Nat) (k : State → Nat → Line → Out)
    (hk : ∀ t x y, Memory.wf t.mem = true → kept (k t x y) = true) :
    Memory.wf s.mem = true → kept (State.turnThen s word d op va type k) = true := by
  fun_cases State.turnThen s word d op va type k <;> grind [readObj_mem, objFault_kept, turning_kept, finish_wf, turnLog_wf, trap_kept,
      kept]

theorem execBarw_kept (d a b c : Reg) (s : State) : Memory.wf s.mem = true → kept (execBarw d a b c s) = true := by
  grind [execBarw, waitPoint_kept, readObj_mem, objFault_kept, objWait_kept, timeoutEnd_wf, kept]

theorem execBara_kept (d a b : Reg) (s : State) : Memory.wf s.mem = true → kept (execBara d a b s) = true := by
  grind [execBara, waitPoint_kept, turnThen_kept, trap_kept, finish_wf, putBarrier_wf, kept]

theorem withdraw_wf (s : State) (key : Nat) (p : BitVec 32) :
    Memory.wf s.mem = true → Memory.wf (State.withdraw s key p).2.mem = true := by
  grind [State.withdraw, putBarrier_wf]

theorem dropWakes_mem (s : State) (sid : Nat) : (State.dropWakes s sid).mem = s.mem := rfl

theorem abandon_wf (s : State) (w : WaitRec) : Memory.wf s.mem = true → Memory.wf (State.abandon s w).mem = true := by
  fun_cases State.abandon s w <;> grind [finish_wf, unregister_mem, dropWakes_mem, withdraw_wf]

theorem force_wf (s : State) : Memory.wf s.mem = true → Memory.wf (State.force s).mem = true := by
  fun_cases State.force s <;> grind [timeoutEnd_wf, unregister_mem, finish_wf, beginSave_wf, abandon_wf]

theorem execBaraw_kept (d a b : Reg) (s : State) : Memory.wf s.mem = true → kept (execBaraw d a b s) = true := by
  grind [execBaraw, waitPoint_kept, turnThen_kept, trap_kept, objWait_kept, putBarrier_wf, withdraw_wf, kept]

theorem execBarexp_kept (d a b c : Reg) (s : State) : Memory.wf s.mem = true → kept (execBarexp d a b c s) = true := by
  grind [execBarexp, waitPoint_kept, readObj_mem, objFault_kept, putBarrier_wf, finish_wf, kept]

theorem execQsend_kept (d a b c : Reg) (s : State) : Memory.wf s.mem = true → kept (execQsend d a b c s) = true := by
  grind [execQsend, preemptPoint_kept, turnThen_kept, objWait_kept, timeoutEnd_wf, kept]

theorem execQrecv_kept (d a b c : Reg) (s : State) : Memory.wf s.mem = true → kept (execQrecv d a b c s) = true := by
  grind [execQrecv, preemptPoint_kept, readObj_mem, objFault_kept, objWait_kept, timeoutEnd_wf, kept]

theorem execApwait_kept (d a b c : Reg) (s : State) : Memory.wf s.mem = true → kept (execApwait d a b c s) = true := by
  grind [execApwait, preemptPoint_kept, trap_kept, readObj_mem, objFault_kept, objWait_kept, timeoutEnd_wf, kept]

theorem execTaskadd_kept (d a b c : Reg) (s : State) : Memory.wf s.mem = true → kept (execTaskadd d a b c s) = true := by
  grind [execTaskadd, preemptPoint_kept, readObj_mem, objFault_kept, trap_kept, turnThen_kept, objWait_kept, timeoutEnd_wf, kept]

theorem execTasktake_kept (d a b c : Reg) (s : State) : Memory.wf s.mem = true → kept (execTasktake d a b c s) = true := by
  intro h
  unfold execTasktake
  refine preemptPoint_kept _ _ _ (fun s h => ?_) h
  dsimp only
  split
  · next e => exact objFault_kept _ _ _ _ _ (wf_of_eq e (wf_of_mem (readObj_mem ..) h))
  · next key line s1 e =>
    have h1 : Memory.wf s1.mem = true := wf_of_eq e (wf_of_mem (readObj_mem ..) h)
    generalize (lfield line 8 4 + 2 ^ 28 - 1) % 2 ^ 28 = tail
    split
    · exact trap_kept _ _ _ h1
    split
    · exact kept_next (finish_wf _ _ _ _ h1)
    have h2 : Memory.wf (s1.decodes (ringKey key line tail / 64) 0 s1.cur.writer).mem = true := wf_of_mem (decodes_mem ..) h1
    split
    · exact trap_kept _ _ _ h2
    · exact kept_next (finish_wf _ _ _ _ (wf_of_mem (wx_mem ..) (serve_wf _ _ (putObj_wf _ _ _ h2))))

theorem steal_wf (s : State) (key : Nat) (line : Line) :
    Memory.wf s.mem = true → Memory.wf (State.steal s key line).2.mem = true := by
  fun_cases State.steal s key line <;> grind [qPop_wf, serve_wf]

theorem raced_mem (s : State) : (State.raced s).2.mem = s.mem := rfl

/-- One turn of the search for a task (R300), the rest of the search being any function `f` that keeps the form. The reads and
the taking become unknown functions too, lest the kernel compute with the 2 ^ 28 positions of a ring. -/
theorem searchSteal_turn (i : Ident) (r : List Ident)
    (f : List.below (motive := fun _ => State → Option Nat → Option Nat → Bool → Found × State) (i :: r))
    (hf : ∀ s c p l, Memory.wf (State.mem s) = true → Memory.wf (f.1 s c p l).2.mem = true)
    (s : State) (cut pause : Option Nat) (lost : Bool) (h : Memory.wf s.mem = true) :
    Memory.wf (State.searchSteal._f (i :: r) f s cut pause lost).2.mem = true := by
  obtain ⟨readObj, er, hr⟩ : ∃ g, g = State.readObj ∧ ∀ s a va t, (g s a va t).2.mem = s.mem := ⟨_, rfl, readObj_mem⟩
  obtain ⟨steal, es, hs⟩ : ∃ g, g = State.steal ∧ ∀ s k l, Memory.wf s.mem = true → Memory.wf (g s k l).2.mem = true :=
    ⟨_, rfl, steal_wf⟩
  have hc (c : Option Nat) (t : State) (lost : Bool) (ht : Memory.wf t.mem = true) :
      Memory.wf (match (motive := Option Nat → Found × State) pause with
      | none => f.1 t c none lost
      | some 0 => (.paused i lost, t)
      | some (n + 1) => f.1 t c (some n) lost).2.mem = true := by
    split
    exacts [hf _ _ _ _ ht, ht, hf _ _ _ _ ht]
  rcases cut with _ | _ | n
  case some.zero => exact h
  all_goals
    conv => lhs; enter [1, 1, 1]; whnf
    rw [← er, ← es]
    split
    · next e => exact hc _ _ _ (wf_of_eq e (wf_of_mem (hr ..) h))
    · next e =>
      have h1 := wf_of_eq e (wf_of_mem (hr ..) h)
      split
      · next e2 => exact wf_of_eq e2 (hs _ _ _ h1)
      · next e2 => exact hc _ _ _ (wf_of_mem (raced_mem _) (wf_of_eq e2 (hs _ _ _ h1)))
      · next e2 => exact hc _ _ _ (wf_of_eq e2 (hs _ _ _ h1))

theorem searchSteal_wf (s : State) (l : List Ident) (cut pause : Option Nat) (lost : Bool) :
    Memory.wf s.mem = true → Memory.wf (State.searchSteal s l cut pause lost).2.mem = true := by
  delta State.searchSteal
  induction l generalizing s cut pause lost with
  | nil => exact id
  | cons i r ih => exact searchSteal_turn i r (List.brecOn.go (i :: r) State.searchSteal._f).2 ih s cut pause lost

theorem execTasksteal_kept (d a b c : Reg) (s : State) : Memory.wf s.mem = true → kept (execTasksteal d a b c s) = true := by
  obtain ⟨readObj, er, hr⟩ : ∃ g, g = State.readObj ∧ ∀ s a va t, (g s a va t).2.mem = s.mem := ⟨_, rfl, readObj_mem⟩
  obtain ⟨steal, es, hs⟩ : ∃ g, g = State.steal ∧ ∀ s k l, Memory.wf s.mem = true → Memory.wf (g s k l).2.mem = true :=
    ⟨_, rfl, steal_wf⟩
  intro h
  unfold execTasksteal
  rw [← er, ← es]
  refine preemptPoint_kept _ _ _ (fun s h => ?_) h
  extract_lets va poll
  split
  · split
    · exact kept_next (finish_wf _ _ _ _ h)
    · split
      next cut s1 e =>
      have h1 : Memory.wf s1.mem = true := by
        split at e
        · cases e; exact h
        · exact wf_of_eq e (wf_of_mem (turnBudget_mem ..) h)
      split
      next ids lost _ =>
      dsimp only
      split
      · next e => exact kept_next (finish_wf _ _ _ _ (wf_of_mem (wx_mem ..) (wf_of_eq e (searchSteal_wf _ _ _ _ _ h1))))
      · next e => exact kept_next (finish_wf _ _ _ _ (wf_of_eq e (searchSteal_wf _ _ _ _ _ h1)))
      · next e =>
        have h2 := wf_of_eq e (searchSteal_wf _ _ _ _ _ h1)
        exact stallUnder_kept _ _ h2
  · split
    · next e => exact objFault_kept _ _ _ _ _ (wf_of_eq e (wf_of_mem (hr ..) h))
    · next key line s1 e =>
      have h1 : Memory.wf s1.mem = true := wf_of_eq e (wf_of_mem (hr ..) h)
      have h2 := hs s1 key line h1
      split
      · next e2 => exact trap_kept _ _ _ (wf_of_eq e2 h2)
      · next s2 e2 => exact kept_next (finish_wf _ _ _ _ (wf_of_mem (raced_mem s2) (wf_of_eq e2 h2)))
      · next e2 => exact kept_next (finish_wf _ _ _ _ (wf_of_mem (wx_mem ..) (wf_of_eq e2 h2)))

theorem launchContext_mem (s : State) (n : Nat) : (State.launchContext s n).2.mem = s.mem := by
  grind [State.launchContext, context_mem]

theorem submit_mem (s : State) (n : Nat) (c : Context) (b : List Byte) : (State.submit s n c b).2.mem = s.mem := by
  grind [State.submit, accept_mem]

theorem tryLaunch_mem (s : State) (n : Nat) (b : List Byte) : (State.tryLaunch s n b).2.mem = s.mem := by
  grind [State.tryLaunch, launchContext_mem, submit_mem]

theorem loadPacket_mem (s : State) (va : Word) : (State.loadPacket s va).2.mem = s.mem := by
  grind [State.loadPacket, loadAt_mem]

theorem execLaunch_kept (d a b c : Reg) (s : State) : Memory.wf s.mem = true → kept (execLaunch d a b c s) = true := by
  intro h
  unfold execLaunch
  refine preemptPoint_kept _ _ _ (fun s h => ?_) h
  dsimp only
  split
  · exact trap_kept _ _ _ h
  · refine turning_kept _ _ _ _ _ (fun s h => finish_wf _ _ _ _ h) (fun s h => ?_) h
    grind [turnLog_wf, finish_wf, loadPacket_mem, trapX_kept, tryLaunch_mem, startWait_mem, kept]

theorem execLwait_kept (d a b : Reg) (s : State) : Memory.wf s.mem = true → kept (execLwait d a b s) = true := by
  grind [execLwait, preemptPoint_kept, finish_wf, localWait_kept, retire_mem, kept]

theorem cancelLaunch_mem (s : State) (id : Word) : (State.cancelLaunch s id).mem = s.mem := rfl

theorem execLcancel_kept (d a b : Reg) (s : State) : Memory.wf s.mem = true → kept (execLcancel d a b s) = true := by
  grind [execLcancel, preemptPoint_kept, finish_wf, localWait_kept, cancelLaunch_mem, retire_mem, kept]

/-! ### Memory order -/

theorem turnPiece_wf (s : State) (lvl : Nat) (all spent : Bool) (key n : Nat) (budget : Option Nat) :
    Memory.wf s.mem = true → Memory.wf (State.turnPiece s lvl all spent key n budget).2.2.2.2.mem = true := by
  fun_cases State.turnPiece s lvl all spent key n budget <;> grind [reachable_mem, turnLines_wf, turnFar_wf]

theorem turnPages_wf (s : State) (lvl : Nat) (all spent : Bool) (last fuel va : Nat) (budget : Option Nat) (done : TurnEnd) :
    Memory.wf s.mem = true → Memory.wf (State.turnPages s lvl all spent last fuel va budget done).2.mem = true := by
  fun_induction State.turnPages s lvl all spent last fuel va budget done <;> grind [translate_mem, turnPiece_wf]

theorem turnSpace_mem (s : State) (base : Word) (len : Nat) : (State.turnSpace s base len).2.mem = s.mem := by
  grind [State.turnSpace, resolveAddr_mem]

theorem turnRegion_wf (s : State) (lvl : Nat) (all spent : Bool) (base : Word) (len : Nat) :
    Memory.wf s.mem = true → Memory.wf (State.turnRegion s lvl all spent base len).2.mem = true := by
  fun_cases State.turnRegion s lvl all spent base len
  grind [turnBudget_mem, placeStreams_wf, turnPages_wf, turnSpace_mem, turnPiece_wf]

theorem turnLineAhead_wf (s : State) (a : Agent) (lvl : Nat) (all : Bool) (l : Nat) :
    Memory.wf s.mem = true → Memory.wf (State.turnLineAhead s a lvl all l).mem = true := by
  fun_cases State.turnLineAhead s a lvl all l <;> grind [crosses_mem, drain_wf, passes_mem, decodes_mem, touch_mem, setTag_mem]

theorem turnAhead_wf (s : State) (lvl : Nat) (all : Bool) (va : Word) :
    Memory.wf s.mem = true → Memory.wf (State.turnAhead s lvl all va).mem = true := by
  grind [State.turnAhead, resolveAddr_mem, turnLineAhead_wf]

theorem turnLinesAhead_wf (a : State → Agent) (lvl : Nat) (all : Bool) (ls : List Nat) (s : State) (h : Memory.wf s.mem = true) :
    Memory.wf (ls.foldl (fun s l => s.turnLineAhead (a s) lvl all l) s).mem = true :=
  foldl_wf _ (fun s _ q => turnLineAhead_wf s _ _ _ _ q) ls s h

theorem logFirst_wf (s : State) (lvl n : Nat) : Memory.wf s.mem = true → Memory.wf (State.logFirst s lvl n).mem = true := by
  intro h
  unfold State.logFirst
  split
  · exact h
  · exact turnLinesAhead_wf _ _ _ _ _ (placeStreams_wf s h)

theorem turnFirst_wf (s : State) (b : Word) (len : Nat) (all : Bool) (l n : Nat) :
    Memory.wf s.mem = true → Memory.wf (State.turnFirst s b len all l n).mem = true := by
  intro h
  unfold State.turnFirst
  split
  · exact h
  · exact foldl_wf _ (fun s _ q => turnAhead_wf s _ _ _ q) _ _ (placeStreams_wf s h)

theorem execTurn_kept (d a b c : Reg) (l : BitVec 3) (s : State) :
    Memory.wf s.mem = true → kept (execTurn d a b c l s) = true := by
  grind [execTurn, trapWord_kept, finish_wf, trap_kept, beginSave_wf, stallUnder_kept, turnRegion_wf, trapX_kept, kept]

theorem execTurnall_kept (d c : Reg) (l : BitVec 3) (s : State) : Memory.wf s.mem = true → kept (execTurnall d c l s) = true := by
  grind [execTurnall, turning_kept, finish_wf, turnLog_wf, kept]

theorem execFence_kept (d a c : Reg) (s : State) : Memory.wf s.mem = true → kept (execFence d a c s) = true := by
  grind [execFence, deliverPoint_kept, localWait_kept, placeStreams_wf, kept]

theorem declareUpTo_mem (s : State) (last : Nat) : (State.declareUpTo s last).mem = s.mem := by
  grind [State.declareUpTo]

theorem execPublish_kept (d c : Reg) (s : State) : Memory.wf s.mem = true → kept (execPublish d c s) = true := by
  grind [execPublish, turning_kept, finish_wf, turnLog_wf, declareUpTo_mem, kept]

/-! ### Copies and credits -/

theorem async_kept (s : State) (word : InsnWord) (kind : Nat) (d a b : Reg) (obj : Word) :
    Memory.wf s.mem = true → kept (State.async s word kind d a b obj) = true := by
  grind [State.async, trap_kept, trapX_kept, ret_kept, bump_mem, kept]

theorem popCmd_mem (s : State) (core ch : Nat) : (State.popCmd s core ch).mem = s.mem := by
  grind [State.popCmd, onChan_mem]

theorem copyRead_mem (s : State) (a : Agent) (fuel : Nat) (va : Word) (n : Nat) : (State.copyRead s a fuel va n).2.mem = s.mem := by
  induction fuel generalizing s va n with
  | zero => rfl
  | succ fuel ih =>
    unfold State.copyRead
    split
    · rfl
    generalize va.toNat = x
    grind [resolveAddr_mem, readLine_mem]

theorem cmdStop_wf (s : State) (core ch : Nat) (start : Word) (x : XFault) :
    Memory.wf s.mem = true → Memory.wf (State.cmdStop s core ch start x).mem = true := by
  grind [State.cmdStop, onHead_mem, addRecord_wf, cmdFault_wf]

theorem turnPrefix_mem (s : State) (a : Agent) (key n : Nat) : (State.turnPrefix s a key n).mem = s.mem := by
  unfold State.turnPrefix
  split
  · rfl
  · exact foldl_mem _ (fun s _ => setTag_mem s _ _) _ _

theorem splitOlder_mem (s : State) (core sid pos l : Nat) : (State.splitOlder s core sid pos l).2.mem = s.mem := by
  grind [State.splitOlder, onCore_mem]

theorem arriveStores_wf (l : List Flight) (s : State) (h : Memory.wf s.mem = true) : Memory.wf (l.foldl State.arriveStore s).mem = true :=
  foldl_wf _ arriveStore_wf l s h

theorem waitNetIf_mem (c : Prop) [Decidable c] (s : State) : (if c then s.waitNet else s).mem = s.mem := by
  split
  · exact waitNet_mem s
  · rfl

theorem olderFirst_wf (s : State) (core sid pos l : Nat) :
    Memory.wf s.mem = true → Memory.wf (State.olderFirst s core sid pos l).mem = true := by
  intro h
  have h1 (c : Prop) [Decidable c] : Memory.wf (if c then s.waitNet else s).mem = true := wf_of_mem (waitNetIf_mem c s) h
  unfold State.olderFirst
  dsimp only
  split
  · next e => exact landSent_wf _ _ (wf_of_eq e (wf_of_mem (splitOlder_mem ..) (arriveStores_wf _ _ (h1 _))))
  · next e => exact wf_of_eq e (wf_of_mem (splitOlder_mem ..) (arriveStores_wf _ _ (h1 _)))

theorem blockDone_wf (s : State) (core ch : Nat) (c : CopyCmd) (off : Nat) :
    Memory.wf s.mem = true → Memory.wf (State.blockDone s core ch c off).mem = true := by
  fun_cases State.blockDone s core ch c off <;> grind [onHead_mem, onChan_mem, turnPrefix_mem]

theorem sendBlock_wf (s : State) (core ch : Nat) (c : CopyCmd) (off : Nat) (e : OutEntry) :
    Memory.wf s.mem = true → Memory.wf (State.sendBlock s core ch c off e).mem = true := by
  intro h
  unfold State.sendBlock
  extract_lets s1 s2
  have h1 : Memory.wf s1.mem = true := wf_of_mem (waitNetIf_mem ..) h
  have h2 : Memory.wf s2.mem = true := by
    dsimp only [s2]
    split
    · next e1 => exact send_wf _ _ _ (wf_of_eq e1 (wf_of_mem (splitOlder_mem ..) h1))
    · next e1 => exact wf_of_eq e1 (wf_of_mem (splitOlder_mem ..) h1)
  clear_value s2
  split
  · next e1 => exact cmdFault_wf _ _ _ _ _ _ (wf_of_eq e1 (wf_of_mem (portFor_mem ..) h2))
  · next e1 => exact wf_of_mem (onHead_mem ..) (wf_of_mem (emitFor_mem ..) (wf_of_eq e1 (wf_of_mem (portFor_mem ..) h2)))

theorem fillPiece_wf (s : State) (core ch : Nat) (c : CopyCmd) (p : Nat × Nat) :
    Memory.wf s.mem = true → Memory.wf (State.fillPiece s core ch c p).mem = true := by
  intro h
  unfold State.fillPiece
  dsimp only
  split
  · exact cmdFault_wf _ _ _ _ _ _ h
  split
  · next e => exact cmdStop_wf _ _ _ _ _ (wf_of_eq e (wf_of_mem (copyRead_mem ..) h))
  next e =>
  have h1 := wf_of_eq e (wf_of_mem (copyRead_mem ..) h)
  split
  · next e => exact cmdStop_wf _ _ _ _ _ (wf_of_eq e (wf_of_mem (resolveAddr_mem ..) h1))
  next key s2 e =>
  have h2 := wf_of_eq e (wf_of_mem (resolveAddr_mem ..) h1)
  split
  · exact sendBlock_wf _ _ _ _ _ _ h2
  split
  · exact cmdFault_wf _ _ _ _ _ _ h2
  have h3 := olderFirst_wf _ core c.sid c.pos (key / 64) (wf_of_mem (passes_mem s2 (roundTrip core key)) h2)
  split
  · next e => exact cmdFault_wf _ _ _ _ _ _ (wf_of_eq e (landAt_wf _ _ _ _ _ h3))
  · next e => exact blockDone_wf _ _ _ _ _ (wf_of_eq e (landAt_wf _ _ _ _ _ h3))

theorem losePacket_wf (s : State) (f : Flight) (landed : Bool) :
    Memory.wf s.mem = true → Memory.wf (State.losePacket s f landed).mem = true := by
  grind [State.losePacket, loseStore_wf, landAt_wf, cmdFault_wf]

theorem landFlight_wf (s : State) (f : Flight) : Memory.wf s.mem = true → Memory.wf (State.landFlight s f).mem = true := by
  grind [State.landFlight, arriveStore_wf, passes_mem, loss_mem, losePacket_wf, landAt_wf, blockDone_wf, cmdFault_wf]

theorem execHarrierFill_kept (core channel block : Nat) (s : State) :
    Memory.wf s.mem = true → kept (execHarrierFill core channel block s) = true := by
  grind [execHarrierFill, fillPiece_wf, kept]

theorem destLines_mem (s : State) (core : Nat) (c : CopyCmd) (l : List (Nat × Nat)) : (State.destLines s core c l).2.mem = s.mem := by
  fun_induction State.destLines s core c l <;> grind [resolveAddr_mem, crosses_mem]

theorem turnBegin_mem (s : State) (core ch : Nat) (c : CopyCmd) : (State.turnBegin s core ch c).2.mem = s.mem := by
  fun_cases State.turnBegin s core ch c <;> grind [destLines_mem, onHead_mem]

theorem copyFirst_wf (s : State) (core channel n : Nat) :
    Memory.wf s.mem = true → Memory.wf (State.copyFirst s core channel n).mem = true := by
  intro h
  fun_cases State.copyFirst s core channel n with
  | case3 c _ _ ls s1 e => exact turnLinesAhead_wf (fun _ => c.agent core) _ _ _ _ (wf_of_eq e (wf_of_mem (turnBegin_mem ..) h))
  | _ => exact h

theorem turnLinesEach_wf (a : Agent) (lvl : Nat) (ls : List Nat) (s : State) (h : Memory.wf s.mem = true) :
    Memory.wf (ls.foldl (fun s l => s.turnLines a lvl false l (l + 1)) s).mem = true :=
  foldl_wf _ (fun s _ q => turnLines_wf s _ _ _ _ _ q) ls s h

theorem execCopyRetire_kept (core channel : Nat) (s : State) : Memory.wf s.mem = true → kept (execCopyRetire core channel s) = true := by
  intro h
  have hl (c : CopyCmd) (ls : List Nat) (s1 : State) (e : s.turnBegin core channel c = (.ok ls, s1)) :=
    turnLinesEach_wf (c.agent core) c.lvl ls s1 (wf_of_eq e (wf_of_mem (turnBegin_mem ..) h))
  fun_cases execCopyRetire core channel s with
  | case8 _ c _ _ _ _ _ ls s1 e _ => exact kept_next (wf_of_mem (popCmd_mem _ core channel) (hl c ls s1 e))
  | case9 _ c _ _ _ _ _ ls s1 e _ => exact kept_next (wf_of_mem (onHead_mem _ core channel _) (hl c ls s1 e))
  | case10 _ c _ _ _ _ _ ls s1 e _ => exact kept_next (wf_of_mem (onHead_mem _ core channel _) (hl c ls s1 e))
  | _ => grind [popCmd_mem, turnBegin_mem, cmdStop_wf, kept]

theorem olderThan_wf (s : State) (m : Credit) : Memory.wf s.mem = true → Memory.wf (State.olderThan s m).mem = true := by
  grind [State.olderThan, olderFirst_wf]

theorem execBarrierCredit_kept (index : Nat) (s : State) : Memory.wf s.mem = true → kept (execBarrierCredit index s) = true := by
  grind [execBarrierCredit, olderThan_wf, readObj_mem, cmdFault_wf, ackCmd_mem, putBarrier_wf, kept]

theorem execPutqEnqueue_kept (index : Nat) (s : State) : Memory.wf s.mem = true → kept (execPutqEnqueue index s) = true := by
  grind [execPutqEnqueue, olderThan_wf, readObj_mem, cmdFault_wf, unregisterPut_mem, registerAs_mem, serve_wf, tryPut_wf, kept]

theorem execPutqEnqueueExpiry_kept (index : Nat) (s : State) :
    Memory.wf s.mem = true → kept (execPutqEnqueueExpiry index s) = true := by
  grind [execPutqEnqueueExpiry, cmdFault_wf, unregisterPut_mem, kept]

theorem retryParked_mem (s : State) (core ch : Nat) : (State.retryParked s core ch).mem = s.mem := by
  fun_cases State.retryParked s core ch <;> grind [lookup_mem, onHead_mem]

theorem execParkedCopyRetry_kept (core channel : Nat) (s : State) :
    Memory.wf s.mem = true → kept (execParkedCopyRetry core channel s) = true := by
  grind [execParkedCopyRetry, retryParked_mem, kept]

theorem execParkedCopyDiscard_kept (core channel : Nat) (s : State) :
    Memory.wf s.mem = true → kept (execParkedCopyDiscard core channel s) = true := by
  fun_cases execParkedCopyDiscard core channel s <;> grind [lookup_mem, onHead_mem, addRecord_wf, kept]

/-! ### Branches and traps -/

theorem transfer_kept (s : State) (p : Word) (k : State → State)
    (hk : ∀ t, Memory.wf t.mem = true → Memory.wf (k t).mem = true) :
    Memory.wf s.mem = true → kept (State.transfer s p k) = true := by
  grind [State.transfer, target_mem, trap_kept, enterLine_mem, jump_mem, kept]

theorem transferReg_kept (s : State) (p : Word) (k : State → State)
    (hk : ∀ t, Memory.wf t.mem = true → Memory.wf (k t).mem = true) :
    Memory.wf s.mem = true → kept (State.transferReg s p k) = true := by
  grind [State.transferReg, trap_kept, transfer_kept, kept]

theorem branch_kept (s : State) (c : Bool) (o : BitVec 13) : Memory.wf s.mem = true → kept (State.branch s c o) = true := by
  grind [State.branch, transfer_kept, adv_mem, kept]

theorem link31_mem (p : Word) (s : State) : (State.link31 p s).mem = s.mem := rfl

theorem execJmp_kept (o : BitVec 26) (s : State) : Memory.wf s.mem = true → kept (execJmp o s) = true := by
  grind [execJmp, transfer_kept, kept]

theorem execCall_kept (o : BitVec 26) (s : State) : Memory.wf s.mem = true → kept (execCall o s) = true := by
  grind [execCall, transfer_kept, link31_mem, kept]

theorem execJr_kept (a : Reg) (s : State) : Memory.wf s.mem = true → kept (execJr a s) = true := by
  grind [execJr, transferReg_kept, kept]

theorem execCallr_kept (a : Reg) (s : State) : Memory.wf s.mem = true → kept (execCallr a s) = true := by
  grind [execCallr, transferReg_kept, link31_mem, kept]

/-! ### Tiles -/

theorem engRead_mem (s : State) (core : Nat) (writer : BitVec 12) (fuel key : Nat) (va : Word) (n : Nat) :
    (State.engRead s core writer fuel key va n).2.mem = s.mem := by
  fun_induction State.engRead s core writer fuel key va n <;> grind [readLine_mem]

theorem engRecords_mem (s : State) (core : Nat) (writer : BitVec 12) (size : Nat) (l : List Word) :
    (State.engRecords s core writer size l).2.mem = s.mem := by
  fun_induction State.engRecords s core writer size l <;> grind [engRead_mem]

theorem engIssue_kept (s : State) (op : EngOp) (acc acc2 : Nat) (word : InsnWord) (a b c d : Word) (vecs : List (List (BitVec 64)))
    (k : State → Out)
    (hk : ∀ t, Memory.wf t.mem = true → kept (k t) = true) :
    Memory.wf s.mem = true → kept (State.engIssue s op acc acc2 word a b c d vecs k) = true := by
  grind [State.engIssue, stallHere_kept, bump_mem, kept]

theorem execSettile_kept (a b c : Reg) (s : State) : Memory.wf s.mem = true → kept (execSettile a b c s) = true := by
  grind [execSettile, trap_kept, adv_mem, setC_mem, kept]

theorem execTzero_kept (d : Acc) (s : State) : Memory.wf s.mem = true → kept (execTzero d s) = true := by
  grind [execTzero, trap_kept, engIssue_kept, adv_mem, kept]

theorem tmacIssue_kept (s : State) (op : EngOp) (word : InsnWord) (bSize : Nat) (d : Acc) (a b c : Reg) :
    Memory.wf s.mem = true → kept (State.tmacIssue s op word bSize d a b c) = true := by
  intro h
  unfold State.tmacIssue
  dsimp only
  repeat' split
  all_goals first | exact trap_kept _ _ _ h | exact engIssue_kept _ _ _ _ _ _ _ _ _ _ _ (fun _ h => h) h

theorem readout_kept (s : State) (v b : Reg) (cell : Nat → Nat → Nat) :
    Memory.wf s.mem = true → kept (State.readout s v b cell) = true := by
  grind [State.readout, trap_kept, deliverPoint_kept, stallHere_kept, elementWise_kept, kept]

theorem execTmovr_kept (s' : Acc) (v b : Reg) (s : State) : Memory.wf s.mem = true → kept (execTmovr s' v b s) = true := by
  grind [execTmovr, readout_kept, kept]

theorem execTmovc_kept (s' : Acc) (v b : Reg) (s : State) : Memory.wf s.mem = true → kept (execTmovc s' v b s) = true := by
  grind [execTmovc, readout_kept, kept]

theorem tileMove_kept (s : State) (op : EngOp) (word : InsnWord) (acc : Acc) (a b : Reg) :
    Memory.wf s.mem = true → kept (State.tileMove s op word acc a b) = true := by
  grind [State.tileMove, trap_kept, engIssue_kept, adv_mem, kept]

theorem execTadd_kept (d a : Acc) (s : State) : Memory.wf s.mem = true → kept (execTadd d a s) = true := by
  grind [execTadd, trap_kept, engIssue_kept, adv_mem, kept]

theorem storeFor_wf (s : State) (c : EngCmd) (core key n v : Nat) :
    Memory.wf s.mem = true → Memory.wf (State.storeFor s c core key n v).mem = true := by
  fun_cases State.storeFor s c core key n v
  grind [onStrand_mem, bufferStore_wf]

theorem runTmac_ok (s : State) (core : Nat) (c : EngCmd) (wide : Bool) (t : State) :
    (State.runTmac s core c wide).1 = .ok t → Memory.wf s.mem = true → Memory.wf t.mem = true := by
  fun_cases State.runTmac s core c wide <;> grind [engRecords_mem, onCore_mem]

theorem runTmac_wf (s : State) (core : Nat) (c : EngCmd) (wide : Bool) :
    Memory.wf s.mem = true → Memory.wf (State.runTmac s core c wide).2.mem = true := by
  fun_cases State.runTmac s core c wide <;> grind [engRecords_mem, onCore_mem]

theorem readCells_turn (core : Nat) (c : EngCmd) (rj : Nat × Nat) (r : List (Nat × Nat))
    (f : List.below (motive := fun _ => State → Except XFault (List (Nat × BitVec 128)) × State) (rj :: r))
    (hf : ∀ s, (f.1 s).2.mem = s.mem) (s : State) (F) (eF : F = State.readCells._f) : (F core c (rj :: r) f s).2.mem = s.mem := by
  obtain ⟨engRead, er, hr⟩ : ∃ g, g = State.engRead ∧ ∀ s core w fuel key va n, (g s core w fuel key va n).2.mem = s.mem :=
    ⟨_, rfl, engRead_mem⟩
  delta State.readCells._f at eF
  rw [← er] at eF
  subst eF
  dsimp only
  split
  · next e => exact (congrArg (fun q => q.2.mem) e).symm.trans (hr ..)
  · next s1 e =>
    have h1 : s1.mem = s.mem := (congrArg (fun q => q.2.mem) e).symm.trans (hr ..)
    split
    · next e2 => exact (congrArg (fun q => q.2.mem) e2).symm.trans ((hf s1).trans h1)
    · next e2 => exact (congrArg (fun q => q.2.mem) e2).symm.trans ((hf s1).trans h1)

theorem readCells_mem (s : State) (core : Nat) (c : EngCmd) (l : List (Nat × Nat)) : (State.readCells s core c l).2.mem = s.mem := by
  delta State.readCells
  exact brecOn_mem _ (fun _ _ => rfl) (fun _ _ _ hf s => readCells_turn core c _ _ _ hf s _ rfl) l s

theorem runTld_ok (s : State) (core : Nat) (c : EngCmd) (t : State) :
    (State.runTld s core c).1 = .ok t → Memory.wf s.mem = true → Memory.wf t.mem = true := by
  grind [State.runTld, readCells_mem, onCore_mem]

theorem runTld_wf (s : State) (core : Nat) (c : EngCmd) :
    Memory.wf s.mem = true → Memory.wf (State.runTld s core c).2.mem = true := by
  grind [State.runTld, readCells_mem, onCore_mem]

theorem runTst_wf (s : State) (core : Nat) (c : EngCmd) : Memory.wf s.mem = true → Memory.wf (State.runTst s core c).mem = true :=
  foldl_wf _ (fun s _ q => storeFor_wf s _ _ _ _ _ q) _ s

/-! ### Signatures -/

theorem execSigcfg_kept (d a b : Reg) (s : State) : Memory.wf s.mem = true → kept (execSigcfg d a b s) = true := by
  grind [execSigcfg, trap_kept, stallHere_kept, ret_kept, setC_mem, kept]

theorem readImage_mem (s : State) (core : Nat) (c : EngCmd) (l : List Nat) : (State.readImage s core c l).2.mem = s.mem := by
  fun_induction State.readImage s core c l <;> grind [engRead_mem]

theorem sigIssue_kept (s : State) (op : EngOp) (word : InsnWord) :
    Memory.wf s.mem = true → kept (State.sigIssue s op word) = true := by
  grind [State.sigIssue, trap_kept, engIssue_kept, adv_mem, kept]

theorem sigImage_kept (s : State) (op : EngOp) (word : InsnWord) (a : Reg) :
    Memory.wf s.mem = true → kept (State.sigImage s op word a) = true := by
  grind [State.sigImage, trap_kept, engIssue_kept, adv_mem, kept]

theorem execSigupd_kept (v : Reg) (s : State) : Memory.wf s.mem = true → kept (execSigupd v s) = true := by
  grind [execSigupd, trap_kept, stallHere_kept, withOperands_kept, engIssue_kept, adv_mem, kept]

theorem runImage_ok (s : State) (core : Nat) (c : EngCmd) (f : Tensor → Tensor → Tensor) (own : Bool) (t : State) :
    (State.runImage s core c f own).1 = .ok t → Memory.wf s.mem = true → Memory.wf t.mem = true := by
  fun_cases State.runImage s core c f own <;> grind [readImage_mem, onCore_mem]

theorem runImage_wf (s : State) (core : Nat) (c : EngCmd) (f : Tensor → Tensor → Tensor) (own : Bool) :
    Memory.wf s.mem = true → Memory.wf (State.runImage s core c f own).2.mem = true := by
  fun_cases State.runImage s core c f own <;> grind [readImage_mem, onCore_mem]

theorem runSigst_wf (s : State) (core : Nat) (c : EngCmd) : Memory.wf s.mem = true → Memory.wf (State.runSigst s core c).mem = true :=
  foldl_wf _ (fun s _ q => storeFor_wf s _ _ _ _ _ q) _ s

/-! ### CSRs -/

theorem csrStore_mem (s : State) (c : BitVec 12) (v : Word) : (State.csrStore s c v).mem = s.mem := by
  fun_cases State.csrStore s c v <;> grind [setC_mem, setWindow_mem]

theorem holdTile_mem (s : State) : (State.holdTile s).mem = s.mem := rfl

theorem tenSet_kept (s : State) (k : State → Out) (hk : ∀ t, Memory.wf t.mem = true → kept (k t) = true) :
    Memory.wf s.mem = true → kept (State.tenSet s k) = true := by
  grind [State.tenSet, stallHere_kept, holdTile_mem, trap_kept, onStrand_mem, saveCsr_wf, kept]

theorem tenClear_kept (s : State) (k : State → Out) (hk : ∀ t, Memory.wf t.mem = true → kept (k t) = true) :
    Memory.wf s.mem = true → kept (State.tenClear s k) = true := by
  grind [State.tenClear, deliverPoint_kept, stallHere_kept, setC_mem, kept]

theorem haltStrand_wf (s : State) (sid : Nat) : Memory.wf s.mem = true → Memory.wf (State.haltStrand s sid).mem = true := by
  fun_cases State.haltStrand s sid
  grind [asStrand_wf, force_wf]

theorem unhalt_mem (s : State) (sid : Nat) (stepping : Bool) : (State.unhalt s sid stepping).mem = s.mem := by
  grind [State.unhalt, onStrand_mem, comeBack_mem]

theorem debugSlot_wf (s : State) (slot : Nat) (halt step : Bool) :
    Memory.wf s.mem = true → Memory.wf (State.debugSlot s slot halt step).mem = true := by
  grind [State.debugSlot, onStrand_mem, haltStrand_wf, unhalt_mem]

theorem dbgWrite_wf (s : State) (v : Word) : Memory.wf s.mem = true → Memory.wf (State.dbgWrite s v).mem = true :=
  fun h => foldl_wf _ (fun s _ q => debugSlot_wf s _ _ _ q) _ _ h

theorem csrWrite_kept (s : State) (word : InsnWord) (d : Reg) (c : BitVec 12) (f : Word → Word) :
    Memory.wf s.mem = true → kept (State.csrWrite s word d c f) = true := by
  intro h
  fun_cases State.csrWrite s word d c f with
  | case1 => exact trapWord_kept _ _ _ h
  | case2 => exact trapWord_kept _ _ _ h
  | case3 => exact tenSet_kept _ _ (fun _ => ret_kept _ _ _) h
  | case4 => exact tenClear_kept _ _ (fun _ => ret_kept _ _ _) h
  | case5 => exact ret_kept _ _ _ (dbgWrite_wf _ _ h)
  | case6 => exact ret_kept _ _ _ (wf_of_mem (csrStore_mem ..) h)

theorem csrLook_kept (s : State) (word : InsnWord) (d : Reg) (c : BitVec 12) :
    Memory.wf s.mem = true → kept (State.csrLook s word d c) = true := by
  grind [State.csrLook, trapWord_kept, ret_kept, kept]

theorem execCsrw_kept (d a : Reg) (c : BitVec 12) (s : State) : Memory.wf s.mem = true → kept (execCsrw d a c s) = true := by
  grind [execCsrw, csrWrite_kept, kept]

theorem execCsrs_kept (d a : Reg) (c : BitVec 12) (s : State) : Memory.wf s.mem = true → kept (execCsrs d a c s) = true := by
  grind [execCsrs, csrLook_kept, csrWrite_kept, kept]

theorem execCsrc_kept (d a : Reg) (c : BitVec 12) (s : State) : Memory.wf s.mem = true → kept (execCsrc d a c s) = true := by
  grind [execCsrc, csrLook_kept, csrWrite_kept, kept]

theorem execCsrwi_kept (d : Reg) (i : BitVec 5) (c : BitVec 12) (s : State) :
    Memory.wf s.mem = true → kept (execCsrwi d i c s) = true := by
  grind [execCsrwi, csrWrite_kept, kept]

/-! ### Permutations and reductions -/

theorem whole_kept (s : State) (w : InsnWord) (srcs : List Reg) (dst : Option Reg) (k : State → (Reg → Nat → Nat) → State)
    (hk : ∀ t x, Memory.wf t.mem = true → Memory.wf (k t x).mem = true) :
    Memory.wf s.mem = true → kept (State.whole s w srcs dst k) = true := by
  fun_cases State.whole s w srcs dst k <;> grind [trapWord_kept, withOperands_kept, adv_mem, kept]

theorem execVmand_kept (d a b : Reg) (s : State) : Memory.wf s.mem = true → kept (execVmand d a b s) = true := by
  grind [execVmand, elementWise_kept, kept]

theorem execVmor_kept (d a b : Reg) (s : State) : Memory.wf s.mem = true → kept (execVmor d a b s) = true := by
  grind [execVmor, elementWise_kept, kept]

theorem execVmxor_kept (d a b : Reg) (s : State) : Memory.wf s.mem = true → kept (execVmxor d a b s) = true := by
  grind [execVmxor, elementWise_kept, kept]

theorem execVmnot_kept (d a : Reg) (s : State) : Memory.wf s.mem = true → kept (execVmnot d a s) = true := by
  grind [execVmnot, elementWise_kept, kept]

theorem execVmcnt_kept (d a : Reg) (s : State) : Memory.wf s.mem = true → kept (execVmcnt d a s) = true := by
  grind [execVmcnt, whole_kept, wx_mem, kept]

theorem execVmlead_kept (d a : Reg) (s : State) : Memory.wf s.mem = true → kept (execVmlead d a s) = true := by
  grind [execVmlead, whole_kept, wx_mem, kept]

theorem execVmrank_kept (d a : Reg) (s : State) : Memory.wf s.mem = true → kept (execVmrank d a s) = true := by
  grind [execVmrank, whole_kept, writeBack_mem, kept]

theorem execVslideup_kept (d a b c : Reg) (s : State) : Memory.wf s.mem = true → kept (execVslideup d a b c s) = true := by
  grind [execVslideup, whole_kept, writeBack_mem, kept]

theorem execVslidedn_kept (d a b c : Reg) (s : State) : Memory.wf s.mem = true → kept (execVslidedn d a b c s) = true := by
  grind [execVslidedn, whole_kept, writeBack_mem, kept]

theorem execVgather_kept (d a b c : Reg) (s : State) : Memory.wf s.mem = true → kept (execVgather d a b c s) = true := by
  grind [execVgather, whole_kept, writeBack_mem, kept]

theorem execVcompress_kept (d a : Reg) (s : State) : Memory.wf s.mem = true → kept (execVcompress d a s) = true := by
  grind [execVcompress, whole_kept, writeBack_mem, kept]

theorem execVmvxs_kept (d a b : Reg) (s : State) : Memory.wf s.mem = true → kept (execVmvxs d a b s) = true := by
  grind [execVmvxs, trap_kept, ret_kept, kept]

theorem execVmvsx_kept (d a b : Reg) (s : State) : Memory.wf s.mem = true → kept (execVmvsx d a b s) = true := by
  grind [execVmvsx, trap_kept, adv_mem, kept]

theorem reduce_kept (s : State) (w : InsnWord) (d a : Reg) (id : Nat) (op : Nat → Nat → Nat × FFlags) (out : Nat → Word) :
    Memory.wf s.mem = true → kept (State.reduce s w d a id op out) = true := by
  grind [State.reduce, whole_kept, wx_mem, setC_mem, kept]

theorem freduce_kept (s : State) (w : InsnWord) (d a : Reg) (id : FFmt → Nat) (op : FFmt → RMode → Nat → Nat → Nat × FFlags) :
    Memory.wf s.mem = true → kept (State.freduce s w d a id op) = true := by
  grind [State.freduce, trap_kept, reduce_kept, kept]

theorem execVfredsum_kept (d a : Reg) (s : State) : Memory.wf s.mem = true → kept (execVfredsum d a s) = true := by
  grind [execVfredsum, freduce_kept, kept]

theorem execVfredmax_kept (d a : Reg) (s : State) : Memory.wf s.mem = true → kept (execVfredmax d a s) = true := by
  grind [execVfredmax, freduce_kept, kept]

theorem execVfredmin_kept (d a : Reg) (s : State) : Memory.wf s.mem = true → kept (execVfredmin d a s) = true := by
  grind [execVfredmin, freduce_kept, kept]

theorem execVredsum_kept (d a : Reg) (s : State) : Memory.wf s.mem = true → kept (execVredsum d a s) = true := by
  grind [execVredsum, reduce_kept, kept]

theorem execVredmax_kept (d a : Reg) (s : State) : Memory.wf s.mem = true → kept (execVredmax d a s) = true := by
  grind [execVredmax, reduce_kept, kept]

theorem execVredmin_kept (d a : Reg) (s : State) : Memory.wf s.mem = true → kept (execVredmin d a s) = true := by
  grind [execVredmin, reduce_kept, kept]

/-! ### Relay rounds -/

theorem landPiece_wf (s : State) (t : Strand) (va : Word) (lanes : List Nat) (bs : List Byte) :
    Memory.wf s.mem = true → Memory.wf (State.landPiece s t va lanes bs).2.mem = true := by
  fun_cases State.landPiece s t va lanes bs <;> grind [translate_mem, crosses_mem, writeTurned_wf, passes_mem]

theorem discardRound_mem (s : State) (die sid group slot : Nat) : (State.discardRound s die sid group slot).mem = s.mem := by
  grind [State.discardRound, onDie_mem]

theorem settleRound_mem (s : State) (die sid group slot : Nat) : (State.settleRound s die sid group slot).mem = s.mem := by
  grind [State.settleRound, onStrand_mem]

theorem arrivePiece_wf (s : State) (t : Strand) (g : Group) (p : Parked) :
    Memory.wf s.mem = true → Memory.wf (State.arrivePiece s t g p).2.mem = true := by
  fun_cases State.arrivePiece s t g p <;> grind [onDie_mem, landPiece_wf, addReached_wf, discardRound_mem]

theorem arriveAll_wf (s : State) (t : Strand) (g : Group) (group slot width : Nat) (r : Record) (l : List (Nat × List Byte)) :
    Memory.wf s.mem = true → Memory.wf (State.arriveAll s t g group slot width r l).2.mem = true := by
  fun_induction State.arriveAll s t g group slot width r l <;> grind [arrivePiece_wf]

theorem arriveResult_wf (s : State) (sid : Nat) (g : Group) (group slot width : Nat) (r : Record) (bs : List Byte) :
    Memory.wf s.mem = true → Memory.wf (State.arriveResult s sid g group slot width r bs).mem = true := by
  grind [State.arriveResult, arriveAll_wf, settleRound_mem]

theorem groupFor_mem (s : State) (sid group : Nat) : (State.groupFor s sid group).2.mem = s.mem := by
  grind [State.groupFor, groupLine_mem]

theorem enterParking_wf (s : State) (die fuel : Nat) :
    Memory.wf s.mem = true → Memory.wf (State.enterParking s die fuel).mem = true := by
  fun_induction State.enterParking s die fuel <;> grind [onDie_mem, groupFor_mem, arrivePiece_wf, settleRound_mem]

theorem retryArrival_wf (s : State) (die : Nat) (p : Parked) :
    Memory.wf s.mem = true → Memory.wf (State.retryArrival s die p).mem = true := by
  fun_cases State.retryArrival s die p <;> grind [onDie_mem, groupFor_mem, landPiece_wf, enterParking_wf, settleRound_mem, addReached_wf,
      discardRound_mem]

theorem retryArrivals_wf (s : State) (die : Nat) : Memory.wf s.mem = true → Memory.wf (State.retryArrivals s die).mem = true :=
  foldl_wf _ (fun s p q => by split; exacts [retryArrival_wf s _ _ q, q]) _ s

theorem execParkedArrivalRetry_kept (index : Nat) (s : State) :
    Memory.wf s.mem = true → kept (execParkedArrivalRetry index s) = true := by
  grind [execParkedArrivalRetry, retryArrival_wf, kept]

theorem ranksFrom_mem (s : State) (core : Nat) (g : Group) (group r n : Nat) : (State.ranksFrom s core g group r n).2.mem = s.mem := by
  fun_induction State.ranksFrom s core g group r n <;> grind [member_mem]

theorem ranks_mem (s : State) (g : Group) (r : Round) : (State.ranks s g r).2.mem = s.mem := by
  fun_cases State.ranks s g r <;> grind [ranksFrom_mem]

theorem roundTval_mem (s : State) (t : Strand) (g : Group) (slot : Nat) (cause : BitVec 10) :
    (State.roundTval s t g slot cause).2.mem = s.mem := by
  grind [State.roundTval, translate_mem]

theorem failRound_wf (s : State) (g : Group) (r : Round) (here : List (Nat × Strand)) (cause : BitVec 10) (tval : Option Word) :
    Memory.wf s.mem = true → Memory.wf (State.failRound s g r here cause tval).mem = true := by
  refine fun h => foldl_wf _ (fun s k q => ?_) _ _ h
  grind [setStrand_mem, roundTval_mem, addRecord_wf, addReached_wf]

theorem roundGroup_mem (s : State) (r : Round) : (State.roundGroup s r).2.mem = s.mem := by
  grind [State.roundGroup, groupFor_mem]

theorem gather_mem (s : State) (parts : List Contribution) (dies : List Nat) : (State.gather s parts dies).mem = s.mem := rfl

theorem sendChunk_mem (s : State) (group slot rank : Nat) : (State.sendChunk s group slot rank).mem = s.mem := by
  grind [State.sendChunk, gather_mem]

theorem contributed_mem (s : State) (c : Contribution) (group slot : Nat) : (State.contributed s c group slot).mem = s.mem := by
  grind [State.contributed, passes_mem]

theorem routed_mem (s : State) (target : Nat) (l : List Nat) : (State.routed s target l).2.mem = s.mem := by
  fun_induction State.routed s target l <;> grind [routeEntry_mem]

theorem emitLanes_mem (s : State) (n width target : Nat) : (State.emitLanes s n width target).mem = s.mem :=
  foldl_mem _ (fun s _ => emit_mem s _ _ _ _ _) _ s

theorem emitRound_mem (s : State) (n width : Nat) (dies l : List Nat) : (State.emitRound s n width dies l).2.mem = s.mem := by
  fun_induction State.emitRound s n width dies l <;> grind [routed_mem, emitLanes_mem]

theorem roundCrosses_mem (s : State) (g : Group) (r : Round) (c0 : Contribution) (away : List Nat) :
    (State.roundCrosses s g r c0 away).2.mem = s.mem := by
  fun_cases State.roundCrosses s g r c0 away <;> grind [gather_mem, passes_mem, emitRound_mem, waitNet_mem, loss_mem]

theorem execRelayRoundComplete_kept (group slot : Nat) (s : State) :
    Memory.wf s.mem = true → kept (execRelayRoundComplete group slot s) = true := by
  intro h
  fun_cases execRelayRoundComplete group slot s with
  | case7 _ _ _ _ _ s1 e1 _ _ _ _ s2 e2 _ _ s3 e3 =>
    have h1 : Memory.wf s1.mem = true := wf_of_eq e1 (wf_of_mem (roundGroup_mem ..) h)
    have h2 : Memory.wf s2.mem = true := wf_of_eq e2 (wf_of_mem (ranks_mem ..) h1)
    have h3 : Memory.wf s3.mem = true := wf_of_eq e3 (wf_of_mem (roundCrosses_mem ..) h2)
    exact kept_next (foldl_wf _ (fun s _ q => arriveResult_wf s _ _ _ _ _ _ _ q) _ _ h3)
  | _ => grind [roundGroup_mem, ranks_mem, failRound_wf, roundCrosses_mem, kept]

/-! ### Streams -/

theorem onPartner_mem (s : State) (t : Strand) (i : Nat) (f : Stream → Stream) : (State.onPartner s t i f).mem = s.mem := by
  grind [State.onPartner, onStrand_mem]

theorem release_wf (s : State) (i : Nat) (u : State) :
    State.release s i = some u → Memory.wf s.mem = true → Memory.wf u.mem = true := by
  grind [State.release, placeStream_wf, onPartner_mem]

theorem releaseAll_wf (s : State) (l : List Nat) (u : State) :
    State.releaseAll s l = .ok u → Memory.wf s.mem = true → Memory.wf u.mem = true := by
  fun_induction State.releaseAll s l <;> grind [release_wf]

theorem unstall_mem (s : State) : (State.unstall s).mem = s.mem := rfl

theorem execSbind_kept (v a : Reg) (s : State) : Memory.wf s.mem = true → kept (execSbind v a s) = true := by
  grind [execSbind, release_wf, stallOn_kept, unstall_mem, trap_kept, loadAt_mem, trapX_kept, adv_mem, kept]

theorem execSunbind_kept (v : Reg) (s : State) : Memory.wf s.mem = true → kept (execSunbind v s) = true := by
  grind [execSunbind, release_wf, stallOn_kept, adv_mem, unstall_mem, kept]

theorem execStreamFill_kept (sid stream : Nat) (s : State) : Memory.wf s.mem = true → kept (execStreamFill sid stream s) = true := by
  intro h
  unfold execStreamFill
  obtain ⟨streamRead, e, hr⟩ : ∃ g, g = State.streamRead ∧ ∀ s b, (g s b).2.mem = s.mem := ⟨_, rfl, streamRead_mem⟩
  rw [← e]
  refine kept_next (asStrand_wf _ _ _ (fun s h => ?_) h)
  split
  · exact h
  · split
    · exact placeStream_wf _ _ h
    · split
      · exact wf_of_mem (hr ..) h
      · exact h

theorem execRemoteGroupDelivery_kept (sid stream : Nat) (s : State) :
    Memory.wf s.mem = true → kept (execRemoteGroupDelivery sid stream s) = true := by
  grind [execRemoteGroupDelivery, setStrand_mem, kept]

theorem execStreamBudgetExpiry_kept (sid : Nat) (s : State) :
    Memory.wf s.mem = true → kept (execStreamBudgetExpiry sid s) = true := by
  fun_cases execStreamBudgetExpiry sid s <;> grind [asStrand_wf, stepDone_wf, trapEntry_wf, kept]

/-! ### System instructions -/

theorem execLineMarker_kept (m : BitVec 15) (s : State) : Memory.wf s.mem = true → kept (execLineMarker m s) = true := by
  grind [execLineMarker, adv_mem, trapWord_kept, kept]

theorem execNop_kept (s : State) : Memory.wf s.mem = true → kept (execNop s) = true := by
  grind [execNop, adv_mem, kept]

theorem trapNext_kept (s : State) (code : BitVec 10) (tval : Word) :
    Memory.wf s.mem = true → kept (State.trapNext s code tval) = true := by
  grind [State.trapNext, trapEntry_wf, kept]

theorem breakHalt_wf (s : State) : Memory.wf s.mem = true → Memory.wf (State.breakHalt s).mem = true := by
  fun_cases State.breakHalt s
  grind [stepOver_mem, beginSave_wf]

theorem execBrk_kept (code : BitVec 10) (s : State) : Memory.wf s.mem = true → kept (execBrk code s) = true := by
  grind [execBrk, breakHalt_wf, trapNext_kept, kept]

theorem execEret_kept (s : State) : Memory.wf s.mem = true → kept (execEret s) = true := by
  grind [execEret, trapWord_kept, trapReturn_wf, kept]

theorem execYield_kept (s : State) : Memory.wf s.mem = true → kept (execYield s) = true := by
  grind [execYield, beginSave_wf, adv_mem, kept]

theorem declareAll_mem (s : State) : (State.declareAll s).mem = s.mem := by
  grind [State.declareAll, declareUpTo_mem]

theorem endStrand_mem (s : State) : (State.endStrand s).mem = s.mem := by
  grind [State.endStrand, stepOver_mem, releaseTile_mem, onLaunch_mem]

theorem haltTrap_kept (s : State) (n : Nat) : Memory.wf s.mem = true → kept (State.haltTrap s n) = true := by
  grind [State.haltTrap, trap_kept, kept]

theorem execHalt_kept (s : State) : Memory.wf s.mem = true → kept (execHalt s) = true := by
  grind [execHalt, waitPoint_kept, releaseAll_wf, stallOn_kept, haltTrap_kept, stallHere_kept, turnLog_wf, deliverPoint_kept,
      declareAll_mem, endStrand_mem, kept]

theorem dropTlb_mem (s : State) (die : Nat) (p : TlbEntry → Bool) : (State.dropTlb s die p).mem = s.mem := by
  grind [State.dropTlb, onCores_mem, onDie_mem]

theorem retryDie_wf (s : State) (die : Nat) : Memory.wf s.mem = true → Memory.wf (State.retryDie s die).mem = true :=
  fun h => retryArrivals_wf _ _ (wf_of_mem (foldl_mem _ (fun _ _ => foldl_mem _ (fun s _ => retryParked_mem s _ _) _ _) _ _) h)

theorem execTlbinv_kept (a b : Reg) (s : State) : Memory.wf s.mem = true → kept (execTlbinv a b s) = true := by
  grind [execTlbinv, trapWord_kept, adv_mem, retryDie_wf, dropTlb_mem, kept]

theorem execTlbinvall_kept (s : State) : Memory.wf s.mem = true → kept (execTlbinvall s) = true := by
  grind [execTlbinvall, trapWord_kept, adv_mem, retryDie_wf, dropTlb_mem, kept]

theorem issuing_kept (s : State) (k : State → Out) (hk : ∀ t, Memory.wf t.mem = true → kept (k t) = true) :
    Memory.wf s.mem = true → kept (State.issuing s k) = true := by
  fun_cases State.issuing s k <;> grind [kept]

theorem execTenSet_kept (s : State) : Memory.wf s.mem = true → kept (execTenSet s) = true := by
  grind [execTenSet, issuing_kept, tenSet_kept, kept]

theorem execTenClear_kept (s : State) : Memory.wf s.mem = true → kept (execTenClear s) = true := by
  grind [execTenClear, issuing_kept, tenClear_kept, kept]

theorem execReservedEncoding_kept (word : InsnWord) (s : State) :
    Memory.wf s.mem = true → kept (execReservedEncoding word s) = true := by
  grind [execReservedEncoding, issuing_kept, trapWord_kept, kept]

theorem execInstructionFetchFault_kept (cause : BitVec 10) (tval : Word) (s : State) :
    Memory.wf s.mem = true → kept (execInstructionFetchFault cause tval s) = true := by
  grind [execInstructionFetchFault, issuing_kept, trap_kept, kept]

/-! ### Vector configuration -/

theorem grantVl_mem (s : State) (d : Reg) (g : Nat) : (State.grantVl s d g).mem = s.mem := rfl

theorem holdTrap_wf (s : State) (need : Nat) : Memory.wf s.mem = true → Memory.wf (State.holdTrap s need).mem = true := by
  fun_cases State.holdTrap s need
  grind [trapEntry_wf]

theorem setvl_kept (s : State) (d : Reg) (n : Nat) : Memory.wf s.mem = true → kept (State.setvl s d n) = true := by
  grind [State.setvl, preemptPoint_kept, grantVl_mem, holdTrap_wf, kept]

theorem settype_kept (s : State) (word : InsnWord) (d : Reg) (v : Word) :
    Memory.wf s.mem = true → kept (State.settype s word d v) = true := by
  grind [State.settype, trapWord_kept, ret_kept, kept]

theorem execWatermarkRise_kept (sid : Nat) (s : State) : Memory.wf s.mem = true → kept (execWatermarkRise sid s) = true := by
  fun_cases execWatermarkRise sid s <;> grind [asStrand_wf, stepDone_wf, grantVl_mem, kept]

theorem execDependenceHoldExpiry_kept (sid : Nat) (s : State) :
    Memory.wf s.mem = true → kept (execDependenceHoldExpiry sid s) = true := by
  fun_cases execDependenceHoldExpiry sid s <;> grind [asStrand_wf, stepDone_wf, holdTrap_wf, kept]

/-! ### Events of the Starter -/

theorem execWatermarkDeclaration_kept (index : Nat) (s : State) :
    Memory.wf s.mem = true → kept (execWatermarkDeclaration index s) = true := by
  grind [execWatermarkDeclaration, onLaunch_mem, kept]

theorem execLaunchTake_kept (s : State) : Memory.wf s.mem = true → kept (execLaunchTake s) = true := by
  fun_cases execLaunchTake s <;> grind [kept]

theorem stopStrand_mem (s : State) (sid : Nat) : (State.stopStrand s sid).mem = s.mem := by
  grind [State.stopStrand, setStrand_mem, releaseTile_mem]

theorem dropParked_wf (s : State) (sids : List Nat) : Memory.wf s.mem = true → Memory.wf (State.dropParked s sids).mem = true :=
  fun h => foldl_wf _ (fun s _ q => enterParking_wf s _ _ q) _ _ h

theorem wakeRetire_wf (s : State) (lid : Word) : Memory.wf s.mem = true → Memory.wf (State.wakeRetire s lid).mem = true := by
  refine foldl_wf _ (fun s t h => ?_) _ s
  grind [endWait_wf]

theorem stopStrands_mem (l : List Nat) (s : State) : (l.foldl State.stopStrand s).mem = s.mem := foldl_mem _ stopStrand_mem l s

theorem execLaunchRetire_kept (lid : Word) (s : State) : Memory.wf s.mem = true → kept (execLaunchRetire lid s) = true := by
  fun_cases execLaunchRetire lid s <;> grind [stopStrands_mem, dropParked_wf, retire_mem, wakeRetire_wf, complete_mem, kept]

theorem withdrawRequests_mem (s : State) (core : Nat) : (State.withdrawRequests s core).mem = s.mem := by
  grind [State.withdrawRequests]

theorem execPreemptionRequest_kept (core : Nat) (s : State) : Memory.wf s.mem = true → kept (execPreemptionRequest core s) = true := by
  intro h
  unfold execPreemptionRequest
  split
  · rfl
  · exact wf_of_mem (withdrawRequests_mem ..) (wf_of_mem (foldl_mem _ (fun s _ => onStrand_mem s _ _) _ _) h)

theorem execStrandStart_kept (core : Nat) (s : State) : Memory.wf s.mem = true → kept (execStrandStart core s) = true := by
  grind [execStrandStart, withdrawRequests_mem, startOne_wf, kept]

theorem requestArrived_wf (s : State) : Memory.wf s.mem = true → Memory.wf (State.requestArrived s).mem = true := by
  grind [State.requestArrived, yieldInWait_wf]

theorem execPreemptionRequestArrival_kept (sid : Nat) (s : State) :
    Memory.wf s.mem = true → kept (execPreemptionRequestArrival sid s) = true := by
  fun_cases execPreemptionRequestArrival sid s <;> grind [asStrand_wf, requestArrived_wf, beginSave_wf, setvl_kept, kept]

theorem execForcedPreemption_kept (sid : Nat) (s : State) :
    Memory.wf s.mem = true → kept (execForcedPreemption sid s) = true := by
  fun_cases execForcedPreemption sid s <;> grind [asStrand_wf, force_wf, kept]

theorem resumeHalted_mem (s : State) (sid : Nat) : (State.resumeHalted s sid).mem = s.mem := by
  grind [State.resumeHalted, unhalt_mem]

theorem execSaveComplete_kept (sid : Nat) (s : State) : Memory.wf s.mem = true → kept (execSaveComplete sid s) = true := by
  fun_cases execSaveComplete sid s <;> grind [asStrand_wf, saveOn_wf, saveWrite_wf, withdrawRequests_mem, resumeHalted_mem, onStrand_mem,
      kept]

theorem execIssueAging_kept (sid : Nat) (s : State) : Memory.wf s.mem = true → kept (execIssueAging sid s) = true := by
  grind [execIssueAging, onStrand_mem, kept]

/-! ### Ends of waits -/

theorem waitFault_wf (s : State) (t : Strand) (w : WaitRec) (u : State) :
    State.waitFault s t w = some u → Memory.wf s.mem = true → Memory.wf u.mem = true := by
  fun_cases State.waitFault s t w <;> grind [asStrand_wf, stepDone_wf, deliver_wf, setStrand_mem]

theorem attemptAgain_wf (s : State) (t : Strand) (w : WaitRec) :
    Memory.wf s.mem = true → Memory.wf (State.attemptAgain s t w).2.mem = true := by
  grind [State.attemptAgain, attemptObj_wf, clearAppended_wf, onStrand_mem, ringFault_wf]

theorem execWaitExpiry_kept (sid : Nat) (s : State) : Memory.wf s.mem = true → kept (execWaitExpiry sid s) = true := by
  fun_cases execWaitExpiry sid s <;> grind [setStrand_mem, attemptAgain_wf, serve_wf, endWait_wf, onStrand_mem, waitFault_wf, kept]

theorem cancelWait_wf (s : State) (t : Strand) (w : WaitRec) :
    Memory.wf s.mem = true → Memory.wf (State.cancelWait s t w).mem = true := by
  grind [State.cancelWait, unregister_mem, attemptAgain_wf, endWait_wf, timeoutEnd_wf]

theorem execWaitCancellation_kept (sid : Nat) (s : State) :
    Memory.wf s.mem = true → kept (execWaitCancellation sid s) = true := by
  grind [execWaitCancellation, cancelWait_wf, serve_wf, kept]

theorem execBarawWithdrawal_kept (sid : Nat) (s : State) : Memory.wf s.mem = true → kept (execBarawWithdrawal sid s) = true := by
  grind [execBarawWithdrawal, withdraw_wf, unregister_mem, dropWakes_mem, endWait_wf, kept]

theorem execWaiterWake_kept (index : Nat) (s : State) : Memory.wf s.mem = true → kept (execWaiterWake index s) = true := by
  fun_cases execWaiterWake index s <;> grind [setStrand_mem, endWait_wf, kept]

theorem resend_wf (s : State) (t : Strand) (w : WaitRec) :
    Memory.wf s.mem = true → Memory.wf (State.resend s t w).mem = true := by
  fun_cases State.resend s t w <;> grind [attemptAgain_wf, onStrand_mem, serve_wf, registerAs_mem]

theorem execWaiterRefusalResend_kept (sid : Nat) (s : State) :
    Memory.wf s.mem = true → kept (execWaiterRefusalResend sid s) = true := by
  grind [execWaiterRefusalResend, resend_wf, kept]

theorem roomTry_wf (s : State) (t : Strand) (w : WaitRec) (u : State) :
    State.roomTry s t w = some u → Memory.wf s.mem = true → Memory.wf u.mem = true := by
  grind [State.roomTry, tryLaunch_mem, focus_mem, endWait_wf]

theorem tryWait_wf (s : State) (t : Strand) (u : State) :
    State.tryWait s t = some u → Memory.wf s.mem = true → Memory.wf u.mem = true := by
  grind [State.tryWait, waitFault_wf, endWait_wf, roomTry_wf]

theorem execImpreciseDelivery_kept (sid : Nat) (s : State) :
    Memory.wf s.mem = true → kept (execImpreciseDelivery sid s) = true := by
  fun_cases execImpreciseDelivery sid s <;> grind [asStrand_wf, deliver_wf, kept]

theorem hang_wf (s : State) (sid : Nat) : Memory.wf s.mem = true → Memory.wf (State.hang s sid).mem = true := by
  fun_cases State.hang s sid
  grind [asStrand_wf, lose_wf, unregister_mem, beginSave_wf, saveOn_wf]

theorem execHandlerWatchdog_kept (sid : Nat) (s : State) : Memory.wf s.mem = true → kept (execHandlerWatchdog sid s) = true := by
  grind [execHandlerWatchdog, hang_wf, kept]

theorem execTrapRepeatWatchdog_kept (sid : Nat) (s : State) :
    Memory.wf s.mem = true → kept (execTrapRepeatWatchdog sid s) = true := by
  grind [execTrapRepeatWatchdog, hang_wf, kept]

theorem execSaveRestoreWatchdog_kept (sid : Nat) (s : State) :
    Memory.wf s.mem = true → kept (execSaveRestoreWatchdog sid s) = true := by
  grind [execSaveRestoreWatchdog, lose_wf, setStrand_mem, kept]

/-! ### Debugging -/

theorem onDbg_mem (s : State) (core : Nat) (f : Word → Word) : (State.onDbg s core f).mem = s.mem := by
  grind [State.onDbg, onCore_mem]

theorem execDbgctlHalt_kept (core slot : Nat) (s : State) :
    Memory.wf s.mem = true → kept (execDbgctlHalt core slot s) = true := by
  grind [execDbgctlHalt, onDbg_mem, haltStrand_wf, kept]

theorem execDbgctlStep_kept (core slot : Nat) (s : State) :
    Memory.wf s.mem = true → kept (execDbgctlStep core slot s) = true := by
  grind [execDbgctlStep, unhalt_mem, onDbg_mem, kept]

theorem execDbgctlFreeze_kept (core : Nat) (freeze : Bool) (s : State) :
    Memory.wf s.mem = true → kept (execDbgctlFreeze core freeze s) = true := by
  grind [execDbgctlFreeze, onDbg_mem, kept]

/-! ### Scalar arithmetic -/

theorem execCmov_kept (d a b : Reg) (s : State) : Memory.wf s.mem = true → kept (execCmov d a b s) = true := by
  grind [execCmov, adv_mem, ret_kept, kept]

/-! ### Power states -/

theorem markBusy_mem (s : State) : (State.markBusy s).mem = s.mem := foldl_mem _ (fun s _ => onDie_mem s _ _) _ s

theorem landEntries_wf (core : Nat) (l : List OutEntry) (s : State) (h : Memory.wf s.mem = true) :
    Memory.wf (l.foldl (fun s e => s.landEntry core e) s).mem = true := foldl_wf _ (fun s e q => landEntry_wf s core e q) l s h

theorem quiesceCore_wf (s : State) (core : Nat) (h : Memory.wf s.mem = true) : Memory.wf (let k := s.coreAt core
      let s := if k.outb.isEmpty then s else s.setCore { k with outb := [] }
      k.outb.foldl (fun s e => s.landEntry core e) s).mem = true := by
  refine landEntries_wf _ _ _ ?_
  split
  · exact h
  · exact wf_of_mem (setCore_mem ..) h

theorem quiesce_wf (s : State) (die : Nat) : Memory.wf s.mem = true → Memory.wf (State.quiesce s die).mem = true := by
  intro h
  unfold State.quiesce
  exact wf_of_mem (onCores_mem ..) (foldl_wf _ quiesceCore_wf _ s h)

theorem execDieIdleEntry_kept (die : Nat) (s : State) : Memory.wf s.mem = true → kept (execDieIdleEntry die s) = true := by
  grind [execDieIdleEntry, onDie_mem, quiesce_wf, kept]

theorem execDieStateEntryComplete_kept (die : Nat) (s : State) :
    Memory.wf s.mem = true → kept (execDieStateEntryComplete die s) = true := by
  fun_cases execDieStateEntryComplete die s <;> grind [onDie_mem, setDieState_mem, kept]

theorem wake_wf (s : State) (die : Nat) : Memory.wf s.mem = true → Memory.wf (State.wake s die).mem = true := by
  fun_cases State.wake s die <;> grind [onDie_mem, entryFailed_wf]

theorem exitDone_wf (s : State) (die : Nat) : Memory.wf s.mem = true → Memory.wf (State.exitDone s die).mem = true := by
  grind [State.exitDone, onDie_mem, leaveState_wf]

theorem rouse_wf (s : State) (dies : List Nat) : Memory.wf s.mem = true → Memory.wf (State.rouse s dies).mem = true := by
  refine foldl_wf _ (fun s die h => ?_) _ s
  split
  · split
    · exact exitDone_wf _ _ h
    · exact wake_wf _ _ h
  · exact h

theorem execDieWake_kept (die : Nat) (s : State) : Memory.wf s.mem = true → kept (execDieWake die s) = true := by
  grind [execDieWake, wake_wf, kept]

theorem execDieExitComplete_kept (die : Nat) (s : State) : Memory.wf s.mem = true → kept (execDieExitComplete die s) = true := by
  grind [execDieExitComplete, exitDone_wf, kept]

theorem execDieEntryFailure_kept (die : Nat) (s : State) : Memory.wf s.mem = true → kept (execDieEntryFailure die s) = true := by
  grind [execDieEntryFailure, entryFailed_wf, kept]

theorem failLaunches_mem (code : BitVec 10) (l : List Word) (s : State) : (l.foldl (fun s lid => s.failLaunch lid code) s).mem = s.mem :=
  foldl_mem _ (fun s _ => failLaunch_mem s _ _) l s

theorem loses_wf (code : BitVec 10) (l : List Nat) (s : State) (h : Memory.wf s.mem = true) :
    Memory.wf (l.foldl (fun s sid => s.lose sid code) s).mem = true := foldl_wf _ (fun s _ q => lose_wf s _ _ q) l s h

theorem execDieExitFailure_kept (die : Nat) (s : State) : Memory.wf s.mem = true → kept (execDieExitFailure die s) = true := by
  intro h
  unfold execDieExitFailure
  split
  · rfl
  split
  · split
    · exact h
    · exact kept_next (wf_of_mem (hosterr_mem ..)
        (loses_wf _ _ _ (wf_of_mem (failLaunches_mem ..) (wf_of_mem (onDie_mem ..) h))))
  · exact h

theorem stopEntry_wf (s : State) (die : Nat) : Memory.wf s.mem = true → Memory.wf (State.stopEntry s die).mem = true := by
  fun_cases State.stopEntry s die <;> grind [entryFailed_wf, onDie_mem]

theorem relax_wf (s : State) (die : Nat) : Memory.wf s.mem = true → Memory.wf (State.relax s die).mem = true := by
  grind [State.relax, stopEntry_wf, wake_wf, onDie_mem, leaveState_wf]

theorem execLattolWrite_kept (value : Word) (s : State) : Memory.wf s.mem = true → kept (execLattolWrite value s) = true := by
  intro h
  unfold execLattolWrite
  split
  · exact h
  · exact kept_next (foldl_wf _ relax_wf _ _ h)

theorem execPwrcapWrite_kept (value : Word) (s : State) : Memory.wf s.mem = true → kept (execPwrcapWrite value s) = true := by
  grind [execPwrcapWrite, kept]

theorem execPowerAverageTick_kept (power : BitVec 16) (s : State) :
    Memory.wf s.mem = true → kept (execPowerAverageTick power s) = true := by
  grind [execPowerAverageTick, kept]

theorem execCapIssueHold_kept (s : State) : Memory.wf s.mem = true → kept (execCapIssueHold s) = true := by
  grind [execCapIssueHold, hosterr_mem, kept]

/-! ### Start, links and host accesses -/

theorem zeroed_wf (s : State) (minimal : Bool) : Memory.wf s.mem = true → Memory.wf (State.zeroed s minimal).mem = true := wf_filter _

theorem restarted_mem (s : State) (cause : Nat) (keepCode : Bool) : (State.restarted s cause keepCode).mem = s.mem := rfl

theorem startFailed_mem (s : State) (step code : Nat) : (State.startFailed s step code).mem = s.mem := rfl

theorem fabricTrained_mem (s : State) : (State.fabricTrained s).mem = s.mem := rfl

theorem startDone_mem (s : State) : (State.startDone s).mem = s.mem := rfl

theorem start_wf (s : State) (cause : Nat) (keepCode : Bool) (failStep : Nat) (failCode : BitVec 16) :
    Memory.wf s.mem = true → Memory.wf (State.start s cause keepCode failStep failCode).mem = true := by
  grind [State.start, restarted_mem, startDone_mem, zeroed_wf, startFailed_mem, fabricTrained_mem]

theorem execPowerOnReset_kept (failStep : Nat) (failCode : BitVec 16) (s : State) :
    Memory.wf s.mem = true → kept (execPowerOnReset failStep failCode s) = true := by
  grind [execPowerOnReset, start_wf, kept]

theorem execHostLinkReset_kept (failStep : Nat) (failCode : BitVec 16) (s : State) :
    Memory.wf s.mem = true → kept (execHostLinkReset failStep failCode s) = true := by
  grind [execHostLinkReset, start_wf, kept]

theorem execModctlReset_kept (failStep : Nat) (failCode : BitVec 16) (s : State) :
    Memory.wf s.mem = true → kept (execModctlReset failStep failCode s) = true := by
  grind [execModctlReset, start_wf, kept]

theorem execModctlFullstart_kept (failStep : Nat) (failCode : BitVec 16) (s : State) :
    Memory.wf s.mem = true → kept (execModctlFullstart failStep failCode s) = true := by
  grind [execModctlFullstart, start_wf, kept]

theorem execHeartbeatWatchdog_kept (failStep : Nat) (failCode : BitVec 16) (s : State) :
    Memory.wf s.mem = true → kept (execHeartbeatWatchdog failStep failCode s) = true := by
  grind [execHeartbeatWatchdog, start_wf, kept]

theorem execStartTimeout_kept (s : State) : Memory.wf s.mem = true → kept (execStartTimeout s) = true := by
  grind [execStartTimeout, startFailed_mem, kept]

theorem execStartRetry_kept (failStep : Nat) (failCode : BitVec 16) (s : State) :
    Memory.wf s.mem = true → kept (execStartRetry failStep failCode s) = true := by
  grind [execStartRetry, start_wf, kept]

theorem execModnumWrite_kept (value : Word) (s : State) : Memory.wf s.mem = true → kept (execModnumWrite value s) = true := by
  grind [execModnumWrite, kept]

theorem execRtctlFlush_kept (s : State) : Memory.wf s.mem = true → kept (execRtctlFlush s) = true := by
  fun_cases execRtctlFlush s <;> grind [kept]

theorem execHosterrWrite_kept (s : State) : Memory.wf s.mem = true → kept (execHosterrWrite s) = true := by
  fun_cases execHosterrWrite s <;> grind [kept]

theorem hostTo_mem (s : State) (link l source : Nat) : (State.hostTo s link l source).mem = s.mem := by
  grind [State.hostTo, decodes_mem, passes_mem, touch_mem]

theorem turnHost_mem (s : State) (link : Nat) : (State.turnHost s link).mem = s.mem := by
  refine (foldl_mem _ (fun s e => ?_) _ _).trans rfl
  exact (invalidateAll_mem ..).trans (hostTo_mem s link e.line 2)

theorem reject_mem (s : State) (w : Window) (last : BitVec 3) : (State.reject s w last).mem = s.mem := rfl

theorem doorbell_wf (s : State) (link n : Nat) : Memory.wf s.mem = true → Memory.wf (State.doorbell s link n).mem = true := by
  grind [State.doorbell, context_mem, reject_mem, accept_mem, turnHost_mem, setWindow_mem]

theorem execDoorbellWrite_kept (link window : Nat) (s : State) :
    Memory.wf s.mem = true → kept (execDoorbellWrite link window s) = true := by
  grind [execDoorbellWrite, doorbell_wf, kept]

theorem resizeBar2_mem (s : State) (link n : Nat) : (State.resizeBar2 s link n).mem = s.mem := by
  grind [State.resizeBar2]

theorem windowWrite_wf (s : State) (link n off : Nat) (v : Word) :
    Memory.wf s.mem = true → Memory.wf (State.windowWrite s link n off v).mem = true := by
  grind [State.windowWrite, setWindow_mem, doorbell_wf]

theorem execRegisterWrite_kept (link : Nat) (offset : BitVec 26) (value : Word) (s : State) :
    Memory.wf s.mem = true → kept (execRegisterWrite link offset value s) = true := by
  grind [execRegisterWrite, windowWrite_wf, execModnumWrite_kept, execModctlFullstart_kept, execModctlReset_kept, execLattolWrite_kept,
      execPwrcapWrite_kept, execHosterrWrite_kept, execRtctlFlush_kept, kept]

theorem execConfigurationRequest_kept (link : Nat) (s : State) :
    Memory.wf s.mem = true → kept (execConfigurationRequest link s) = true := by
  grind [execConfigurationRequest, hostEvent_mem, kept]

theorem accessError_mem (s : State) (link : Nat) (read : Bool) (ps : List (Nat × Nat)) :
    (State.accessError s link read ps).mem = s.mem := by
  grind [State.accessError, hosterr_mem]

theorem hostPiece_wf (s : State) (link pa : Nat) (bs : List Byte) :
    Memory.wf s.mem = true → Memory.wf (State.hostPiece s link pa bs).mem = true := by
  fun_cases State.hostPiece s link pa bs <;> grind [landAt_wf, hostTo_mem]

theorem execBar2HostWrite_kept (link : Nat) (offset : BitVec 42) (data : List Byte) (s : State) :
    Memory.wf s.mem = true → kept (execBar2HostWrite link offset data s) = true := by
  intro h
  unfold execBar2HostWrite
  split
  · rfl
  split
  · exact h
  · exact kept_next (wf_of_mem (accessError_mem ..) (foldl_wf _ (fun s _ q => hostPiece_wf s _ _ _ q) _ _ h))

theorem touchAll_mem (s : State) (link : Nat) (ps : List (Nat × Nat)) : (State.touchAll s link ps).mem = s.mem := by
  refine foldl_mem _ (fun s p => ?_) _ _
  split
  · rfl
  · exact hostTo_mem ..

theorem execBar2HostRead_kept (link : Nat) (offset : BitVec 42) (len : Nat) (s : State) :
    Memory.wf s.mem = true → kept (execBar2HostRead link offset len s) = true := by
  grind [execBar2HostRead, hostEvent_mem, touchAll_mem, accessError_mem, kept]

theorem execHostLinkDown_kept (link : Nat) (s : State) : Memory.wf s.mem = true → kept (execHostLinkDown link s) = true := by
  grind [execHostLinkDown, hosterr_mem, kept]

theorem execHostLinkUp_kept (link : Nat) (s : State) : Memory.wf s.mem = true → kept (execHostLinkUp link s) = true := by
  grind [execHostLinkUp, hosterr_mem, kept]

/-! ### The tile engine -/

theorem runCmd_ok (s : State) (core : Nat) (c : EngCmd) (t : State) :
    (State.runCmd s core c).1 = .ok t → Memory.wf s.mem = true → Memory.wf t.mem = true := by
  grind [State.runCmd, onCore_mem, runTmac_wf, runTmac_ok, runTld_wf, runTld_ok, runTst_wf, runImage_wf, runImage_ok, runSigst_wf]

theorem runCmd_wf (s : State) (core : Nat) (c : EngCmd) : Memory.wf s.mem = true → Memory.wf (State.runCmd s core c).2.mem = true := by
  intro h
  cases hop : c.op <;> simp only [State.runCmd, hop]
  case tmac => exact runTmac_wf _ _ _ _ h
  case tmacw => exact runTmac_wf _ _ _ _ h
  case tld => exact runTld_wf _ _ _ h
  case sigjoin => exact runImage_wf _ _ _ _ _ h
  case sigjoinl => exact runImage_wf _ _ _ _ _ h
  case sigld => exact runImage_wf _ _ _ _ _ h
  all_goals exact h

theorem retireCmd_wf (s : State) (core : Nat) : Memory.wf s.mem = true → Memory.wf (State.retireCmd s core).mem = true := by
  intro h
  fun_cases State.retireCmd s core <;> grind [onCore_mem, addRecord_wf, runCmd_ok, runCmd_wf]

theorem execEngineCommandRetire_kept (core : Nat) (s : State) :
    Memory.wf s.mem = true → kept (execEngineCommandRetire core s) = true := by
  grind [execEngineCommandRetire, retireCmd_wf, kept]

theorem execTileStoreClearEnd_kept (core : Nat) (s : State) :
    Memory.wf s.mem = true → kept (execTileStoreClearEnd core s) = true := by
  grind [execTileStoreClearEnd, onCore_mem, kept]

/-! ### The fabric -/

theorem onPort_mem (s : State) (p : Nat) (f : Port → Port) : (State.onPort s p f).mem = s.mem := rfl

theorem execFlitCheckFail_kept (port : Nat) (s : State) : Memory.wf s.mem = true → kept (execFlitCheckFail port s) = true := by
  grind [execFlitCheckFail, onPort_mem, kept]

theorem flitAck_mem (s : State) (port : Nat) : (State.flitAck s port).mem = s.mem := rfl

theorem execFabricPortRetrain_kept (port : Nat) (s : State) :
    Memory.wf s.mem = true → kept (execFabricPortRetrain port s) = true := by
  grind [execFabricPortRetrain, onPort_mem, kept]

theorem loseAll_wf (s : State) (fs : List Flight) : Memory.wf s.mem = true → Memory.wf (State.loseAll s fs).mem = true :=
  foldl_wf _ (fun s f q => losePacket_wf _ f _ (wf_of_mem (loss_mem s) q)) fs s

theorem execFabricRetrainEnd_kept (port : Nat) (ok : Bool) (s : State) :
    Memory.wf s.mem = true → kept (execFabricRetrainEnd port ok s) = true := by
  grind [execFabricRetrainEnd, loseAll_wf, kept]

theorem landFlights_wf (fs : List Flight) (s : State) (h : Memory.wf s.mem = true) : Memory.wf (fs.foldl State.landFlight s).mem = true :=
  foldl_wf _ landFlight_wf fs s h

theorem loseAt_wf (s : State) (i : Nat) (f : Flight) : Memory.wf s.mem = true → Memory.wf (State.loseAt s i f).mem = true :=
  fun h => losePacket_wf _ _ _ (landFlights_wf _ _ (wf_of_mem (loss_mem s) h))

theorem execLossNotice_kept (packet : Nat) (s : State) : Memory.wf s.mem = true → kept (execLossNotice packet s) = true := by
  grind [execLossNotice, loseAt_wf, kept]

theorem execFabricReplyTimeout_kept (packet : Nat) (s : State) :
    Memory.wf s.mem = true → kept (execFabricReplyTimeout packet s) = true := by
  grind [execFabricReplyTimeout, loseAt_wf, kept]

theorem execLocalCompletion_kept (packet : Nat) (s : State) :
    Memory.wf s.mem = true → kept (execLocalCompletion packet s) = true := by
  fun_cases execLocalCompletion packet s <;> grind [kept]

theorem execRouteEntryRead_kept (die target : Nat) (s : State) :
    Memory.wf s.mem = true → kept (execRouteEntryRead die target s) = true := by
  grind [execRouteEntryRead, routeEntry_mem, kept]

theorem execRouteUpdate_kept (target : Nat) (entry : Word) (s : State) :
    Memory.wf s.mem = true → kept (execRouteUpdate target entry s) = true := by
  grind [execRouteUpdate, kept]

theorem execDclkwSynchronisation_kept (tick : BitVec 63) (s : State) :
    Memory.wf s.mem = true → kept (execDclkwSynchronisation tick s) = true := by
  fun_cases execDclkwSynchronisation tick s <;> grind [kept]

/-! ### Scalar floating point -/

theorem retF_kept (s : State) (d : Reg) (r : Nat × FFlags) : Memory.wf s.mem = true → kept (State.retF s d r) = true := by
  grind [State.retF, ret_kept, setC_mem, kept]

theorem execFcvtfi_kept (d a : Reg) (s : State) : Memory.wf s.mem = true → kept (execFcvtfi d a s) = true := by
  grind [execFcvtfi, retF_kept, kept]

theorem execFclass_kept (d a : Reg) (s : State) : Memory.wf s.mem = true → kept (execFclass d a s) = true := by
  grind [execFclass, ret_kept, kept]

/-! ### Events of the homes -/

theorem logEvent_wf (s : State) (kind struct core addr count source : Nat) (writer : BitVec 12) :
    Memory.wf s.mem = true → Memory.wf (State.logEvent s kind struct core addr count source writer).mem = true := by
  fun_cases State.logEvent s kind struct core addr count source writer
  grind [writeTurned_wf]

theorem logError_wf (s : State) (kind key count source : Nat) (writer : BitVec 12) :
    Memory.wf s.mem = true → Memory.wf (State.logError s kind key count source writer).mem = true := by
  grind [State.logError, logEvent_wf]

theorem poison_wf (s : State) (l : Nat) : Memory.wf s.mem = true → Memory.wf (State.poison s l).mem = true := by
  intro h
  have hl : Memory.wf (Memory.setMasked s.mem (64 * l) (2 ^ 64 - 1) 0 64) = true := wf_setLine l 0 h
  unfold State.poison
  generalize (2 ^ 64 - 1) = mask at hl ⊢
  dsimp only
  split
  · exact wf_of_mem ((onCore_mem _ _ _).trans (invalidateAll_mem _ l (l + 1))) hl
  · exact wf_of_mem (invalidateAll_mem _ l (l + 1)) hl

theorem scrub_wf (s : State) (l badBytes source : Nat) (writer : BitVec 12) :
    Memory.wf s.mem = true → Memory.wf (State.scrub s l badBytes source writer).mem = true := by
  grind [State.scrub, logError_wf, poison_wf]

theorem execPatrolScrub_kept (core badBytes : Nat) (s : State) :
    Memory.wf s.mem = true → kept (execPatrolScrub core badBytes s) = true := by
  grind [execPatrolScrub, scrub_wf, decodes_mem, onCore_mem, kept]

theorem execOutboundDrainTimeout_kept (core : Nat) (s : State) :
    Memory.wf s.mem = true → kept (execOutboundDrainTimeout core s) = true := by
  grind [execOutboundDrainTimeout, send_wf, onCore_mem, kept]

theorem execHomeWrite_kept (index badBytes : Nat) (s : State) :
    Memory.wf s.mem = true → kept (execHomeWrite index badBytes s) = true := by
  grind [execHomeWrite, landFlight_wf, scrub_wf, kept]

theorem execHomeRead_kept (sid : Nat) (address : BitVec 61) (d : Reg) (badBytes : Nat) (s : State) :
    Memory.wf s.mem = true → kept (execHomeRead sid address d badBytes s) = true := by
  fun_cases execHomeRead sid address d badBytes s <;> grind [asStrand_wf, scrub_wf, readHome_mem, trapEntry_wf, kept]

theorem execLoadReply_kept (index : Nat) (s : State) : Memory.wf s.mem = true → kept (execLoadReply index s) = true := by
  fun_cases execLoadReply index s <;> grind [draw_mem, onCore_mem, setStrand_mem, saveReg_wf, wx_mem, onStrand_mem, kept]

theorem execTurnInvalidation_kept (core : Nat) (s : State) :
    Memory.wf s.mem = true → kept (execTurnInvalidation core s) = true := by
  grind [execTurnInvalidation, onCore_mem, kept]

theorem execInvalidationAck_kept (index : Nat) (s : State) :
    Memory.wf s.mem = true → kept (execInvalidationAck index s) = true := by
  fun_cases execInvalidationAck index s <;> grind [kept]

theorem execTableWalkComplete_kept (sid : Nat) (address : Word) (access : Nat) (s : State) :
    Memory.wf s.mem = true → kept (execTableWalkComplete sid address access s) = true := by
  fun_cases execTableWalkComplete sid address access s <;> grind [asStrand_wf, translate_mem, trapEntry_wf, kept]

theorem arrives_wf (s : State) (a : Party) (l : Nat) (u : State) :
    State.arrives s a l = some u → Memory.wf s.mem = true → Memory.wf u.mem = true := by
  grind [State.arrives, passes_mem, touch_mem]

theorem partyObj_wf (s : State) (a : Party) (key type : Nat) :
    Memory.wf s.mem = true → Memory.wf (State.partyObj s a key type).2.mem = true := by
  fun_cases State.partyObj s a key type <;> grind [arrives_wf, answer_mem, decodes_mem]

theorem execHomeObjectOperation_kept (op : Nat) (object : BitVec 61) (value : Word) (party : Party) (s : State) :
    Memory.wf s.mem = true → kept (execHomeObjectOperation op object value party s) = true := by
  obtain ⟨push, ep, hp⟩ : ∃ g, g = State.qPush ∧ ∀ s a k d v, Memory.wf s.mem = true → Memory.wf (g s a k d v).2.mem = true :=
    ⟨_, rfl, qPush_wf⟩
  obtain ⟨pop, eo, ho⟩ : ∃ g, g = State.qPop ∧ ∀ s a k d, Memory.wf s.mem = true → Memory.wf (g s a k d).2.mem = true :=
    ⟨_, rfl, qPop_wf⟩
  intro h
  have hb (s : State) (key : Nat) (d : Line) (h : Memory.wf s.mem = true) : kept (.next (s.putBarrier key d)) = true :=
    kept_next (putBarrier_wf s key d h)
  unfold execHomeObjectOperation
  rw [← ep, ← eo]
  dsimp only
  split
  · split
    · next e => exact kept_next (wf_of_eq e (partyObj_wf _ _ _ _ h))
    next e =>
    have h1 := wf_of_eq e (partyObj_wf _ _ _ _ h)
    split
    · split
      · exact kept_next h1
      · exact hb _ _ _ h1
    · exact kept_next (withdraw_wf _ _ _ h1)
    · exact hb _ _ _ h1
    · split
      · exact hb _ _ _ h1
      · exact hb _ _ _ h1
  split
  · split
    · next e => exact kept_next (wf_of_eq e (partyObj_wf _ _ _ _ h))
    next e =>
    have h1 := wf_of_eq e (partyObj_wf _ _ _ _ h)
    split
    · split
      · exact kept_next h1
      split
      · next e2 => exact kept_next (serve_wf _ _ (wf_of_eq e2 (hp _ _ _ _ _ h1)))
      · next e2 => exact kept_next (wf_of_eq e2 (hp _ _ _ _ _ h1))
    split
    · exact kept_next h1
    split
    · next e2 => exact kept_next (serve_wf _ _ (wf_of_eq e2 (ho _ _ _ _ h1)))
    · next e2 => exact kept_next (wf_of_eq e2 (ho _ _ _ _ h1))
  · exact kept_next h

/-! ### Plane stores -/

theorem storeBytes_wf (s : State) (key : Nat) (w : InsnWord) (l : List Byte) :
    Memory.wf s.mem = true → Memory.wf (State.storeBytes s key w l).mem = true := by
  induction l generalizing s key with
  | nil => exact id
  | cons b r ih => exact fun h => ih _ _ (store_wf _ _ _ _ _ h)

theorem planeGroups_kept (s : State) (w : InsnWord) (a : Reg) (rec_ : List Fp → List Byte × FFlags) (val : Nat → Fp) (l : List Nat) :
    Memory.wf s.mem = true → kept (State.planeGroups s w a rec_ val l) = true := by
  induction l generalizing s with
  | nil => exact id
  | cons g r ih =>
    intro h
    unfold State.planeGroups
    dsimp only
    split
    · split
      · exact trap_kept _ _ _ h
      · exact h
    · exact ih _ (storeBytes_wf _ _ _ _ h)

theorem planeStore_kept (s : State) (w : InsnWord) (v a : Reg) (needP : Bool) (f : State → List Fp → List Byte × FFlags) :
    Memory.wf s.mem = true → kept (State.planeStore s w v a needP f) = true := by
  grind [State.planeStore, trap_kept, withSources_kept, bump_mem, planeGroups_kept, stopHere_kept, kept]

theorem execPlsta_kept (v a : Reg) (s : State) : Memory.wf s.mem = true → kept (execPlsta v a s) = true := by
  grind [execPlsta, planeStore_kept, kept]

theorem execPlstb_kept (v a : Reg) (s : State) : Memory.wf s.mem = true → kept (execPlstb v a s) = true := by
  grind [execPlstb, planeStore_kept, kept]

theorem execPlstbDpw8_kept (v a : Reg) (s : State) : Memory.wf s.mem = true → kept (execPlstbDpw8 v a s) = true := by
  grind [execPlstbDpw8, planeStore_kept, kept]

/-! ### Linked loads and conditional stores -/

theorem vglkElem_mem (s : State) (va : Word) (n : Nat) : (State.vglkElem s va n).2.mem = s.mem := by
  grind [State.vglkElem, elemKey_mem, readHome_mem]

theorem vglkLoop_mem (s : State) (n : Nat) (addr : Nat → Word) (l : List Nat) : (State.vglkLoop s n addr l).2.2.mem = s.mem := by
  induction l generalizing s with
  | nil => rfl
  | cons i r ih =>
    unfold State.vglkLoop
    split
    · next e => exact (congrArg (fun q => q.2.mem) e).symm.trans (vglkElem_mem ..)
    · next e => exact (ih _).trans ((congrArg (fun q => q.2.mem) e).symm.trans (vglkElem_mem ..))

theorem execVglk_kept (v a b : Reg) (f : BitVec 4) (s : State) : Memory.wf s.mem = true → kept (execVglk v a b f s) = true := by
  grind [execVglk, trap_kept, withSources_kept, trimSpad_mem, trapX_kept, vglkLoop_mem, slipDone_mem, writePart_mem, writeGroup_mem,
      stopElem_wf, vmemEnd_kept, kept]

theorem vsccWrite_wf (s : State) (key n v : Nat) : Memory.wf s.mem = true → Memory.wf (State.vsccWrite s key n v).mem = true := by
  fun_cases State.vsccWrite s key n v
  grind [setBytes_mem, setBytes_wf, setTag_mem]

theorem landed_mem (s : State) (key : Nat) : (State.landed s key).2.mem = s.mem := by
  grind [State.landed, reachable_mem, loss_mem]

theorem vsccElem_wf (s : State) (word : InsnWord) (i : Nat) (va : Word) (n v : Nat) :
    Memory.wf s.mem = true → Memory.wf (State.vsccElem s word i va n v).2.mem = true := by
  fun_cases State.vsccElem s word i va n v <;> grind [elemKey_mem, drain_wf, decodes_mem, touch_mem, waitNet_mem, crosses_mem,
      landed_mem, vsccWrite_wf, addRecord_wf]

theorem vsccLoop_wf (s : State) (word : InsnWord) (n : Nat) (addr : Nat → Word) (data : Nat → Nat) (l : List Nat) :
    Memory.wf s.mem = true → Memory.wf (State.vsccLoop s word n addr data l).2.2.mem = true := by
  induction l generalizing s with
  | nil => exact id
  | cons i r ih =>
    intro h
    unfold State.vsccLoop
    split
    · next e => exact wf_of_eq e (vsccElem_wf _ _ _ _ _ _ h)
    · next e => exact ih _ (wf_of_eq e (vsccElem_wf _ _ _ _ _ _ h))

theorem execVscc_kept (v a b : Reg) (f : BitVec 4) (s : State) : Memory.wf s.mem = true → kept (execVscc v a b f s) = true := by
  grind [execVscc, trap_kept, trapWord_kept, withSources_kept, trimSpad_mem, trapX_kept, vsccLoop_wf, bump_mem, slipDone_mem,
      stopElem_wf, vmemEnd_kept, kept]

theorem vapndFault_kept (s : State) (word : InsnWord) (d : Reg) (op : Word) (x : XFault) :
    Memory.wf s.mem = true → kept (State.vapndFault s word d op x) = true := by
  grind [State.vapndFault, objFault_kept, kept]

theorem execVapnd_kept (d a b : Reg) (s : State) : Memory.wf s.mem = true → kept (execVapnd d a b s) = true := by
  fun_cases execVapnd d a b s <;> grind [readObj_mem, vapndFault_kept, turning_kept, finish_wf, turnLog_wf, trap_kept, objWaitOn_kept,
      timeoutEnd_wf, kept]

/-! ### Vector floating point -/

theorem vfloat_kept (s : State) (srcs : List Reg) (d : Reg) (op : FFmt → RMode → (Reg → Nat → Nat) → Nat → Nat × FFlags) :
    Memory.wf s.mem = true → kept (State.vfloat s srcs d op) = true := by
  grind [State.vfloat, trap_kept, elementWise_kept, kept]

theorem vf2_kept (s : State) (d a : Reg) (b : VOp) (op : FFmt → RMode → Nat → Nat → Nat × FFlags) :
    Memory.wf s.mem = true → kept (State.vf2 s d a b op) = true := by
  grind [State.vf2, vfloat_kept, kept]

theorem vf1_kept (s : State) (d a : Reg) (op : FFmt → RMode → Nat → Nat × FFlags) :
    Memory.wf s.mem = true → kept (State.vf1 s d a op) = true := by
  grind [State.vf1, vfloat_kept, kept]

theorem execVfminVv_kept (d a b : Reg) (s : State) : Memory.wf s.mem = true → kept (execVfminVv d a b s) = true := by
  grind [execVfminVv, vf2_kept, kept]

theorem execVfminVx_kept (d a x : Reg) (s : State) : Memory.wf s.mem = true → kept (execVfminVx d a x s) = true := by
  grind [execVfminVx, vf2_kept, kept]

theorem execVfmaxVv_kept (d a b : Reg) (s : State) : Memory.wf s.mem = true → kept (execVfmaxVv d a b s) = true := by
  grind [execVfmaxVv, vf2_kept, kept]

theorem execVfmaxVx_kept (d a x : Reg) (s : State) : Memory.wf s.mem = true → kept (execVfmaxVx d a x s) = true := by
  grind [execVfmaxVx, vf2_kept, kept]

theorem execVfsgnjVv_kept (d a b : Reg) (s : State) : Memory.wf s.mem = true → kept (execVfsgnjVv d a b s) = true := by
  grind [execVfsgnjVv, vf2_kept, kept]

theorem execVfsgnjVx_kept (d a x : Reg) (s : State) : Memory.wf s.mem = true → kept (execVfsgnjVx d a x s) = true := by
  grind [execVfsgnjVx, vf2_kept, kept]

theorem execVfsqrt_kept (d a : Reg) (s : State) : Memory.wf s.mem = true → kept (execVfsqrt d a s) = true := by
  grind [execVfsqrt, vf1_kept, kept]

theorem execVfabs_kept (d a : Reg) (s : State) : Memory.wf s.mem = true → kept (execVfabs d a s) = true := by
  grind [execVfabs, vf1_kept, kept]

theorem execVfneg_kept (d a : Reg) (s : State) : Memory.wf s.mem = true → kept (execVfneg d a s) = true := by
  grind [execVfneg, vf1_kept, kept]

theorem execVfcvtFi_kept (d a : Reg) (s : State) : Memory.wf s.mem = true → kept (execVfcvtFi d a s) = true := by
  grind [execVfcvtFi, vf1_kept, kept]

theorem execVfcvtFiU_kept (d a : Reg) (s : State) : Memory.wf s.mem = true → kept (execVfcvtFiU d a s) = true := by
  grind [execVfcvtFiU, vf1_kept, kept]

theorem execVfcvtIf_kept (d a : Reg) (s : State) : Memory.wf s.mem = true → kept (execVfcvtIf d a s) = true := by
  grind [execVfcvtIf, vf1_kept, kept]

theorem execVfcvtIfU_kept (d a : Reg) (s : State) : Memory.wf s.mem = true → kept (execVfcvtIfU d a s) = true := by
  grind [execVfcvtIfU, vf1_kept, kept]

theorem execVfwiden_kept (d a : Reg) (s : State) : Memory.wf s.mem = true → kept (execVfwiden d a s) = true := by
  grind [execVfwiden, trap_kept, elementWise_kept, kept]

theorem execVfnarrow_kept (d a : Reg) (s : State) : Memory.wf s.mem = true → kept (execVfnarrow d a s) = true := by
  grind [execVfnarrow, trap_kept, elementWise_kept, withSources_kept, adv_mem, stopHere_kept, kept]

theorem execVfma_kept (d a b c : Reg) (s : State) : Memory.wf s.mem = true → kept (execVfma d a b c s) = true := by
  grind [execVfma, vfloat_kept, kept]

theorem execVfnma_kept (d a b c : Reg) (s : State) : Memory.wf s.mem = true → kept (execVfnma d a b c s) = true := by
  grind [execVfnma, vfloat_kept, kept]

theorem execVfms_kept (d a b c : Reg) (s : State) : Memory.wf s.mem = true → kept (execVfms d a b c s) = true := by
  grind [execVfms, vfloat_kept, kept]

theorem execVfmaVx_kept (d a x c : Reg) (s : State) : Memory.wf s.mem = true → kept (execVfmaVx d a x c s) = true := by
  grind [execVfmaVx, vfloat_kept, kept]

/-! ### Vector integers -/

theorem vi2_kept (s : State) (d a : Reg) (b : VOp) (op : Nat → Nat → Nat → Nat) :
    Memory.wf s.mem = true → kept (State.vi2 s d a b op) = true := by
  grind [State.vi2, elementWise_kept, kept]

theorem execVid_kept (d : Reg) (s : State) : Memory.wf s.mem = true → kept (execVid d s) = true := by
  grind [execVid, elementWise_kept, kept]

theorem vbcast_kept (s : State) (d : Reg) (b : VOp) : Memory.wf s.mem = true → kept (State.vbcast s d b) = true := by
  grind [State.vbcast, elementWise_kept, kept]

theorem execVbcastVv_kept (d b : Reg) (s : State) : Memory.wf s.mem = true → kept (execVbcastVv d b s) = true := by
  grind [execVbcastVv, vbcast_kept, kept]

theorem execVbcastVx_kept (d x : Reg) (s : State) : Memory.wf s.mem = true → kept (execVbcastVx d x s) = true := by
  grind [execVbcastVx, vbcast_kept, kept]

theorem execVbcastVi_kept (d : Reg) (i : BitVec 5) (s : State) : Memory.wf s.mem = true → kept (execVbcastVi d i s) = true := by
  grind [execVbcastVi, vbcast_kept, kept]

theorem vmerge_kept (s : State) (d a : Reg) (b : VOp) : Memory.wf s.mem = true → kept (State.vmerge s d a b) = true := by
  grind [State.vmerge, withOperands_kept, writePart_mem, writeGroup_mem, adv_mem, stopHere_kept, kept]

/-! ### Every instruction and event -/

theorem exec_kept (i : Instr) (s : State) (h : Memory.wf s.mem = true) : kept (exec i s) = true := by
  cases i with
  | doorbellWrite => exact execDoorbellWrite_kept _ _ _ h
  | modnumWrite => exact execModnumWrite_kept _ _ h
  | modctlReset => exact execModctlReset_kept _ _ _ h
  | modctlFullstart => exact execModctlFullstart_kept _ _ _ h
  | lattolWrite => exact execLattolWrite_kept _ _ h
  | pwrcapWrite => exact execPwrcapWrite_kept _ _ h
  | rtctlFlush => exact execRtctlFlush_kept _ h
  | hosterrWrite => exact execHosterrWrite_kept _ h
  | registerWrite => exact execRegisterWrite_kept _ _ _ _ h
  | bar2HostWrite => exact execBar2HostWrite_kept _ _ _ _ h
  | bar2HostRead => exact execBar2HostRead_kept _ _ _ _ h
  | configurationRequest => exact execConfigurationRequest_kept _ _ h
  | powerOnReset => exact execPowerOnReset_kept _ _ _ h
  | hostLinkReset => exact execHostLinkReset_kept _ _ _ h
  | startTimeout => exact execStartTimeout_kept _ h
  | startRetry => exact execStartRetry_kept _ _ _ h
  | powerAverageTick => exact execPowerAverageTick_kept _ _ h
  | capIssueHold => exact execCapIssueHold_kept _ h
  | dieIdleEntry => exact execDieIdleEntry_kept _ _ h
  | dieWake => exact execDieWake_kept _ _ h
  | dieExitComplete => exact execDieExitComplete_kept _ _ h
  | dieEntryFailure => exact execDieEntryFailure_kept _ _ h
  | dieExitFailure => exact execDieExitFailure_kept _ _ h
  | hostLinkDown => exact execHostLinkDown_kept _ _ h
  | flitCheckFail => exact execFlitCheckFail_kept _ _ h
  | fabricPortRetrain => exact execFabricPortRetrain_kept _ _ h
  | fabricRetrainEnd => exact execFabricRetrainEnd_kept _ _ _ h
  | lossNotice => exact execLossNotice_kept _ _ h
  | fabricReplyTimeout => exact execFabricReplyTimeout_kept _ _ h
  | localCompletion => exact execLocalCompletion_kept _ _ h
  | routeEntryRead => exact execRouteEntryRead_kept _ _ _ h
  | dclkwSynchronisation => exact execDclkwSynchronisation_kept _ _ h
  | homeWrite => exact execHomeWrite_kept _ _ _ h
  | homeRead => exact execHomeRead_kept _ _ _ _ _ h
  | loadReply => exact execLoadReply_kept _ _ h
  | outboundDrainTimeout => exact execOutboundDrainTimeout_kept _ _ h
  | turnInvalidation => exact execTurnInvalidation_kept _ _ h
  | invalidationAck => exact execInvalidationAck_kept _ _ h
  | tableWalkComplete => exact execTableWalkComplete_kept _ _ _ _ h
  | patrolScrub => exact execPatrolScrub_kept _ _ _ h
  | harrierFill => exact execHarrierFill_kept _ _ _ _ h
  | copyRetire => exact execCopyRetire_kept _ _ _ h
  | barrierCredit => exact execBarrierCredit_kept _ _ h
  | putqEnqueue => exact execPutqEnqueue_kept _ _ h
  | putqEnqueueExpiry => exact execPutqEnqueueExpiry_kept _ _ h
  | parkedCopyRetry => exact execParkedCopyRetry_kept _ _ _ h
  | parkedCopyDiscard => exact execParkedCopyDiscard_kept _ _ _ h
  | streamFill => exact execStreamFill_kept _ _ _ h
  | remoteGroupDelivery => exact execRemoteGroupDelivery_kept _ _ _ h
  | streamBudgetExpiry => exact execStreamBudgetExpiry_kept _ _ h
  | engineCommandRetire => exact execEngineCommandRetire_kept _ _ h
  | tileStoreClearEnd => exact execTileStoreClearEnd_kept _ _ h
  | waitExpiry => exact execWaitExpiry_kept _ _ h
  | homeObjectOperation => exact execHomeObjectOperation_kept _ _ _ _ _ h
  | waiterWake => exact execWaiterWake_kept _ _ h
  | waitCancellation => exact execWaitCancellation_kept _ _ h
  | barawWithdrawal => exact execBarawWithdrawal_kept _ _ h
  | waiterRefusalResend => exact execWaiterRefusalResend_kept _ _ h
  | watermarkDeclaration => exact execWatermarkDeclaration_kept _ _ h
  | watermarkRise => exact execWatermarkRise_kept _ _ h
  | dependenceHoldExpiry => exact execDependenceHoldExpiry_kept _ _ h
  | launchTake => exact execLaunchTake_kept _ h
  | strandStart => exact execStrandStart_kept _ _ h
  | launchRetire => exact execLaunchRetire_kept _ _ h
  | preemptionRequest => exact execPreemptionRequest_kept _ _ h
  | preemptionRequestArrival => exact execPreemptionRequestArrival_kept _ _ h
  | forcedPreemption => exact execForcedPreemption_kept _ _ h
  | saveComplete => exact execSaveComplete_kept _ _ h
  | issueAging => exact execIssueAging_kept _ _ h
  | impreciseDelivery => exact execImpreciseDelivery_kept _ _ h
  | handlerWatchdog => exact execHandlerWatchdog_kept _ _ h
  | saveRestoreWatchdog => exact execSaveRestoreWatchdog_kept _ _ h
  | trapRepeatWatchdog => exact execTrapRepeatWatchdog_kept _ _ h
  | heartbeatWatchdog => exact execHeartbeatWatchdog_kept _ _ _ h
  | relayRoundComplete => exact execRelayRoundComplete_kept _ _ _ h
  | parkedArrivalRetry => exact execParkedArrivalRetry_kept _ _ h
  | dbgctlHalt => exact execDbgctlHalt_kept _ _ _ h
  | dbgctlStep => exact execDbgctlStep_kept _ _ _ h
  | dbgctlFreeze => exact execDbgctlFreeze_kept _ _ _ h
  | tenSet => exact execTenSet_kept _ h
  | tenClear => exact execTenClear_kept _ h
  | reservedEncoding => exact execReservedEncoding_kept _ _ h
  | instructionFetchFault => exact execInstructionFetchFault_kept _ _ _ h
  | hostLinkUp => exact execHostLinkUp_kept _ _ h
  | dieStateEntryComplete => exact execDieStateEntryComplete_kept _ _ h
  | routeUpdate => exact execRouteUpdate_kept _ _ _ h
  | lineMarker => exact execLineMarker_kept _ _ h
  | nop => exact execNop_kept _ h
  | trap => exact trapNext_kept _ _ _ h
  | brk => exact execBrk_kept _ _ h
  | eret => exact execEret_kept _ h
  | yield => exact execYield_kept _ h
  | halt => exact execHalt_kept _ h
  | tlbinv => exact execTlbinv_kept _ _ _ h
  | tlbinvall => exact execTlbinvall_kept _ h
  | add | sub | and | or | xor | andn | sll | srl | sra | slt | sltu | min | max | minu | maxu | clz | ctz | popc | rol | ror
    | sextw | zextw | addi | andi | ori | xori | slti | sltiu | slli | srli | srai | lui | addpc | mul | mulh | mulhu | div
    | divu | rem | remu | fsgnj | fneg | fabs | spos => exact ret_kept _ _ _ h
  | cmov => exact execCmov_kept _ _ _ _ h
  | lb | lh | lw | ld | lbu | lhu | lwu => exact scalarLoad_kept _ _ _ _ _ h
  | sb | sh | sw | sd => exact scalarStore_kept _ _ _ _ _ h
  | fadd | fsub | fmul | fdiv | fsqrt | fmin | fmax | feq | flt | fle | fcvtif | fma | fnma | fms => exact retF_kept _ _ _ h
  | fcvtfi => exact execFcvtfi_kept _ _ _ h
  | fclass => exact execFclass_kept _ _ _ h
  | beq | bne | blt | bge | bltu | bgeu => exact branch_kept _ _ _ h
  | jmp => exact execJmp_kept _ _ h
  | call => exact execCall_kept _ _ h
  | jr => exact execJr_kept _ _ h
  | callr => exact execCallr_kept _ _ h
  | csrr => exact csrLook_kept _ _ _ _ h
  | csrw => exact execCsrw_kept _ _ _ _ h
  | csrs => exact execCsrs_kept _ _ _ _ h
  | csrc => exact execCsrc_kept _ _ _ _ h
  | csrwi => exact execCsrwi_kept _ _ _ _ h
  | setvl | setvlmax => exact setvl_kept _ _ _ h
  | settype | settypei => exact settype_kept _ _ _ _ h
  | vfaddVv | vfaddVx | vfsubVv | vfsubVx | vfmulVv | vfmulVx | vfdivVv | vfdivVx | vfrsubVv | vfrsubVx | vfeqVv | vfeqVx
    | vfneVv | vfneVx | vfltVv | vfltVx | vfleVv | vfleVx => exact vf2_kept _ _ _ _ _ h
  | vfminVv => exact execVfminVv_kept _ _ _ _ h
  | vfminVx => exact execVfminVx_kept _ _ _ _ h
  | vfmaxVv => exact execVfmaxVv_kept _ _ _ _ h
  | vfmaxVx => exact execVfmaxVx_kept _ _ _ _ h
  | vfsqrt => exact execVfsqrt_kept _ _ _ h
  | vfabs => exact execVfabs_kept _ _ _ h
  | vfneg => exact execVfneg_kept _ _ _ h
  | vfsgnjVv => exact execVfsgnjVv_kept _ _ _ _ h
  | vfsgnjVx => exact execVfsgnjVx_kept _ _ _ _ h
  | vfcvtFi => exact execVfcvtFi_kept _ _ _ h
  | vfcvtFiU => exact execVfcvtFiU_kept _ _ _ h
  | vfcvtIf => exact execVfcvtIf_kept _ _ _ h
  | vfcvtIfU => exact execVfcvtIfU_kept _ _ _ h
  | vfwiden => exact execVfwiden_kept _ _ _ h
  | vfnarrow => exact execVfnarrow_kept _ _ _ h
  | vfma => exact execVfma_kept _ _ _ _ _ h
  | vfnma => exact execVfnma_kept _ _ _ _ _ h
  | vfms => exact execVfms_kept _ _ _ _ _ h
  | vfmaVx => exact execVfmaVx_kept _ _ _ _ _ h
  | vaddVv | vaddVx | vaddVi | vaddSatVv | vaddSatVx | vaddSatVi | vaddUsatVv | vaddUsatVx | vaddUsatVi | vsubVv | vsubVx
    | vsubVi | vsubSatVv | vsubSatVx | vsubSatVi | vsubUsatVv | vsubUsatVx | vsubUsatVi | vmulVv | vmulVx | vmulVi | vmulhVv
    | vmulhVx | vmulhVi | vmulhUVv | vmulhUVx | vmulhUVi | vandVv | vandVx | vandVi | vorVv | vorVx | vorVi | vxorVv | vxorVx
    | vxorVi | vsllVv | vsllVx | vsllVi | vsrlVv | vsrlVx | vsrlVi | vsraVv | vsraVx | vsraVi | vminVv | vminVx | vminVi
    | vmaxVv | vmaxVx | vmaxVi | vminuVv | vminuVx | vminuVi | vmaxuVv | vmaxuVx | vmaxuVi | veqVv | veqVx | veqVi | vneVv
    | vneVx | vneVi | vltVv | vltVx | vltVi | vltuVv | vltuVx | vltuVi | vleVv | vleVx | vleVi => exact vi2_kept _ _ _ _ _ h
  | vid => exact execVid_kept _ _ h
  | vbcastVv => exact execVbcastVv_kept _ _ _ h
  | vbcastVx => exact execVbcastVx_kept _ _ _ h
  | vbcastVi => exact execVbcastVi_kept _ _ _ h
  | vmergeVv | vmergeVx | vmergeVi => exact vmerge_kept _ _ _ _ h
  | vslideup => exact execVslideup_kept _ _ _ _ _ h
  | vslidedn => exact execVslidedn_kept _ _ _ _ _ h
  | vgather => exact execVgather_kept _ _ _ _ _ h
  | vcompress => exact execVcompress_kept _ _ _ h
  | vmvxs => exact execVmvxs_kept _ _ _ _ h
  | vmvsx => exact execVmvsx_kept _ _ _ _ h
  | vmand => exact execVmand_kept _ _ _ _ h
  | vmor => exact execVmor_kept _ _ _ _ h
  | vmxor => exact execVmxor_kept _ _ _ _ h
  | vmnot => exact execVmnot_kept _ _ _ h
  | vmcnt => exact execVmcnt_kept _ _ _ h
  | vmlead => exact execVmlead_kept _ _ _ h
  | vmrank => exact execVmrank_kept _ _ _ h
  | vfredsum => exact execVfredsum_kept _ _ _ h
  | vfredmax => exact execVfredmax_kept _ _ _ h
  | vfredmin => exact execVfredmin_kept _ _ _ h
  | vredsum => exact execVredsum_kept _ _ _ h
  | vredmax => exact execVredmax_kept _ _ _ h
  | vredmin => exact execVredmin_kept _ _ _ h
  | vld => exact execVld_kept _ _ _ _ _ h
  | vlds => exact execVlds_kept _ _ _ _ _ h
  | vldx => exact execVldx_kept _ _ _ _ _ h
  | vsegld2 | vsegld3 | vsegld4 | vsegld5 | vsegld6 | vsegld7 | vsegld8 => exact vsegld_kept _ _ _ _ _ _ _ h
  | vst => exact execVst_kept _ _ _ _ _ h
  | vsts => exact execVsts_kept _ _ _ _ _ h
  | vstx => exact execVstx_kept _ _ _ _ _ h
  | vsegst2 | vsegst3 | vsegst4 | vsegst5 | vsegst6 | vsegst7 | vsegst8 => exact vsegst_kept _ _ _ _ _ _ _ h
  | plsta => exact execPlsta_kept _ _ _ h
  | plstb => exact execPlstb_kept _ _ _ h
  | plstbDpw8 => exact execPlstbDpw8_kept _ _ _ h
  | vglk => exact execVglk_kept _ _ _ _ _ h
  | vscc => exact execVscc_kept _ _ _ _ _ h
  | vapnd => exact execVapnd_kept _ _ _ _ h
  | sbind => exact execSbind_kept _ _ _ h
  | sunbind => exact execSunbind_kept _ _ h
  | turn => exact execTurn_kept _ _ _ _ _ _ h
  | turnall => unfold exec; exact execTurnall_kept _ _ _ _ h
  | fence => exact execFence_kept _ _ _ _ h
  | publish => unfold exec; exact execPublish_kept _ _ _ h
  | copy | copyb | putq => exact async_kept _ _ _ _ _ _ _ h
  | settile => exact execSettile_kept _ _ _ _ h
  | tzero => exact execTzero_kept _ _ h
  | tmac | tmacw => exact tmacIssue_kept _ _ _ _ _ _ _ _ h
  | tmovr => exact execTmovr_kept _ _ _ _ h
  | tmovc => exact execTmovc_kept _ _ _ _ h
  | tld | tst => exact tileMove_kept _ _ _ _ _ _ h
  | tadd => exact execTadd_kept _ _ _ h
  | sigcfg => exact execSigcfg_kept _ _ _ _ h
  | siginit | siglog => exact sigIssue_kept _ _ _ h
  | sigupd => exact execSigupd_kept _ _ h
  | sigjoin | sigjoinl | sigld | sigst => exact sigImage_kept _ _ _ _ h
  | waitc => exact execWaitc_kept _ _ _ _ _ _ _ h
  | waitw => exact execWaitw_kept _ _ _ _ _ h
  | barw => exact execBarw_kept _ _ _ _ _ h
  | bara => exact execBara_kept _ _ _ _ h
  | baraw => exact execBaraw_kept _ _ _ _ h
  | barexp => exact execBarexp_kept _ _ _ _ _ h
  | qsend => exact execQsend_kept _ _ _ _ _ h
  | qrecv => exact execQrecv_kept _ _ _ _ _ h
  | taskadd => exact execTaskadd_kept _ _ _ _ _ h
  | tasktake => exact execTasktake_kept _ _ _ _ _ h
  | tasksteal => exact execTasksteal_kept _ _ _ _ _ h
  | apwait => exact execApwait_kept _ _ _ _ _ h
  | cwait => exact execCwait_kept _ _ _ _ h
  | launch => unfold exec; exact execLaunch_kept _ _ _ _ _ h
  | lwait => exact execLwait_kept _ _ _ _ h
  | lcancel => exact execLcancel_kept _ _ _ _ h

/-! ### Errors of the SRAMs -/

theorem logSram_wf (s : State) (st : SramStore) (core at_ : Nat) (hard : Bool) (source : Nat) (writer : BitVec 12) :
    Memory.wf s.mem = true → Memory.wf (State.logSram s st core at_ hard source writer).mem = true := by
  grind [State.logSram, logEvent_wf]

theorem spadError_wf (s : State) (core at_ : Nat) :
    Memory.wf s.mem = true → Memory.wf (State.spadError s core at_).mem = true := by
  grind [State.spadError, poison_wf]

theorem outboundError_wf (s : State) (core at_ : Nat) :
    Memory.wf s.mem = true → Memory.wf (State.outboundError s core at_).mem = true := by
  grind [State.outboundError, onCore_mem, poison_wf, addRecord_wf, crosses_mem, olderFirst_wf, touch_mem]

theorem cellError_wf (s : State) (core at_ : Nat) :
    Memory.wf s.mem = true → Memory.wf (State.cellError s core at_).mem = true := by
  grind [State.cellError, setCore_mem, addReached_wf, addRecord_wf]

theorem registerError_wf (s : State) (core slot : Nat) :
    Memory.wf s.mem = true → Memory.wf (State.registerError s core slot).mem = true := by
  fun_cases State.registerError s core slot <;> grind [asStrand_wf, stepDone_wf, trapEntry_wf, abandon_wf]

theorem dropTranslation_mem (s : State) (k : Core) (at_ : Nat) : (State.dropTranslation s k at_).mem = s.mem := by
  grind [State.dropTranslation, setCore_mem, setDie_mem]

theorem sramError_wf (s : State) (st : SramStore) (core at_ : Nat) (hard : Bool) (source : Nat) (finder : Option (BitVec 12)) :
    Memory.wf s.mem = true → Memory.wf (State.sramError s st core at_ hard source finder).mem = true := by
  grind [State.sramError, logSram_wf, spadError_wf, setCore_mem, outboundError_wf, cellError_wf, registerError_wf, dropTranslation_mem]

/-! ### What a step chooses -/

theorem decodeSoft_wf (s : State) (es : List (Nat × Nat × BitVec 12)) :
    Memory.wf s.mem = true → Memory.wf (State.decodeSoft s es).mem = true := by
  refine foldl_wf _ (fun s e h => ?_) es s
  split
  · exact h
  · exact scrub_wf _ _ _ _ _ h

theorem firstOf_wf (s : State) (m : Mark) (u : State) : State.firstOf s m = some u → Memory.wf s.mem = true → Memory.wf u.mem = true := by
  fun_cases State.firstOf s m <;> grind [rouse_wf, decodeSoft_wf]

/-- What a move leaves, or what must come first in its place. -/
theorem made_kept (s : State) (o p : Out) (h : Memory.wf s.mem = true) (ho : kept o = true) (e : State.made s o = some p) :
    kept p = true := by
  unfold State.made at e
  split at e
  · split at e
    · cases e; exact ho
    · obtain ⟨u, eu, rfl⟩ := Option.map_eq_some_iff.1 e
      exact kept_next (firstOf_wf _ _ _ eu h)
  · cases e; exact ho

theorem makeFirst_kept (s : State) (es : List Instr) (o : Out) (h : Memory.wf s.mem = true) (e : State.makeFirst s es = some o) :
    kept o = true := by
  obtain ⟨i, _, ei⟩ := List.exists_of_findSome?_eq_some e
  exact made_kept s _ _ h (exec_kept i s h) ei

theorem due_kept (s : State) (o : Out) (h : Memory.wf s.mem = true) (e : State.due s = some o) : kept o = true :=
  makeFirst_kept _ _ _ h e

theorem getD_kept {a : Option Out} {b : Out} (ha : ∀ o, a = some o → kept o = true) (hb : kept b = true) :
    kept (a.getD b) = true := by
  cases a with
  | none => exact hb
  | some o => exact ha o rfl

theorem behind_kept (s : State) (h : Memory.wf s.mem = true) : kept (State.behind s) = true :=
  getD_kept (fun o e => makeFirst_kept s _ o h e) (kept_next h)

theorem pacer_kept (s : State) (o : Out) (h : Memory.wf s.mem = true) (e : State.pacer s = some o) : kept o = true := by
  obtain ⟨t, _, et⟩ := List.exists_of_findSome?_eq_some e
  obtain ⟨u, eu, em⟩ := Option.bind_eq_some_iff.1 et
  exact made_kept s _ _ h (kept_next (tryWait_wf _ _ _ eu h)) em

theorem restorer_kept (s : State) (o : Out) (h : Memory.wf s.mem = true) (e : State.restorer s = some o) : kept o = true := by
  obtain ⟨t, _, et⟩ := List.exists_of_findSome?_eq_some e
  split at et
  · exact made_kept s _ _ h (kept_next (restoreEnd_wf s t h)) et
  · cases et

theorem fetchWord_mem (s : State) : (State.fetchWord s).2.mem = s.mem := by
  fun_cases State.fetchWord s <;> grind [target_mem, fetch_mem]

theorem issueWord_kept (s : State) : Memory.wf s.mem = true → kept (State.issueWord s) = true := by
  grind [State.issueWord, fetchWord_mem, exec_kept, kept]

theorem escalate_wf (s : State) (p : Word) : Memory.wf s.mem = true → Memory.wf (State.escalate s p).mem = true := by
  grind [State.escalate, trapEntry_wf]

theorem attemptIssue_kept (s : State) : Memory.wf s.mem = true → kept (State.attemptIssue s) = true := by
  grind [State.attemptIssue, escalate_wf, issueWord_kept, kept]

theorem rotate_mem (s : State) : (State.rotate s).mem = s.mem := by
  grind [State.rotate, focus_mem]

theorem issued_wf (s : State) (t : Strand) (h : Memory.wf s.mem = true) : Memory.wf (State.issued s t).mem = true := by
  unfold State.issued
  split
  · exact h
  refine asStrand_wf _ _ _ (fun s h => ?_) h
  dsimp only
  split
  · split
    · exact stepEnd_wf _ (wf_of_mem (onCore_mem ..) h)
    · exact wf_of_mem (onCore_mem ..) h
  · exact wf_of_mem (onCore_mem ..) h

theorem holdBack_wf (s : State) (m : Mark) (h : Memory.wf s.mem = true) : Memory.wf (State.holdBack s m).mem = true := by
  have hf : Memory.wf ((s.firstOf m).getD s).mem = true := by
    cases e : s.firstOf m with
    | none => exact h
    | some u => exact firstOf_wf _ _ _ e h
  exact hf

theorem andThen_kept (o : Out) (k : State → Out)
    (hk : ∀ s, Memory.wf s.mem = true → kept (k s) = true) (h : kept o = true) :
    kept (andThen o k) = true := by
  cases o with
  | next s => exact hk s h
  | fault => rfl
  | refused => rfl

theorem issue_kept (s : State) (h : Memory.wf s.mem = true) : kept (State.issue s) = true := by
  refine andThen_kept _ _ (fun u hu => kept_next ?_) (attemptIssue_kept s h)
  rw [rotate_mem]
  refine issued_wf _ _ ?_
  split
  · exact hu
  · exact holdBack_wf _ _ h

theorem objLevel_mem (s : State) (va : Word) (type : Nat) : (State.objLevel s va type).2.mem = s.mem := by
  grind [State.objLevel, readObj_mem]

theorem logLevel_mem (s : State) (i : Instr) : (State.logLevel s i).2.mem = s.mem := by
  have hc (c : Prop) [Decidable c] (va : Word) (type : Nat) : (if c then (none, s) else s.objLevel va type).2.mem = s.mem := by
    split
    · rfl
    · exact objLevel_mem ..
  unfold State.logLevel
  dsimp only
  split
  case h_5 => exact objLevel_mem ..
  case h_6 | h_7 | h_8 | h_9 => exact hc ..
  all_goals rfl

theorem turnProgress_wf (s : State) (n : Nat) : Memory.wf s.mem = true → Memory.wf (State.turnProgress s n).mem = true := by
  fun_cases State.turnProgress s n <;> grind [fetchWord_mem, turnFirst_wf, logLevel_mem, logFirst_wf]

theorem fabricWrite_wf (s : State) (a : Party) (l : Nat) (mask : BitVec 64) (data : Line) :
    Memory.wf s.mem = true → Memory.wf (State.fabricWrite s a l mask data).mem = true := by
  fun_cases State.fabricWrite s a l mask data <;> grind [arrives_wf, answer_mem, landFrom_wf]

theorem fabricTurnLine_wf (s : State) (a : Party) (lvl : Nat) (all : Bool) (l : Nat) :
    Memory.wf s.mem = true → Memory.wf (State.fabricTurnLine s a lvl all l).mem = true := by
  fun_cases State.fabricTurnLine s a lvl all l <;> grind [arrives_wf, decodes_mem, setTag_mem, invalidateAll_mem, answer_mem]

theorem fabricTurn_wf (s : State) (a : Party) (lvl : Nat) (all : Bool) (l n : Nat) :
    Memory.wf s.mem = true → Memory.wf (State.fabricTurn s a lvl all l n).mem = true := by
  intro h
  unfold State.fabricTurn
  split
  · exact h
  · exact foldl_wf _ (fun s _ q => fabricTurnLine_wf s _ _ _ _ q) _ _ h

theorem softError_mem (s : State) (l bytes : Nat) : (State.softError s l bytes).mem = s.mem := by
  grind [State.softError]

theorem outside_wf (s : State) (a : Outside) : Memory.wf s.mem = true → Memory.wf (State.outside s a).mem = true := by
  fun_cases State.outside s a <;>
    grind [hostEvent_mem, resizeBar2_mem, failLaunch_mem, fabricWrite_wf, fabricTurn_wf, flitAck_mem, softError_mem, saveOn_wf,
        asStrand_wf, turnProgress_wf, copyFirst_wf, sramError_wf, contributed_mem, sendChunk_mem]

theorem enter_kept (s : State) (m : Move) (h : Memory.wf s.mem = true) : kept (State.enter s m) = true := by
  fun_cases State.enter s m with
  | case1 i => exact exec_kept i s h
  | case2 => exact h
  | case3 o => exact kept_next (outside_wf s o h)

theorem own_kept (s : State) (h : Memory.wf s.mem = true) : kept (State.own s) = true := by
  have hf (sid : Nat) : Memory.wf (s.focus sid).mem = true := wf_of_mem (focus_mem s sid) h
  fun_cases State.own s with
  | case1 o e => exact pacer_kept _ _ h e
  | case2 _ o e => exact restorer_kept _ _ h e
  | case3 => exact issue_kept _ (hf _)
  | case4 _ _ _ o e => exact due_kept _ _ h e
  | case5 => exact issue_kept _ h
  | case6 => exact kept_next (hf _)
  | case7 => exact behind_kept _ h

theorem dueOrBehind_kept (s : State) (h : Memory.wf s.mem = true) : kept (s.due.getD s.behind) = true :=
  getD_kept (fun o e => due_kept s o h e) (behind_kept s h)

theorem move_kept (s : State) (h : Memory.wf s.mem = true) : kept (State.move s) = true := by
  fun_cases State.move s with
  | case1 m r _ o e => exact made_kept s _ _ h (enter_kept { s with sched := { s.sched with agenda := r } } m h) e
  | case2 => exact dueOrBehind_kept s h
  | case3 => exact own_kept s h

theorem tick_wf (s : State) : Memory.wf s.mem = true → Memory.wf (State.tick s).mem = true := by
  fun_cases State.tick s
  grind [noteRises_mem, markBusy_mem]

theorem advance_kept (s : State) (h : Memory.wf s.mem = true) : kept (State.advance s) = true :=
  andThen_kept _ _ tick_wf (move_kept s h)

/-- Settles O59: the move and the clocks of a step keep the form, whichever instruction, event or arrival the move is. -/
theorem stepKeepsMemoryForm : Obligations.StepKeepsMemoryForm := by
  unfold Obligations.StepKeepsMemoryForm
  intro s t h e
  have hk : kept s.advance = true := advance_kept s h
  rw [show s.advance = .next t from e] at hk
  exact hk

end Sys2Proof.MemoryForm
end

section
/-! PROOF. A load from the own scratchpad (R5, R82, R87, R95). -/

namespace Sys2Proof.OwnSpad

open Machine

/-! ### The bytes of a line -/

theorem ofBytes_bytes_append (m : List Host.Cell) (a j n : Nat) :
    ofBytes (Memory.bytes m a (j + n)) = ofBytes (Memory.bytes m a j) + 256 ^ j * ofBytes (Memory.bytes m (a + j) n) := by
  induction j generalizing a with
  | zero => simp [Memory.bytes, ofBytes]
  | succ j ih =>
    rw [Nat.succ_add, Memory.bytes, ofBytes, ih (a + 1), Memory.bytes, ofBytes, show a + 1 + j = a + (j + 1) by omega]
    ring

theorem ofBytes_bytes_lt (m : List Host.Cell) (a n : Nat) : ofBytes (Memory.bytes m a n) < 256 ^ n := by
  induction n generalizing a with
  | zero => exact Nat.one_pos
  | succ n ih =>
    have h0 : (Memory.get m a).toNat < 256 := (Memory.get m a).isLt
    have h1 := ih (a + 1)
    rw [Memory.bytes, ofBytes, Nat.pow_succ]
    omega

/-- `n` bytes at offset `j` of a line are the same bytes of memory. -/
theorem line_part (m : List Host.Cell) (l j n : Nat) (h : j + n ≤ 64) :
    (Memory.line m l).toNat / 2 ^ (8 * j) % 2 ^ (8 * n) = ofBytes (Memory.bytes m (64 * l + j) n) := by
  obtain ⟨k, hk⟩ : ∃ k, 64 = j + (n + k) := ⟨64 - j - n, by omega⟩
  have hline : (Memory.line m l).toNat = ofBytes (Memory.bytes m (64 * l) 64) := by
    rw [Memory.line, BitVec.toNat_ofNat]
    exact Nat.mod_eq_of_lt ((ofBytes_bytes_lt m (64 * l) 64).trans_eq (by rw [show 256 = 2 ^ 8 from rfl, ← pow_mul]))
  rw [hline, hk, ofBytes_bytes_append, ofBytes_bytes_append, pow_mul, pow_mul, show 2 ^ 8 = 256 from rfl]
  rw [Nat.add_mul_div_left _ _ (by positivity), Nat.div_eq_of_lt (ofBytes_bytes_lt ..), Nat.zero_add, Nat.add_mul_mod_self_left]
  exact Nat.mod_eq_of_lt (ofBytes_bytes_lt ..)

/-! ### Its address -/

theorem toNat_ownSpad {off : Nat} (h : off < 2 ^ 23) : (BitVec.ofNat 64 (0xE0 * 2 ^ 56 + off) : Word).toNat = 0xE0 * 2 ^ 56 + off := by
  rw [BitVec.toNat_ofNat]
  omega

theorem selector_ownSpad {off : Nat} (h : off < 2 ^ 23) : selector (BitVec.ofNat 64 (0xE0 * 2 ^ 56 + off)) = 0xE0 := by
  rw [selector, field, toNat_ownSpad h]
  omega

theorem spadOutside_ownSpad {off : Nat} (h : off < 2 ^ 23) : spadOutside (BitVec.ofNat 64 (0xE0 * 2 ^ 56 + off)) = false := by
  have hf : field (BitVec.ofNat 64 (0xE0 * 2 ^ 56 + off)) 23 33 = 0 := by
    rw [field, toNat_ownSpad h]
    omega
  rw [spadOutside, if_pos (selector_ownSpad h), hf]
  rfl

theorem resolveAddr_ownSpad (s : State) (a : Agent) (need : Need) {off : Nat} (h : off < 2 ^ 23) :
    s.resolveAddr a (BitVec.ofNat 64 (0xE0 * 2 ^ 56 + off)) need = (.ok (spadKey a.core off), s) := by
  have hf : field (BitVec.ofNat 64 (0xE0 * 2 ^ 56 + off)) 0 23 = off := by
    rw [field, toNat_ownSpad h]
    omega
  simp only [State.resolveAddr, selector_ownSpad h, spadOutside_ownSpad h, hf]
  rfl

/-! ### Its block -/

section
variable {core off : Nat} (hc : core < 384) (ho : off < 2 ^ 23)
include hc ho

theorem isSpad_block : isSpad (64 * (spadKey core off / 64)) = true := by
  rw [isSpad, decide_eq_true_eq, spadKey, spadBit]
  omega

theorem isSpad_key : isSpad (spadKey core off) = true := by
  rw [isSpad, decide_eq_true_eq, spadKey, spadBit]
  omega

theorem keyModule_block : keyModule (64 * (spadKey core off / 64)) = 0 := by
  rw [keyModule, spadKey, spadBit]
  omega

theorem homeDie_block : homeDie (64 * (spadKey core off / 64)) = core / 16 := by
  rw [homeDie, if_pos (isSpad_block hc ho), keyCore, spadKey, spadBit]
  omega

end

theorem writerId_toNat {core slot : Nat} (hc : core < 384) (hs : slot < 8) : (writerId core slot).toNat = 8 * core + slot := by
  rw [writerId, BitVec.toNat_ofNat]
  omega

theorem distTo_block (s : State) {core slot off : Nat} (hc : core < 384) (hs : slot < 8) (ho : off < 2 ^ 23) (t : Tag) :
    s.distTo (writerId core slot) (spadKey core off / 64) t = distance (writerId core slot) t.writer true := by
  rw [State.distTo, if_neg (by rw [writerId_toNat hc hs]; omega), isSpad_block hc ho, Bool.true_or]

/-! ### What a read finds by the tag (R95) -/

theorem resolve_turned {t : Tag} (h : t.state = 5) (d : Nat) : resolve t d = .ok true := by
  simp [resolve, h]

theorem resolve_near {t : Tag} {d : Nat} (h : t.state.toNat ≤ 4) (hd : d ≤ t.state.toNat) :
    resolve t d = .ok (t.state.toNat != 0) := by
  unfold resolve
  split
  case h_4 => exact if_pos hd
  all_goals omega

theorem resolve_far {t : Tag} {d : Nat} (h : t.state.toNat ≤ 4) (hd : t.state.toNat < d) : resolve t d = .error 0x091 := by
  unfold resolve
  split
  case h_4 => exact if_neg (by omega)
  all_goals omega

theorem resolve_written {t : Tag} (h : t.state = 6) (d : Nat) : resolve t d = .error (if t.writer = 0xFFF then 0x092 else 0x090) := by
  simp [resolve, h]

theorem resolve_poisoned {t : Tag} (h : t.state = 7) (d : Nat) : resolve t d = .error 0x380 := by
  simp [resolve, h]

theorem resolve_ne_lost {t : Tag} {d : Nat} {c : BitVec 10} (h : resolve t d = .error c) : c ≠ 0x300 := by
  rintro rfl
  unfold resolve at h
  split at h
  · cases h
  · split at h <;> simp at h
  · simp at h
  · split at h <;> simp at h

/-! ### What a read leaves -/

theorem touch_eq (s : State) (key : Nat) : ∃ m, s.touch key = { s with mark := m } := by
  unfold State.touch
  split
  · exact ⟨_, rfl⟩
  · split <;> exact ⟨_, rfl⟩

theorem decodes_eq (s : State) (l source : Nat) (w : BitVec 12) : ∃ m, s.decodes l source w = { s with mark := m } := by
  unfold State.decodes
  split <;> exact ⟨_, rfl⟩

/-- A read changes nothing but the mark of its move. -/
theorem reads_eq (s : State) (w : BitVec 12) (l : Nat) : ∃ m, s.reads w l = { s with mark := m } := by
  obtain ⟨m, hm⟩ := touch_eq s (64 * l)
  obtain ⟨m', hm'⟩ := decodes_eq { s with mark := m } l 0 w
  rw [State.reads, hm, hm']
  dsimp only
  split <;> exact ⟨_, rfl⟩

/-- When the die answers and nothing to the line is on its way, a read marks the die as used and nothing else. -/
theorem reads_quiet (s : State) (w : BitVec 12) (l : Nat) (hm : keyModule (64 * l) = 0) (hd : s.dieAnswers (homeDie (64 * l)) = true)
    (hw : (s.homes.wnet.any fun f => f.entry.writer == w && f.entry.line == l) = false) (hc : s.messageTo w l = false)
    (hs : (s.sched.soft.any fun e => e.1 == l) = false) : s.reads w l = s.passes [homeDie (64 * l)] := by
  have ht : s.touch (64 * l) = s.passes [homeDie (64 * l)] := by simp [State.touch, hm, hd]
  have hds : (s.passes [homeDie (64 * l)]).decodes l 0 w = s.passes [homeDie (64 * l)] := if_neg (by simp [State.passes, hs])
  rw [State.reads, ht, hds]
  refine if_neg ?_
  rw [show (s.passes [homeDie (64 * l)]).messageTo w l = false from hc, show (s.passes [homeDie (64 * l)]).homes = s.homes from rfl, hw]
  decide

/-- What a read of a line leaves once it has come back over the networks. -/
def answered (s : State) (core : Nat) (w : BitVec 12) (l : Nat) : State := (s.reads w l).passes (roundTrip core (64 * l))

theorem answered_eq (s : State) (core : Nat) (w : BitVec 12) (l : Nat) :
    answered s core w l = { s with mark := (answered s core w l).mark } := by
  obtain ⟨m, hm⟩ := reads_eq s w l
  rw [answered, hm]
  rfl

section
variable {s : State} {core : Nat} {w : BitVec 12} {l : Nat} (hm : keyModule (64 * l) = 0) (hs : isSpad (64 * l) = true)
  (hp : (s.dieAt (homeDie (64 * l))).phase ≠ .failed)
include hm hp

theorem atHome_eq : s.atHome core w 0 l =
    ((resolve (s.tag l) (s.distTo w l (s.tag l))).map fun f => (s.line l, f && !isSpad (64 * l) && decide (keyModule (64 * l) = 0)),
      answered s core w l) := by
  obtain ⟨m, hr⟩ := reads_eq s w l
  have hx : State.crosses { s with mark := m } core w (64 * l) 64 = (true, answered s core w l) := by
    rw [State.crosses, if_pos hm, answered, hr]
  have ha : answered s core w l = { s with mark := (answered s core w l).mark } := answered_eq ..
  rw [State.atHome, hr, if_neg (fun h => hp h.2), hx, ha]
  simp only [Nat.zero_max]
  change (match resolve (s.tag l) (s.distTo w l (s.tag l)) with | .error c => _ | .ok f => _) = _
  cases resolve (s.tag l) (s.distTo w l (s.tag l)) <;> rfl

include hs

theorem readLine_ok {f : Bool} (h : resolve (s.tag l) (s.distTo w l (s.tag l)) = .ok f) :
    s.readLine core w l = (.ok (s.line l), answered s core w l) := by
  rw [State.readLine, State.readLineAs, if_pos hs, atHome_eq hm hp, h, hs]
  simp [Except.map]

theorem readLine_error {c : BitVec 10} (h : resolve (s.tag l) (s.distTo w l (s.tag l)) = .error c) :
    s.readLine core w l = (.error c, answered s core w l) := by
  rw [State.readLine, State.readLineAs, if_pos hs, atHome_eq hm hp, h]
  rfl

end

/-! ### The load -/

theorem loadKey_ok {s t : State} {a : Agent} {va : Word} {key n : Nat} {d : Line} (he : (s.coreAt a.core).early key = false)
    (h : s.readLine a.core a.writer (key / 64) = (.ok d, t)) :
    s.loadKey a va key n = (.ok (d.toNat / 2 ^ (8 * (key % 64)) % 2 ^ (8 * n)), t) := by
  rw [State.loadKey, h]
  exact if_neg (by rw [he]; decide)

theorem loadKey_error {s t : State} {a : Agent} {va : Word} {key n : Nat} {c : BitVec 10} (he : (s.coreAt a.core).early key = false)
    (h : s.readLine a.core a.writer (key / 64) = (.error c, t)) : s.loadKey a va key n = (.error ⟨c, t.readTval c va key, va⟩, t) := by
  simp [State.loadKey, h, he]

theorem readTval_spad (s : State) {c : BitVec 10} {key : Nat} (va : Word) (hs : isSpad key = true) (hc : c ≠ 0x300) :
    s.readTval c va key = va :=
  if_neg (by rintro (⟨_, h⟩ | h) <;> simp_all)

section
variable {s : State} {off n : Nat} (hn : n = 1 ∨ n = 2 ∨ n = 4 ∨ n = 8) (ha : off % n = 0) (ho : off + n ≤ 2 ^ 23)
  (hcore : s.cur.id.core < 384) (hp : (s.dieAt (s.cur.id.core / 16)).phase ≠ .failed) (hslot : s.cur.id.slot < 8)
  (he : (s.coreAt s.cur.id.core).early (spadKey s.cur.id.core off) = false)
include hn ha ho hcore hp hslot he

/-- The tag lets the reader have the block: the load returns its bytes, an aligned access of at most 8 bytes lying within one line. -/
theorem loadAt_ok {f : Bool} (h : resolve (s.tag (spadKey s.cur.id.core off / 64))
      (distance s.cur.writer (s.tag (spadKey s.cur.id.core off / 64)).writer true) = .ok f) :
    s.loadAt s.me (BitVec.ofNat 64 (0xE0 * 2 ^ 56 + off)) n =
      (.ok (ofBytes (Memory.bytes s.mem (spadKey s.cur.id.core off) n)),
        answered s s.cur.id.core s.cur.writer (spadKey s.cur.id.core off / 64)) := by
  have ho' : off < 2 ^ 23 := by omega
  have hr : s.readLine s.cur.id.core s.cur.writer (spadKey s.cur.id.core off / 64) = _ :=
    readLine_ok (keyModule_block hcore ho') (isSpad_block hcore ho') (by rw [homeDie_block hcore ho']; exact hp)
      (by rw [Strand.writer, distTo_block s hcore hslot ho']; exact h)
  rw [State.loadAt, resolveAddr_ownSpad s s.me .read ho']
  refine (loadKey_ok (a := s.me) (key := spadKey s.cur.id.core off) he hr).trans ?_
  have hb : spadKey s.cur.id.core off % 64 + n ≤ 64 := by
    rw [spadKey, spadBit]
    rcases hn with rfl | rfl | rfl | rfl <;> omega
  rw [State.line, line_part _ _ _ _ hb, Nat.div_add_mod]

omit ha in
omit ha in
theorem loadAt_error {c : BitVec 10} (h : resolve (s.tag (spadKey s.cur.id.core off / 64))
      (distance s.cur.writer (s.tag (spadKey s.cur.id.core off / 64)).writer true) = .error c) :
    s.loadAt s.me (BitVec.ofNat 64 (0xE0 * 2 ^ 56 + off)) n =
      (.error ⟨c, BitVec.ofNat 64 (0xE0 * 2 ^ 56 + off), BitVec.ofNat 64 (0xE0 * 2 ^ 56 + off)⟩,
        answered s s.cur.id.core s.cur.writer (spadKey s.cur.id.core off / 64)) := by
  have ho' : off < 2 ^ 23 := by omega
  have hr : s.readLine s.cur.id.core s.cur.writer (spadKey s.cur.id.core off / 64) = _ :=
    readLine_error (keyModule_block hcore ho') (isSpad_block hcore ho') (by rw [homeDie_block hcore ho']; exact hp)
      (by rw [Strand.writer, distTo_block s hcore hslot ho']; exact h)
  rw [State.loadAt, resolveAddr_ownSpad s s.me .read ho']
  refine (loadKey_error (a := s.me) (key := spadKey s.cur.id.core off) he hr).trans ?_
  rw [readTval_spad _ _ (isSpad_key hcore ho') (resolve_ne_lost h)]

/-- Whatever the tag gives, the load leaves what the read of its line leaves. -/
theorem loadAt_state : (s.loadAt s.me (BitVec.ofNat 64 (0xE0 * 2 ^ 56 + off)) n).2 =
    answered s s.cur.id.core s.cur.writer (spadKey s.cur.id.core off / 64) := by
  cases h : resolve (s.tag (spadKey s.cur.id.core off / 64))
      (distance s.cur.writer (s.tag (spadKey s.cur.id.core off / 64)).writer true) with
  | ok f => rw [loadAt_ok hn ha ho hcore hp hslot he h]
  | error c => rw [loadAt_error hn ho hcore hp hslot he h]

end

/-- Settles O7: the tag decides between the bytes of memory and the cause, by the distance to the writer, and the read of the block
changes the mark of the move alone. -/
theorem scratchpadLoadByTag : Obligations.ScratchpadLoadByTag := by
  unfold Obligations.ScratchpadLoadByTag
  intro s off n hn ha ho hcore hp hslot key va T data bad r he
  have ho' : off < 2 ^ 23 := by omega
  have hstate : r.2 = answered s s.cur.id.core s.cur.writer (key / 64) := loadAt_state hn ha ho hcore hp hslot he
  have hok {f : Bool} (h : resolve T (distance s.cur.writer T.writer true) = .ok f) : r.1 = data :=
    congrArg Prod.fst (loadAt_ok hn ha ho hcore hp hslot he h)
  have hbad {c : BitVec 10} (h : resolve T (distance s.cur.writer T.writer true) = .error c) : r.1 = bad c :=
    congrArg Prod.fst (loadAt_error hn ho hcore hp hslot he h)
  refine ⟨?_, ?_, ?_, ?_, ?_, ?_, ?_, ?_⟩
  · rw [hstate]
    exact answered_eq ..
  · intro hd hw hc hs
    rw [hstate, answered, reads_quiet s _ _ (keyModule_block hcore ho') (by rw [homeDie_block hcore ho']; exact hd) hw hc hs]
    rfl
  · exact fun h => hok (resolve_turned h _)
  · exact fun h hd => hok (resolve_near h hd)
  · exact fun h hd => hbad (resolve_far h hd)
  · exact fun h hw => hbad ((resolve_written h _).trans (by rw [if_neg hw]))
  · exact fun h hw => hbad ((resolve_written h _).trans (by rw [if_pos hw]))
  · exact fun h => hbad (resolve_poisoned h _)

end Sys2Proof.OwnSpad
end

section
/-! PROOF. The CSR instructions (R170, R171, R196) and what each register reads as (R388 to R390, R443). -/

namespace Sys2Proof.CsrRules

open Machine Claim

/-! ### Fields of a word -/

theorem toNat_extractLsb' (w : Word) (lo len : Nat) : (w.extractLsb' lo len).toNat = field w lo len := by
  rw [BitVec.extractLsb'_toNat, Nat.shiftRight_eq_div_pow, field]

theorem testBit_field (w : Word) (lo len i : Nat) : (field w lo len).testBit i = (decide (i < len) && w.getLsbD (lo + i)) := by
  rw [field, Nat.testBit_mod_two_pow, Nat.testBit_div_two_pow, Nat.add_comm i lo]
  rfl

/-- A field written reads back bit by bit, and the bits outside it stay. -/
theorem getLsbD_setField {w : Word} {lo len : Nat} (h : lo + len ≤ 64) (v i : Nat) :
    (setField w lo len v).getLsbD i = if lo ≤ i ∧ i < lo + len then v.testBit (i - lo) else w.getLsbD i := by
  simp only [setField, BitVec.getLsbD_or, BitVec.getLsbD_and, BitVec.getLsbD_not, BitVec.getLsbD_shiftLeft, BitVec.getLsbD_ofNat,
    Nat.testBit_two_pow_sub_one]
  by_cases h64 : i < 64
  · by_cases h1 : lo ≤ i
    · by_cases h2 : i < lo + len
      · simp [h64, Nat.not_lt.2 h1, h1, h2, show i - lo < len by omega, show i - lo < 64 by omega]
      · simp [h64, Nat.not_lt.2 h1, h1, h2, show ¬ i - lo < len by omega]
    · simp [h64, Nat.lt_of_not_le h1, h1]
  · rw [if_neg (by omega), BitVec.getLsbD_of_ge w i (by omega)]
    simp [h64]

/-- The number whose bits below `n` are those of `p`, as the state's bit lists are written. -/
theorem testBit_foldl_filter_upto (p : Nat → Bool) (k : Nat) : ∀ (n a m : Nat), m < 2 ^ a →
    (((upto a n).filter p).foldl (fun m i => m + 2 ^ i) m).testBit k =
      if k < a then m.testBit k else decide (k < a + n) && p k
  | 0, a, m, hm => by
    have : a ≤ k → m.testBit k = false := fun h => Nat.testBit_lt_two_pow (Nat.lt_of_lt_of_le hm (Nat.pow_le_pow_right (by omega) h))
    simp only [upto, List.filter_nil, List.foldl_nil]
    split <;> simp_all
  | n + 1, a, m, hm => by
    have hpow : 2 ^ (a + 1) = 2 ^ a + 2 ^ a := by rw [Nat.pow_succ]; omega
    rw [upto, List.filter_cons]
    cases hp : p a
    · rw [if_neg (by simp), testBit_foldl_filter_upto p k n (a + 1) m (by omega)]
      rcases Nat.lt_trichotomy k a with h | rfl | h
      · simp [h, show k < a + 1 by omega]
      · simp [hp, Nat.testBit_lt_two_pow hm]
      · simp [show ¬ k < a by omega, show ¬ k < a + 1 by omega, show a + 1 + n = a + (n + 1) by omega]
    · rw [if_pos rfl, List.foldl_cons, testBit_foldl_filter_upto p k n (a + 1) _ (by omega)]
      rcases Nat.lt_trichotomy k a with h | rfl | h
      · rw [if_pos (by omega), if_pos h, Nat.add_comm, Nat.testBit_two_pow_add_gt h]
      · rw [if_pos (by omega), if_neg (by omega), Nat.add_comm, Nat.testBit_two_pow_add_eq, Nat.testBit_lt_two_pow hm]
        simp [hp]
      · simp [show ¬ k < a by omega, show ¬ k < a + 1 by omega, show a + 1 + n = a + (n + 1) by omega]

/-! ### Results -/

/-- The ordinary end of a scalar instruction, as the statements write it. -/
theorem ret_wrote (s : State) (d : Reg) (v : Word) : s.ret d v = .next (wrote s d v) := by
  by_cases h : d = 0
  · subst h; rfl
  · have h' : ¬ d = 0#5 := h
    simp [State.ret, State.wx, Strand.wx, State.adv, wrote, h']

/-! ### Access (R170, R171) -/

/-- A fact about the numbers of a list, at a CSR whose number is in it. -/
theorem of_toNat_mem {l : List Nat} {p : BitVec 12 → Prop} (hl : ∀ n ∈ l, p (BitVec.ofNat 12 n)) {c : BitVec 12} (h : c.toNat ∈ l) : p c := by
  have := hl _ h
  rwa [BitVec.ofNat_toNat, BitVec.setWidth_eq] at this

theorem csrAccess_open {c : BitVec 12} : c.toNat ∈ userAndSupervisor → csrAccess c = some (.rw, .rw) :=
  of_toNat_mem (p := fun c => csrAccess c = some (.rw, .rw)) (by decide)

theorem csrAccess_supervisorWrites {c : BitVec 12} : c.toNat ∈ supervisorWrites → csrAccess c = some (.ro, .rw) :=
  of_toNat_mem (p := fun c => csrAccess c = some (.ro, .rw)) (by decide)

theorem csrAccess_nobodyWrites {c : BitVec 12} : c.toNat ∈ nobodyWrites → csrAccess c = some (.ro, .ro) :=
  of_toNat_mem (p := fun c => csrAccess c = some (.ro, .ro)) (by decide)

theorem csrAccess_supervisorOnly {c : BitVec 12} : c.toNat ∈ supervisorOnly → csrAccess c = some (.none, .rw) :=
  of_toNat_mem (p := fun c => csrAccess c = some (.none, .rw)) (by decide)

/-- The table of R170 and the lists of the statements hold the same numbers. -/
theorem csrAccess_unassigned {c : BitVec 12}
    (h : c.toNat ∉ userAndSupervisor ++ supervisorWrites ++ nobodyWrites ++ supervisorOnly) : csrAccess c = none := by
  have channels : ∀ k < 16, 0x050 + k ∈ nobodyWrites := by decide
  have counters : ∀ k < 8, 0x108 + k ∈ supervisorOnly := by decide
  unfold csrAccess
  generalize c.toNat = n at h
  split
  case h_37 =>
    have h1 : ¬ (0x050 ≤ n ∧ n ≤ 0x05F) := fun hn => by
      have := channels (n - 0x050) (by omega)
      rw [Nat.add_sub_cancel' hn.1] at this
      simp [this] at h
    have h2 : ¬ (0x108 ≤ n ∧ n ≤ 0x10F) := fun hn => by
      have := counters (n - 0x108) (by omega)
      rw [Nat.add_sub_cancel' hn.1] at this
      simp [this] at h
    rw [if_neg h1, if_neg h2]
  all_goals exact absurd (by decide) h

/-- A read is denied as the table's entry for the strand's privilege says. -/
theorem csrLook_of {s : State} {c : BitVec 12} {u v : Access} (h : csrAccess c = some (u, v)) (word : InsnWord) (d : Reg) :
    s.csrLook word d c =
      if (if s.cur.sup then v else u) = .none then s.trapWord 0x002 word else .next (wrote s d (s.csrRead c)) := by
  simp only [State.csrLook, csrDenied, h, ret_wrote]
  generalize (if s.cur.sup then v else u) = entry
  cases entry <;> simp

theorem csrLook_unassigned {s : State} {c : BitVec 12} (h : csrAccess c = none) (word : InsnWord) (d : Reg) :
    s.csrLook word d c = s.trapWord 0x001 word := by
  rw [State.csrLook, csrDenied, h]

/-- A write that R171 denies is a trap whatever the value. -/
theorem csrWrite_denied {s : State} {c : BitVec 12} {x : BitVec 10} (h : csrDenied s.cur.sup true c = some x) (word : InsnWord)
    (d : Reg) (f : Word → Word) : s.csrWrite word d c f = s.trapWord x word := by
  rw [State.csrWrite, h]

/-- A permitted write of a register other than TEN and DBGCTL. -/
theorem csrWrite_permitted {s : State} {c : BitVec 12} (h : csrDenied s.cur.sup true c = none) (hten : c ≠ 0x011) (hdbg : c ≠ 0x200)
    (word : InsnWord) (d : Reg) (f : Word → Word) :
    s.csrWrite word d c f =
      if csrCodeOk c (f (s.csrRead c)) then .next (wrote (s.csrStore c (f (s.csrRead c))) d (s.csrRead c)) else s.trapWord 0x001 word := by
  simp only [State.csrWrite, h, if_neg hten, if_neg hdbg, ret_wrote]
  cases csrCodeOk c (f (s.csrRead c)) <;> rfl

theorem refused_eq (s : State) (code : BitVec 10) (i : Instr) : refused s code i = s.trapWord code (encode i) := rfl

theorem exec_csrr (s : State) (d : Reg) (c : BitVec 12) : exec (.csrr d c) s = s.csrLook (encode (.csrr d c)) d c := rfl

theorem exec_csrw (s : State) (d a : Reg) (c : BitVec 12) :
    exec (.csrw d a c) s = s.csrWrite (encode (.csrw d a c)) d c (fun _ => s.rx a) := rfl

theorem exec_csrwi (s : State) (d : Reg) (i : BitVec 5) (c : BitVec 12) :
    exec (.csrwi d i c) s = s.csrWrite (encode (.csrwi d i c)) d c (fun _ => i.setWidth 64) := rfl

theorem exec_csrs_zero (s : State) (d : Reg) (c : BitVec 12) : exec (.csrs d 0 c) s = s.csrLook (encode (.csrs d 0 c)) d c := rfl

theorem exec_csrc_zero (s : State) (d : Reg) (c : BitVec 12) : exec (.csrc d 0 c) s = s.csrLook (encode (.csrc d 0 c)) d c := rfl

theorem exec_csrs (s : State) (d : Reg) {a : Reg} (h : a ≠ 0) (c : BitVec 12) :
    exec (.csrs d a c) s = s.csrWrite (encode (.csrs d a c)) d c (fun old => old ||| s.rx a) := if_neg h

theorem exec_csrc (s : State) (d : Reg) {a : Reg} (h : a ≠ 0) (c : BitVec 12) :
    exec (.csrc d a c) s = s.csrWrite (encode (.csrc d a c)) d c (fun old => old &&& ~~~s.rx a) := if_neg h

/-- What the statements call `reads` and `writes`: every form of read, and every form of write, ends in the one cause. -/
theorem reads_refused {s : State} {c : BitVec 12} {code : BitVec 10}
    (h : ∀ (word : InsnWord) (d : Reg), s.csrLook word d c = s.trapWord code word) (d : Reg) :
    exec (.csrr d c) s = refused s code (.csrr d c) ∧ exec (.csrs d 0 c) s = refused s code (.csrs d 0 c) ∧
      exec (.csrc d 0 c) s = refused s code (.csrc d 0 c) :=
  ⟨h _ d, h _ d, h _ d⟩

theorem writes_refused {s : State} {c : BitVec 12} {code : BitVec 10} (h : csrDenied s.cur.sup true c = some code)
    (d a i : BitVec 5) :
    exec (.csrw d a c) s = refused s code (.csrw d a c) ∧ exec (.csrwi d i c) s = refused s code (.csrwi d i c) ∧
      (a ≠ 0 → exec (.csrs d a c) s = refused s code (.csrs d a c) ∧ exec (.csrc d a c) s = refused s code (.csrc d a c)) := by
  refine ⟨?_, ?_, fun ha => ⟨?_, ?_⟩⟩
  · rw [exec_csrw, refused_eq, csrWrite_denied h]
  · rw [exec_csrwi, refused_eq, csrWrite_denied h]
  · rw [exec_csrs s d ha, refused_eq, csrWrite_denied h]
  · rw [exec_csrc s d ha, refused_eq, csrWrite_denied h]

theorem csrAccessRules : CsrAccessRules := by
  intro s d a i c writes reads
  refine ⟨fun h => ?_, fun h hs => ?_, fun h hs => ?_, fun h => ?_⟩
  · have hn := csrAccess_unassigned h
    exact ⟨reads_refused (fun word d => csrLook_unassigned hn word d) d, writes_refused (by rw [csrDenied, hn]) d a i⟩
  · have ha := csrAccess_supervisorOnly h
    exact ⟨reads_refused (fun word d => by rw [csrLook_of ha, hs]; rfl) d, writes_refused (by rw [csrDenied, ha, hs]; rfl) d a i⟩
  · exact writes_refused (by rw [csrDenied, csrAccess_supervisorWrites h, hs]; rfl) d a i
  · exact writes_refused (by rw [csrDenied, csrAccess_nobodyWrites h]; cases s.cur.sup <;> rfl) d a i

/-- R170: whom a CSR may be read by. -/
theorem csrLook_permitted {s : State} {c : BitVec 12}
    (h : c.toNat ∈ userAndSupervisor ++ supervisorWrites ++ nobodyWrites ∨ (s.cur.sup = true ∧ c.toNat ∈ supervisorOnly))
    (word : InsnWord) (d : Reg) : s.csrLook word d c = .next (wrote s d (s.csrRead c)) := by
  rcases h with h | ⟨hs, h⟩
  · rcases List.mem_append.1 h with h | h
    · rcases List.mem_append.1 h with h | h
      · rw [csrLook_of (csrAccess_open h)]; cases s.cur.sup <;> rfl
      · rw [csrLook_of (csrAccess_supervisorWrites h)]; cases s.cur.sup <;> rfl
    · rw [csrLook_of (csrAccess_nobodyWrites h)]; cases s.cur.sup <;> rfl
  · rw [csrLook_of (csrAccess_supervisorOnly h), hs]; rfl

/-- R170: whom a CSR may be written by. -/
theorem csrDenied_write {sup : Bool} {c : BitVec 12}
    (h : c.toNat ∈ userAndSupervisor ∨ (sup = true ∧ c.toNat ∈ supervisorWrites ++ supervisorOnly)) : csrDenied sup true c = none := by
  rcases h with h | ⟨rfl, h⟩
  · rw [csrDenied, csrAccess_open h]; cases sup <;> rfl
  · rcases List.mem_append.1 h with h | h
    · rw [csrDenied, csrAccess_supervisorWrites h]; rfl
    · rw [csrDenied, csrAccess_supervisorOnly h]; rfl

/-! ### Reading (R388 to R390, R443) -/

/-- The value of a lane group's counter (R390). -/
theorem csrRead_counter (s : State) (g : Fin 8) :
    s.csrRead (0x108 + BitVec.ofNat 12 g.val) = if g.val < (s.cur.grant + 15) / 16 then s.cur.c.tlg[g] else 0 := by
  have h : s.csrRead (0x108 + BitVec.ofNat 12 g.val) =
      if 0x108 ≤ 0x108 + g.val ∧ 0x108 + g.val < 0x108 + (s.cur.grant + 15) / 16 then
        s.cur.c.tlg.getD (0x108 + g.val - 0x108) 0 else 0 := by
    fin_cases g <;> rfl
  rw [h]
  simp [Vector.getD]

theorem csrRead_watermark (s : State) (k : Fin 8) : s.csrRead (0x050 + BitVec.ofNat 12 k.val) = s.core.chans[k].wm := by
  have h : s.csrRead (0x050 + BitVec.ofNat 12 k.val) = (s.core.chans.getD (0x050 + k.val - 0x050) Chan.reset).wm := by
    fin_cases k <;> rfl
  rw [h]
  simp [Vector.getD]

theorem csrRead_range (s : State) (k : Fin 8) : s.csrRead (0x058 + BitVec.ofNat 12 k.val) = s.core.chans[k].rng := by
  have h : s.csrRead (0x058 + BitVec.ofNat 12 k.val) = (s.core.chans.getD (0x058 + k.val - 0x058) Chan.reset).rng := by
    fin_cases k <;> rfl
  rw [h]
  simp [Vector.getD]

theorem csrReadsAndWrites : CsrReadsAndWrites := by
  intro s d a i c old A put
  refine ⟨fun h => ⟨csrLook_permitted h _ d, csrLook_permitted h _ d, csrLook_permitted h _ d⟩, fun h hten hdbg => ?_, fun hs g hg hgrant => ?_⟩
  · have hd := csrDenied_write h
    have hw (word : InsnWord) (f : Word → Word) := csrWrite_permitted hd hten hdbg word d f
    refine ⟨?_, ?_, fun ha => ?_, fun ha => ?_⟩
    · rw [exec_csrw, hw]; rfl
    · rw [exec_csrwi, hw]; rfl
    · rw [exec_csrs s d ha, hw]; rfl
    · rw [exec_csrc s d ha, hw]; rfl
  · have hr := csrRead_counter s ⟨g, hg⟩
    rw [if_neg (Nat.not_lt.2 hgrant)] at hr
    have hmem : ∀ g < 8, (0x108 + BitVec.ofNat 12 g : BitVec 12).toNat ∈ supervisorOnly := by decide
    rw [exec_csrr, csrLook_permitted (.inr ⟨hs, hmem g hg⟩), hr]


theorem csrRead_vlmax (s : State) :
    s.csrRead 0x005 = BitVec.ofNat 64 (s.cur.grant * 64 / (16 * 2 ^ (s.cur.c.vtype.extractLsb' 0 2).toNat)) := by
  rw [toNat_extractLsb']; rfl

/-- SSTATUS reads with the ring's records in PEND (R388). -/
theorem csrRead_sstatus (s : State) : s.csrRead 0x104 = setField s.cur.c.sstatus 4 6 s.cur.pend := rfl

theorem extractLsb'_setField {w : Word} {lo len : Nat} (h : lo + len ≤ 64) (v : Nat) :
    (setField w lo len v).extractLsb' lo len = BitVec.ofNat len v := by
  ext i hi
  simp only [BitVec.getElem_extractLsb', getLsbD_setField h]
  rw [if_pos (by omega), Nat.add_sub_cancel_left, BitVec.getElem_eq_testBit_toNat, BitVec.toNat_ofNat, Nat.testBit_mod_two_pow]
  simp [hi]

theorem testBit_haltedBits (s : State) {k : Nat} (hk : k < 8) :
    s.haltedBits.testBit k = s.all.any (fun t => t.dbg && t.id.core == s.core.id && t.id.slot == k &&
      (match t.run with | .away _ _ => true | _ => false)) := by
  rw [State.haltedBits, testBit_foldl_filter_upto _ k 8 0 0 (by omega)]
  simp [hk] <;> rfl

theorem testBit_steppingBits (s : State) {k : Nat} (hk : k < 8) :
    s.steppingBits.testBit k = s.all.any (fun t => t.live && t.stepping && t.id.core == s.core.id && t.id.slot == k) := by
  rw [State.steppingBits, testBit_foldl_filter_upto _ k 8 0 0 (by omega)]
  simp [hk]

theorem and_last_second : ∀ a b c d : Bool, (a && b && c && d) = (a && d && b && c) := by decide

theorem csrRead_dbgctl (s : State) (i : Nat) :
    (s.csrRead 0x200).getLsbD i =
      if i < 8 then s.haltedBits.testBit i
      else if 16 ≤ i ∧ i < 24 then s.core.dbgctl.getLsbD i && s.steppingBits.testBit (i - 16)
      else s.core.dbgctl.getLsbD i := by
  have h : s.csrRead 0x200 =
    setField (setField s.core.dbgctl 16 8 (field s.core.dbgctl 16 8 &&& s.steppingBits)) 0 8 s.haltedBits := rfl
  rw [h, getLsbD_setField (by omega), getLsbD_setField (by omega), Nat.testBit_and, testBit_field]
  by_cases h1 : i < 8
  · simp [h1]
  · by_cases h2 : 16 ≤ i ∧ i < 24
    · simp [h1, h2, show i - 16 < 8 by omega, show 16 + (i - 16) = i by omega]
    · simp [h1, h2]

theorem csrValuesRead : CsrValuesRead := by
  intro s r in_
  refine ⟨⟨rfl, rfl, rfl, rfl, rfl, csrRead_vlmax s, rfl⟩, ⟨rfl, rfl, rfl, rfl, rfl, rfl, rfl, rfl⟩,
    ⟨rfl, ?_, ?_, rfl, rfl, rfl, rfl, rfl, rfl, rfl, rfl, rfl⟩, fun k => ⟨csrRead_watermark s k, csrRead_range s k, fun hk => ?_⟩,
    ⟨rfl, rfl, rfl, rfl, rfl, rfl, rfl, rfl⟩, ⟨?_, fun i hi => ?_⟩, fun k hk => ⟨?_, ?_, ?_, ?_⟩⟩
  · show ((1#64 <<< 63) ||| r.dclkr.setWidth 64).getLsbD 63 = true
    simp
  · show ((1#64 <<< 63) ||| r.dclkr.setWidth 64).extractLsb' 0 63 = r.dclkr
    ext i hi
    simp only [BitVec.getElem_extractLsb', BitVec.getLsbD_or, BitVec.getLsbD_shiftLeft]
    simp [hi, show i < 64 by omega]
  · rw [csrRead_counter, if_pos hk]
  · rw [csrRead_sstatus, extractLsb'_setField (by omega), Strand.pend, List.countP_eq_length_filter]
  · rw [csrRead_sstatus, getLsbD_setField (by omega), if_neg (by omega)]
  · rw [csrRead_dbgctl, if_pos hk, testBit_haltedBits s hk]
    exact congrArg _ (funext fun t => and_last_second ..)
  · rw [csrRead_dbgctl, if_neg (by omega), if_neg (by omega)]
  · rw [csrRead_dbgctl, if_neg (by omega), if_pos (by omega), Nat.add_sub_cancel_left, testBit_steppingBits s hk]
  · rw [csrRead_dbgctl, if_neg (by omega), if_neg (by omega)]

/-! ### Reserved codes (R173, R271) -/

/-- The table of R271 holds the configurations of 1 to 8 levels whose images fit, and the empty one. -/
theorem mem_signatureTable {n c x : Nat} (hn : n < 16) (hc : c < 4) :
    (n, c, x) ∈ signatureTable ↔ x = levelStart (dcChannels c) (n + 1) ∧
      (n = 0 → c = 0) ∧ n ≤ 8 ∧ levelStart (dcChannels c) (n + 1) ≤ 65536 := by
  have cells : ∀ e ∈ signatureTable, e.2.2 = levelStart (dcChannels e.2.1) (e.1 + 1) := by decide
  have rows : ∀ (n : Fin 16) (c : Fin 4), (n.val, c.val, levelStart (dcChannels c) (n + 1)) ∈ signatureTable ↔
      (n.val = 0 → c.val = 0) ∧ n.val ≤ 8 ∧ levelStart (dcChannels c) (n + 1) ≤ 65536 := by decide
  constructor
  · intro h
    have hx : x = _ := cells _ h
    exact ⟨hx, (rows ⟨n, hn⟩ ⟨c, hc⟩).1 (hx ▸ h)⟩
  · rintro ⟨rfl, h⟩
    exact (rows ⟨n, hn⟩ ⟨c, hc⟩).2 h

theorem sigcfgOk_iff (v : Word) : sigcfgOk v = true ↔ (field v 0 4, field v 8 2, field v 16 17) ∈ signatureTable := by
  have hn : field v 0 4 < 16 := Nat.mod_lt _ (by decide)
  have hc : field v 8 2 < 4 := Nat.mod_lt _ (by decide)
  rw [mem_signatureTable hn hc, sigcfgOk, sigN, sigD, sigCells]
  by_cases h : field v 0 4 = 0
  · simp [h, levelStart]
  · simp [h, and_comm]

theorem reservedCsrCodes : ReservedCsrCodes := by
  intro v f
  refine ⟨?_, ?_, ?_, sigcfgOk_iff v, ?_, ?_, fun c h1 h2 h3 h4 h5 h6 => ?_⟩
  · show vtypeOk v = true ↔ _
    simp [vtypeOk]; rfl
  · show tshapeOk v = true ↔ _
    simp [tshapeOk, and_assoc]; rfl
  · show (decide (2 ≤ field v 0 5) && decide (field v 0 5 ≤ 16)) = true ↔ _
    simp; rfl
  · show (decide (field v 4 2 ≤ 1) && decide (field v 0 4 ≤ 6)) = true ↔ _
    simp; rfl
  · show decide (field v 11 2 ≠ 3) = true ↔ _
    simp; rfl
  · unfold csrCodeOk
    split
    case h_7 => rfl
    case h_1 h => exact absurd (BitVec.eq_of_toNat_eq h) h1
    case h_2 h => exact absurd (BitVec.eq_of_toNat_eq h) h2
    case h_3 h => exact absurd (BitVec.eq_of_toNat_eq h) h3
    case h_4 h => exact absurd (BitVec.eq_of_toNat_eq h) h4
    case h_5 h => exact absurd (BitVec.eq_of_toNat_eq h) h5
    case h_6 h => exact absurd (BitVec.eq_of_toNat_eq h) h6

/-- Settles O12: the access table, what the CSR instructions do under it, what each register reads as, and the reserved codes. -/
theorem csrAccess : Obligations.CsrAccess :=
  ⟨csrAccessRules, csrReadsAndWrites, csrValuesRead, reservedCsrCodes⟩

end Sys2Proof.CsrRules
end

section
/-! PROOF. SETVL, SETVLMAX and SETTYPE (R60 to R64, R198, R201). -/

namespace Sys2Proof.VectorConfig

open Machine Claim CsrRules

theorem preemptPoint_free {s : State} (h : s.cur.request = none) (kind : SaveKind) (k : State → Out) : s.preemptPoint kind k = k s := by
  simp [State.preemptPoint, Strand.mustYield, h]

theorem adv_wx (s : State) (d : Reg) (v : Word) : (s.wx d v).adv = wrote s d v :=
  Host.Outcome.next.inj (ret_wrote s d v)

theorem vlmax_eq (t : Strand) : t.vlmax = t.grant * 64 / (16 * 2 ^ (t.c.vtype.extractLsb' 0 2).toNat) := by
  rw [toNat_extractLsb']; rfl

/-! ### Grants and holds (R60 to R64, R198) -/

theorem grantVl_eq {s : State} (h : s.cur.run = .running) (d : Reg) (g : Nat) :
    s.grantVl d g = wrote { s with cur := { s.cur with c := { s.cur.c with vl := BitVec.ofNat 64 g, vstart := 0 }, hold := none } } d
      (BitVec.ofNat 64 g) := by
  rw [State.grantVl, adv_wx, ← h]
  rfl

theorem setvl_free {s : State} (hr : s.cur.request = none) {d : Reg} {n : Nat} (h : s.holdBound (Nat.min n s.cur.vlmax) = none) :
    s.setvl d n = .next (s.grantVl d (Nat.min n s.cur.vlmax)) := by
  rw [State.setvl, preemptPoint_free hr]
  simp only [h]

theorem setvl_bound {s : State} (hr : s.cur.request = none) {d : Reg} {n need : Nat} (h : s.holdBound (Nat.min n s.cur.vlmax) = some need) :
    s.setvl d n =
      if (s.producerW s.cur.id.producer).2 || decide (s.holdDeadline.tick ≤ s.clock s.holdDeadline.onRun) then .next (s.holdTrap need)
      else .next { s with cur := { s.cur with
        hold := some ⟨s.cur.c.widbase, s.holdDeadline, need, d, Nat.min n s.cur.vlmax⟩, run := .holding } } := by
  rw [State.setvl, preemptPoint_free hr]
  simp only [h]

theorem setvlGrants : SetvlGrants := by
  intro s d a hr hrun lim free granted
  have grants (n : Nat) (hf : free (min n lim)) : s.setvl d n = granted (min n lim) := by
    have hlim : s.cur.vlmax = lim := vlmax_eq s.cur
    rw [setvl_free hr (by rw [hlim]; exact if_pos hf), grantVl_eq hrun, hlim]
  refine ⟨grants _, fun hf => ?_⟩
  have := grants lim (by rwa [Nat.min_self])
  rw [Nat.min_self] at this
  exact (congrArg (s.setvl d) (vlmax_eq s.cur)).trans this

/-- The deadline that a hold forms afresh (R62). -/
theorem holdDeadline_fresh {s : State} (h : s.cur.hold = none) :
    s.holdDeadline = ⟨s.cur.id.depdl.getLsbD 63, s.clock (s.cur.id.depdl.getLsbD 63) +
      min (s.cur.id.depdl.toNat % 2 ^ 63) (s.core.dlcap.toNat % 2 ^ 63)⟩ := by
  simp only [State.holdDeadline, h, field, Nat.pow_zero, Nat.div_one]

theorem setvlHolds : SetvlHolds := by
  intro s d a hr g need hp hg hw
  have hb : s.holdBound (Nat.min (s.rx a).toNat s.cur.vlmax) = some need := by
    rw [vlmax_eq]
    refine if_neg ?_
    rintro (h | h | h)
    · exact hp h
    · exact hg h
    · exact Nat.not_le.2 hw h
  have hs : exec (.setvl d a) s = _ := setvl_bound hr hb
  refine ⟨fun hf => ?_, fun hf hh hd => ?_⟩
  · rw [hs, hf]; rfl
  · have hopen : ¬ s.holdDeadline.tick ≤ s.clock s.holdDeadline.onRun := by
      rw [holdDeadline_fresh hh]
      exact Nat.not_le.2 (Nat.lt_add_of_pos_right hd)
    rw [hf, decide_eq_false hopen] at hs
    refine ⟨_, _, hs, rfl, rfl, rfl, ?_, ?_⟩
    · rw [holdDeadline_fresh hh]
    · rw [holdDeadline_fresh hh]
      cases s.cur.id.depdl.getLsbD 63 <;> rfl

/-! ### VTYPE (R173, R201) -/

/-- The low eight bits of a word, as a CSR write keeps them. -/
theorem keep_low8 (v : Word) : keep v 0 8 = (v.extractLsb' 0 8).setWidth 64 := by
  apply BitVec.eq_of_toNat_eq
  simp [keep, field]

theorem field_setWidth (v : BitVec 8) (lo len : Nat) : field (v.setWidth 64) lo len = (v.extractLsb' lo len).toNat := by
  rw [BitVec.extractLsb'_toNat, Nat.shiftRight_eq_div_pow, field, BitVec.toNat_setWidth,
    Nat.mod_eq_of_lt (Nat.lt_trans v.isLt (by decide))]

theorem vtypeOk_setWidth (v : BitVec 8) :
    vtypeOk (v.setWidth 64) = true ↔ v.extractLsb' 0 2 ≠ 3 ∧ (v.extractLsb' 2 3).toNat ≤ 4 := by
  have h3 : (v.extractLsb' 0 2).toNat = 3 ↔ v.extractLsb' 0 2 = 3 := ⟨fun h => BitVec.eq_of_toNat_eq h, fun h => by rw [h]; rfl⟩
  simp only [vtypeOk, field_setWidth, ne_eq, h3, Bool.and_eq_true, decide_eq_true_eq]

/-- VLMAX under a VTYPE just written (R44, R174). -/
theorem setVtype_vlmax (t : Strand) (v : BitVec 8) :
    (t.setVtype (v.setWidth 64)).vlmax = t.grant * 64 / (16 * 2 ^ (v.extractLsb' 0 2).toNat) := by
  have hv : (t.setVtype (v.setWidth 64)).c.vtype = v.setWidth 64 := by
    show keep (v.setWidth 64) 0 8 = _
    rw [keep_low8]
    congr 1
    apply BitVec.eq_of_toNat_eq
    simpa using v.isLt
  rw [vlmax_eq, hv, toNat_extractLsb', field_setWidth]
  rfl

theorem settype_okay {s : State} {v : BitVec 8} (h : v.extractLsb' 0 2 ≠ 3 ∧ (v.extractLsb' 2 3).toNat ≤ 4) (word : InsnWord) (d : Reg) :
    s.settype word d (v.setWidth 64) = .next (wrote (s.csrStore 0x001 (v.setWidth 64)) d
      (BitVec.ofNat 64 (s.cur.grant * 64 / (16 * 2 ^ (v.extractLsb' 0 2).toNat)))) := by
  rw [State.settype, (vtypeOk_setWidth v).2 h]
  simp only [Bool.not_true, Bool.false_eq_true, if_false, ret_wrote, setVtype_vlmax]
  rfl

theorem settype_reserved {s : State} {v : BitVec 8} (h : ¬ (v.extractLsb' 0 2 ≠ 3 ∧ (v.extractLsb' 2 3).toNat ≤ 4)) (word : InsnWord)
    (d : Reg) : s.settype word d (v.setWidth 64) = s.trapWord 0x001 word := by
  rw [State.settype, eq_false_of_ne_true (mt (vtypeOk_setWidth v).1 h)]
  rfl

theorem settypeResults : SettypeResults := by
  intro s d a i okay lim
  have hreg (word : InsnWord) : s.settype word d (keep (s.rx a) 0 8) = s.settype word d (((s.rx a).extractLsb' 0 8).setWidth 64) := by
    rw [keep_low8]
  exact ⟨fun h => (hreg _).trans (settype_okay h _ d), fun h => settype_okay h _ d,
    fun h => (hreg _).trans (settype_reserved h _ d), fun h => settype_reserved h _ d⟩

/-- Settles O14: without a bound SETVL grants at once, under one it holds or traps, and SETTYPE is the CSR write of VTYPE. -/
theorem vectorConfiguration : Obligations.VectorConfiguration := ⟨setvlGrants, setvlHolds, settypeResults⟩

end Sys2Proof.VectorConfig
end

section
/-! PROOF. What the operations that read memory, translate and fetch leave alone: the strands, memory and its tags, the Starter, the
homes' messages and the clock. -/

namespace Sys2Proof.Ledger

open Machine

/-- What no read of memory and no translation changes. -/
def ledger (s : State) : Strand × List Strand × List Host.Cell × List (Nat × Tag) × Starter × Homes × List Round × Nat × BitVec 63 × Nat :=
  (s.cur, s.strands, s.mem, s.tags, s.starter, s.homes, s.rounds, s.relaySeq, s.dclkw, s.nextSid)

theorem setCore_ledger (s : State) (k : Core) : ledger (s.setCore k) = ledger s := by
  grind [State.setCore, ledger]

theorem onCore_ledger (s : State) (n : Nat) (f : Core → Core) : ledger (s.onCore n f) = ledger s := setCore_ledger ..

theorem setDie_ledger (s : State) (d : Die) : ledger (s.setDie d) = ledger s := by
  grind [State.setDie, ledger]

theorem onDie_ledger (s : State) (n : Nat) (f : Die → Die) : ledger (s.onDie n f) = ledger s := setDie_ledger ..

theorem passes_ledger (s : State) (dies : List Nat) : ledger (s.passes dies) = ledger s := rfl

theorem touch_ledger (s : State) (key : Nat) : ledger (s.touch key) = ledger s := by
  grind [State.touch, passes_ledger, ledger]

theorem draw_ledger (s : State) : ledger s.draw.2 = ledger s := rfl

theorem invalidateAll_ledger (s : State) (first last : Nat) : ledger (s.invalidateAll first last) = ledger s := by
  grind [State.invalidateAll, State.onCores, State.passes, ledger]

theorem decodes_ledger (s : State) (l source : Nat) (writer : BitVec 12) : ledger (s.decodes l source writer) = ledger s := by
  grind [State.decodes, ledger]

theorem decodesIn_ledger (s : State) (first last source : Nat) (writer : BitVec 12) :
    ledger (s.decodesIn first last source writer) = ledger s := by
  grind [State.decodesIn, decodes_ledger]

theorem routeEntry_ledger (s : State) (die target : Nat) : ledger (s.routeEntry die target).2 = ledger s := by
  unfold State.routeEntry
  repeat' split
  all_goals simp only [onDie_ledger, decodes_ledger, passes_ledger, touch_ledger]

theorem portFor_ledger (s : State) (core key : Nat) : ledger (s.portFor core key).2 = ledger s := by
  grind [State.portFor, routeEntry_ledger]

theorem waitNet_ledger (s : State) : ledger s.waitNet = ledger s := rfl

theorem loss_ledger (s : State) : ledger s.loss.2 = ledger s := by
  grind [State.loss, ledger]

theorem emit_ledger (s : State) (p target channel : Nat) (lane : Option Nat) (n : Nat) :
    ledger (s.emit p target channel lane n) = ledger s := rfl

theorem crosses_ledger (s : State) (core : Nat) (writer : BitVec 12) (key n : Nat) :
    ledger (s.crosses core writer key n).2 = ledger s := by
  grind [State.crosses, portFor_ledger, passes_ledger, emit_ledger, waitNet_ledger, loss_ledger]

theorem reads_ledger (s : State) (writer : BitVec 12) (l : Nat) : ledger (s.reads writer l) = ledger s := by
  grind [State.reads, touch_ledger, decodes_ledger, waitNet_ledger]

theorem atHome_ledger (s : State) (core : Nat) (writer : BitVec 12) (least l : Nat) : ledger (s.atHome core writer least l).2 = ledger s := by
  grind [State.atHome, crosses_ledger, reads_ledger]

theorem readLineAs_ledger (s : State) (core : Nat) (writer : BitVec 12) (least l : Nat) :
    ledger (s.readLineAs core writer least l).2 = ledger s := by
  grind [State.readLineAs, onCore_ledger, draw_ledger, atHome_ledger]

theorem coreLine_ledger (s : State) (core : Nat) (writer : BitVec 12) (l : Nat) : ledger (s.coreLine core writer l).2 = ledger s := by
  grind [State.coreLine, readLineAs_ledger]

theorem codeLine_ledger (s : State) (core : Nat) (writer : BitVec 12) (l : Nat) : ledger (s.codeLine core writer l).2 = ledger s := by
  grind [State.codeLine, onCore_ledger, draw_ledger, atHome_ledger]

theorem walk_ledger (s : State) (a : Agent) (va fuel level table : Nat) : ledger (s.walk a va fuel level table).2 = ledger s := by
  induction fuel generalizing s a va level table <;> grind [State.walk, coreLine_ledger]

theorem lookup_ledger (s : State) (a : Agent) (va : Nat) : ledger (s.lookup a va).2 = ledger s := by
  grind [State.lookup, onCore_ledger, onDie_ledger, draw_ledger, walk_ledger]

theorem translate_ledger (s : State) (a : Agent) (va : Word) (need : Need) : ledger (s.translate a va need).2 = ledger s := by
  grind [State.translate, lookup_ledger]

theorem fetch_ledger (s : State) (a : Agent) (pc : Word) : ledger (s.fetch a pc).2 = ledger s := by
  grind [State.fetch, codeLine_ledger, translate_ledger]

theorem target_ledger (s : State) (a : Agent) (p : Word) : ledger (s.target a p).2 = ledger s := by
  grind [State.target, fetch_ledger]

end Sys2Proof.Ledger
end

section
/-! PROOF. Trap entry and lost strands (R67, R386, R388, R393). -/

namespace Sys2Proof.TrapRules

open Machine Claim CsrRules Ledger

/-! ### Lists of bytes -/

theorem foldl_keeps {α β : Type} (g : State → β) (f : State → α → State) (h : ∀ s x, g (f s x) = g s) :
    ∀ (l : List α) (s : State), g (l.foldl f s) = g s
  | [], _ => rfl
  | x :: r, s => (foldl_keeps g f h r (f s x)).trans (h s x)

theorem length_toBytes : ∀ n v : Nat, (toBytes n v).length = n
  | 0, _ => rfl
  | n + 1, v => by rw [toBytes, List.length_cons, length_toBytes n]

theorem getElem?_toBytes : ∀ {n k : Nat} (v : Nat), k < n → (toBytes n v)[k]? = some (BitVec.ofNat 8 (v / 2 ^ (8 * k)))
  | n + 1, 0, v, _ => by simp [toBytes]
  | n + 1, k + 1, v, h => by
    have hp : 256 * 2 ^ (8 * k) = 2 ^ (8 * (k + 1)) := by rw [Nat.mul_succ, Nat.pow_add, Nat.mul_comm]
    rw [toBytes, List.getElem?_cons_succ, getElem?_toBytes (v / 256) (by omega), Nat.div_div_eq_div_mul, hp]

/-- In a list made of pieces of one length, piece `i` stands at `i` times that length. -/
theorem getElem?_flatMap_upto {α : Type} {f : Nat → List α} {m : Nat} (hf : ∀ i, (f i).length = m) :
    ∀ {n i k : Nat} (a : Nat), i < n → k < m → ((upto a n).flatMap f)[m * i + k]? = (f (a + i))[k]?
  | n + 1, 0, k, a, _, hk => by
    rw [upto, List.flatMap_cons, Nat.mul_zero, Nat.zero_add, List.getElem?_append_left (by rw [hf]; exact hk)]
    rfl
  | n + 1, i + 1, k, a, hi, hk => by
    rw [upto, List.flatMap_cons, List.getElem?_append_right (by rw [hf, Nat.mul_succ]; omega), hf,
      show m * (i + 1) + k - m = m * i + k by rw [Nat.mul_succ]; omega, getElem?_flatMap_upto hf (a + 1) (by omega) hk,
      Nat.add_right_comm]
    rfl

theorem length_flatMap_upto {α : Type} {f : Nat → List α} {m : Nat} (hf : ∀ i, (f i).length = m) :
    ∀ n a : Nat, ((upto a n).flatMap f).length = m * n
  | 0, _ => rfl
  | n + 1, a => by rw [upto, List.flatMap_cons, List.length_append, hf, length_flatMap_upto hf n, Nat.mul_succ, Nat.add_comm]

theorem length_frameBytes (x : Vector Word 32) : (frameBytes x).length = 64 :=
  length_flatMap_upto (fun _ => length_toBytes 8 _) 8 12

/-- Byte `k` of register 12 + `i` in the entry frame (R393). -/
theorem getElem?_frameBytes (x : Vector Word 32) {i k : Nat} (hi : i < 8) (hk : k < 8) :
    (frameBytes x)[8 * i + k]? = some ((x.getD (12 + i) 0).extractLsb' (8 * k) 8) := by
  rw [frameBytes, getElem?_flatMap_upto (fun _ => length_toBytes 8 _) 12 hi hk, getElem?_toBytes _ hk]
  congr 1
  apply BitVec.eq_of_toNat_eq
  rw [BitVec.toNat_ofNat, BitVec.extractLsb'_toNat, Nat.shiftRight_eq_div_pow]

/-! ### The save area (R393) -/

theorem writeTurned_mem (s : State) (die : Nat) (writer : BitVec 12) (key : Nat) (bs : List Byte) :
    (s.writeTurned die writer key bs).mem = Memory.setBytes s.mem key bs := by
  simp only [State.writeTurned, Laws.invalidateAll_mem]
  refine (foldl_keeps State.mem _ (fun u l => Laws.setTag_mem u l _) _ _).trans ?_
  rw [State.setBytes, Laws.decodesIn_mem, Laws.passes_mem, Laws.touch_mem]

theorem starter_of_ledger {s t : State} (h : ledger t = ledger s) : t.starter = s.starter := by
  simp only [ledger, Prod.mk.injEq] at h
  exact h.2.2.2.2.1

theorem writeTurned_starter (s : State) (die : Nat) (writer : BitVec 12) (key : Nat) (bs : List Byte) :
    (s.writeTurned die writer key bs).starter = s.starter := by
  simp only [State.writeTurned, starter_of_ledger (invalidateAll_ledger ..)]
  refine (foldl_keeps State.starter _ (fun u l => Laws.setTag_starter u l _) _ _).trans ?_
  show (State.decodesIn _ _ _ _ _).starter = _
  rw [starter_of_ledger (decodesIn_ledger ..)]
  exact starter_of_ledger (touch_ledger ..)

theorem saveWrite_mem (s : State) (t : Strand) (off : Nat) (bs : List Byte) :
    (s.saveWrite t off bs).mem = Memory.setBytes s.mem (physKey t.id.save + off) bs := writeTurned_mem ..

theorem saveWrite_starter (s : State) (t : Strand) (off : Nat) (bs : List Byte) : (s.saveWrite t off bs).starter = s.starter :=
  writeTurned_starter ..

/-! ### Losing a strand (R67, R386) -/

theorem find?_updFirst {α : Type} {p : α → Bool} {f : α → α} (h : ∀ a, p (f a) = p a) :
    ∀ l : List α, (updFirst p f l).find? p = (l.find? p).map f
  | [] => rfl
  | a :: r => by
    unfold updFirst
    cases hp : p a
    · simp [hp, find?_updFirst h r]
    · simp [hp, h]

theorem strand_cur {s : State} (h : s.cur.id.sid ≠ 0) : s.strand s.cur.id.sid = some s.cur := if_pos ⟨rfl, h⟩

/-- What losing the issuing strand does, in the order of the model. -/
theorem lose_cur_eq {s : State} (h : s.cur.id.sid ≠ 0) (code : BitVec 10) :
    let t := State.releaseTile { s with cur := { s.cur with run := .lost code, stepping := false } } s.cur.id.core s.cur.id.sid
    let u := if s.cur.stepping then t.stepOver s.cur.id.core s.cur.id.slot else t
    s.lose s.cur.id.sid code = (u.saveWrite s.cur 0x0B ([2] ++ toBytes 2 code.toNat)).failLaunch s.cur.id.lid code := by
  rw [State.lose, strand_cur h]
  simp only [State.setStrand, if_true]

theorem lose_cur {s : State} (h : s.cur.id.sid ≠ 0) (code : BitVec 10) :
    (s.lose s.cur.id.sid code).cur = { s.cur with run := .lost code, stepping := false } := by
  rw [lose_cur_eq h, Laws.failLaunch_cur, Laws.saveWrite_cur]
  split
  · rw [Laws.stepOver_cur, Laws.releaseTile_cur]
  · rw [Laws.releaseTile_cur]

theorem lose_live {s : State} (h : s.cur.id.sid ≠ 0) (code : BitVec 10) :
    (s.lose s.cur.id.sid code).starter.live =
      updFirst (fun l => l.id == s.cur.id.lid) (fun l => if l.stop.isNone then { l with stop := some (false, code) } else l)
        s.starter.live := by
  have hr (u : State) : (u.releaseTile s.cur.id.core s.cur.id.sid).starter = u.starter := starter_of_ledger (onCore_ledger ..)
  have hs (u : State) : (u.stepOver s.cur.id.core s.cur.id.slot).starter = u.starter := starter_of_ledger (onCore_ledger ..)
  rw [lose_cur_eq h]
  simp only [State.failLaunch, saveWrite_starter]
  split
  · rw [hs, hr]
  · rw [hr]

/-- The launch of a lost strand has failed, unless it had stopped before (R67). -/
theorem lose_launch {s : State} (h : s.cur.id.sid ≠ 0) (code : BitVec 10) {q : Launch}
    (hq : s.starter.live.find? (fun q => q.id == s.cur.id.lid) = some q) :
    (s.lose s.cur.id.sid code).starter.live.find? (fun q => q.id == s.cur.id.lid) =
      some (if q.stop = none then { q with stop := some (false, code) } else q) := by
  rw [lose_live h, find?_updFirst (fun a => by split <;> rfl), hq]
  simp

theorem lostStrands : LostStrands := by
  intro s code deliv elem tpc tval rec resume hsid hnest t
  have ht : t = s.lose s.cur.id.sid 0x3F1 := Laws.trapEntry_nested hnest ..
  rw [ht]
  exact ⟨lose_cur hsid _, fun q hq => lose_launch hsid _ hq⟩

/-! ### What trap entry saves (R386, R388, R393) -/

/-- The state of a trap once its registers and its entry frame are saved. -/
def entered (s : State) (code : BitVec 10) (deliv : Nat) (elem : Bool) (tpc tval rec resume : Word) : State :=
  State.saveWrite { s with cur := Laws.trapped s.cur code deliv elem tpc tval rec resume }
    (Laws.trapped s.cur code deliv elem tpc tval rec resume) 0x40 (frameBytes s.cur.x)

section
variable (s : State) (code : BitVec 10) (deliv : Nat) (elem : Bool) (tpc tval rec resume : Word)

theorem entered_cur : (entered s code deliv elem tpc tval rec resume).cur = Laws.trapped s.cur code deliv elem tpc tval rec resume :=
  Laws.saveWrite_cur ..

theorem trapEntry_eq (h : s.cur.nest = false) :
    s.trapEntry code deliv elem tpc tval rec resume =
      let u := entered s code deliv elem tpc tval rec resume
      match u.target u.me s.cur.c.tvec with
      | (.refused, v) => v.lose v.cur.id.sid 0x011
      | (l, v) => v.enterLine v.cur.c.tvec l := by
  have hc := entered_cur s code deliv elem tpc tval rec resume
  have ht : s.cur.c.tvec = (entered s code deliv elem tpc tval rec resume).cur.c.tvec := by rw [hc]; rfl
  rw [State.trapEntry, h, ht]
  rfl

/-- SSTATUS after entry, bit by bit (R388). -/
theorem enter_sstatus (c : Csrs) (i : Nat) :
    (c.enter code deliv elem tpc tval rec resume).sstatus.getLsbD i =
      if i = 0 ∨ i = 2 then true else if i = 1 then c.sstatus.getLsbD 0 else if i = 3 then elem else c.sstatus.getLsbD i := by
  simp only [Csrs.enter]
  rw [getLsbD_setField (by omega), getLsbD_setField (by omega), getLsbD_setField (by omega), getLsbD_setField (by omega), testBit_field]
  have hb (p : Prop) [Decidable p] : Nat.testBit (if p then 1 else 0) 0 = decide p := by split <;> simp [*]
  by_cases h0 : i = 0
  · subst h0; simp
  by_cases h1 : i = 1
  · subst h1; simp
  by_cases h2 : i = 2
  · subst h2; simp
  by_cases h3 : i = 3
  · subst h3; simp [hb]
  rw [if_neg (by omega), if_neg (by omega), if_neg (by omega), if_neg (by omega)]
  simp [h0, h1, h2, h3]

theorem enter_tcause (c : Csrs) (h : deliv < 3) :
    (c.enter code deliv elem tpc tval rec resume).tcause.toNat = deliv * 2048 + (if elem then 1024 else 0) + code.toNat := by
  have hc := code.isLt
  show (BitVec.ofNat 64 (deliv * 2 ^ 11 + (if elem then 2 ^ 10 else 0) + code.toNat)).toNat = _
  rw [BitVec.toNat_ofNat]
  apply Nat.mod_eq_of_lt
  split <;> omega

theorem entered_byte_frame (hm : Inv s) {i k : Nat} (hi : i < 8) (hk : k < 8) :
    (entered s code deliv elem tpc tval rec resume).byte (frameKey s + (8 * i + k)) = (s.cur.x.getD (12 + i) 0).extractLsb' (8 * k) 8 := by
  have hl : 8 * i + k < (frameBytes s.cur.x).length := by rw [length_frameBytes]; omega
  have hb := getElem?_frameBytes s.cur.x hi hk
  rw [List.getElem?_eq_getElem hl, Option.some.injEq] at hb
  rw [← hb, State.byte, entered, saveWrite_mem]
  exact Laws.get_setBytes_same _ _ _ hl hm

theorem entered_byte_other (hm : Inv s) {a : Nat} (ha : a < frameKey s ∨ frameKey s + 64 ≤ a) :
    (entered s code deliv elem tpc tval rec resume).byte a = s.byte a := by
  rw [State.byte, entered, saveWrite_mem]
  exact Laws.get_setBytes_other _ _ _ hm (by rw [length_frameBytes]; exact ha)

theorem entered_saves (hd : deliv < 3) (hm : Inv s) :
    EntrySaved s (entered s code deliv elem tpc tval rec resume) code deliv elem tpc tval rec resume := by
  have hc := entered_cur s code deliv elem tpc tval rec resume
  have hs (i : Nat) := enter_sstatus code deliv elem tpc tval rec resume s.cur.c i
  have hcs : (entered s code deliv elem tpc tval rec resume).cur.c = s.cur.c.enter code deliv elem tpc tval rec resume := by rw [hc]; rfl
  rw [← hcs] at hs
  refine ⟨?_, hs 0, hs 1, hs 2, hs 3, fun i hi => ?_, ?_, fun i hi k hk => ?_, fun a ha => ?_⟩
  · rw [hc]; exact enter_tcause code deliv elem tpc tval rec resume s.cur.c hd
  · rw [hs, if_neg (by omega), if_neg (by omega), if_neg (by omega)]
  · rw [hc]; rfl
  · have hf : frameKey (entered s code deliv elem tpc tval rec resume) = frameKey s := by rw [frameKey, hc]; rfl
    rw [hf, Nat.add_assoc]
    exact entered_byte_frame s code deliv elem tpc tval rec resume hm hi hk
  · exact entered_byte_other s code deliv elem tpc tval rec resume hm ha

end

theorem trapEntrySaves : TrapEntrySaves := by
  intro s code deliv elem tpc tval rec resume hnest hsid hd hm t
  have ht : t = _ := trapEntry_eq s code deliv elem tpc tval rec resume hnest
  have hc := entered_cur s code deliv elem tpc tval rec resume
  have hstarter : (entered s code deliv elem tpc tval rec resume).starter = s.starter := saveWrite_starter ..
  have hsaved := entered_saves s code deliv elem tpc tval rec resume hd hm
  generalize entered s code deliv elem tpc tval rec resume = u at ht hc hstarter hsaved
  have hvc := Laws.target_cur u u.me s.cur.c.tvec
  have hvm := Laws.target_mem u u.me s.cur.c.tvec
  have hvs := starter_of_ledger (target_ledger u u.me s.cur.c.tvec)
  rcases he : u.target u.me s.cur.c.tvec with ⟨l, v⟩
  dsimp only at ht
  rw [he] at ht hvc hvm hvs
  have hid : v.cur.id = s.cur.id := by rw [hvc, hc]; rfl
  have htv : v.cur.c.tvec = s.cur.c.tvec := by rw [hvc, hc]; rfl
  refine ⟨u, v, l, hsaved, he, hvc, hvm, fun hl => ?_, fun hl => ?_⟩
  · have ht' : t = v.enterLine v.cur.c.tvec l := by
      cases l
      · exact ht
      · exact absurd rfl hl
      · exact ht
    rw [ht', htv, ← hvc]
    rfl
  · subst hl
    have hsid' : v.cur.id.sid ≠ 0 := by rw [hid]; exact hsid
    rw [ht]
    refine ⟨?_, fun q hq => ?_⟩
    · rw [lose_cur hsid', hvc]
    · rw [← hid] at hq ⊢
      exact lose_launch hsid' _ (by rw [hvs, hstarter]; exact hq)

/-- Settles O15: entry saves the registers and the frame, then the check of TVEC decides; in a handler the strand is lost. -/
theorem trapEntry : Obligations.TrapEntry := ⟨trapEntrySaves, lostStrands⟩

end Sys2Proof.TrapRules
end

section
/-! PROOF. HALT of a settled strand (R66, R67, R255, R307). -/

namespace Sys2Proof.HaltRules

open Machine Claim VectorConfig Ledger TrapRules

/-! ### One core replaced -/

theorem coreAt_id (s : State) (n : Nat) : (s.coreAt n).id = n := by
  unfold State.coreAt
  split
  · assumption
  · cases h : s.cores.find? (fun k => k.id == n) with
    | none => rfl
    | some k => simpa using List.find?_some h

theorem find?_updFirst_const {α : Type} {p : α → Bool} {b : α} (hb : p b = true) :
    ∀ l : List α, l.any p = true → (updFirst p (fun _ => b) l).find? p = some b
  | a :: r, h => by
    unfold updFirst
    cases hp : p a
    · rw [if_neg (by simp), List.find?_cons, hp]
      exact find?_updFirst_const hb r (by simpa [hp] using h)
    · simp [hb]

theorem find?_insertBy {α : Type} {p : α → Bool} {lt : α → α → Bool} {b : α} (hb : p b = true) :
    ∀ l : List α, l.any p = false → (insertBy lt b l).find? p = some b
  | [], _ => by simp [insertBy, hb]
  | a :: r, h => by
    simp only [List.any_cons, Bool.or_eq_false_iff] at h
    unfold insertBy
    split
    · simp [hb]
    · rw [List.find?_cons, h.1]
      exact find?_insertBy hb r h.2

/-- A core replaced reads back. -/
theorem coreAt_setCore (s : State) (k : Core) : (s.setCore k).coreAt k.id = k := by
  have hk : k.id == k.id := by simp
  unfold State.setCore State.coreAt
  split
  · simp
  · next hne =>
    split
    · next hany =>
      rw [find?_updFirst_const (p := fun q : Core => q.id == k.id) hk _ hany]
      rfl
    · next hany =>
      rw [find?_insertBy (p := fun q : Core => q.id == k.id) hk _ (eq_false_of_ne_true hany)]
      rfl

theorem coreAt_onCore {s : State} {n : Nat} {f : Core → Core} (hf : (f (s.coreAt n)).id = n) : (s.onCore n f).coreAt n = f (s.coreAt n) := by
  have := coreAt_setCore s (f (s.coreAt n))
  rwa [hf] at this

/-! ### The parts of HALT that find nothing to do -/

theorem deliverPoint_none {s : State} (h : s.cur.records = []) (p : Record → Bool) (k : State → Out) : s.deliverPoint p k = k s := by
  simp [State.deliverPoint, h, nextRecord, sortBy]

theorem waitPoint_undisturbed {s : State} (h : Undisturbed s) (p : Record → Bool) (k : State → Out) : s.waitPoint p k = k s := by
  rw [State.waitPoint, deliverPoint_none h.1, preemptPoint_free h.2]

theorem streams_none {t : Strand} (h : t.streams = Vector.replicate 4 none) (i : Nat) : t.streams.getD i none = none := by
  rw [h]
  by_cases hi : i < 4 <;> simp [Vector.getD, hi]

theorem releaseAll_unbound {s : State} (h : s.cur.streams = Vector.replicate 4 none) : ∀ l : List Nat, s.releaseAll l = .ok s
  | [] => rfl
  | i :: r => by
    have hi : s.release i = some s := by
      simp only [State.release, streams_none h]
    simp only [State.releaseAll, hi, releaseAll_unbound h r]

theorem placeStreams_unbound {s : State} (h : s.cur.streams = Vector.replicate 4 none) : s.placeStreams = s := by
  have hi (i : Nat) : s.placeStream i = s := by simp only [State.placeStream, streams_none h]
  simp only [State.placeStreams, upto, List.foldl_cons, List.foldl_nil, hi]

theorem ackAll_none {s : State} (hi : s.homes.invals = []) (ha : s.homes.acks = []) (sid : Nat) : s.ackAll sid = s := by
  rcases s with ⟨_, _, _, _, _, _, _, _, _, ⟨_, _, _, _, _, _, _, _, _, _⟩, _, _, _, _, _, _, _⟩
  simp only at hi ha
  subst hi ha
  rfl

theorem turnLog_empty {s : State} (h : s.cur.streams = Vector.replicate 4 none) (hw : s.cur.wlog = []) (hi : s.homes.invals = [])
    (ha : s.homes.acks = []) (lvl : Nat) (spent : Bool) : s.turnLog lvl spent = (0, true, s) := by
  simp [State.turnLog, placeStreams_unbound h, hw, ackAll_none hi ha]

theorem declareUpTo_eq (s : State) (last : Nat) : ∃ h, s.declareUpTo last = { s with homes := h } := by
  simp only [State.declareUpTo]
  split
  · exact ⟨_, rfl⟩
  · exact ⟨s.homes, rfl⟩

/-- The declaration of all elements changes the homes' messages alone (R59, R66). -/
theorem declareAll_eq (s : State) : ∃ h, s.declareAll = { s with homes := h } := by
  have keeps (c : Bool) (n : Nat) : ∃ h, (if c then s else s.declareUpTo n) = { s with homes := h } := by
    cases c
    · exact declareUpTo_eq s n
    · exact ⟨s.homes, rfl⟩
  exact keeps _ _

/-! ### The end of a strand -/

/-- A step over leaves the tile store's holder, and the Starter, the strands and memory, as they are. -/
theorem stepOver_ledger (s : State) (core slot : Nat) : ledger (s.stepOver core slot) = ledger s := onCore_ledger ..

theorem stepOver_holder (s : State) (core slot : Nat) : ((s.stepOver core slot).coreAt core).holder = (s.coreAt core).holder := by
  rw [State.stepOver, coreAt_onCore (coreAt_id s core)]

theorem releaseTile_ledger (s : State) (core sid : Nat) : ledger (s.releaseTile core sid) = ledger s := onCore_ledger ..

/-- The tile store of a core goes from the strand that held it to being cleared (R255). -/
theorem releaseTile_held {s : State} {core sid : Nat} (h : (s.coreAt core).holder = some sid) :
    ((s.releaseTile core sid).coreAt core).holder = none ∧ ((s.releaseTile core sid).coreAt core).clearing = true := by
  have hat := coreAt_onCore (s := s) (n := core)
    (f := fun k => if k.holder = some sid then { k with holder := none, clearing := true } else k)
    (by rw [if_pos h]; exact coreAt_id s core)
  rw [State.releaseTile, hat, if_pos h]
  exact ⟨rfl, rfl⟩

/-- The strand's core once its debug step, when one runs, is over. -/
def stepOut (s : State) : State := if s.cur.stepping then s.stepOver s.cur.id.core s.cur.id.slot else s

theorem stepOut_ledger (s : State) : ledger (stepOut s) = ledger s := by
  unfold stepOut
  split
  · exact stepOver_ledger ..
  · rfl

theorem stepOut_holder (s : State) : ((stepOut s).coreAt s.cur.id.core).holder = (s.coreAt s.cur.id.core).holder := by
  unfold stepOut
  split
  · exact stepOver_holder ..
  · rfl

theorem endStrand_eq (s : State) : s.endStrand =
    (State.releaseTile { stepOut s with cur := { s.cur with run := .ended, stall := none, due := none, blockedOn := none, stepping := false } }
      s.cur.id.core s.cur.id.sid).onLaunch s.cur.id.lid (fun l => { l with left := l.left - 1 }) := by
  have hc : (stepOut s).cur = s.cur := congrArg Prod.fst (stepOut_ledger s)
  rw [State.endStrand]
  rw [stepOut] at hc ⊢
  simp only [hc]

/-- What a strand's end leaves: the strand, memory, its tags, the launch's count and the tile store (R66, R67, R255). -/
theorem endStrand_spec (s : State) :
    s.endStrand.cur = { s.cur with run := .ended, stall := none, due := none, blockedOn := none, stepping := false } ∧
    s.endStrand.mem = s.mem ∧ s.endStrand.tags = s.tags ∧
    s.endStrand.starter.live = updFirst (fun l => l.id == s.cur.id.lid) (fun l => { l with left := l.left - 1 }) s.starter.live ∧
    ((s.coreAt s.cur.id.core).holder = some s.cur.id.sid →
      (s.endStrand.coreAt s.cur.id.core).holder = none ∧ (s.endStrand.coreAt s.cur.id.core).clearing = true) := by
  have h1 := stepOut_ledger s
  have h2 := stepOut_holder s
  rw [endStrand_eq]
  generalize stepOut s = u at h1 h2
  have h3 := releaseTile_ledger
    { u with cur := { s.cur with run := .ended, stall := none, due := none, blockedOn := none, stepping := false } } s.cur.id.core s.cur.id.sid
  simp only [ledger, Prod.mk.injEq] at h1 h3
  obtain ⟨-, -, hmem, htags, hstarter, -⟩ := h1
  obtain ⟨hcur', -, hmem', htags', hstarter', -⟩ := h3
  refine ⟨hcur', hmem'.trans hmem, htags'.trans htags, ?_, fun hh => ?_⟩
  · show updFirst _ _ (State.starter _).live = _
    rw [hstarter', hstarter]
  · exact releaseTile_held (h2.trans hh)

/-- HALT of a strand that nothing is outstanding for declares its elements and ends (R66, R307). -/
theorem halt_settled {s : State} (hu : Undisturbed s) (hst : s.cur.streams = Vector.replicate 4 none) (hw : s.cur.wlog = [])
    (he : s.engStores = false) (hi : s.homes.invals = []) (ha : s.homes.acks = []) (ht : s.tilesOut s.cur = 0) (hc : s.copiesOut s.cur = 0) :
    exec .halt s = .next s.declareAll.endStrand := by
  have ht' : s.declareAll.tilesOut s.declareAll.cur = 0 := by
    obtain ⟨h, e⟩ := declareAll_eq s
    rw [e]; exact ht
  have hc' : s.declareAll.copiesOut s.declareAll.cur = 0 := by
    obtain ⟨h, e⟩ := declareAll_eq s
    rw [e]; exact hc
  show execHalt s = _
  rw [execHalt, waitPoint_undisturbed hu]
  simp only [releaseAll_unbound hst, he, turnLog_empty hst hw hi ha, deliverPoint_none hu.1, ht', hc']
  simp

/-- Settles O19: nothing of the strand is outstanding, so HALT declares its elements and ends it at once. -/
theorem haltEnds : Obligations.HaltEnds := by
  unfold Obligations.HaltEnds
  intro s hu hst hw he hi ha ht hc
  have hx := halt_settled hu hst hw he hi ha ht hc
  obtain ⟨h, hd⟩ := declareAll_eq s
  rw [hd] at hx
  obtain ⟨hcur, hmem, htags, hlive, hheld⟩ := endStrand_spec { s with homes := h }
  refine ⟨_, hx, ?_, hmem, htags, ?_, ?_, hheld, fun l hl => ?_⟩
  · rw [hcur]
  · rw [hcur]
  · rw [hcur]
  · rw [hlive]
    refine (find?_updFirst (p := fun q : Launch => q.id == s.cur.id.lid) (f := fun l => { l with left := l.left - 1 }) (fun _ => rfl) _).trans ?_
    rw [hl]
    rfl

end Sys2Proof.HaltRules
end

section
/-! PROOF. Vector elements: their placement, the active ones, and the end of an element-wise instruction without streams
(R42, R44, R175, R176, R202, R392). -/

namespace Sys2Proof.ElementRules

open Machine Claim CsrRules VectorConfig

/-! ### Placement (R44) -/

theorem testBit_getE (g ew : Nat) (v : VReg) (i : Nat) {k : Nat} (hk : k < ew) :
    (getE g ew v i).testBit k = v.getLsbD (elemPos g ew i + k) := by
  rw [getE, Nat.testBit_mod_two_pow, Nat.testBit_div_two_pow, decide_eq_true hk, Bool.true_and, Nat.add_comm]
  rfl

theorem getE_lt (g ew : Nat) (v : VReg) (i : Nat) : getE g ew v i < 2 ^ ew := Nat.mod_lt _ (Nat.two_pow_pos ew)

/-- An element written changes its own bits alone. -/
theorem getLsbD_setE {g ew i : Nat} (h : elemPos g ew i + ew ≤ 8192) (v : VReg) (x b : Nat) :
    (setE g ew v i x).getLsbD b =
      if elemPos g ew i ≤ b ∧ b < elemPos g ew i + ew then x.testBit (b - elemPos g ew i) else v.getLsbD b := by
  simp only [setE, BitVec.getLsbD_or, BitVec.getLsbD_and, BitVec.getLsbD_not, BitVec.getLsbD_shiftLeft, BitVec.getLsbD_ofNat,
    Nat.testBit_two_pow_sub_one, Nat.testBit_mod_two_pow]
  generalize elemPos g ew i = p at h
  by_cases hb : b < 8192
  · by_cases h1 : p ≤ b
    · by_cases h2 : b < p + ew
      · simp [hb, Nat.not_lt.2 h1, h1, h2, show b - p < ew by omega, show b - p < 8192 by omega]
      · simp [hb, Nat.not_lt.2 h1, h1, h2, show ¬ b - p < ew by omega]
    · simp [hb, Nat.lt_of_not_le h1, h1]
  · rw [if_neg (by omega), BitVec.getLsbD_of_ge v b (by omega)]
    simp [hb]

/-- The bits of an element below VLMAX lie within its lane, and its lane within the register, at a width that is not reserved. -/
theorem elemPos_bound {t : Strand} {i : Nat} (hg : 0 < t.grant) (hi : i < t.vlmax) (hew : t.c.vtype.extractLsb' 0 2 ≠ 3) :
    t.ew * (i / t.grant) + t.ew ≤ 64 ∧ i % t.grant < t.grant := by
  refine ⟨?_, Nat.mod_lt _ hg⟩
  have hf : field t.c.vtype 0 2 < 4 := Nat.mod_lt _ (by decide)
  have hf3 : field t.c.vtype 0 2 ≠ 3 := fun h => hew (BitVec.eq_of_toNat_eq (by rw [toNat_extractLsb', h]; rfl))
  have hi' : i < t.grant * 64 / t.ew := hi
  have hslot (q : Nat) (hq : 0 < t.ew) (h64 : 64 = q * t.ew) : t.ew * (i / t.grant) + t.ew ≤ 64 := by
    rw [h64, ← Nat.mul_assoc, Nat.mul_div_cancel _ hq] at hi'
    have hlt : i / t.grant < q := Nat.div_lt_of_lt_mul hi'
    calc t.ew * (i / t.grant) + t.ew = t.ew * (i / t.grant + 1) := (Nat.mul_succ ..).symm
      _ ≤ t.ew * q := Nat.mul_le_mul_left _ hlt
      _ = 64 := by rw [h64, Nat.mul_comm]
  have hew' : t.ew = 16 * 2 ^ field t.c.vtype 0 2 := rfl
  obtain h | h | h : field t.c.vtype 0 2 = 0 ∨ field t.c.vtype 0 2 = 1 ∨ field t.c.vtype 0 2 = 2 := by omega
  · exact hslot 4 (by rw [hew', h]; decide) (by rw [hew', h]; rfl)
  · exact hslot 2 (by rw [hew', h]; decide) (by rw [hew', h]; rfl)
  · exact hslot 1 (by rw [hew', h]; decide) (by rw [hew', h]; rfl)

/-- Bit `k` of an element is no bit of another one. -/
theorem elemPos_disjoint {t : Strand} {i j k : Nat} (hg : 0 < t.grant) (hi : i < t.vlmax) (hj : j < t.vlmax)
    (hew : t.c.vtype.extractLsb' 0 2 ≠ 3) (hne : j ≠ i) (hk : k < t.ew) :
    ¬ (elemPos t.grant t.ew i ≤ elemPos t.grant t.ew j + k ∧ elemPos t.grant t.ew j + k < elemPos t.grant t.ew i + t.ew) := by
  have hbi := (elemPos_bound hg hi hew).1
  have hbj := (elemPos_bound hg hj hew).1
  rw [elemPos, elemPos]
  rcases Nat.lt_trichotomy (i % t.grant) (j % t.grant) with h | h | h
  · omega
  · have hslot : i / t.grant ≠ j / t.grant := fun hq => hne (by
      rw [← Nat.div_add_mod i t.grant, ← Nat.div_add_mod j t.grant, hq, h])
    rcases Nat.lt_or_gt_of_ne hslot with hl | hl
    · have := Nat.mul_le_mul_left t.ew (Nat.succ_le_of_lt hl)
      rw [Nat.mul_succ] at this
      omega
    · have := Nat.mul_le_mul_left t.ew (Nat.succ_le_of_lt hl)
      rw [Nat.mul_succ] at this
      omega
  · omega

theorem setElems_singleton (t : Strand) (r : Reg) (i x : Nat) : t.setElems r [(i, x)] = t.setV r (setE t.grant t.ew (t.vr r) i x) := rfl

theorem elem_setElems (t : Strand) (r : Reg) (i j x : Nat) :
    (t.setElems r [(i, x)]).elem r j = getE t.grant t.ew (setE t.grant t.ew (t.vr r) i x) j := by
  rw [setElems_singleton, Strand.elem, Laws.vr_setV_same]
  rfl

theorem elementPlacement : ElementPlacement := by
  intro t r q i j x hg hg' hi hj hew
  obtain ⟨hslot, hlane⟩ := elemPos_bound hg hi hew
  have hpos : elemPos t.grant t.ew i + t.ew ≤ 8192 := by rw [elemPos]; omega
  refine ⟨rfl, fun k hk => testBit_getE _ _ _ _ hk, getE_lt .., ?_, fun hne => ?_, fun hq => ?_, rfl⟩
  · rw [elem_setElems]
    apply Nat.eq_of_testBit_eq
    intro k
    rw [Nat.testBit_mod_two_pow]
    by_cases hk : k < t.ew
    · rw [testBit_getE _ _ _ _ hk, getLsbD_setE hpos, if_pos (by omega), Nat.add_sub_cancel_left, decide_eq_true hk, Bool.true_and]
    · rw [decide_eq_false hk, Bool.false_and]
      exact Nat.testBit_lt_two_pow (Nat.lt_of_lt_of_le (getE_lt ..) (Nat.pow_le_pow_right (by decide) (Nat.le_of_not_lt hk)))
  · rw [elem_setElems, Strand.elem]
    apply Nat.eq_of_testBit_eq
    intro k
    by_cases hk : k < t.ew
    · rw [testBit_getE _ _ _ _ hk, testBit_getE _ _ _ _ hk, getLsbD_setE hpos, if_neg (elemPos_disjoint hg hi hj hew hne hk)]
    · have hp := Nat.pow_le_pow_right (n := 2) (by decide) (Nat.le_of_not_lt hk)
      rw [Nat.testBit_lt_two_pow (Nat.lt_of_lt_of_le (getE_lt ..) hp), Nat.testBit_lt_two_pow (Nat.lt_of_lt_of_le (getE_lt ..) hp)]
  · rw [setElems_singleton]
    exact Laws.vr_setV_other t hq _

/-! ### Active elements (R175, R176, R202, R392) -/

theorem upto_eq_range' : ∀ a n : Nat, upto a n = List.range' a n
  | _, 0 => rfl
  | a, n + 1 => by rw [upto, upto_eq_range' (a + 1) n, List.range'_succ]

theorem upto_zero_eq_range (n : Nat) : upto 0 n = List.range n := by rw [upto_eq_range', List.range_eq_range']

theorem vl_eq (t : Strand) : t.vl = (t.c.vl.extractLsb' 0 10).toNat := (toNat_extractLsb' ..).symm

theorem begun_iff (t : Strand) (i : Nat) : t.begun i = true ↔
    (if (t.c.sstatus.getLsbD 3 && !t.c.sstatus.getLsbD 2) = true then ((t.c.tlg.getD (i % t.grant / 16) 0).extractLsb' 0 10).toNat
      else (t.c.vstart.extractLsb' 0 10).toNat) ≤ i := by
  simp only [toNat_extractLsb']
  unfold Strand.begun
  show (if (t.c.sstatus.getLsbD 3 && !t.c.sstatus.getLsbD 2) = true then _ else _) = true ↔ _
  split <;> simp only [decide_eq_true_eq] <;> rfl

theorem maskBit_iff (t : Strand) (i : Nat) : t.maskBit i = true ↔
    (t.c.vm.getLsbD 5 = true → Nat.testBit (t.elem (t.c.vm.extractLsb' 0 5) i) 0 = true) := by
  rw [Strand.maskBit, Nat.testBit_zero]
  cases t.c.vm.getLsbD 5 <;> simp

theorem activeElements : ActiveElements := by
  intro t byCounter start
  have ha : t.active = (List.range t.vl).filter (fun i => t.begun i && t.maskBit i) := by rw [Strand.active, upto_zero_eq_range]
  refine ⟨fun i => ?_, ?_⟩
  · rw [ha, List.mem_filter, List.mem_range, Bool.and_eq_true, begun_iff, maskBit_iff, vl_eq]
    exact and_left_comm
  · rw [ha]
    exact List.pairwise_lt_range.filter _

/-! ### Element-wise instructions without streams (R202, R206) -/

theorem stream_none {s : State} (h : Plain s) (r : Reg) : s.cur.stream r = none := by
  rw [Strand.stream]
  split
  · exact HaltRules.streams_none h.1 _
  · rfl

theorem source_plain {s : State} (h : Plain s) (r : Reg) (i : Nat) : s.cur.source 0 r i = s.cur.elem r i := by
  simp only [Strand.source, stream_none h r]

/-- The strand once the waits of the issue stage are over. -/
def issued (t : Strand) : Strand := { t with stall := none, due := none, blockedOn := none }

/-- The end of an instruction that has written elements and raised flags, where no register is a stream. -/
theorem writeBack_plain {s : State} (h : Plain s) (d : Reg) (es : List (Nat × Nat)) (fl : FFlags) :
    let w := State.writeBack { s with cur := issued s.cur } d es fl
    .next (State.adv { w with cur := w.cur.vdone }) =
      finished s ({ s.cur with c := { s.cur.c with fcsr := s.cur.c.fcsr ||| fl.setWidth 64 } }.setElems d es) := by
  have ho : (issued s.cur).outFlags d es = 0 := by
    have hs : (issued s.cur).stream d = none := stream_none h d
    simp only [Strand.outFlags, hs]
  have hw : State.writeBack { s with cur := issued s.cur } d es fl = State.writePart { s with cur := issued s.cur } d es fl :=
    Laws.writeGroup_plain (s := State.writePart { s with cur := issued s.cur } d es fl) (stream_none h d)
  intro w
  have hfl : fl ||| (0 : FFlags) = fl := BitVec.or_zero
  rw [show w = _ from hw, State.writePart]
  simp only [ho, hfl]
  rfl

/-- Without streams an element-wise instruction writes its active elements and goes on (R202). -/
theorem elementWise_lanes {s : State} (h : Plain s) (srcs : List Reg) (d : Reg) (op : (Reg → Nat → Nat) → Nat → Nat × FFlags) :
    s.elementWise srcs d op = lanes s d (op s.cur.elem) := by
  have hsrc : (fun r i => s.cur.source 0 r i) = s.cur.elem := funext fun r => funext fun i => source_plain h r i
  rw [Laws.elementWise_plain (stream_none h) h.2, hsrc]
  refine (writeBack_plain h d _ _).trans ?_
  rw [lanes]
  simp only [List.map_map, List.foldl_map]
  rfl

end Sys2Proof.ElementRules
end

section
/-! PROOF. The elements of the VINT instructions as bit vectors of the current width (R211, R212), and what such an instruction leaves. -/

namespace Sys2Proof.VintRules

open Machine Claim CsrRules VectorConfig ElementRules

/-! ### Numbers as bit vectors -/

section
variable {w x y : Nat} (hw : 0 < w) (hx : x < 2 ^ w) (hy : y < 2 ^ w)

theorem ofInt_eq (w : Nat) (z : Int) : ofInt w z = (BitVec.ofInt w z).toNat := (BitVec.toNat_ofInt z).symm

include hx in
theorem toNat_ofNat_of_lt : (BitVec.ofNat w x).toNat = x := by rw [BitVec.toNat_ofNat, Nat.mod_eq_of_lt hx]

include hw hx in
theorem toInt_eq : toInt w x = (BitVec.ofNat w x).toInt := by
  have h2 : 2 ^ w = 2 * 2 ^ (w - 1) := by rw [← Nat.pow_succ', Nat.succ_eq_add_one, Nat.sub_add_cancel hw]
  rw [BitVec.toInt_eq_toNat_cond, toNat_ofNat_of_lt hx, toInt]
  by_cases h : x < 2 ^ (w - 1)
  · rw [if_pos h, if_pos (by omega)]
  · rw [if_neg h, if_neg (by omega)]

include hx hy in
theorem ofNat_eq_iff : BitVec.ofNat w x = BitVec.ofNat w y ↔ x = y := by
  refine ⟨fun h => ?_, fun h => by rw [h]⟩
  have := congrArg BitVec.toNat h
  rwa [toNat_ofNat_of_lt hx, toNat_ofNat_of_lt hy] at this

include hw in
theorem bit01_eq {p : Prop} [Decidable p] : bit01 (decide p) = (truth w p).toNat := by
  have h1 : 1 < 2 ^ w := Nat.one_lt_two_pow (by omega)
  unfold truth
  by_cases h : p
  · rw [if_pos h, decide_eq_true h, BitVec.toNat_ofNat, Nat.mod_eq_of_lt h1]; rfl
  · rw [if_neg h, decide_eq_false h, BitVec.toNat_ofNat]; rfl

theorem clampS_eq (w : Nat) (z : Int) : clampS w z = (BitVec.ofInt w (clamp (-(2 ^ (w - 1))) (2 ^ (w - 1) - 1) z)).toNat := by
  have h1 : 1 ≤ 2 ^ (w - 1) := Nat.one_le_two_pow
  have hhi : ((2 ^ (w - 1) - 1 : Nat) : Int) = 2 ^ (w - 1) - 1 := by rw [Nat.cast_sub h1]; simp
  have hlo : -((2 ^ (w - 1) : Nat) : Int) = -(2 ^ (w - 1)) := by simp
  have hpos : (0 : Int) < 2 ^ (w - 1) := by positivity
  rw [clampS, ofInt_eq]
  simp only [hhi, hlo]
  congr 2
  unfold clamp
  split
  · omega
  · split <;> omega

end

/-- What an element function computes is the bit-vector function `f` on elements below 2^w. -/
def Computes (op : Nat → Nat → Nat → Nat) (f : (w : Nat) → BitVec w → BitVec w → BitVec w) : Prop :=
  ∀ w x y : Nat, 0 < w → x < 2 ^ w → y < 2 ^ w → op w x y = (f w (BitVec.ofNat w x) (BitVec.ofNat w y)).toNat

/-! ### The rows of R211 -/

theorem elVadd_computes : Computes elVadd (fun _ a b => a + b) := fun w x y _ _ _ => by
  beta_reduce
  rw [elVadd, ← BitVec.ofNat_add, BitVec.toNat_ofNat]

theorem elVmul_computes : Computes elVmul (fun _ a b => a * b) := fun w x y _ _ _ => by
  beta_reduce
  rw [elVmul, ← BitVec.ofNat_mul, BitVec.toNat_ofNat]

theorem elVsub_computes : Computes elVsub (fun _ a b => a - b) := fun w x y _ _ _ => by
  beta_reduce
  have h : BitVec.ofInt w ((x : Int) - y) + BitVec.ofNat w y = BitVec.ofNat w x := by
    rw [← BitVec.ofInt_natCast w y, ← BitVec.ofInt_add, Int.sub_add_cancel, BitVec.ofInt_natCast]
  rw [elVsub, ofInt_eq, ← h, BitVec.add_sub_cancel]

theorem elVaddSat_computes :
    Computes elVaddSat (fun w a b => BitVec.ofInt w (clamp (-(2 ^ (w - 1))) (2 ^ (w - 1) - 1) (a.toInt + b.toInt))) :=
  fun w x y hw hx hy => by
  beta_reduce
  rw [elVaddSat, clampS_eq, toInt_eq hw hx, toInt_eq hw hy]

theorem elVsubSat_computes :
    Computes elVsubSat (fun w a b => BitVec.ofInt w (clamp (-(2 ^ (w - 1))) (2 ^ (w - 1) - 1) (a.toInt - b.toInt))) :=
  fun w x y hw hx hy => by
  beta_reduce
  rw [elVsubSat, clampS_eq, toInt_eq hw hx, toInt_eq hw hy]

theorem elVaddUsat_computes : Computes elVaddUsat (fun w a b => BitVec.ofNat w (min (2 ^ w - 1) (a.toNat + b.toNat))) :=
  fun w x y _ hx hy => by
    beta_reduce
    have hlt : min (2 ^ w - 1) (x + y) < 2 ^ w := by omega
    rw [elVaddUsat, toNat_ofNat_of_lt hx, toNat_ofNat_of_lt hy, toNat_ofNat_of_lt hlt]
    exact Nat.min_comm ..

theorem elVsubUsat_computes :
    Computes elVsubUsat (fun w a b => if a.toNat < b.toNat then 0 else BitVec.ofNat w (a.toNat - b.toNat)) :=
  fun w x y _ hx hy => by
    beta_reduce
    rw [elVsubUsat, toNat_ofNat_of_lt hx, toNat_ofNat_of_lt hy]
    split
    · next h => exact (Nat.sub_eq_zero_of_le (Nat.le_of_lt h)).trans BitVec.toNat_zero.symm
    · rw [toNat_ofNat_of_lt (Nat.lt_of_le_of_lt (Nat.sub_le ..) hx)]

theorem elVmulh_computes : Computes elVmulh (fun w a b => BitVec.ofInt w (a.toInt * b.toInt / 2 ^ w)) := fun w x y hw hx hy => by
  beta_reduce
  rw [elVmulh, ofInt_eq, toInt_eq hw hx, toInt_eq hw hy]
  push_cast
  rfl

theorem elVmulhU_computes : Computes elVmulhU (fun w a b => BitVec.ofNat w (a.toNat * b.toNat / 2 ^ w)) := fun w x y _ hx hy => by
  beta_reduce
  have hlt : x * y / 2 ^ w < 2 ^ w := Nat.div_lt_of_lt_mul (Nat.mul_lt_mul'' hx hy)
  rw [elVmulhU, toNat_ofNat_of_lt hx, toNat_ofNat_of_lt hy, toNat_ofNat_of_lt hlt]

theorem elVand_computes : Computes elVand (fun _ a b => a &&& b) := fun w x y _ hx hy => by
  beta_reduce
  rw [elVand, BitVec.toNat_and, toNat_ofNat_of_lt hx, toNat_ofNat_of_lt hy]

theorem elVor_computes : Computes elVor (fun _ a b => a ||| b) := fun w x y _ hx hy => by
  beta_reduce
  rw [elVor, BitVec.toNat_or, toNat_ofNat_of_lt hx, toNat_ofNat_of_lt hy]

theorem elVxor_computes : Computes elVxor (fun _ a b => a ^^^ b) := fun w x y _ hx hy => by
  beta_reduce
  rw [elVxor, BitVec.toNat_xor, toNat_ofNat_of_lt hx, toNat_ofNat_of_lt hy]

theorem elVsll_computes : Computes elVsll (fun w a b => a <<< (b.toNat % w)) := fun w x y _ hx hy => by
  beta_reduce
  rw [elVsll, BitVec.toNat_shiftLeft, toNat_ofNat_of_lt hx, toNat_ofNat_of_lt hy, Nat.shiftLeft_eq]

theorem elVsrl_computes : Computes elVsrl (fun w a b => a >>> (b.toNat % w)) := fun w x y _ hx hy => by
  beta_reduce
  rw [elVsrl, BitVec.toNat_ushiftRight, toNat_ofNat_of_lt hx, toNat_ofNat_of_lt hy, Nat.shiftRight_eq_div_pow]

theorem elVsra_computes : Computes elVsra (fun w a b => a.sshiftRight (b.toNat % w)) := fun w x y hw hx hy => by
  beta_reduce
  rw [elVsra, ofInt_eq, toInt_eq hw hx, toNat_ofNat_of_lt hy, BitVec.sshiftRight, Int.shiftRight_eq_div_pow]

theorem elVmin_computes : Computes elVmin (fun w a b => BitVec.ofInt w (min a.toInt b.toInt)) := fun w x y hw hx hy => by
  beta_reduce
  rw [elVmin, toInt_eq hw hx, toInt_eq hw hy]
  split
  · next h => rw [min_eq_right (le_of_lt h), BitVec.ofInt_toInt, toNat_ofNat_of_lt hy]
  · next h => rw [min_eq_left (le_of_not_gt h), BitVec.ofInt_toInt, toNat_ofNat_of_lt hx]

theorem elVmax_computes : Computes elVmax (fun w a b => BitVec.ofInt w (max a.toInt b.toInt)) := fun w x y hw hx hy => by
  beta_reduce
  rw [elVmax, toInt_eq hw hx, toInt_eq hw hy]
  split
  · next h => rw [max_eq_right (le_of_lt h), BitVec.ofInt_toInt, toNat_ofNat_of_lt hy]
  · next h => rw [max_eq_left (le_of_not_gt h), BitVec.ofInt_toInt, toNat_ofNat_of_lt hx]

theorem elVminu_computes : Computes elVminu (fun w a b => BitVec.ofNat w (min a.toNat b.toNat)) := fun w x y _ hx hy => by
  beta_reduce
  rw [toNat_ofNat_of_lt hx, toNat_ofNat_of_lt hy, toNat_ofNat_of_lt (by omega)]; rfl

theorem elVmaxu_computes : Computes elVmaxu (fun w a b => BitVec.ofNat w (max a.toNat b.toNat)) := fun w x y _ hx hy => by
  beta_reduce
  rw [toNat_ofNat_of_lt hx, toNat_ofNat_of_lt hy, toNat_ofNat_of_lt (by omega)]; rfl

theorem elVeq_computes : Computes elVeq (fun w a b => truth w (a = b)) := fun w x y hw hx hy => by
  beta_reduce
  rw [elVeq, bit01_eq hw]; simp only [ofNat_eq_iff hx hy]

theorem elVne_computes : Computes elVne (fun w a b => truth w (a ≠ b)) := fun w x y hw hx hy => by
  beta_reduce
  rw [elVne, bit01_eq hw]; simp only [ne_eq, ofNat_eq_iff hx hy]

theorem elVlt_computes : Computes elVlt (fun w a b => truth w (a.toInt < b.toInt)) := fun w x y hw hx hy => by
  beta_reduce
  rw [elVlt, bit01_eq hw, toInt_eq hw hx, toInt_eq hw hy]

theorem elVltu_computes : Computes elVltu (fun w a b => truth w (a.toNat < b.toNat)) := fun w x y hw hx hy => by
  beta_reduce
  rw [elVltu, bit01_eq hw, toNat_ofNat_of_lt hx, toNat_ofNat_of_lt hy]

theorem elVle_computes : Computes elVle (fun w a b => truth w (a.toInt ≤ b.toInt)) := fun w x y hw hx hy => by
  beta_reduce
  rw [elVle, bit01_eq hw, toInt_eq hw hx, toInt_eq hw hy]

/-! ### The three forms (R202) -/

theorem ew_pos (t : Strand) : 0 < t.ew := Nat.mul_pos (by decide) (Nat.two_pow_pos _)

/-- A binary VINT instruction whose second operand reads as `f`. -/
theorem vi2_lanes {s : State} (hp : Plain s) {op : Nat → Nat → Nat → Nat} {f : (w : Nat) → BitVec w → BitVec w → BitVec w}
    (hop : Computes op f) (d a : Reg) {b : VOp} {y : Nat → BitVec s.cur.ew}
    (hy : ∀ i, s.operand b s.cur.elem i = (y i).toNat) :
    s.vi2 d a b op = lanes s d (fun k => ((f s.cur.ew (el s a k) (y k)).toNat, 0)) := by
  rw [State.vi2, elementWise_lanes hp]
  congr 1
  funext k
  have helem : s.cur.elem a k < 2 ^ s.cur.ew := getE_lt ..
  rw [hy, hop s.cur.ew _ _ (ew_pos _) helem (y k).isLt, BitVec.ofNat_toNat, BitVec.setWidth_eq]
  rfl

theorem operand_v (s : State) (b : Reg) (i : Nat) : s.operand (.v b) s.cur.elem i = (el s b i).toNat :=
  (toNat_ofNat_of_lt (getE_lt ..)).symm

theorem operand_x (s : State) (b : Reg) (i : Nat) : s.operand (.x b) s.cur.elem i = ((s.rx b).setWidth s.cur.ew).toNat :=
  (BitVec.toNat_setWidth ..).symm

theorem operand_i (s : State) (i : BitVec 5) (k : Nat) : s.operand (.i i) s.cur.elem k = (i.signExtend s.cur.ew).toNat := rfl

/-- What R211 says of a row: its three forms, element by element. -/
def RowResults (row : IntRow) : Prop := ∀ (s : State) (d a b : Reg) (i : BitVec 5), Plain s →
  exec (row.1 d a b) s = lanes s d (fun k => ((row.2.2.2 s.cur.ew (el s a k) (el s b k)).toNat, 0)) ∧
  exec (row.2.1 d a b) s = lanes s d (fun k => ((row.2.2.2 s.cur.ew (el s a k) ((s.rx b).setWidth s.cur.ew)).toNat, 0)) ∧
  exec (row.2.2.1 d a i) s = lanes s d (fun k => ((row.2.2.2 s.cur.ew (el s a k) (i.signExtend s.cur.ew)).toNat, 0))

theorem rowResults {vv vx : Reg → Reg → Reg → Instr} {vi : Reg → Reg → BitVec 5 → Instr} {op : Nat → Nat → Nat → Nat}
    {f : (w : Nat) → BitVec w → BitVec w → BitVec w} (hop : Computes op f)
    (hv : ∀ s d a b, exec (vv d a b) s = s.vi2 d a (.v b) op := by exact fun _ _ _ _ => rfl)
    (hx : ∀ s d a b, exec (vx d a b) s = s.vi2 d a (.x b) op := by exact fun _ _ _ _ => rfl)
    (hi : ∀ s d a i, exec (vi d a i) s = s.vi2 d a (.i i) op := by exact fun _ _ _ _ => rfl) : RowResults (vv, vx, vi, f) := by
  intro s d a b i hp
  refine ⟨?_, ?_, ?_⟩
  · rw [hv]; exact vi2_lanes hp hop d a (operand_v s b)
  · rw [hx]; exact vi2_lanes hp hop d a (operand_x s b)
  · rw [hi]; exact vi2_lanes hp hop d a (operand_i s i)

theorem vectorIntegerResults : VectorIntegerResults := by
  show ∀ row ∈ intTable, RowResults row
  unfold intTable
  simp only [List.forall_mem_cons]
  exact ⟨rowResults elVadd_computes, rowResults elVaddSat_computes, rowResults elVaddUsat_computes,
    rowResults elVsub_computes, rowResults elVsubSat_computes,
    rowResults elVsubUsat_computes, rowResults elVmul_computes, rowResults elVmulh_computes, rowResults elVmulhU_computes,
    rowResults elVand_computes, rowResults elVor_computes,
    rowResults elVxor_computes, rowResults elVsll_computes, rowResults elVsrl_computes,
    rowResults elVsra_computes, rowResults elVmin_computes, rowResults elVmax_computes,
    rowResults elVminu_computes, rowResults elVmaxu_computes, rowResults elVeq_computes,
    rowResults elVne_computes, rowResults elVlt_computes, rowResults elVltu_computes,
    rowResults elVle_computes, fun _ h => absurd h List.not_mem_nil⟩

/-! ### What an element-wise integer instruction leaves (R176, R202, R203, R392) -/

/-- The strand before its end: the elements written. -/
theorem lanes_noFlags (s : State) (d : Reg) (f : Nat → Nat) :
    lanes s d (fun k => (f k, 0)) = finished s (s.cur.setElems d (s.cur.active.map (fun k => (k, f k)))) := by
  have hfl : ∀ l : List Nat, (l.map (fun _ => (0 : FFlags))).foldl (· ||| ·) 0 = 0 := by
    intro l
    induction l with
    | nil => rfl
    | cons a l ih => rw [List.map_cons, List.foldl_cons, show (0 : FFlags) ||| 0 = 0 from rfl, ih]
  have hc : s.cur.c.fcsr ||| (0 : FFlags).setWidth 64 = s.cur.c.fcsr := BitVec.or_zero
  rw [lanes]
  simp only [hfl, hc]

/-- Where the counters decide, the end clears TLGV and every VALID; it clears VSTART in every case (R176, R392). -/
theorem vdone_resuming {t : Strand} (h : t.resuming = true) : t.vdone.c =
    { t.c with vstart := 0, sstatus := setField t.c.sstatus 3 1 0, tlg := t.c.tlg.map (fun g => setField g 63 1 0) } := by
  rw [Strand.vdone, if_pos h]

theorem vdone_notResuming {t : Strand} (h : t.resuming = false) : t.vdone.c = { t.c with vstart := 0 } := by
  rw [Strand.vdone, h]
  rfl

theorem vdone_c (t : Strand) : t.vdone.c.vstart = 0 ∧ t.vdone.c.fcsr = t.c.fcsr := by
  unfold Strand.vdone
  split <;> exact ⟨rfl, rfl⟩

theorem vdone_frame (t : Strand) : t.vdone.pc = t.pc ∧ t.vdone.x = t.x ∧ t.vdone.v = t.v := by
  unfold Strand.vdone
  split <;> exact ⟨rfl, rfl, rfl⟩

theorem vectorCompletion : VectorCompletion := by
  intro row hrow s d a b hp
  have hx := (vectorIntegerResults row hrow s d a b 0 hp).1
  rw [lanes_noFlags s d (fun k => (row.2.2.2 s.cur.ew (el s a k) (el s b k)).toNat)] at hx
  generalize hes : s.cur.active.map _ = es at hx
  let u : Strand := { s.cur.setElems d es with stall := none, due := none, blockedOn := none }
  have hres : u.resuming = (s.cur.c.sstatus.getLsbD 3 && !s.cur.c.sstatus.getLsbD 2) := rfl
  obtain ⟨hpc, hxs, hv⟩ := vdone_frame u
  obtain ⟨hvstart, hfcsr⟩ := vdone_c u
  have hvr (r : Reg) : u.vdone.vr r = (s.cur.setElems d es).vr r := by rw [Strand.vr, hv]; rfl
  refine ⟨_, hx, ?_, ?_, hxs, rfl, rfl, fun r hr => ?_, ?_, fun hact => ?_, fun h3 h2 => ?_, fun h => ?_⟩
  · exact hvstart
  · show u.vdone.pc + 4 = _
    rw [hpc]; rfl
  · exact (hvr r).trans (Laws.vr_setV_other _ hr _)
  · exact hfcsr
  · rw [hact] at hes
    subst hes
    exact (hvr d).trans (Laws.vr_setV_same ..)
  · have hc := vdone_resuming (t := u) (by rw [hres, h3, h2]; rfl)
    refine ⟨?_, fun h => ?_⟩
    · show u.vdone.c.sstatus.getLsbD 3 = false
      rw [hc, getLsbD_setField (by omega), if_pos (by omega), Nat.zero_testBit]
    · show (u.vdone.c.tlg[h]).getLsbD 63 = false
      rw [hc]
      simp only [Fin.getElem_fin, Vector.getElem_map]
      rw [getLsbD_setField (by omega), if_pos (by omega), Nat.zero_testBit]
  · have hn : (s.cur.c.sstatus.getLsbD 3 && !s.cur.c.sstatus.getLsbD 2) = false := by
      rcases h with h | h
      · rw [h, Bool.false_and]
      · rw [h, Bool.not_true, Bool.and_false]
    exact vdone_notResuming (t := u) (hres.trans hn)

/-- Settles O20: the placement of elements, the active ones, and what every binary VINT row leaves. -/
theorem vectorElements : Obligations.VectorElements := ⟨elementPlacement, activeElements, vectorCompletion⟩

/-! ### VID, VBCAST and VMERGE (R212) -/

theorem vmerge_plain {s : State} (hp : Plain s) (d a : Reg) (b : VOp) :
    s.vmerge d a b = finished s (s.cur.setElems d (((List.range s.cur.vl).filter s.cur.begun).map (fun k =>
      (k, if Nat.testBit (s.cur.elem (s.cur.c.vm.extractLsb' 0 5) k) 0 then s.operand b s.cur.elem k else s.cur.elem a k)))) := by
  have hsrc : (fun r i => s.cur.source 0 r i) = s.cur.elem := funext fun r => funext fun i => source_plain hp r i
  have hport (l : List Nat) :
      State.portion { s with cur := { s.cur with stall := none, due := none, blockedOn := none } } l = (l, []) := by
    have hlim : State.limit { s with cur := { s.cur with stall := none, due := none, blockedOn := none } } = none := hp.2
    simp only [State.portion, hlim]
  have hfl : s.cur.c.fcsr ||| (0 : FFlags).setWidth 64 = s.cur.c.fcsr := BitVec.or_zero
  have hend (es : List (Nat × Nat)) := writeBack_plain hp d es 0
  rw [hfl] at hend
  rw [State.vmerge, Laws.withOperands_plain (stream_none hp), hsrc, ← hend]
  simp only [hport, Nat.testBit_zero, ← upto_zero_eq_range]
  rfl

theorem vbcast_plain {s : State} (hp : Plain s) (d : Reg) (b : VOp) :
    s.vbcast d b = lanes s d (fun k => (s.operand b s.cur.elem k, 0)) := elementWise_lanes hp _ d _

theorem vectorMovesAndMerge : VectorMovesAndMerge := by
  intro s d a b i hp sel all merged
  refine ⟨?_, ?_, ?_, ?_, ?_, ?_, ?_⟩
  · show s.elementWise [] d (fun _ i => (i % 2 ^ s.cur.ew, 0)) = _
    exact elementWise_lanes hp [] d _
  · show s.vbcast d (.v b) = _
    exact vbcast_plain hp d _
  · show s.vbcast d (.x b) = _
    rw [vbcast_plain hp]
    simp only [operand_x]
  · show s.vbcast d (.i i) = _
    exact vbcast_plain hp d _
  · show s.vmerge d a (.v b) = _
    exact vmerge_plain hp d a _
  · show s.vmerge d a (.x b) = _
    rw [vmerge_plain hp]
    simp only [operand_x]
    rfl
  · show s.vmerge d a (.i i) = _
    exact vmerge_plain hp d a _

/-- Settles O21: each row's element function computes its bit-vector function, and so do the three forms; VID, VBCAST and VMERGE. -/
theorem vectorIntegers : Obligations.VectorIntegers := ⟨vectorIntegerResults, vectorMovesAndMerge⟩

end Sys2Proof.VintRules
end

section
/-! PROOF. Deadlines, statuses and waits in the words of the claims (R281 to R290), and the object lines' fields (R294, R298). -/

namespace Sys2Proof.WaitRules

open Machine Claim CsrRules VectorConfig HaltRules

/-! ### Deadlines (R281) -/

theorem field_zero (w : Word) (len : Nat) : field w 0 len = w.toNat % 2 ^ len := by
  rw [field, Nat.pow_zero, Nat.div_one]

/-- The deadline formed at issue in the claims' words. -/
theorem formed_eq (s : State) (op : Word) (h : s.cur.due = none) :
    s.formed op = (⟨onRun s op, effective s op⟩, polls s op) := by
  simp only [State.formed, onRun, polls, effective, issued, clockOf, h, field_zero, State.clock, State.now, Bool.decide_or]
  rfl

theorem dueOf_eq (s : State) (op : Word) : s.dueOf op = (⟨onRun s op, effective s op⟩, polls s op) := by
  cases h : s.cur.due with
  | none => rw [State.dueOf, h, Option.getD_none, formed_eq s op h]
  | some q => simp only [State.dueOf, onRun, effective, polls, h, Option.getD_some]

theorem deadline_eq (s : State) (op : Word) : s.deadline op = ⟨onRun s op, effective s op⟩ := by rw [State.deadline, dueOf_eq]

theorem isPoll_eq (s : State) (op : Word) : s.isPoll op = polls s op := by rw [State.isPoll, dueOf_eq]

/-! ### Statuses and ends (R283, R285) -/

theorem status_eq (o d v : Nat) : status o d v = stat o d v := by
  rw [status, stat]
  congr 1
  omega

theorem countTimeout_eq (s : State) (st : Word) (poll : Bool) :
    countTimeout s.cur.c.tocnt s.core.escal st poll = (tocntAfter s st poll, decide (poll = false ∧ (st.extractLsb' 0 3 = 1 ∨ st.extractLsb' 0 3 = 2) ∧
      s.cur.c.tocnt.toNat % 2 ^ 32 ≠ 2 ^ 32 - 1 ∧ s.core.escal.toNat % 2 ^ 32 = s.cur.c.tocnt.toNat % 2 ^ 32 + 1)) := by
  have ho (k : Nat) (hk : k < 8) : st.extractLsb' 0 3 = BitVec.ofNat 3 k ↔ field st 0 3 = k := by
    rw [← toNat_extractLsb', ← BitVec.toNat_inj, BitVec.toNat_ofNat, Nat.mod_eq_of_lt (by omega)]
  have h12 : (st.extractLsb' 0 3 = 1 ∨ st.extractLsb' 0 3 = 2) ↔ (field st 0 3 = 1 ∨ field st 0 3 = 2) := or_congr (ho 1 (by decide)) (ho 2 (by decide))
  cases poll with
  | true => simp [countTimeout, tocntAfter]
  | false =>
    simp only [countTimeout, tocntAfter, h12, Bool.false_eq_true, if_false, true_and, field_zero s.cur.c.tocnt, field_zero s.core.escal]
    split
    next h =>
      have := Nat.mod_lt s.cur.c.tocnt.toNat (show 0 < 2 ^ 32 by decide)
      have := Nat.mod_lt s.core.escal.toNat (show 0 < 2 ^ 32 by decide)
      refine Prod.ext rfl ?_
      simp only [h, true_and, ← Bool.decide_and, decide_eq_decide, Nat.min_def]
      split <;> omega
    next h => simp [h]

/-- The end of a deadline-taking instruction in the claims' words. -/
theorem finish_ended (s : State) (d : Reg) (st : Word) (poll : Bool) : (.next (s.finish d st poll) : Out) = ended s d st poll := by
  have hx : s.cur.wx d st = { s.cur with x := if d = 0 then s.cur.x else s.cur.x.set d.toNat st d.isLt } := by
    rw [Strand.wx]; split <;> rfl
  have ht : (s.wx d st).cur.c.tocnt = s.cur.c.tocnt := by rw [State.wx, hx]
  have hn : countTimeout (s.wx d st).cur.c.tocnt (s.wx d st).core.escal st poll = countTimeout s.cur.c.tocnt s.core.escal st poll := by
    rw [ht]; rfl
  simp only [State.finish, countTimeout_eq, State.setC, State.wx, hx, ended, decide_eq_true_eq]
  split <;> rfl

/-- The start of a wait in the claims' words. -/
theorem startWait_waits (s : State) (i : Instr) (d : Reg) (op : Word) (w : WaitFor) (r : Option Nat) :
    (.next (s.startWait (encode i) d (s.deadline op) w r) : Out) = waits s i d op w r := by
  rw [deadline_eq]; rfl

/-! ### Settled strands (R89, R93, R237) -/

theorem setIfInBounds_getD {α : Type} {n : Nat} (v : Vector α n) (i : Nat) (x : α) : v.setIfInBounds i (v.getD i x) = v := by
  ext j hj
  rw [Vector.getElem_setIfInBounds]
  split
  next h => subst h; simp [Vector.getD, hj]
  next => rfl

/-- A stream with no element pending places none. -/
theorem placeStream_settled {s : State} (h : ∀ o ∈ s.cur.streams.toList, ∀ b, o = some b → b.pend = []) (i : Nat) : s.placeStream i = s := by
  rw [State.placeStream]
  split
  next => rfl
  next b hb =>
    have hi : i < 4 := by
      by_contra hi
      simp [Vector.getD, hi] at hb
    have hp : b.pend = [] := by
      refine h (some b) ?_ b rfl
      rw [← hb]
      simp [Vector.getD, hi]
    have hs : some { b with pend := [] } = s.cur.streams.getD i none := by rw [hb, ← hp]
    simp only [hp, List.foldl_nil, Strand.setStream, hs, setIfInBounds_getD]

theorem placeStreams_settled {s : State} (h : ∀ o ∈ s.cur.streams.toList, ∀ b, o = some b → b.pend = []) : s.placeStreams = s := by
  simp only [State.placeStreams, upto, List.foldl_cons, List.foldl_nil, placeStream_settled h]

theorem turnLog_settled {s : State} (h : Settled s) (lvl : Nat) (spent : Bool) : s.turnLog lvl spent = (0, true, s) := by
  obtain ⟨-, hw, hp, -, hi, ha, -⟩ := h
  simp [State.turnLog, placeStreams_settled hp, hw, ackAll_none hi ha]

/-- A settled strand's object is read twice with nothing to turn between (R291). -/
theorem turnThen_settled {s s1 s2 : State} {va : Word} {type key : Nat} {l : Line} (h : Settled s) (hr : ReadsTwice s s1 s2 va type key l)
    (word : InsnWord) (d : Reg) (op : Word) (k : State → Nat → Line → Out) : s.turnThen word d op va type k = k s2 key l := by
  obtain ⟨h1, he, h2, -⟩ := hr
  have hs : Settled s1 := by rw [he]; exact h
  have hm : s1.me = s.me := by rw [he]; rfl
  have heng : s1.engStores = false := hs.2.2.2.1
  simp only [State.turnThen, h1, heng, State.turning, Bool.not_false, if_true, turnLog_settled hs, hm, h2, Nat.lt_irrefl, if_false]

/-- A home with no waiter has none to serve. -/
theorem serve_idle {s : State} (h : s.homes.waiters = []) (obj : Nat) : s.serve obj = s := by
  simp [State.serve, State.serveRounds, h]

theorem register_idle {s : State} (h : s.homes.waiters = []) (obj : Nat) : s.register obj = (true, registered s obj) := by
  simp [State.register, State.registerAs, State.waitersFull, h, registered]

/-! ### Fields of an object line (R294, R298) -/

theorem lfield_eq (d : Line) (off n : Nat) : lfield d off n = fld d off n := by
  simp [lfield, fld, Nat.shiftRight_eq_div_pow]

theorem qCount_eq (l : Line) : qCount l = held l := by simp only [qCount, held, lfield_eq]

theorem qCap_eq (l : Line) : qCap l = 2 ^ fld l 2 1 := by rw [qCap, lfield_eq]

theorem qValue_eq (l : Line) : qValue l = headTail l := by simp only [qValue, headTail, lfield_eq]

theorem getLsbD_bitMask {off n : Nat} (h : off + n ≤ 64) (i : Nat) :
    (bitMask off n).getLsbD i = (decide (8 * off ≤ i) && decide (i < 8 * (off + n))) := by
  rw [bitMask, BitVec.getLsbD_shiftLeft, BitVec.getLsbD_ofNat, Nat.testBit_two_pow_sub_one]
  grind

theorem getLsbD_lset {off n : Nat} (h : off + n ≤ 64) (d : Line) (v i : Nat) :
    (lset d off n v).getLsbD i = if 8 * off ≤ i ∧ i < 8 * (off + n) then v.testBit (i - 8 * off) else d.getLsbD i := by
  rw [lset, BitVec.getLsbD_or, BitVec.getLsbD_and, BitVec.getLsbD_and, BitVec.getLsbD_not, getLsbD_bitMask h, BitVec.getLsbD_shiftLeft, BitVec.getLsbD_ofNat]
  by_cases hi : i < 512
  · split <;> grind
  · rw [BitVec.getLsbD_of_ge d i (by omega)]
    grind

theorem testBit_fld (d : Line) (off n i : Nat) : (fld d off n).testBit i = (decide (i < 8 * n) && d.getLsbD (8 * off + i)) := by
  rw [fld, BitVec.testBit_toNat, BitVec.getLsbD_extractLsb']

theorem fld_lset_same {off n : Nat} (h : off + n ≤ 64) (d : Line) {v : Nat} (hv : v < 2 ^ (8 * n)) : fld (lset d off n v) off n = v := by
  apply Nat.eq_of_testBit_eq
  intro i
  rw [testBit_fld, getLsbD_lset h]
  by_cases hi : i < 8 * n
  · rw [if_pos (by omega), Nat.add_sub_cancel_left, decide_eq_true hi, Bool.true_and]
  · rw [decide_eq_false hi, Bool.false_and, Nat.testBit_lt_two_pow (Nat.lt_of_lt_of_le hv (Nat.pow_le_pow_right (by decide) (by omega)))]

theorem fld_lset_other {off n o m : Nat} (h : off + n ≤ 64) (ho : o + m ≤ off ∨ off + n ≤ o) (d : Line) (v : Nat) : fld (lset d off n v) o m = fld d o m := by
  apply Nat.eq_of_testBit_eq
  intro i
  rw [testBit_fld, testBit_fld]
  by_cases hi : i < 8 * m
  · rw [getLsbD_lset h, if_neg (by omega)]
  · simp [hi]

/-! ### What operations on objects leave alone (R289, R298) -/

/-- What no operation at a home object changes. -/
def desk (s : State) : Strand × List Strand × Homes × Starter × BitVec 63 × Sched × Word × Word :=
  (s.cur, s.strands, s.homes, s.starter, s.dclkw, s.sched, s.core.dlcap, s.core.escal)

theorem decodes_desk (s : State) (l source : Nat) (writer : BitVec 12) : desk (s.decodes l source writer) = desk s := by
  grind [State.decodes, desk]

theorem invalidateAll_desk (s : State) (first last : Nat) : desk (s.invalidateAll first last) = desk s := rfl

theorem setLine_desk (s : State) (m : List Host.Cell) (t : List (Nat × Tag)) : desk { s with mem := m, tags := t } = desk s := rfl

theorem putObj_desk (s : State) (key : Nat) (d : Line) : desk (s.putObj key d) = desk s := by
  rw [State.putObj]
  split
  next => rfl
  next => exact (invalidateAll_desk ..).trans (setLine_desk ..)

theorem putEntry_desk (s : State) (rk : Nat) (v : Word) : desk (s.putEntry rk v) = desk s := by
  rw [State.putEntry]
  split
  next => exact setLine_desk ..
  next => exact (invalidateAll_desk ..).trans (setLine_desk ..)

theorem decodeRing_desk (s : State) (a : Agent) (ks : List Nat) : desk (s.decodeRing a ks) = desk s :=
  TrapRules.foldl_keeps desk _ (fun _ _ => decodes_desk ..) ks s

theorem qPush_desk (s : State) (a : Agent) (key : Nat) (d : Line) (v : Word) : desk (s.qPush a key d v).2 = desk s := by
  rw [State.qPush]; grind [putObj_desk, putEntry_desk, decodes_desk]

theorem qPop_desk (s : State) (a : Agent) (key : Nat) (d : Line) : desk (s.qPop a key d).2 = desk s := by
  rw [State.qPop]; grind [putObj_desk, decodes_desk]

theorem qAppend_desk (s : State) (a : Agent) (key : Nat) (d : Line) (vs : List Word) : desk (s.qAppend a key d vs).2 = desk s := by
  have hf (u : State) (es : List (Nat × Word)) : desk (es.foldl (fun s e => s.putEntry e.1 e.2) u) = desk u :=
    TrapRules.foldl_keeps desk _ (fun _ _ => putEntry_desk ..) es u
  rw [State.qAppend]; grind [putObj_desk, decodeRing_desk]

end Sys2Proof.WaitRules
end

section
/-! PROOF. TASKADD, TASKTAKE and TASKSTEAL (R298, R300, R344). -/

namespace Sys2Proof.TaskRules

open Machine Claim CsrRules VectorConfig HaltRules WaitRules

/-! ### Waits on an object of a home with no waiter (R281, R290) -/

/-- A poll depends on the operand, the clocks, DLCAP and what the strand formed at issue alone (R281). -/
theorem polls_congr {s t : State} (hd : t.cur.due = s.cur.due) (hs : t.cur.stall = s.cur.stall) (hr : t.cur.c.dclkr = s.cur.c.dclkr)
    (hw : t.dclkw = s.dclkw) (hc : t.core.dlcap = s.core.dlcap) (op : Word) : polls t op = polls s op := by
  rw [polls, polls, effective, effective, issued, issued, clockOf, clockOf, hd, hs, hr, hw, hc]

theorem polls_desk {s t : State} (h : desk t = desk s) (op : Word) : polls t op = polls s op := by
  simp only [desk, Prod.mk.injEq] at h
  obtain ⟨hcur, -, -, -, hw, -, hc, -⟩ := h
  exact polls_congr (by rw [hcur]) (by rw [hcur]) (by rw [hcur]) hw hc op

theorem cur_desk {s t : State} (h : desk t = desk s) : t.cur = s.cur := congrArg (fun q => q.1) h

theorem homes_desk {s t : State} (h : desk t = desk s) : t.homes = s.homes := congrArg (fun q => q.2.2.1) h

theorem clearMask_nil (t : Strand) : t.clearMask [] = t := by
  have h (r : Reg) : t.setElems r [] = t := by
    simp only [Strand.setElems, writeElems, List.foldl_nil, Strand.setV, Strand.vr]
    congr 1
    exact Vector.set_getElem_self ..
  rw [Strand.clearMask, List.map_nil, h, ite_self]

section
variable {s t : State} {w : WaitFor} {e : WaitEnd} {obj : Nat} (word : InsnWord) (d : Reg) (op : Word) (timeout : State → WaitFor → WaitEnd × State)

/-- A wait whose condition holds ends with its status. -/
theorem objWait_done (ho : w.obj = some obj) (hi : t.homes.waiters = []) (hp : polls t op = polls s op) (ha : s.attemptObj s.me s.cur.c.widbase w = (.done e, t))
    (hn : appended w none = []) (hd : e.datum = none) (he : e.elems = none) :
    s.objWait word d op w timeout = ended t d e.status (polls s op) := by
  rw [State.objWait, State.objWaitOn]
  simp only [ha, hn, clearMask_nil, hd, he, Strand.takeEnd, ho, serve_idle hi, finish_ended, isPoll_eq, hp]

/-- A poll whose condition does not hold ends with the status of its timeout. -/
theorem objWait_poll (ho : w.obj = some obj) (hi : s.homes.waiters = []) (hp : polls s op = true) (ha : s.attemptObj s.me s.cur.c.widbase w = (.left w, s))
    (hn : appended w (some w) = []) (ht : timeout s w = (e, s)) (hb : e.bad = none) (hd : e.datum = none) (he : e.elems = none) :
    s.objWait word d op w timeout = ended s d e.status true := by
  rw [State.objWait, State.objWaitOn]
  simp only [ha, hn, clearMask_nil, ite_self, ho, serve_idle hi, isPoll_eq, hp, if_true, ht, hb, hd, he, Strand.takeEnd, finish_ended]

/-- Any other deadline registers the strand at the home. -/
theorem objWait_waits {i : Instr} (ho : w.obj = some obj) (hw : word = encode i) (hi : s.homes.waiters = []) (hp : polls s op = false)
    (ha : s.attemptObj s.me s.cur.c.widbase w = (.left w, s)) (hn : appended w (some w) = []) :
    s.objWait word d op w timeout = waits (registered s obj) i d op w none := by
  rw [State.objWait, State.objWaitOn]
  simp only [ha, hn, clearMask_nil, ite_self, ho, serve_idle hi, isPoll_eq, hp, Bool.false_eq_true, if_false, register_idle hi, if_true, hw,
    startWait_waits]

end

/-! ### Deques (R300) -/

theorem owns_iff (t : Strand) (l : Line) : t.owns l = true ↔ fld l 0x18 8 = t.c.launchid.toNat ∧ fld l 0x20 8 = t.id.first.toNat := by
  rw [Strand.owns, lfield_eq, lfield_eq, Bool.and_eq_true, decide_eq_true_eq, decide_eq_true_eq]

theorem notes_line {s t : State} (h : t = { s with mark := t.mark }) (n : Nat) : t.line n = s.line n := by rw [h]; rfl

theorem notes_desk {s t : State} (h : t = { s with mark := t.mark }) : desk t = desk s := by rw [h]; rfl

theorem notes_trans {s t u : State} (h : t = { s with mark := t.mark }) (h' : u = { t with mark := u.mark }) : u = { s with mark := u.mark } :=
  h'.trans (by rw [h])

theorem notes_settled {s t : State} (h : t = { s with mark := t.mark }) (hs : Settled s) : Settled t := by rw [h]; exact hs

section
variable {s s1 s2 s3 : State} {d a b c : Reg} {key : Nat} {l : Line}

/-- One who does not own the deque is refused (R300). -/
theorem taskadd_foreign (hs : Settled s) (h1 : ReadsTwice s s1 s2 (s.rx b) 4 key l) (ho : s.cur.owns l = false) :
    exec (.taskadd d a b c) s = trapped s1 0x187 (s.rx b) := by
  obtain ⟨hr, he, -, -⟩ := h1
  have hc : s1.cur = s.cur := by rw [he]
  change execTaskadd d a b c s = _
  rw [execTaskadd, preemptPoint_free hs.1.2]
  simp only [hr, hc, ho, Bool.not_false, if_true]
  rfl

theorem tasktake_foreign (hs : Settled s) (h1 : ReadsTwice s s1 s2 (s.rx b) 4 key l) (ho : s.cur.owns l = false) :
    exec (.tasktake d a b c) s = trapped s1 0x187 (s.rx b) := by
  obtain ⟨hr, he, -, -⟩ := h1
  have hc : s1.cur = s.cur := by rw [he]
  change execTasktake d a b c s = _
  rw [execTasktake, preemptPoint_free hs.1.2]
  simp only [hr, hc, ho, Bool.not_false, if_true]
  rfl

/-- The owner's TASKADD waits for room in its deque (R300). -/
theorem taskadd_owner (hs : Settled s) (h1 : ReadsTwice s s1 s2 (s.rx b) 4 key l) (h2 : ReadsTwice s1 s2 s3 (s.rx b) 4 key l)
    (ho : s.cur.owns l = true) : exec (.taskadd d a b c) s =
      s3.objWait (encode (.taskadd d a b c)) d (s.rx a) (.room key 4 (s.rx c)) (fun s w => s.timeoutEnd s.me w) := by
  obtain ⟨hr, he, -, -⟩ := h1
  have hc : s1.cur = s.cur := by rw [he]
  have hc3 : s3.cur = s.cur := by rw [h2.2.2.2, hc]
  have hrc : s3.rx c = s.rx c := by rw [State.rx, hc3]; rfl
  change execTaskadd d a b c s = _
  rw [execTaskadd, preemptPoint_free hs.1.2]
  simp only [hr, hc, ho, Bool.not_true, Bool.false_eq_true, if_false]
  rw [turnThen_settled (notes_settled he hs) h2]
  simp only [hc3, ho, Bool.not_true, Bool.false_eq_true, if_false, hrc]
  rfl


/-- A deque with room takes the value at TAIL (R299, R300). -/
theorem attempt_room {s t : State} {a : Agent} {wid v : Word} {key type : Nat} {l m : Line} (hl : s.line (key / 64) = l) (hr : room l)
    (hp : s.qPush a key l v = (.ok m, t)) :
    s.attemptObj a wid (.room key type v) = (.done { status := stat 0 0 (headTail m) }, t) := by
  rw [room, ← qCount_eq, ← qCap_eq] at hr
  simp only [State.attemptObj, hl, hr, if_true, hp, status_eq, qValue_eq, oDONE]

theorem attempt_full {s : State} {a : Agent} {wid v : Word} {key type : Nat} {l : Line} (hl : s.line (key / 64) = l) (hr : ¬ room l) :
    s.attemptObj a wid (.room key type v) = (.left (.room key type v), s) := by
  rw [room, ← qCount_eq, ← qCap_eq] at hr
  simp only [State.attemptObj, hl, hr, if_false]

theorem timeout_room {s : State} {a : Agent} {v : Word} {key type : Nat} {l : Line} (hl : s.line (key / 64) = l) :
    s.timeoutEnd a (.room key type v) = ({ status := stat 1 2 (headTail l) }, s) := by
  simp only [State.timeoutEnd, hl, status_eq, qValue_eq, oTIMEOUT]

/-- The codeword that a decoding meets is a note of the move. -/
theorem decodes_notes (s : State) (l source : Nat) (writer : BitVec 12) :
    s.decodes l source writer = { s with mark := (s.decodes l source writer).mark } := by
  rw [State.decodes]; split <;> rfl

theorem wx_datum (s : State) (c : Reg) (v : Word) : s.wx c v = withDatum s c v := by
  rw [State.wx, Strand.wx, withDatum]; split <;> rfl

/-- The owner's TASKTAKE removes the entry before TAIL (R300). -/
theorem tasktake_last (hs : Settled s) (h1 : ReadsTwice s s1 s2 (s.rx b) 4 key l) (ho : s.cur.owns l = true) (hh : held l ≠ 0)
    (hk : s.ringOk s.me (ringKey key l ((fld l 8 4 + 2 ^ 28 - 1) % 2 ^ 28)) = .ok ()) :
    ∃ n, exec (.tasktake d a b c) s =
      ended (withDatum (State.putObj { s with mark := n } key (lset l 8 4 ((fld l 8 4 + 2 ^ 28 - 1) % 2 ^ 28))) c
        (BitVec.ofNat 64 (lfield (s.line (ringKey key l ((fld l 8 4 + 2 ^ 28 - 1) % 2 ^ 28) / 64)) (ringKey key l ((fld l 8 4 + 2 ^ 28 - 1) % 2 ^ 28) % 64) 8)))
        d (stat 0 0 (headTail (lset l 8 4 ((fld l 8 4 + 2 ^ 28 - 1) % 2 ^ 28)))) (polls s (s.rx a)) := by
  obtain ⟨hr, he, -, -⟩ := h1
  have hc : s1.cur = s.cur := by rw [he]
  generalize hrk : ringKey key l ((fld l 8 4 + 2 ^ 28 - 1) % 2 ^ 28) = rk at hk ⊢
  have hd := notes_trans he (decodes_notes s1 (rk / 64) 0 s.cur.writer)
  generalize hu : s1.decodes (rk / 64) 0 s.cur.writer = u at hd
  refine ⟨u.mark, ?_⟩
  rw [← hd]
  have hme : u.me = s.me := by rw [hd]; rfl
  have hring : u.ringOk u.me rk = .ok () := by rw [hme, hd]; exact hk
  have hline : u.line (rk / 64) = s.line (rk / 64) := notes_line hd _
  have hidle (d' : Line) : (u.putObj key d').homes.waiters = [] := by
    rw [homes_desk (putObj_desk ..), homes_desk (notes_desk hd)]
    exact hs.2.2.2.2.2.2
  change execTasktake d a b c s = _
  rw [execTasktake, preemptPoint_free hs.1.2]
  simp only [hr, hc, ho, Bool.not_true, Bool.false_eq_true, if_false, qCount_eq, hh, lfield_eq _ 8 4, hrk, hu, hring, hline, serve_idle (hidle _),
    finish_ended, status_eq, isPoll_eq, qValue_eq, oDONE, wx_datum]

/-- A TASKSTEAL of a deque named by address, by what the theft finds (R300). -/
theorem tasksteal_named (hr : s.cur.request = none) (hb : s.rx b ≠ 0) (h1 : s.readObj s.me (s.rx b) 4 = (.ok (key, l), s1)) :
    (∀ t, s1.steal key l = (.ok none, t) → exec (.tasksteal d a b c) s =
      ended t.raced.2 d (stat 1 (stealDetail t.raced.1) (headTail l)) (polls s (s.rx a))) ∧
    (∀ t v m, s1.steal key l = (.ok (some (v, m)), t) → exec (.tasksteal d a b c) s =
      ended (withDatum t c v) d (stat 0 0 (headTail m)) (polls s (s.rx a))) := by
  change (∀ t, _ → execTasksteal d a b c s = _) ∧ (∀ t v m, _ → execTasksteal d a b c s = _)
  rw [execTasksteal, preemptPoint_free hr]
  -- the theft stays closed: the kernel would else unfold its test of `qCount` in unary
  obtain ⟨steal, hst⟩ : ∃ f, f = @State.steal := ⟨_, rfl⟩
  rw [← hst]
  constructor
  · intro t ht
    simp only [hb, if_false, h1, ht, finish_ended, status_eq, isPoll_eq, qValue_eq, oTIMEOUT]
  · intro t v m ht
    simp only [hb, if_false, h1, ht, finish_ended, status_eq, isPoll_eq, qValue_eq, oDONE, wx_datum]

/-- A TASKSTEAL of an empty deque took nothing, or lost the last entry (R300). -/
theorem tasksteal_empty (hs : Settled s) (hb : s.rx b ≠ 0) (h1 : ReadsTwice s s1 s2 (s.rx b) 4 key l) (hh : held l = 0) :
    exec (.tasksteal d a b c) s = ended { s1 with sched := { s.sched with races := s.sched.races.drop 1 } } d
      (stat 1 (if s.sched.races.headD false = true then 7 else 1) (headTail l)) (polls s (s.rx a)) := by
  obtain ⟨hr, he, -, -⟩ := h1
  have hsch : s1.sched = s.sched := by rw [he]
  have ht : s1.steal key l = (.ok none, s1) := by rw [State.steal, qCount_eq, if_pos hh]
  rw [(tasksteal_named hs.1.2 hb hr).1 s1 ht, State.raced, hsch]
  rfl

/-- A TASKSTEAL takes the entry at HEAD (R300). -/
theorem tasksteal_head {m : Line} {t : State} {v : Word} (hs : Settled s) (hb : s.rx b ≠ 0) (h1 : ReadsTwice s s1 s2 (s.rx b) 4 key l) (hh : held l ≠ 0)
    (hp : s1.qPop s.me key l = (.ok (v, m), t)) :
    exec (.tasksteal d a b c) s = ended (withDatum t c v) d (stat 0 0 (headTail m)) (polls s (s.rx a)) := by
  obtain ⟨hr, he, -, -⟩ := h1
  have hm : s1.me = s.me := by rw [he]; rfl
  have hdesk : desk t = desk s := by
    rw [← notes_desk he, ← qPop_desk s1 s.me key l, hp]
  have hidle : t.homes.waiters = [] := by rw [homes_desk hdesk]; exact hs.2.2.2.2.2.2
  refine (tasksteal_named hs.1.2 hb hr).2 t v m ?_
  rw [State.steal, qCount_eq, if_neg hh, hm, hp]
  simp only [serve_idle hidle]

end

theorem ringKey_eq (key : Nat) (l : Line) (n : Nat) : ringKey key l n = key / 2 ^ 33 * 2 ^ 33 + fld l 0x10 8 + 8 * (n % 2 ^ fld l 2 1) := by
  rw [ringKey, lfield_eq, qCap_eq]

theorem taskDeques : TaskDeques := by
  intro s s1 s2 s3 t d a b c key l m v hs hb h1 h2 hl
  have hl3 : s3.line (key / 64) = l := by rw [notes_line h2.2.2.2, notes_line h1.2.1, hl]
  have hd3 : desk s3 = desk s := (notes_desk h2.2.2.2).trans (notes_desk h1.2.1)
  have hi3 : s3.homes.waiters = [] := by rw [homes_desk hd3]; exact hs.2.2.2.2.2.2
  have hme : s3.me = s.me := by rw [State.me, cur_desk hd3]; rfl
  have hp3 := polls_desk hd3 (s.rx a)
  have hwait {mine : fld l 0x18 8 = s.cur.c.launchid.toNat ∧ fld l 0x20 8 = s.cur.id.first.toNat} :
      exec (.taskadd d a b c) s = _ := taskadd_owner hs h1 h2 ((owns_iff _ _).mpr mine)
  refine ⟨?_, ?_, ?_, ?_, ?_, ?_, tasksteal_empty hs hb h1, tasksteal_head hs hb h1⟩
  · intro hm
    have ho : s.cur.owns l = false := by rw [← Bool.not_eq_true, owns_iff]; exact hm
    exact ⟨taskadd_foreign hs h1 ho, tasktake_foreign hs h1 ho⟩
  · intro hm hr hq
    have hdt : desk t = desk s3 := by rw [← qPush_desk s3 s.me key l (s.rx c), hq]
    rw [hwait (mine := hm), ← hp3]
    refine objWait_done _ d _ _ rfl ?_ (polls_desk hdt _) (attempt_room hl3 hr (by rw [hme]; exact hq)) rfl rfl rfl
    rw [homes_desk hdt]; exact hi3
  · intro hm hr hp
    rw [hwait (mine := hm)]
    exact objWait_poll _ d _ _ rfl hi3 (hp3.trans hp) (attempt_full hl3 hr) rfl (timeout_room hl3) (e := { status := stat 1 2 (headTail l) }) rfl rfl rfl
  · intro hm hr hp
    rw [hwait (mine := hm)]
    exact objWait_waits _ d _ _ rfl rfl hi3 (hp3.trans hp) (attempt_full hl3 hr) rfl
  · intro hm hh
    have ho := (owns_iff _ _).mpr hm
    have hc : s1.cur = s.cur := by rw [h1.2.1]
    change execTasktake d a b c s = _
    rw [execTasktake, preemptPoint_free hs.1.2]
    simp only [h1.1, hc, ho, Bool.not_true, Bool.false_eq_true, if_false, qCount_eq, hh, if_true, finish_ended, status_eq, isPoll_eq, qValue_eq, oTIMEOUT]
  · intro hm hh hk
    rw [← ringKey_eq] at hk ⊢
    obtain ⟨n, hn⟩ := tasktake_last (d := d) (a := a) (c := c) hs h1 ((owns_iff _ _).mpr hm) hh hk
    exact ⟨_, n, fld_lset_same (by decide) l (by omega), fld_lset_other (by decide) (by decide) l _, hn⟩

/-- A search of no deque finds nothing (R344). -/
theorem stealSearchEmpty : StealSearchEmpty := by
  intro s d a b c hr hb hsr
  refine ⟨fun hd => ?_, fun hd hno => ?_⟩
  · change execTasksteal d a b c s = _
    rw [execTasksteal, preemptPoint_free hr]
    simp only [hb, if_true, hd, Bool.not_false, finish_ended, status_eq, isPoll_eq, oTIMEOUT]
  · have hv : s.strands.filter (fun t => t.live && t.id.lid == s.cur.id.lid) = [] := by
      rw [List.filter_eq_nil_iff]
      intro u hu
      have := hno u hu
      grind
    change execTasksteal d a b c s = _
    rw [execTasksteal, preemptPoint_free hr]
    obtain ⟨search, hf⟩ : ∃ f, f = @State.searchSteal := ⟨_, rfl⟩
    rw [← hf]
    have hnone (u : State) (cut pause : Option Nat) : search u [] cut pause false = (.nothing false, u) := by rw [hf]; rfl
    have hid (u : Strand) (h : u.search = none) : { u with search := none } = u := by rw [← h]
    simp only [isPoll_eq]
    cases polls s (s.rx a) with
    | true =>
      simp only [hb, if_true, hd, Bool.not_true, Bool.false_eq_true, if_false, State.toProbe, hsr, State.victims, hv, List.map_nil, sortBy, hnone, finish_ended, status_eq, oTIMEOUT, stealDetail, hid]
    | false =>
      simp only [hb, if_true, hd, Bool.not_true, Bool.false_eq_true, if_false, State.turnBudget, State.toProbe, hsr, State.victims, hv, List.map_nil, sortBy,
        hnone, finish_ended, status_eq, oTIMEOUT, stealDetail, hid, Option.isSome_none, Bool.false_and]

/-- Settles O37: a deque's line is read with every check and nothing to turn; its owner adds at TAIL when there is room and takes from TAIL,
a thief takes at HEAD, and a search of no deque finds nothing. -/
theorem tasks : Obligations.Tasks := ⟨taskDeques, stealSearchEmpty⟩

end Sys2Proof.TaskRules
end

section
/-! PROOF. VAPND (R247) and CWAIT (R303, R356). -/

namespace Sys2Proof.CollectRules

open Machine Claim CsrRules VectorConfig HaltRules WaitRules TaskRules

/-! ### Waits that the core tests itself (R281, R286) -/

section
variable {s : State} {w : WaitFor} {i : Instr} {word : InsnWord} (d : Reg) (op : Word)

theorem localWait_done {st : Word} (h : s.localTry s.cur w = some st) : s.localWait word d op w = ended s d st (polls s op) := by
  simp only [State.localWait, h, finish_ended, isPoll_eq]

theorem localWait_poll (h : s.localTry s.cur w = none) (hp : polls s op = true) :
    s.localWait word d op w = ended s d (s.localEnd s.cur w) true := by
  simp only [State.localWait, h, finish_ended, isPoll_eq, hp, if_true]

theorem localWait_waits (hw : word = encode i) (h : s.localTry s.cur w = none) (hp : polls s op = false) :
    s.localWait word d op w = waits s i d op w none := by
  simp only [State.localWait, h, isPoll_eq, hp, Bool.false_eq_true, if_false, hw, startWait_waits]

end

/-! ### CWAIT -/

theorem field_high {w : Word} : field w 8 56 ≠ 0 ↔ 256 ≤ w.toNat := by
  rw [field]
  omega

theorem myGroup_kept {s : State} {g : Group} (h : s.cur.group = some g) : s.myGroup = (.ok g, s) := by
  simp only [State.myGroup, h]

/-- A first access that finds no entry, or cannot read it, refuses (R356). -/
theorem myGroup_refused {s s1 : State} (h : s.cur.group = none) :
    (s.groupEntry s.cur.id.core s.cur.groupNum (s.cur.c.asid.extractLsb' 0 16) = (.ok none, s1) → s.myGroup = (.error ⟨0x206, s.cur.c.cgroup, 0⟩, s1)) ∧
    (∀ x, s.groupEntry s.cur.id.core s.cur.groupNum (s.cur.c.asid.extractLsb' 0 16) = (.error x, s1) → s.myGroup = (.error x, s1)) := by
  constructor <;> intros <;> simp only [State.myGroup, *]

/-- A first access that succeeds has read and checked the entry and the member record (R356). -/
theorem myGroup_first {s s1 : State} {g : Group} (h : s.cur.group = none) (hg : s.myGroup = (.ok g, s1)) : ∃ e m : State,
    s.groupEntry s.cur.id.core s.cur.groupNum (s.cur.c.asid.extractLsb' 0 16) = (.ok (some g), e) ∧ e.cur.rank < g.ranks ∧
      e.member e.cur.id.core g e.cur.rank = (.ok (some (m.memberOf m.cur)), m) ∧ s1 = { m with cur := { m.cur with group := some g } } := by
  simp only [State.myGroup, h] at hg
  split at hg
  · cases hg
  · cases hg
  next g' e he =>
    split at hg
    · cases hg
    next hr =>
      split at hg
      · cases hg
      next v m hm =>
        split at hg
        next hv =>
          cases hg
          exact ⟨e, m, he, Nat.lt_of_not_le hr, hv ▸ hm, rfl⟩
        next => cases hg

/-- What CWAIT with a good operand does with its group (R303). -/
theorem cwait_eq {s : State} {d a c : Reg} (hu : Undisturbed s) (hc : (s.rx c).toNat < 256) :
    exec (.cwait d a c) s = match s.myGroup with
      | (.error x, s) => s.trapX x
      | (.ok g, s) => if g.slots ≤ field (s.rx c) 0 8 then s.trap 0x206 s.cur.c.cgroup
        else s.localWait (encode (.cwait d a c)) d (s.rx a) (.round (field (s.rx c) 0 8)) := by
  change execCwait d a c s = _
  rw [execCwait, waitPoint_undisturbed hu, if_neg (by rw [field_high]; omega)]
  rfl

theorem round_try {s : State} {n : Nat} :
    s.localTry s.cur (.round n) = if (s.cur.slotUse n).staged then some (stat 0 0 ((s.cur.slotUse n).rounds % 2 ^ 32)) else none := by
  simp only [State.localTry, status_eq, oDONE]

theorem collectiveWaits : CollectiveWaits := by
  intro s s1 d a c g x hu
  refine ⟨?_, myGroup_kept, fun h => (myGroup_refused h).1, fun h => (myGroup_refused h).2 x, myGroup_first, ?_, ?_⟩
  · intro hc
    change execCwait d a c s = _
    rw [execCwait, waitPoint_undisturbed hu, if_pos (field_high.mpr hc)]
    rfl
  · intro hc hg
    rw [cwait_eq hu hc, hg]
    rfl
  · intro hc hg
    have hf : field (s1.rx c) 0 8 = (s1.rx c).toNat % 256 := field_zero _ _
    rw [cwait_eq hu hc, hg]
    simp only [hf]
    refine ⟨fun hn => if_pos hn, fun hn => ?_⟩
    rw [if_neg (Nat.not_le.mpr hn)]
    refine ⟨fun hs => ?_, fun hs hp => ?_, fun hs hp => ?_⟩
    · exact localWait_done _ _ (by rw [round_try, if_pos hs])
    · rw [localWait_poll _ _ (by rw [round_try, hs]; rfl) hp]
      simp only [State.localEnd, status_eq, oTIMEOUT]
    · exact localWait_waits _ _ rfl (by rw [round_try, hs]; rfl) hp

/-! ### VAPND -/

/-- The state after VAPND under the mask `vm` has spent VSTART and cleared the mask bits of the elements `es` (R176, R247). -/
def marked (vm : Word) (u : State) (es : List Nat) : State :=
  let cur := if vm.getLsbD 5 = true then u.cur.setElems (vm.extractLsb' 0 5) (es.map (fun i => (i, 0))) else u.cur
  { u with cur := { cur with c := { cur.c with vstart := 0 } } }

theorem vdone_clearMask {u : State} (h : u.cur.resuming = false) (es : List Nat) :
    { u with cur := u.cur.vdone.clearMask es } = marked u.cur.c.vm u es := by
  have hv : u.cur.vdone = { u.cur with c := { u.cur.c with vstart := 0 } } := by
    rw [Strand.vdone, if_neg (by rw [h]; decide)]
  rw [hv, Strand.clearMask, marked]
  cases hm : u.cur.c.vm.getLsbD 5
  · rfl
  · rfl

theorem marked_polls (vm : Word) (u : State) (es : List Nat) (op : Word) : polls (marked vm u es) op = polls u op := by
  rw [marked]
  split <;> exact polls_congr rfl rfl rfl rfl rfl op

theorem marked_homes (vm : Word) (u : State) (es : List Nat) : (marked vm u es).homes = u.homes := rfl

section
variable {s s1 s2 t : State} {d a b : Reg} {key n : Nat} {l m : Line} {e : RingFault}

/-- VAPND of a settled strand appends its active elements (R247). -/
theorem vapnd_settled (hs : Settled s) (h1 : ReadsTwice s s1 s2 (s.rx a) 3 key l) : exec (.vapnd d a b) s =
    s2.objWaitOn (encode (.vapnd d a b)) d (s.rx b) (.append key s.cur.active s.cur.active.length) Strand.vdone (fun s w => s.timeoutEnd s.me w) := by
  obtain ⟨hr, he, hr2, he2⟩ := h1
  have hs1 := notes_settled he hs
  have hme : s1.me = s.me := by rw [he]; rfl
  have hc : s2.cur = s.cur := by rw [he2]
  change execVapnd d a b s = _
  simp only [execVapnd, hr, hs1.2.2.2.1, State.turning, Bool.not_false, if_true, turnLog_settled hs1, hme, hr2, Nat.lt_irrefl, if_false, hc]
  rfl

/-- One attempt of VAPND at the queue (R247). -/
theorem attempt_append {es : List Nat} {total : Nat} {ag : Agent} {wid : Word} (hl : s.line (key / 64) = l)
    (hq : s.qAppend ag key l (es.map (fun i => wid + BitVec.ofNat 64 i)) = (.ok (n, m), t)) :
    s.attemptObj ag wid (.append key es total) =
      if n = es.length then (.done { status := stat 0 0 total }, t) else (.left (.append key (es.drop n) total), t) := by
  simp only [State.attemptObj, hl, hq, status_eq, oDONE]

theorem appended_drop {es : List Nat} {total : Nat} (h : n ≤ es.length) :
    appended (.append key es total) (some (.append key (es.drop n) total)) = es.take n := by
  simp only [appended, List.length_drop]
  congr 1
  omega

/-- The timeout of a poll of VAPND: PARTIAL with the count where elements went in (R247). -/
theorem timeout_append {es : List Nat} {ag : Agent} (u : State) (h : n ≤ es.length) :
    u.timeoutEnd ag (.append key (es.drop n) es.length) = ({ status := if n = 0 then stat 1 0 0 else stat 3 0 n }, u) := by
  have hn : es.length - (es.length - n) = n := by omega
  simp only [State.timeoutEnd, List.length_drop, hn, status_eq, oTIMEOUT, oPARTIAL]
  split
  next h0 => rw [h0]
  next => rfl

theorem appendIdentifiers : AppendIdentifiers := by
  intro s s1 s2 t d a b key n l m e hs hres h1 hl
  have hd2 : desk s2 = desk s := notes_desk h1.2.2.2
  have hl2 : s2.line (key / 64) = l := by rw [notes_line h1.2.2.2, hl]
  have hme : s2.me = s.me := by rw [State.me, cur_desk hd2]; rfl
  have hc2 := cur_desk hd2
  have hqd (vs : List Word) : desk (s2.qAppend s.me key l vs).2 = desk s := (qAppend_desk ..).trans hd2
  refine ⟨fun hq => ?_, fun hq => ?_⟩
  · have hdt : desk t = desk s := by rw [← hqd, hq]
    have hct := cur_desk hdt
    have hidle : t.homes.waiters = [] := by rw [homes_desk hdt]; exact hs.2.2.2.2.2.2
    have hm (es : List Nat) : { t with cur := t.cur.vdone.clearMask es } = marked s.cur.c.vm t es := by
      rw [← hct]; exact vdone_clearMask (by rw [hct]; exact hres) es
    have hserve (es : List Nat) (o : Nat) : (marked s.cur.c.vm t es).serve o = marked s.cur.c.vm t es :=
      serve_idle (by rw [marked_homes]; exact hidle) o
    have hpm (es : List Nat) : polls (marked s.cur.c.vm t es) (s.rx b) = polls s (s.rx b) := (marked_polls ..).trans (polls_desk hdt _)
    have hat := attempt_append (es := s.cur.active) (total := s.cur.active.length) (ag := s2.me) (wid := s2.cur.c.widbase) hl2
      (by rw [hme, hc2]; exact hq)
    rw [vapnd_settled hs h1, State.objWaitOn, hat, List.length_map]
    refine ⟨fun hn => ?_, fun hn hp => ?_, fun hn hp => ?_⟩
    · have htake : s.cur.active.take n = s.cur.active := by rw [hn, List.take_length]
      change _ = ended (marked s.cur.c.vm t (s.cur.active.take n)) _ _ _
      rw [if_pos hn, htake]
      simp only [appended, WaitFor.obj, Strand.takeEnd, hm, hserve, finish_ended, isPoll_eq, hpm, hn]
    · change _ = ended (marked s.cur.c.vm t (s.cur.active.take n)) _ _ _
      rw [if_neg (by omega)]
      simp only [appended_drop (Nat.le_of_lt hn), WaitFor.obj, isPoll_eq, polls_desk hdt, hp, Bool.true_or, if_true, hm, hserve, hpm,
        timeout_append _ (Nat.le_of_lt hn), Strand.takeEnd, finish_ended]
    · have hb : (WaitFor.append key (s.cur.active.drop n) s.cur.active.length).begun = decide (n ≠ 0) := by
        rw [WaitFor.begun, List.length_drop, decide_eq_decide]
        omega
      rw [if_neg (by omega)]
      change _ = waits (registered (if n = 0 then t else marked s.cur.c.vm t (s.cur.active.take n)) key) _ _ _ _ _
      simp only [appended_drop (Nat.le_of_lt hn), WaitFor.obj, isPoll_eq, polls_desk hdt, hp, Bool.false_or, hb]
      by_cases h0 : n = 0
      · simp only [h0, ne_eq, not_true_eq_false, decide_false, Bool.false_eq_true, if_false, if_true, List.take_zero, clearMask_nil, serve_idle hidle,
          polls_desk hdt, hp, register_idle hidle, startWait_waits]
      · simp only [h0, ne_eq, not_false_eq_true, decide_true, if_true, if_false, hm, hserve, hpm, hp, Bool.false_eq_true,
          register_idle (s := marked s.cur.c.vm t (s.cur.active.take n)) (by rw [marked_homes]; exact hidle), startWait_waits]
  · rw [vapnd_settled hs h1, State.objWaitOn]
    simp only [State.attemptObj, hc2, hl2, hme, hq]
    rfl

end

/-- Settles O38: VAPND is one attempt at the queue and its end or its registration, CWAIT is one look at the slot of the checked group. -/
theorem appendAndCollectives : Obligations.AppendAndCollectives := ⟨appendIdentifiers, collectiveWaits⟩

end Sys2Proof.CollectRules
end

section
/-! PROOF. LAUNCH, LWAIT and LCANCEL (R304 to R306). -/

namespace Sys2Proof.LaunchRules

open Machine Claim CsrRules VectorConfig HaltRules WaitRules TaskRules CollectRules

/-! ### LAUNCH -/

/-- LAUNCH of a settled strand with its packet read, by what the Starter answers (R305). -/
theorem launch_read {s s1 : State} {d a b c : Reg} {bs : List Byte} (hs : Settled s) (hv : (s.rx b).toNat % 64 = 0)
    (hl : s.loadPacket (s.rx b) = (.ok bs, s1)) :
    (∀ st t, s1.tryLaunch (s.rx c).toNat bs = (some st, t) → exec (.launch d a b c) s = ended t d st (polls t (s.rx a))) ∧
    (∀ t, s1.tryLaunch (s.rx c).toNat bs = (none, t) → exec (.launch d a b c) s =
      if polls t (s.rx a) = true then ended t d (stat 1 2 0) true
      else waits t (.launch d a b c) d (s.rx a) (.queueRoom (s.rx c).toNat (packetOf bs)) none) := by
  change (∀ st t, _ → execLaunch d a b c s = _) ∧ (∀ t, _ → execLaunch d a b c s = _)
  have hw : mkQ 0x2E d a b c 0 = encode (.launch d a b c) := rfl
  rw [execLaunch, preemptPoint_free hs.1.2]
  simp only [hv, ne_eq, not_true_eq_false, if_false, hs.2.2.2.1, State.turning, Bool.not_false, if_true, turnLog_settled hs, hl]
  exact ⟨fun st t h => by simp only [h, finish_ended, isPoll_eq],
    fun t h => by simp only [h, finish_ended, isPoll_eq, status_eq, oTIMEOUT, hw, startWait_waits]⟩

theorem tryLaunch_none {s s1 : State} {n : Nat} {bs : List Byte} (h : s.launchContext n = (none, s1)) :
    s.tryLaunch n bs = (some (stat 2 5 0), s1) := by
  simp only [State.tryLaunch, h, status_eq, oWITHDRAWN]

/-- With a usable context the packet is checked, then room is looked for (R305). -/
theorem tryLaunch_some {s s1 : State} {n : Nat} {bs : List Byte} {x : Context} (h : s.launchContext n = (some x, s1)) :
    s.tryLaunch n bs =
      if s1.malformed bs = true ∨ (packetOf bs).w 4 ≠ 0 ∨ (packetOf bs).w 5 ≠ 0 then (some (stat 2 3 0), s1)
      else if s1.credits n = 0 then (none, s1)
      else (some (stat 0 0 ((s1.accept n x bs none).1.toNat % 2 ^ 46)), (s1.accept n x bs none).2) := by
  simp only [State.tryLaunch, h, status_eq, oWITHDRAWN, State.submit, oDONE]

theorem launchOutcomes : LaunchOutcomes := by
  intro s s1 s2 t d a b c bs id hs
  refine ⟨fun hv => ?_, fun hv hl => ?_⟩
  · change execLaunch d a b c s = _
    rw [execLaunch, preemptPoint_free hs.1.2]
    exact if_pos hv
  · obtain ⟨hsome, hnone⟩ := launch_read (d := d) (a := a) (c := c) hs hv hl
    refine ⟨fun hc => hsome _ _ (tryLaunch_none hc), fun x hc => ⟨fun hb => ?_, fun hb h0 hp => ?_, fun hb h0 hp => ?_, fun hb h0 ha => ?_⟩⟩
    · exact hsome _ _ ((tryLaunch_some hc).trans (if_pos hb))
    · rw [hnone s2 (by rw [tryLaunch_some hc, if_neg hb, if_pos h0]), if_pos hp]
    · rw [hnone s2 (by rw [tryLaunch_some hc, if_neg hb, if_pos h0]), if_neg (by rw [hp]; decide)]
    · exact hsome _ _ (by rw [tryLaunch_some hc, if_neg hb, if_neg h0, ha])

/-! ### LWAIT and LCANCEL -/

theorem retire_try {s : State} {t : Strand} {id : Word} {cancel : Bool} :
    s.localTry t (.retire id cancel) = (s.retiredOf id).map (retireStatus cancel) := rfl

theorem retire_end {s : State} {t : Strand} {id : Word} {cancel : Bool} : s.localEnd t (.retire id cancel) = stat 1 0 0 := status_eq 1 0 0

theorem lwait_eq {s : State} {d a b : Reg} (hr : s.cur.request = none) : exec (.lwait d a b) s = match s.namedLaunch (s.rx b) with
    | none => ended s d (stat 2 6 0) (polls s (s.rx a))
    | some id => s.localWait (encode (.lwait d a b)) d (s.rx a) (.retire id false) := by
  change execLwait d a b s = _
  rw [execLwait, preemptPoint_free hr]
  simp only [finish_ended, status_eq, isPoll_eq, oWITHDRAWN]
  rfl

theorem lcancel_eq {s : State} {d a b : Reg} (hr : s.cur.request = none) : exec (.lcancel d a b) s = match s.namedLaunch (s.rx b) with
    | none => ended s d (stat 2 6 0) (polls s (s.rx a))
    | some id => if ((s.retiredOf id).isSome || s.retiring id) = true then ended s d (stat 4 0 0) (polls s (s.rx a))
      else (s.cancelLaunch id).localWait (encode (.lcancel d a b)) d (s.rx a) (.retire id true) := by
  change execLcancel d a b s = _
  rw [execLcancel, preemptPoint_free hr]
  simp only [finish_ended, status_eq, isPoll_eq, oWITHDRAWN, oLATE]
  rfl

/-- A launch is retiring once its last strand has ended and nothing has stopped it (R67). -/
theorem retiring_iff {s : State} {id : Word} : s.retiring id = true ↔ ∃ q, s.launch id = some q ∧ q.stop = none ∧ q.left = 0 := by
  rw [State.retiring]
  cases s.launch id <;> simp

theorem cancelLaunch_retiredOf (s : State) (id : Word) : (s.cancelLaunch id).retiredOf id = s.retiredOf id := rfl

theorem cancelLaunch_polls (s : State) (id op : Word) : polls (s.cancelLaunch id) op = polls s op := polls_congr rfl rfl rfl rfl rfl op

theorem launchWaits : LaunchWaits := by
  intro s d a b id r hr
  have htry {u : State} (hu : s.retiredOf id = none) (hq : u.retiredOf id = s.retiredOf id) (cancel : Bool) :
      u.localTry u.cur (.retire id cancel) = none := by rw [retire_try, hq, hu]; rfl
  refine ⟨fun hn => ?_, fun hn hret => ?_, fun hn hret => ⟨fun hp => ?_, fun hp => ?_⟩, fun hn hret hq => ?_, fun hn hret hq => ?_⟩
  · rw [lwait_eq hr, lcancel_eq hr, hn]
    exact ⟨rfl, rfl⟩
  · rw [lwait_eq hr, lcancel_eq hr, hn]
    exact ⟨localWait_done d _ (by rw [retire_try, hret]; rfl), if_pos (by rw [hret]; rfl)⟩
  · rw [lwait_eq hr, hn]
    exact localWait_waits d _ rfl (htry hret rfl false) hp
  · rw [lwait_eq hr, hn]
    exact (localWait_poll d _ (htry hret rfl false) hp).trans (by rw [retire_end])
  · rw [lcancel_eq hr, hn]
    exact if_pos (by rw [retiring_iff.mpr hq, Bool.or_true])
  · have hno : ¬ ((s.retiredOf id).isSome || s.retiring id) = true := by
      rw [hret, Option.isSome_none, Bool.false_or, retiring_iff]
      rintro ⟨q, hl, hs, h0⟩
      exact (hq q hl).elim (fun h => h hs) (fun h => h h0)
    simp only [lcancel_eq hr, hn, if_neg hno]
    have htry' := htry (u := s.cancelLaunch id) hret (cancelLaunch_retiredOf s id) true
    refine ⟨fun hp => localWait_waits d _ rfl htry' (by rw [cancelLaunch_polls, hp]), fun hp => ?_⟩
    exact (localWait_poll d _ htry' (by rw [cancelLaunch_polls, hp])).trans (by rw [retire_end])

/-- Settles O39: LAUNCH ends by the Starter's checks in their order, LWAIT and LCANCEL by whether the launch named has retired, is retiring or runs. -/
theorem launches : Obligations.Launches := ⟨launchOutcomes, launchWaits⟩

end Sys2Proof.LaunchRules
end

section
/-! PROOF. Strands by name: what an operation of one strand leaves of the others, and what it does to a strand that is not the issuing one. -/

namespace Sys2Proof.StrandRules

open Machine Claim CsrRules VectorConfig Ledger TrapRules HaltRules WaitRules TaskRules

/-! ### What a strand's own operation leaves alone -/

/-- The issuing strand of `u` is that of `s` after an operation of its own, and the other strands stand as they did. -/
structure Stays (s u : State) : Prop where
  ident : u.cur.id = s.cur.id
  strands : u.strands = s.strands
  there : s.cur.run ≠ .absent → u.cur.run ≠ .absent
  quiet : s.cur.stepping = false → u.cur.stepping = false

theorem Stays.refl (s : State) : Stays s s := ⟨rfl, rfl, id, id⟩

theorem Stays.trans {s t u : State} (h : Stays s t) (h' : Stays t u) : Stays s u :=
  ⟨h'.ident.trans h.ident, h'.strands.trans h.strands, fun x => h'.there (h.there x), fun x => h'.quiet (h.quiet x)⟩

/-- The issuing strand changed in place. -/
theorem stays_cur {s : State} {t : Strand} (hid : t.id = s.cur.id) (hrun : s.cur.run ≠ .absent → t.run ≠ .absent)
    (hstep : s.cur.stepping = false → t.stepping = false) : Stays s { s with cur := t } :=
  ⟨hid, rfl, hrun, hstep⟩

/-- What is on the record of the strands and the Starter. -/
def roster (s : State) : Strand × List Strand × Starter × Homes × BitVec 63 × Nat := (s.cur, s.strands, s.starter, s.homes, s.dclkw, s.nextSid)

theorem roster_of_ledger {s u : State} (h : ledger u = ledger s) : roster u = roster s := by
  simp only [ledger, roster, Prod.mk.injEq] at h ⊢
  exact ⟨h.1, h.2.1, h.2.2.2.2.1, h.2.2.2.2.2.1, h.2.2.2.2.2.2.2.2.1, h.2.2.2.2.2.2.2.2.2⟩

theorem stays_of_roster {s u : State} (h : roster u = roster s) : Stays s u := by
  simp only [roster, Prod.mk.injEq] at h
  obtain ⟨hc, hs, -⟩ := h
  exact ⟨by rw [hc], hs, by rw [hc]; exact id, by rw [hc]; exact id⟩

theorem setTag_roster (s : State) (l : Nat) (t : Tag) : roster (s.setTag l t) = roster s := rfl

theorem setBytes_roster (s : State) (key : Nat) (bs : List Byte) : roster (s.setBytes key bs) = roster s := rfl

theorem writeTurned_roster (s : State) (die : Nat) (writer : BitVec 12) (key : Nat) (bs : List Byte) :
    roster (s.writeTurned die writer key bs) = roster s := by
  rw [State.writeTurned]
  refine (roster_of_ledger (invalidateAll_ledger ..)).trans ((foldl_keeps roster _ (fun u l => setTag_roster u l _) _ _).trans ?_)
  refine (setBytes_roster ..).trans ((roster_of_ledger (decodesIn_ledger ..)).trans ?_)
  exact (roster_of_ledger (passes_ledger ..)).trans (roster_of_ledger (touch_ledger ..))

theorem saveWrite_roster (s : State) (t : Strand) (off : Nat) (bs : List Byte) : roster (s.saveWrite t off bs) = roster s := writeTurned_roster ..

theorem failLaunch_stays (s : State) (lid : Word) (code : BitVec 10) : Stays s (s.failLaunch lid code) :=
  ⟨rfl, rfl, id, id⟩

theorem lose_stays {s : State} (h : s.cur.id.sid ≠ 0) (code : BitVec 10) : Stays s (s.lose s.cur.id.sid code) := by
  rw [lose_cur_eq h]
  refine Stays.trans (t := { s with cur := { s.cur with run := .lost code, stepping := false } }) (stays_cur rfl (fun _ => nofun) (fun _ => rfl)) ?_
  refine Stays.trans ?_ (failLaunch_stays ..)
  refine Stays.trans ?_ (stays_of_roster (saveWrite_roster ..))
  refine (stays_of_roster (roster_of_ledger (releaseTile_ledger _ s.cur.id.core s.cur.id.sid))).trans ?_
  split
  · exact stays_of_roster (roster_of_ledger (stepOver_ledger ..))
  · exact Stays.refl _

theorem trapEntry_stays {s : State} (h : s.cur.id.sid ≠ 0) (code : BitVec 10) (deliv : Nat) (elem : Bool) (tpc tval rec resume : Word) :
    Stays s (s.trapEntry code deliv elem tpc tval rec resume) := by
  cases hn : s.cur.nest with
  | true => rw [Laws.trapEntry_nested hn]; exact lose_stays h _
  | false =>
    rw [trapEntry_eq s code deliv elem tpc tval rec resume hn]
    have he : Stays s (entered s code deliv elem tpc tval rec resume) :=
      (stays_cur (t := Laws.trapped s.cur code deliv elem tpc tval rec resume) rfl (fun _ => nofun) id).trans (stays_of_roster (saveWrite_roster ..))
    generalize entered s code deliv elem tpc tval rec resume = u at he
    have hl : Stays s (u.target u.me s.cur.c.tvec).2 := he.trans (stays_of_roster (roster_of_ledger (target_ledger ..)))
    dsimp only
    generalize u.target u.me s.cur.c.tvec = q at hl
    obtain ⟨l, v⟩ := q
    have hv : v.cur.id.sid ≠ 0 := by rw [hl.ident]; exact h
    have hjump : Stays s (v.enterLine v.cur.c.tvec l) := hl.trans ⟨rfl, rfl, id, id⟩
    cases l with
    | refused => exact hl.trans (lose_stays hv _)
    | marked => exact hjump
    | unread => exact hjump

theorem finish_stays {s : State} (h : s.cur.id.sid ≠ 0) (d : Reg) (st : Word) (poll : Bool) : Stays s (s.finish d st poll) := by
  have hw (n : Word) : Stays s ((s.wx d st).setC { (s.wx d st).cur.c with tocnt := n }) := by
    have : s.cur.wx d st = { s.cur with x := (s.cur.wx d st).x } := by rw [Strand.wx]; split <;> rfl
    rw [State.wx, this]
    exact ⟨rfl, rfl, id, id⟩
  rw [State.finish]
  generalize countTimeout (s.wx d st).cur.c.tocnt (s.wx d st).core.escal st poll = q
  dsimp only
  split
  · exact (hw q.1).trans (trapEntry_stays (by rw [(hw _).ident]; exact h) ..)
  · exact (hw q.1).trans ⟨rfl, rfl, id, id⟩

theorem beginSave_stays {s : State} (h : s.cur.id.sid ≠ 0) (k : SaveKind) (w : Option WaitRec) (resume : Word) : Stays s (s.beginSave k w resume) := by
  rw [State.beginSave]
  split
  · exact lose_stays h _
  · refine stays_cur ?_ (fun _ => nofun) ?_ <;> · rw [Strand.dropVectors]; split <;> simp

/-! ### Strands by name -/

theorem strand_name {s : State} {sid : Nat} {t : Strand} (h : s.strand sid = some t) : t.id.sid = sid := by
  rw [State.strand] at h
  split at h
  next hc => cases h; exact hc.1
  next => simpa using List.find?_some h

theorem strand_other {s : State} {sid : Nat} (h : s.cur.id.sid ≠ sid) : s.strand sid = s.strands.find? (fun t => t.id.sid == sid) :=
  if_neg (fun hc => h hc.1)

/-- The strand of a name replaced reads back. -/
theorem strand_setStrand {s : State} {t u : Strand} (h : has s u.id.sid t) : (s.setStrand u).strand u.id.sid = some u := by
  obtain ⟨h0, h⟩ := h
  rw [State.setStrand]
  split
  next hc => exact if_pos ⟨rfl, h0⟩
  next hc =>
    rw [strand_other hc] at h
    rw [State.strand, if_neg (fun h => hc h.1)]
    refine find?_updFirst_const (by simp) _ ?_
    rw [List.any_eq_true]
    exact ⟨t, List.mem_of_find?_eq_some h, List.find?_some (p := fun v : Strand => v.id.sid == u.id.sid) h⟩

theorem setStrand_homes (s : State) (u : Strand) : (s.setStrand u).homes = s.homes := by
  rw [State.setStrand]; split <;> rfl

/-- The named strand brought before the machine is the issuing one there. -/
theorem focus_cur {s : State} {sid : Nat} {t : Strand} (h : has s sid t) : (s.focus sid).cur = t := by
  obtain ⟨h0, h⟩ := h
  rw [State.focus]
  split
  next hc =>
    rw [← hc] at h h0
    exact Option.some.inj ((strand_cur h0).symm.trans h)
  next hc =>
    rw [strand_other hc] at h
    simp only [h]
    split <;> rfl

/-- The issuing strand keeps its name and its state when another is brought before the machine. -/
theorem strand_focus {s : State} (h : s.cur.id.sid ≠ 0) (hrun : s.cur.run ≠ .absent) (c : Nat) : (s.focus c).strand s.cur.id.sid = some s.cur := by
  rw [State.focus]
  split
  next => exact strand_cur h
  next hc =>
    split
    next => exact strand_cur h
    next t ht =>
      have htc : t.id.sid = c := by simpa using List.find?_some ht
      have hne : ¬ (t.id.sid = s.cur.id.sid ∧ s.cur.id.sid ≠ 0) := fun hh => hc (hh.1.symm.trans htc)
      dsimp only
      split
      all_goals
        rw [State.strand, if_neg hne]
        dsimp only
        split
        next he => exact absurd he hrun
        next => simp

theorem asStrand_cur {s : State} (h : s.cur.id.sid ≠ 0) {f : State → State} (hf : (f s).cur.id = s.cur.id) : s.asStrand s.cur.id.sid f = f s := by
  have h1 : s.focus s.cur.id.sid = s := by rw [State.focus, if_pos rfl]
  have h2 : (f s).focus s.cur.id.sid = f s := by rw [State.focus, if_pos (by rw [hf])]
  rw [State.asStrand, strand_cur h]
  simp only [h1, h2]

/-- Two operations that agree on the strand brought before the machine do the same to it. -/
theorem asStrand_congr {s : State} {sid : Nat} {f g : State → State} (h : f (s.focus sid) = g (s.focus sid)) : s.asStrand sid f = s.asStrand sid g := by
  simp only [State.asStrand, h]

/-- What became of a strand after an operation of its own, whether it is the issuing one or not. -/
theorem strand_asStrand {s : State} {sid : Nat} {t : Strand} (h : has s sid t) {f : State → State}
    (hid : (f (s.focus sid)).cur.id.sid = sid) (hrun : (f (s.focus sid)).cur.run ≠ .absent) :
    (s.asStrand sid f).strand sid = some (f (s.focus sid)).cur := by
  rw [State.asStrand, h.2]
  generalize f (s.focus sid) = w at hid hrun
  rw [← hid]
  exact strand_focus (by rw [hid]; exact h.1) hrun _

end Sys2Proof.StrandRules
end

section
/-! PROOF. How waits end behind the strand (R282, R285, R286, R290, R297, R431 to R433). -/

namespace Sys2Proof.WaitEndRules

open Machine Claim CsrRules VectorConfig Ledger TrapRules HaltRules WaitRules TaskRules StrandRules

/-! ### The wait of a strand -/

theorem waitsFor_iff {t : Strand} {w : WaitRec} : waitsFor t w ↔ t.waitRec = some w := by
  rw [waitsFor, Strand.waitRec]
  cases t.run <;> simp

theorem waitDue_iff {s : State} {t : Strand} {w : WaitRec} : s.waitDue t w = true ↔ gone s t w.deadline := by
  rw [State.waitDue, State.now, decide_eq_true_iff, gone]

/-- A wait replaced in a strand: nothing else of the strand changes. -/
theorem setWait_spec {t : Strand} {w : WaitRec} (h : waitsFor t w) (v : WaitRec) : waitsFor (t.setWait v) v ∧ t.setWait v = { t with run := (t.setWait v).run } := by
  have hrun : (∃ r, t.setWait v = { t with run := r } ∧ waitsFor { t with run := r } v) := by
    obtain h | ⟨k, h⟩ | ⟨k, h⟩ | ⟨k, h⟩ := h
    · exact ⟨.waiting v, by simp only [Strand.setWait, h], .inl rfl⟩
    · exact ⟨.saving k (some v), by simp only [Strand.setWait, h], .inr (.inl ⟨k, rfl⟩)⟩
    · exact ⟨.away k (some v), by simp only [Strand.setWait, h], .inr (.inr (.inl ⟨k, rfl⟩))⟩
    · exact ⟨.restoring k (some v), by simp only [Strand.setWait, h], .inr (.inr (.inr ⟨k, rfl⟩))⟩
  obtain ⟨r, he, hw⟩ := hrun
  rw [he]
  exact ⟨hw, rfl⟩

/-- The wait of a strand replaced in the machine. -/
theorem setStrand_setWait {s : State} {sid : Nat} {t : Strand} {w : WaitRec} (h : has s sid t) (hw : waitsFor t w) (v : WaitRec) :
    ∃ t', (s.setStrand (t.setWait v)).strand sid = some t' ∧ waitsFor t' v ∧ t' = { t with run := t'.run } := by
  obtain ⟨hv, he⟩ := setWait_spec hw v
  have hid : (t.setWait v).id.sid = sid := (congrArg (fun u => u.id.sid) he).trans (strand_name h.2)
  refine ⟨t.setWait v, ?_, hv, he⟩
  have := strand_setStrand (s := s) (t := t) (u := t.setWait v) (by rw [hid]; exact h)
  rwa [hid] at this

/-! ### Expiry (R282, R431) -/

section
variable {s s1 : State} {sid i : Nat} {t : Strand} {w : WaitRec} {e : WaitEnd}

theorem waitExpiry_own (h : has s sid t) (hw : waitsFor t w) (hg : gone s t w.deadline) (he : w.expired = false) (ho : w.what.obj = none) :
    (∀ u, s.waitFault t w = some u → exec (.waitExpiry sid) s = .next u) ∧
    (s.waitFault t w = none →
      exec (.waitExpiry sid) s = .next (s.endWait sid { status := (s.localTry t w.what).getD (s.localEnd t w.what) })) := by
  change (∀ u, _ → execWaitExpiry sid s = _) ∧ (_ → execWaitExpiry sid s = _)
  simp only [execWaitExpiry, h.2, waitsFor_iff.mp hw, waitDue_iff.mpr hg, he, ho, Bool.not_true, Bool.or_self, Bool.false_eq_true, if_false]
  exact ⟨fun u hu => by simp only [hu], fun hu => by simp only [hu]⟩

theorem waitExpiry_home (h : has s sid t) (hw : waitsFor t w) (hg : gone s t w.deadline) (he : w.expired = false) (ho : w.what.obj ≠ none)
    (hr : w.refused = none) : exec (.waitExpiry sid) s = .next (s.setStrand (t.setWait { w with expired := true })) := by
  obtain ⟨o, ho⟩ := Option.ne_none_iff_exists'.mp ho
  change execWaitExpiry sid s = _
  simp only [execWaitExpiry, h.2, waitsFor_iff.mp hw, waitDue_iff.mpr hg, he, ho, hr, Bool.not_true, Bool.or_self, Bool.false_eq_true, if_false,
    Option.isNone_none, if_true]

theorem waitExpiry_refused (h : has s sid t) (hw : waitsFor t w) (hg : gone s t w.deadline) (he : w.expired = false) (ho : w.what.obj = some i)
    (hr : w.refused ≠ none) (ha : s.attemptAgain t w = (.done e, s1)) : exec (.waitExpiry sid) s = .next ((s1.endWait sid e).serve i) := by
  obtain ⟨a, hr⟩ := Option.ne_none_iff_exists'.mp hr
  change execWaitExpiry sid s = _
  simp only [execWaitExpiry, h.2, waitsFor_iff.mp hw, waitDue_iff.mpr hg, he, ho, hr, ha, Bool.not_true, Bool.or_self, Bool.false_eq_true, if_false,
    Option.isNone_some]

/-! ### Cancellation and withdrawal (R297, R432) -/

theorem not_withdrawn (h : ∀ o p, w.what ≠ .arrival o p) : w.withdrawn = false := by
  rw [WaitRec.withdrawn]
  split
  next o p hw => exact absurd hw (h o p)
  next => rw [Bool.and_false]

theorem expiredWait_unserved (h : Expired s sid t w) (ha : ∀ o p, w.what ≠ .arrival o p) : s.expiredWait sid = some (t, w) := by
  obtain ⟨hs, hw, he, hu⟩ := h
  have hun : s.unserved sid w = true := by
    rw [State.unserved, Bool.or_eq_true, List.any_eq_true]
    refine hu.imp ?_ Option.isSome_iff_ne_none.mpr
    rintro ⟨q, hq, hid, hp⟩
    exact ⟨q, hq, by simp [hid, hp]⟩
  simp only [State.expiredWait, hs.2, waitsFor_iff.mp hw, not_withdrawn ha, he, hun, Bool.and_self, Bool.or_true, if_true]

theorem waitCancellation_eq (h : Expired s sid t w) (ha : ∀ o p, w.what ≠ .arrival o p) (ho : w.what.obj = some i) :
    exec (.waitCancellation sid) s = .next ((s.cancelWait t w).serve i) := by
  change execWaitCancellation sid s = _
  simp only [execWaitCancellation, expiredWait_unserved h ha, ho]

theorem waitCancellation_refused (h : Expired s sid t w) (hr : w.refused ≠ none) (ha : ∀ o p, w.what ≠ .arrival o p)
    (hat : (s.unregister sid).attemptAgain t w = (.done e, s1)) (ho : w.what.obj = some i) :
    exec (.waitCancellation sid) s = .next ((s1.endWait sid e).serve i) := by
  rw [waitCancellation_eq h ha ho, State.cancelWait]
  simp only [strand_name h.1.2, Option.isSome_iff_ne_none.mpr hr, if_true, hat]

theorem waitCancellation_registered (h : Expired s sid t w) (hr : w.refused = none) (ha : ∀ o p, w.what ≠ .arrival o p)
    (hat : (s.unregister sid).timeoutEnd t.agent w.what = (e, s1)) (ho : w.what.obj = some i) :
    exec (.waitCancellation sid) s = .next ((s1.endWait sid e).serve i) := by
  rw [waitCancellation_eq h ha ho, State.cancelWait]
  simp only [strand_name h.1.2, hr, Option.isSome_none, Bool.false_eq_true, if_false, hat]

theorem barawWithdrawal_eq {o : Nat} {p : BitVec 32} {st : Word} (h : has s sid t) (hw : waitsFor t w) (he : w.expired = true) (ho : w.what = .arrival o p)
    (hd : ((s.dropWakes sid).unregister sid).withdraw o p = (st, s1)) : exec (.barawWithdrawal sid) s = .next (s1.endWait sid { status := st }) := by
  have hx : s.expiredWait sid = some (t, w) := by
    simp only [State.expiredWait, h.2, waitsFor_iff.mp hw, WaitRec.withdrawn, he, ho, Bool.and_self, Bool.true_or, if_true]
  change execBarawWithdrawal sid s = _
  simp only [execBarawWithdrawal, hx, ho, hd]

/-! ### Wake-ups (R286, R297, R346) -/

theorem dropAt_eq {α : Type} : ∀ (n : Nat) (l : List α), dropAt n l = l.eraseIdx n
  | 0, [] => rfl
  | _ + 1, [] => rfl
  | 0, _ :: _ => rfl
  | n + 1, a :: r => congrArg (a :: ·) (dropAt_eq n r)

theorem tooLate_iff : s.tooLate t w = true ↔
    (∃ o p, w.what = .arrival o p) ∧ (w.expired = true ∨ w.deadline.tick < (if w.deadline.onRun = true then t.c.dclkr.toNat else s.dclkw.toNat)) := by
  rw [State.tooLate, Bool.and_eq_true, Bool.or_eq_true, decide_eq_true_eq, State.now]
  refine and_congr_left fun _ => ?_
  split
  next o p h => exact ⟨fun _ => ⟨o, p, h⟩, fun _ => rfl⟩
  next h => exact ⟨fun h' => absurd h' (by decide), fun ⟨o, p, h'⟩ => absurd h' (h o p)⟩

/-- A wake-up in time ends the wait of its strand. -/
theorem waiterWake_inTime {q : Wake} (hq : s.homes.wakes[i]? = some q) (hf : s.firstWake q = i)
    (hin : ∀ t w, s.strand q.sid = some t → waitsFor t w → s.tooLate t w = false) :
    exec (.waiterWake i) s = .next (State.endWait { s with homes := { s.homes with wakes := s.homes.wakes.eraseIdx i } } q.sid
      { status := q.status, datum := q.datum, elems := q.elems }) := by
  change execWaiterWake i s = _
  have hstrand (sid : Nat) : State.strand { s with homes := { s.homes with wakes := s.homes.wakes.eraseIdx i } } sid = s.strand sid := rfl
  have hlate (t : Strand) (w : WaitRec) : State.tooLate { s with homes := { s.homes with wakes := s.homes.wakes.eraseIdx i } } t w = s.tooLate t w := rfl
  simp only [execWaiterWake, hq, Option.bind_some, hf, dropAt_eq, hstrand]
  split
  next hn => simp only [State.endWait, hstrand, hn]
  next t ht =>
    split
    next w hw => rw [hlate, hin t w ht (waitsFor_iff.mpr hw)]; rfl
    next => rfl

/-- A wake-up for a BARAW whose deadline is past is discarded: its withdrawal has left (R297). -/
theorem waiterWake_late {q : Wake} (hq : s.homes.wakes[i]? = some q) (hf : s.firstWake q = i) (h : has s q.sid t) (hw : waitsFor t w)
    (hl : s.tooLate t w = true) :
    exec (.waiterWake i) s = .next (State.setStrand { s with homes := { s.homes with wakes := s.homes.wakes.eraseIdx i } } (t.setWait { w with expired := true })) := by
  change execWaiterWake i s = _
  have hstrand (sid : Nat) : State.strand { s with homes := { s.homes with wakes := s.homes.wakes.eraseIdx i } } sid = s.strand sid := rfl
  have hlate : State.tooLate { s with homes := { s.homes with wakes := s.homes.wakes.eraseIdx i } } t w = s.tooLate t w := rfl
  simp only [execWaiterWake, hq, Option.bind_some, hf, dropAt_eq, hstrand, h.2, waitsFor_iff.mp hw, hlate, hl, if_true]

/-! ### Resends (R290) -/

theorem clearAppended_nil (h : has s sid t) : s.clearAppended sid [] = s.setStrand t := by
  have hc := clearMask_nil t
  simp only [State.clearAppended, h.2, hc, List.isEmpty_nil, Bool.not_true, Bool.and_false, Bool.false_eq_true, if_false, if_true]
  cases hr : t.run <;> simp only [hr]

theorem onStrand_homes (s : State) (sid : Nat) (f : Strand → Strand) : (s.onStrand sid f).homes = s.homes := by
  rw [State.onStrand]; split
  · exact setStrand_homes ..
  · rfl

/-- A refused BARW whose phase has been reached is answered when it is tried again. -/
theorem resend_phase {o : Nat} {p : BitVec 32} (h : has s sid t) (hw : w.what = .phase o p)
    (hp : (fld (s.line (o / 64)) 4 4 + 2 ^ 32 - p.toNat) % 2 ^ 32 < 2 ^ 31) (hi : s.homes.waiters = []) :
    (s.resend t w).homes.wakes = s.homes.wakes ++ [⟨sid, stat 0 0 (fld (s.line (o / 64)) 4 4), none, none⟩] ∧ (s.resend t w).mem = s.mem := by
  have ha : s.attemptAgain t w = (.done { status := stat 0 0 (fld (s.line (o / 64)) 4 4) }, s.setStrand t) := by
    have hid := strand_name h.2
    have hc := clearAppended_nil (by rw [hid]; exact h : has s t.id.sid t)
    simp only [State.attemptAgain, hw, State.attemptObj, phaseReached, lfield_eq, decide_eq_true hp, if_true, appended, hc, status_eq, oDONE]
  simp only [State.resend, ha, hw, WaitFor.obj, strand_name h.2]
  rw [serve_idle (by rw [onStrand_homes, setStrand_homes]; exact hi)]
  exact ⟨by rw [onStrand_homes, setStrand_homes], (Laws.onStrand_mem ..).trans (Laws.setStrand_mem ..)⟩

end

/-! ### The end in place (R285, R286) -/

/-- A wait that is over: the strand runs, and a VAPND has spent VSTART (R176). -/
theorem waited_eq {t : Strand} (h : t.resuming = false) (w : WaitRec) : Strand.waited { t with run := .running } w =
    { t with run := .running, c := { t.c with vstart := if w.word.extractLsb' 26 6 = 0x22 then 0 else t.c.vstart } } := by
  have hr : Strand.resuming { t with run := .running } = false := h
  rw [Strand.waited]
  split
  next => rw [Strand.vdone, hr]; rfl
  next => rfl

theorem stepDone_quiet {s : State} (h : s.cur.stepping = false) : s.stepDone = s := by rw [State.stepDone, h]; rfl

theorem endWait_inPlace {s : State} {w : WaitRec} (h0 : s.cur.id.sid ≠ 0) (hr : s.cur.run = .waiting w) (hs : s.cur.stepping = false)
    (hn : s.cur.resuming = false) (st : Word) : s.endWait s.cur.id.sid { status := st } =
      State.finish { s with cur := { s.cur with run := .running, c := { s.cur.c with
        vstart := if w.word.extractLsb' 26 6 = 0x22 then 0 else s.cur.c.vstart } } } w.d st false := by
  simp only [State.endWait, strand_cur h0, hr]
  have hf := finish_stays (s := { s with cur := { s.cur with run := .running, c := { s.cur.c with
        vstart := if w.word.extractLsb' 26 6 = 0x22 then 0 else s.cur.c.vstart } } }) h0 w.d st false
  have hd := stepDone_quiet (hf.quiet hs)
  rw [asStrand_cur h0]
  · rw [waited_eq hn]; exact hd
  · rw [waited_eq hn]; exact (congrArg (fun u => u.cur.id) hd).trans hf.ident

theorem waitEnds : WaitEnds := by
  intro s s1 sid i t w e st
  refine ⟨fun h hw hg he ho => ?_, fun h hw hg he ho hr => ?_, fun h hw hg he ho hr ha => waitExpiry_refused h hw hg he ho hr ha,
    fun h hr ha hat ho => waitCancellation_refused h hr ha hat ho, fun h hr ha hat ho => waitCancellation_registered h hr ha hat ho,
    fun o p h hw he ho hd => barawWithdrawal_eq h hw he ho hd, fun q hq hf => ⟨fun hin => ?_, fun o p h hw ho hl => ?_⟩,
    fun a o p h hw hr ha he ho hp hi => ?_, fun hid h0 hr hs hn => ?_⟩
  · obtain ⟨hfault, hend⟩ := waitExpiry_own h hw hg he ho
    exact ⟨hfault, fun st hn ht => by rw [hend hn, ht, Option.getD_some], fun hn ht => by rw [hend hn, ht, Option.getD_none]⟩
  · obtain ⟨t', ht', hwt, heq⟩ := setStrand_setWait h hw { w with expired := true }
    exact ⟨_, waitExpiry_home h hw hg he ho hr, t', ht', hwt, heq, setStrand_homes .., Laws.setStrand_mem ..⟩
  · refine waiterWake_inTime hq hf fun t w ht hw => ?_
    rw [← Bool.not_eq_true, tooLate_iff]
    rintro ⟨⟨o, p, ho⟩, hl⟩
    obtain hno | ⟨he, hc⟩ := hin t w ht hw
    · exact hno o p ho
    · exact hl.elim (fun h => by rw [he] at h; exact absurd h (by decide)) (Nat.not_lt.mpr hc)
  · obtain ⟨t', ht', hwt, heq⟩ := setStrand_setWait (s := { s with homes := { s.homes with wakes := s.homes.wakes.eraseIdx i } }) h hw { w with expired := true }
    exact ⟨_, waiterWake_late hq hf h hw (tooLate_iff.mpr ⟨⟨o, p, ho⟩, hl⟩), setStrand_homes .., Laws.setStrand_mem .., t', ht', hwt, heq⟩
  · refine ⟨s.resend t w, ?_, resend_phase h ho hp hi⟩
    change execWaiterRefusalResend sid s = _
    simp only [execWaiterRefusalResend, h.2, waitsFor_iff.mp hw, hr]
    exact if_neg (by rw [he]; simp; omega)
  · subst hid
    rw [endWait_inPlace h0 hr hs hn, finish_ended]

end Sys2Proof.WaitEndRules
end

section
/-! PROOF. Declarations, watermarks and holds (R59 to R64, R199). -/

namespace Sys2Proof.HoldRules

open Machine Claim CsrRules VectorConfig Ledger TrapRules HaltRules WaitRules TaskRules StrandRules WaitEndRules

/-! ### Declarations (R59, R61) -/

theorem raiseW_le (own : Nat) (c : Context) (p : Packet) (ds : List (Nat × Nat)) (h : oneModule c = true) : ∀ (n w : Nat), w ≤ raiseW own c p ds n w
  | 0, w => Nat.le_refl w
  | n + 1, w => by
    rw [raiseW]
    simp only [h, Bool.not_true, Bool.false_and, Bool.false_eq_true, if_false]
    split
    · exact Nat.le_refl w
    · split
      next d hd =>
        have hw := List.find?_some hd
        simp only [Bool.and_eq_true, decide_eq_true_eq] at hw
        exact (Nat.le_of_lt hw.2).trans (raiseW_le own c p ds h n d.2)
      next => exact Nat.le_refl w

/-- A declaration from the watermark on raises it to its end (R59). -/
theorem declare_raises {l : Launch} {own first last : Nat} (h : oneModule l.ctx = true) (h1 : first ≤ l.watermark) (h2 : l.watermark < last)
    (h3 : l.watermark < l.packet.count.toNat) : last ≤ (l.declare own first last).watermark := by
  have hlt : first < last := by omega
  have hf : ((first, last) :: l.declared).find? (fun d => decide (d.1 ≤ l.watermark) && decide (l.watermark < d.2)) = some (first, last) := by
    rw [List.find?_cons, decide_eq_true h1, decide_eq_true h2]; rfl
  simp only [Launch.declare, hlt, if_true, h, Nat.add_zero]
  rw [raiseW, if_neg (Nat.not_le.mpr h3), h]
  simp only [Bool.not_true, Bool.false_and, Bool.false_eq_true, if_false, hf]
  exact raiseW_le own _ _ _ h _ _

theorem mem_updFirst_of_fixed {α : Type} {p : α → Bool} {f : α → α} {a : α} (hf : f a = a) : ∀ {l : List α}, a ∈ l → a ∈ updFirst p f l
  | b :: r, h => by
    unfold updFirst
    obtain rfl | h := List.mem_cons.mp h
    · split
      · rw [hf]; exact List.mem_cons_self
      · exact List.mem_cons_self
    · split
      · exact List.mem_cons_of_mem _ h
      · exact List.mem_cons_of_mem _ (mem_updFirst_of_fixed hf h)

theorem mem_updFirst_first {α : Type} {p : α → Bool} {f : α → α} {a : α} (hp : p a = true) :
    ∀ {l : List α}, a ∈ l → (∀ b ∈ l, p b = true → b = a) → f a ∈ updFirst p f l
  | b :: r, h, hu => by
    unfold updFirst
    split
    next hb => rw [hu b List.mem_cons_self hb]; exact List.mem_cons_self
    next hb =>
      obtain rfl | h := List.mem_cons.mp h
      · exact absurd hp hb
      · exact List.mem_cons_of_mem _ (mem_updFirst_first hp h (fun c hc => hu c (List.mem_cons_of_mem _ hc)))

/-- The Starter applies a declaration to its launch unless that has stopped. -/
def declared (s : State) (d : Declaration) (l : Launch) : Launch := if l.stop.isNone then l.declare s.front.modnum.toNat d.first d.last else l

theorem watermarkDeclaration_eq {s : State} {i : Nat} {d : Declaration} (h : s.homes.decls[i]? = some d) : exec (.watermarkDeclaration i) s =
    .next (State.onLaunch { s with homes := { s.homes with decls := s.homes.decls.eraseIdx i } } d.lid (declared s d)) := by
  change execWatermarkDeclaration i s = _
  simp only [execWatermarkDeclaration, h, dropAt_eq]
  rfl

/-! ### Holds (R60, R62, R63, R199) -/

section
variable {s : State} {t : Strand} {h : Hold}

theorem metBy_iff (hh : t.hold = some h) (tick : Nat) :
    s.metBy t tick = true ↔ ∃ l, s.launch t.id.lid = some l ∧ ∃ e ∈ l.rises, h.need ≤ e.1 ∧ e.2 ≤ tick := by
  rw [State.metBy, hh]
  cases s.launch t.id.lid <;> simp

/-- A request has ended the hold before the watermark met it, in the claims' words (R63). -/
theorem holdEnds_iff (hr : t.run = .holding) (hh : t.hold = some h) : s.holdEnds t = true ↔
    t.nest = false ∧ ∃ t0, t.request = some t0 ∧ t0 < s.dclkw.toNat ∧ t0 ≤ s.holdTick t h ∧
      ¬ ∃ l, s.launch t.id.lid = some l ∧ ∃ e ∈ l.rises, h.need ≤ e.1 ∧ e.2 ≤ t0 := by
  rw [show s.dclkw.toNat = s.now from rfl]
  simp only [← metBy_iff hh, State.holdEnds, hr, hh, Strand.mustYield]
  cases t.request <;> simp [and_assoc]

theorem holdPast_iff (hh : t.hold = some h) : s.holdPast t h = true ↔
    s.holdTick t h < s.dclkw.toNat ∧ ¬ ∃ l, s.launch t.id.lid = some l ∧ ∃ e ∈ l.rises, h.need ≤ e.1 ∧ e.2 ≤ s.holdTick t h := by
  rw [show s.dclkw.toNat = s.now from rfl, ← metBy_iff hh, State.holdPast, Bool.and_eq_true, decide_eq_true_eq, Bool.not_eq_true', Bool.not_eq_true]

end

/-- The grant of a hold (R60, R198). -/
theorem grantVl_held (s : State) (h : Hold) : s.grantVl h.d h.g =
    wrote { s with cur := { s.cur with hold := none, run := .running, c := { s.cur.c with vl := BitVec.ofNat 64 h.g, vstart := 0 } } } h.d
      (BitVec.ofNat 64 h.g) := by
  rw [State.grantVl, adv_wx]; rfl

/-- What grants, ends or saves the issuing strand's hold does so in place. -/
theorem dependences : Dependences := by
  intro s i h h0 hstep sid W metBy D ending past
  have hends (hr : s.cur.run = .holding) (hh : s.cur.hold = some h) : s.holdEnds s.cur = true ↔ ending := holdEnds_iff hr hh
  have hpast (hh : s.cur.hold = some h) : s.holdPast s.cur h = true ↔ past := holdPast_iff hh
  refine ⟨fun d hd => ⟨_, watermarkDeclaration_eq hd, rfl, fun l hl hu hid h1 h2 h3 hs hone => ?_⟩, fun d t hd ht l hl hu hs => ?_,
    fun hr hh hne hnp hW => ?_, fun hr hh hne hor => ?_, fun hr hh he hsent => ?_⟩
  · refine ⟨declared s d l, mem_updFirst_first (by rw [hid, beq_self_eq_true]) hl (fun m hm hp => hu m hm ?_), ?_, ?_⟩
    · rw [hid]; exact eq_of_beq hp
    · rw [declared]; split <;> rfl
    · rw [declared, hs]
      exact declare_raises hone h1 h2 h3
  · rw [watermarkDeclaration_eq hd] at ht
    cases ht
    refine mem_updFirst_of_fixed ?_ hl
    rw [declared, if_neg (by rw [Option.isNone_iff_eq_none]; exact hs)]
  · have hmet : (s.strand sid).bind s.holdMet = some h := by
      rw [strand_cur h0, Option.bind_some, State.holdMet, hr, hh]
      refine if_pos ⟨hW, ?_, ?_⟩
      · rw [Bool.not_eq_true', ← Bool.not_eq_true, hends hr hh]; exact hne
      · rw [Bool.not_eq_true', ← Bool.not_eq_true, hpast hh]; exact hnp
    have hgrant := grantVl_held s h
    have hdone : (s.grantVl h.d h.g).stepDone = s.grantVl h.d h.g := stepDone_quiet (by rw [hgrant]; exact hstep)
    change execWatermarkRise sid s = _
    simp only [execWatermarkRise, hmet]
    rw [asStrand_cur h0 (by rw [hdone, hgrant]; rfl), hdone, hgrant]
  · have hover : (s.strand sid).bind s.holdOver = some h := by
      rw [strand_cur h0, Option.bind_some, State.holdOver, hr, hh]
      have : s.holdEnds s.cur ≠ true := by rw [ne_eq, hends hr hh]; exact hne
      refine (if_neg this).trans (if_pos ?_)
      rw [Bool.or_eq_true, hpast hh, Bool.and_eq_true, decide_eq_true_eq]
      exact hor
    have hs := trapEntry_stays (s := { s with cur := { s.cur with hold := none, run := .running } }) h0 0x182 0 false s.cur.pc (BitVec.ofNat 64 h.need) 0 s.cur.pc
    have hdone : (s.holdTrap h.need).stepDone = s.holdTrap h.need := stepDone_quiet (hs.quiet hstep)
    change execDependenceHoldExpiry sid s = _
    simp only [execDependenceHoldExpiry, hover]
    rw [asStrand_cur h0 (by rw [hdone]; exact hs.ident), hdone]
    rfl
  · change execPreemptionRequestArrival sid s = _
    have hstr : s.strand sid = some s.cur := strand_cur h0
    simp only [execPreemptionRequestArrival, hstr, hsent, Bool.false_and, Bool.false_eq_true, if_false, (hends hr hh).mpr he, if_true]
    rw [asStrand_cur h0 (beginSave_stays h0 ..).ident]

/-- Settles O51: an expiry, a cancellation, a withdrawal or a wake-up ends the wait that the strand has; a declaration raises its launch's
watermark over its range, and the hold ends by what came first. -/
theorem waitEnds : Obligations.WaitEnds := ⟨WaitEndRules.waitEnds, dependences⟩

end Sys2Proof.HoldRules
end

section
/-! PROOF. What the Starter does between instructions (R54, R67, R68, R326, R331, R333). -/

namespace Sys2Proof.StarterRules

open Machine Claim CsrRules VectorConfig Ledger TrapRules HaltRules WaitRules TaskRules StrandRules WaitEndRules HoldRules

/-! ### Order (R333) -/

theorem mem_insertBy {α : Type} {lt : α → α → Bool} {a x : α} : ∀ {l : List α}, x ∈ insertBy lt a l ↔ x = a ∨ x ∈ l
  | [] => by simp [insertBy]
  | b :: r => by
    unfold insertBy
    split
    · simp
    · rw [List.mem_cons, List.mem_cons, mem_insertBy]
      exact or_left_comm

theorem mem_sortBy {α : Type} {lt : α → α → Bool} {x : α} : ∀ {l : List α}, x ∈ sortBy lt l ↔ x ∈ l
  | [] => Iff.rfl
  | a :: r => by rw [sortBy, mem_insertBy, mem_sortBy, List.mem_cons]

/-- The first of a sorted list stands behind no other. -/
theorem head_sortBy {α : Type} {lt : α → α → Bool} (hasymm : ∀ a b, lt a b = true → lt b a = false)
    (hneg : ∀ a b c, lt a c = true → lt a b = true ∨ lt b c = true) : ∀ {l : List α} {a : α}, (sortBy lt l).head? = some a → ∀ b ∈ l, lt b a = false
  | c :: r, a, h, b, hb => by
    have hirr (x : α) : lt x x = false := by
      cases hx : lt x x
      · rfl
      · exact hx.symm.trans (hasymm x x hx)
    rw [sortBy] at h
    cases hs : sortBy lt r with
    | nil =>
      have hr : r = [] := List.eq_nil_iff_forall_not_mem.mpr fun x hx => by
        have := (mem_sortBy (lt := lt)).mpr hx
        rw [hs] at this
        exact absurd this List.not_mem_nil
      rw [hs] at h
      cases h
      rw [hr, List.mem_singleton] at hb
      rw [hb]; exact hirr c
    | cons d rest =>
      have ih := head_sortBy hasymm hneg (l := r) (a := d) (by rw [hs]; rfl)
      rw [hs, insertBy] at h
      cases hd : lt d c with
      | false =>
        rw [hd] at h
        cases h
        obtain rfl | hb := List.mem_cons.mp hb
        · exact hirr _
        · cases hbc : lt b c with
          | false => rfl
          | true => exact (hneg b d c hbc).elim (fun h => h.symm.trans (ih b hb)) (fun h => h.symm.trans hd)
      | true =>
        rw [hd] at h
        cases h
        obtain rfl | hb := List.mem_cons.mp hb
        · exact hasymm _ _ hd
        · exact ih b hb

/-- The order of R333 in words. -/
theorem before_iff {a b : Launch} : a.before b = true ↔ a.packet.cls < b.packet.cls ∨ (a.packet.cls = b.packet.cls ∧
    (b.packet.prio < a.packet.prio ∨ (a.packet.prio = b.packet.prio ∧ a.order < b.order))) := by
  simp only [Launch.before, Bool.or_eq_true, Bool.and_eq_true, decide_eq_true_eq]

/-- The launch that the Starter takes is a head of its queue and none of the others stands before it (R326, R333). -/
theorem nextLaunch_spec {s : State} {l : Launch} (h : s.nextLaunch = some l) : l ∈ s.heads ∧
    ∀ m ∈ s.heads, s.recordFree m.packet.cls = true → m.before l = false := by
  have hasymm (a b : Launch) (h : a.before b = true) : b.before a = false := by
    rw [← Bool.not_eq_true, before_iff]; rw [before_iff] at h; omega
  have hneg (a b c : Launch) (h : a.before c = true) : a.before b = true ∨ b.before c = true := by
    simp only [before_iff] at h ⊢; omega
  refine ⟨?_, fun m hm hf => head_sortBy hasymm hneg h m (List.mem_filter.mpr ⟨hm, hf⟩)⟩
  have hl := (mem_sortBy (lt := Launch.before)).mp (List.mem_of_mem_head? h)
  exact (List.mem_filter.mp hl).1

theorem mem_heads {s : State} {l : Launch} : l ∈ s.heads ↔ l ∈ s.starter.queued ∧ ∀ m ∈ s.starter.queued, m.queue = l.queue → l.order ≤ m.order := by
  simp only [State.heads, List.mem_filter, List.all_eq_true, Bool.or_eq_true, bne_iff_ne, ne_eq, decide_eq_true_eq, imp_iff_not_or]

theorem launchTake_eq {s : State} {l : Launch} (h : s.nextLaunch = some l) : exec .launchTake s = .next { s with starter := { s.starter with
    queued := s.starter.queued.filter (fun m => m.id ≠ l.id), live := s.starter.live ++ [{ l with taken := true }] } } := by
  have hf : s.starter.queued.filter (fun m => m.id != l.id) = s.starter.queued.filter (fun m => m.id ≠ l.id) := by
    congr 1; funext m; rw [Bool.eq_iff_iff]; simp
  change execLaunchTake s = _
  simp only [execLaunchTake, h, hf]

/-! ### Starting a strand (R54, R331) -/

/-- The registers at start, one by one (R54, R331). -/
theorem startRegs_at (l : Launch) (core k area : Nat) (i : Nat) (hi : i < 32) :
    (startRegs l core k area)[i] = if i = 30 then l.ctx.stkbase + l.ctx.stksize * BitVec.ofNat 64 (l.ctx.areas * core + area + 1)
      else if i = 29 then l.ctx.locbase + l.ctx.locsize * BitVec.ofNat 64 (l.ctx.areas * core + area)
      else if 4 ≤ i ∧ i < 12 then l.packet.args.getD (i - 4) 0
      else if i = 3 then l.id
      else if i = 2 then BitVec.ofNat 64 (Nat.min (2 ^ l.packet.w 0) (l.packet.count.toNat - k * 2 ^ l.packet.w 0))
      else if i = 1 then BitVec.ofNat 64 (k * 2 ^ l.packet.w 0) else 0 := by
  simp only [startRegs, upto, List.foldl_cons, List.foldl_nil, Vector.getElem_set, Vector.getElem_setIfInBounds, Vector.getElem_replicate]
  interval_cases i <;> rfl

theorem startRegs_args (l : Launch) (core k area : Nat) (i : Fin 8) : (startRegs l core k area).getD (4 + i.val) 0 = l.packet.args.getD i.val 0 := by
  have hi : 4 + i.val < 32 := by omega
  have hv : (startRegs l core k area).getD (4 + i.val) 0 = (startRegs l core k area)[4 + i.val] := by
    generalize startRegs l core k area = x
    simp [Vector.getD, hi]
  rw [hv, startRegs_at, if_neg (by omega), if_neg (by omega), if_pos (by omega), Nat.add_sub_cancel_left]

theorem startRegs_zero (l : Launch) (core k area : Nat) (i : Nat) (hi : i < 32) (h : i ∉ [1, 2, 3, 4, 5, 6, 7, 8, 9, 10, 11, 29, 30]) :
    (startRegs l core k area)[i] = 0 := by
  simp only [List.mem_cons, List.not_mem_nil, or_false, not_or] at h
  obtain ⟨h1, h2, h3, h4, h5, h6, h7, h8, h9, h10, h11, h29, h30⟩ := h
  have h412 : ¬ (4 ≤ i ∧ i < 12) := by omega
  rw [startRegs_at, if_neg h30, if_neg h29, if_neg h412, if_neg h3, if_neg h2, if_neg h1]

theorem startRegs_first (l : Launch) (core k area : Nat) : (startRegs l core k area).getD 1 0 = BitVec.ofNat 64 (k * 2 ^ l.packet.w 0) := by
  have hv : (startRegs l core k area).getD 1 0 = (startRegs l core k area)[1] := by
    generalize startRegs l core k area = x
    simp [Vector.getD]
  rw [hv, startRegs_at]
  rfl

section
variable (sid now : Nat) (l : Launch) (core k slot area g m : Nat)

theorem startStrand_x : (startStrand sid now l core k slot area g m).x = startRegs l core k area := by
  simp only [startStrand]

theorem startStrand_widbase : (startStrand sid now l core k slot area g m).c.widbase = (startRegs l core k area).getD 1 0 := by
  simp only [startStrand]

theorem startStrand_sstatus : (startStrand sid now l core k slot area g m).c.sstatus = if l.ctx.sup then 3 else 0 := by
  simp only [startStrand]

end

theorem hosterr_front (s : State) (kind link addr : Nat) : ∃ f, s.hosterr kind link addr = { s with front := f } := ⟨_, rfl⟩

theorem leaveState_cur (s : State) (die next : Nat) : (s.leaveState die next).cur = s.cur := by rw [State.leaveState]; split <;> rfl

theorem entryFailed_cur (s : State) (die : Nat) : (s.entryFailed die).cur = s.cur := by
  rw [State.entryFailed]
  obtain ⟨f, hf⟩ := hosterr_front ((s.leaveState die 0).onDie die (fun d => { d with phase := .steady, noEntry := s.now + 100000000 })) 7 0 (die * 2 ^ 37)
  rw [hf]
  exact (Laws.onDie_cur ..).trans (leaveState_cur ..)

theorem stayAwake_cur (s : State) (die : Nat) : (s.stayAwake die).cur = s.cur := by
  rw [State.stayAwake]
  split
  · split
    · exact entryFailed_cur ..
    · exact Laws.onDie_cur ..
  · rfl

/-- What the Starter takes back from a strand of a core that is not among those that are to leave (R340). -/
def takenBack (core : Nat) (kept : List Nat) (t : Strand) : Strand :=
  if t.id.core = core ∧ t.resident ∧ (t.sent ∨ t.request.isSome) ∧ !(kept.contains t.id.sid) then { t with sent := false, request := none } else t

theorem takenBack_id (core : Nat) (kept : List Nat) (t : Strand) : (takenBack core kept t).id = t.id := by rw [takenBack]; split <;> rfl

theorem takenBack_run (core : Nat) (kept : List Nat) (t : Strand) : (takenBack core kept t).run = t.run := by rw [takenBack]; split <;> rfl

theorem takenBack_idle {core : Nat} {kept : List Nat} {t : Strand} (hs : t.sent = false) (hr : t.request = none) : takenBack core kept t = t :=
  if_neg (by simp [hs, hr])

theorem find?_map_sid {f : Strand → Strand} (hf : ∀ t, (f t).id = t.id) (sid : Nat) :
    ∀ l : List Strand, (l.map f).find? (fun t => t.id.sid == sid) = (l.find? (fun t => t.id.sid == sid)).map f := by
  intro l
  have : (fun t : Strand => t.id.sid == sid) ∘ f = fun t => t.id.sid == sid := by funext t; simp only [Function.comp, hf]
  rw [List.find?_map, this]

/-- Requests withdrawn: nothing but a request on its way or come is taken from any strand. -/
theorem strand_withdrawRequests (s : State) (core sid : Nat) :
    (s.withdrawRequests core).strand sid = (s.strand sid).map (takenBack core (s.plan core)) := by
  rw [State.withdrawRequests]
  split
  next =>
    have hid := takenBack_id core (s.plan core)
    have h : (s.strand sid).map (takenBack core (s.plan core)) =
        if (takenBack core (s.plan core) s.cur).id.sid = sid ∧ sid ≠ 0 then some (takenBack core (s.plan core) s.cur)
        else (s.strands.map (takenBack core (s.plan core))).find? (fun t => t.id.sid == sid) := by
      rw [hid, find?_map_sid hid, State.strand]
      split <;> rfl
    rw [h]; rfl
  next hany =>
    have hsame (t : Strand) (ht : t ∈ s.all) : takenBack core (s.plan core) t = t := by
      refine if_neg fun ⟨hc, hr, hs, _⟩ => hany (List.any_eq_true.mpr ⟨t, ht, ?_⟩)
      simp [hc, hr, hs]
    cases ht : s.strand sid with
    | none => rfl
    | some t =>
      have hmem : t ∈ s.all := by
        rw [State.strand] at ht
        split at ht
        · cases ht; exact List.mem_cons_self
        · exact List.mem_cons_of_mem _ (List.mem_of_find?_eq_some ht)
      rw [Option.map_some, hsame t hmem]

/-- A strand that starts is there under its name with the registers of R54. -/
theorem strandStart_spec {s : State} {core k slot area g m : Nat} {l : Launch} (hc : core < 384) (hd : s.dieRuns (core / 16) = true)
    (hp : s.pick core (s.waitList core) [] = some (.fresh l k, slot, area, g, m)) (hs : l.ctx.sup = false)
    (hfresh : ∀ u ∈ s.all, u.id.sid < s.nextSid) :
    ∃ t, exec (.strandStart core) s = .next t ∧ t.strand s.nextSid = some (startStrand s.nextSid s.now l core k slot area g m) := by
  have hphase : (s.dieAt (dieOf core)).phase ≠ .failed := by
    rw [State.dieRuns, Bool.and_eq_true, decide_eq_true_eq, decide_eq_true_eq] at hd
    exact hd.2
  have hd' : s.dieRuns (dieOf core) = true := hd
  have hone : ∃ u, s.startOne core = u ∧ u.strand s.nextSid = some (startStrand s.nextSid s.now l core k slot area g m) := by
    refine ⟨_, rfl, ?_⟩
    have hne : ¬ ((s.stayAwake (dieOf core)).cur.id.sid = s.nextSid ∧ s.nextSid ≠ 0) := by
      rw [stayAwake_cur]
      exact fun h => absurd (hfresh s.cur List.mem_cons_self) (by omega)
    have hnone : s.strands.find? (fun t => t.id.sid == s.nextSid) = none := by
      rw [List.find?_eq_none]
      intro u hu
      have := hfresh u (List.mem_cons_of_mem _ hu)
      simp; omega
    have hroster (u : State) (t : Strand) (off : Nat) (bs : List Byte) (sid : Nat) : (u.saveWrite t off bs).strand sid = u.strand sid := by
      have := saveWrite_roster u t off bs
      simp only [roster, Prod.mk.injEq] at this
      rw [State.strand, State.strand, this.1, this.2.1]
    simp only [State.startOne, hphase, if_false, hd', Bool.not_true, Bool.false_eq_true, hp, hs, hroster]
    rw [State.strand]
    refine (if_neg hne).trans ?_
    change (s.strands ++ [startStrand s.nextSid s.now l core k slot area g m]).find? (fun t => t.id.sid == s.nextSid) = _
    rw [List.find?_append, hnone, Option.none_or, List.find?_cons]
    rw [show (startStrand s.nextSid s.now l core k slot area g m).id.sid = s.nextSid from rfl, beq_self_eq_true]
  obtain ⟨u, hu, hstr⟩ := hone
  refine ⟨(s.startOne core).withdrawRequests core, ?_, ?_⟩
  · change execStrandStart core s = _
    rw [execStrandStart, Machine.coreOk, decide_eq_true hc]
    rfl
  · rw [strand_withdrawRequests, hu, hstr, Option.map_some, takenBack_idle rfl rfl]

/-! ### Retirement (R67, R68) -/

/-- What the end of a wait leaves of the Starter's books: the queues, what has retired and which launches are live. -/
def books (s : State) : List Launch × List Retired × List Word := (s.starter.queued, s.starter.retired, s.starter.live.map Launch.id)

theorem books_of_roster {s u : State} (h : roster u = roster s) : books u = books s := by
  simp only [roster, Prod.mk.injEq] at h
  simp only [books, h.2.2.1]

theorem books_of_ledger {s u : State} (h : ledger u = ledger s) : books u = books s := books_of_roster (roster_of_ledger h)

theorem map_updFirst {α β : Type} {g : α → β} {p : α → Bool} {f : α → α} (h : ∀ a, g (f a) = g a) : ∀ l : List α, (updFirst p f l).map g = l.map g
  | [] => rfl
  | a :: r => by
    unfold updFirst
    split
    · simp [h]
    · simp [map_updFirst h r]

theorem failLaunch_books (s : State) (lid : Word) (code : BitVec 10) : books (s.failLaunch lid code) = books s := by
  have h := map_updFirst (g := Launch.id) (p := fun l => l.id == lid) (f := fun l => if l.stop.isNone then { l with stop := some (false, code) } else l)
    (fun a => by split <;> rfl) s.starter.live
  simp only [books, State.failLaunch, h]

theorem setStrand_books (s : State) (t : Strand) : books (s.setStrand t) = books s := by
  rw [State.setStrand]; split <;> rfl

theorem lose_books (s : State) (sid : Nat) (code : BitVec 10) : books (s.lose sid code) = books s := by
  rw [State.lose]
  split
  · rfl
  · refine (failLaunch_books ..).trans ((books_of_roster (saveWrite_roster ..)).trans ?_)
    split
    · exact (books_of_ledger (stepOver_ledger ..)).trans ((books_of_ledger (releaseTile_ledger ..)).trans (setStrand_books ..))
    · exact (books_of_ledger (releaseTile_ledger ..)).trans (setStrand_books ..)

theorem trapEntry_books (s : State) (code : BitVec 10) (deliv : Nat) (elem : Bool) (tpc tval rec resume : Word) :
    books (s.trapEntry code deliv elem tpc tval rec resume) = books s := by
  cases hn : s.cur.nest with
  | true => rw [Laws.trapEntry_nested hn]; exact lose_books ..
  | false =>
    rw [trapEntry_eq s code deliv elem tpc tval rec resume hn]
    have he : books (entered s code deliv elem tpc tval rec resume) = books s := by
      rw [entered, books_of_roster (saveWrite_roster ..)]; rfl
    generalize entered s code deliv elem tpc tval rec resume = u at he
    have hl : books (u.target u.me s.cur.c.tvec).2 = books s := (books_of_ledger (target_ledger ..)).trans he
    dsimp only
    generalize u.target u.me s.cur.c.tvec = q at hl
    obtain ⟨l, v⟩ := q
    cases l with
    | refused => exact (lose_books ..).trans hl
    | marked => exact hl
    | unread => exact hl

theorem finish_books (s : State) (d : Reg) (st : Word) (poll : Bool) : books (s.finish d st poll) = books s := by
  rw [State.finish]
  generalize countTimeout (s.wx d st).cur.c.tocnt (s.wx d st).core.escal st poll = q
  dsimp only
  split
  · exact trapEntry_books ..
  · rfl

theorem beginSave_books (s : State) (k : SaveKind) (w : Option WaitRec) (resume : Word) : books (s.beginSave k w resume) = books s := by
  rw [State.beginSave]
  split
  · exact lose_books ..
  · rfl

theorem stepDone_books (s : State) : books s.stepDone = books s := by
  rw [State.stepDone]
  split
  · exact (beginSave_books _ .forced none _).trans (books_of_ledger (stepOver_ledger ..))
  · rfl

theorem focus_books (s : State) (sid : Nat) : books (s.focus sid) = books s := by
  rw [State.focus]
  split
  · rfl
  · split
    · rfl
    · dsimp only; split <;> rfl

theorem asStrand_books (s : State) (sid : Nat) {f : State → State} (hf : ∀ u, books (f u) = books u) : books (s.asStrand sid f) = books s := by
  rw [State.asStrand]
  split
  · rfl
  · exact (focus_books ..).trans ((hf _).trans (focus_books ..))

theorem endAway_books (s : State) (t : Strand) (w : WaitRec) (e : WaitEnd) (run : Run) : books (s.endAway t w e run) = books s := by
  have hreg (u : State) (r : Reg) (v : Word) : books (u.saveReg t r v) = books u := by
    rw [State.saveReg]; split
    · rfl
    · exact books_of_roster (saveWrite_roster ..)
  have hcsr (u : State) (i : Nat) (v : Word) : books (u.saveCsr t i v) = books u := books_of_roster (saveWrite_roster ..)
  have hsave (u : State) (off : Nat) (bs : List Byte) : books (u.saveWrite t off bs) = books u := books_of_roster (saveWrite_roster ..)
  rw [State.endAway]
  dsimp only
  rw [setStrand_books, hcsr, hcsr, hcsr, hsave, hreg]
  split
  · exact hreg ..
  · rfl

/-- The end of a wait leaves the Starter's books alone. -/
theorem endWait_books (s : State) (sid : Nat) (st : Word) : books (s.endWait sid { status := st }) = books s := by
  rw [State.endWait]
  dsimp only
  split
  next h => cases h
  next => rfl
  next t _ _ =>
    split
    · exact asStrand_books s sid fun u => (stepDone_books _).trans (finish_books ..)
    · exact endAway_books ..
    · exact endAway_books ..
    · exact endAway_books ..
    · rfl

theorem wakeRetire_books (s : State) (lid : Word) : books (s.wakeRetire lid) = books s := by
  refine foldl_keeps books _ (fun u t => ?_) s.all s
  split
  · split
    · split
      · split
        · exact endWait_books ..
        · rfl
      · rfl
    · rfl
  · rfl

theorem complete_books (s : State) (l : Launch) (st : Word) : books (s.complete l st) = books s := by
  have he (u : State) (kind link addr : Nat) : books (u.hosterr kind link addr) = books u := by
    obtain ⟨f, hf⟩ := hosterr_front u kind link addr
    rw [hf]; rfl
  rw [State.complete]
  split
  · rfl
  · dsimp only
    split
    · split <;> rfl
    · rw [he]
      split
      · rfl
      · exact he ..

/-- What a retirement enters in the books (R48, R67, R68). -/
theorem retire_books (s : State) (l : Launch) : ∃ r, (s.retire l).starter.retired.head? = some r ∧ r.id = l.id ∧ r.status = l.status ∧
    r.watermark = (if l.stop.isNone then wMax else l.watermark) ∧ ∀ q ∈ (s.retire l).starter.live ++ (s.retire l).starter.queued, q.id ≠ l.id := by
  refine ⟨⟨l.id, l.ctx.asid, l.status, if l.stop.isNone then wMax else l.watermark⟩, rfl, rfl, rfl, rfl, fun q hq => ?_⟩
  have hq' : q ∈ s.starter.live.filter (fun q => q.id != l.id) ++ s.starter.queued.filter (fun q => q.id != l.id) := hq
  rw [← List.filter_append, List.mem_filter] at hq'
  simpa using hq'.2

/-- The books after a retirement, once its waits have ended and its record has gone. -/
theorem launchRetire_books {s : State} {l : Launch} (hl : s.launch l.id = some l) (ho : l.stop ≠ none ∨ l.left = 0) :
    ∃ t, ∃ u : State, exec (.launchRetire l.id) s = .next t ∧ books t = books (u.retire l) := by
  have hno : ¬ (l.stop.isNone = true ∧ l.left ≠ 0) := by
    rw [Option.isNone_iff_eq_none]
    exact fun h => ho.elim (fun h' => h' h.1) h.2
  have he : ∃ u : State, exec (.launchRetire l.id) s = .next (((u.retire l).wakeRetire l.id).complete l l.status) := by
    change ∃ u : State, execLaunchRetire l.id s = _
    simp only [execLaunchRetire, hl, if_neg hno]
    exact ⟨_, rfl⟩
  obtain ⟨u, he⟩ := he
  exact ⟨_, u, he, (complete_books ..).trans (wakeRetire_books ..)⟩

theorem starterEvents : StarterEvents := by
  intro s core l hc
  refine ⟨fun hn => ?_, fun k slot area g m hd hp hs h0 hfresh => ?_, fun hl ho => ?_⟩
  · obtain ⟨hh, hmin⟩ := nextLaunch_spec hn
    obtain ⟨hq, hfirst⟩ := mem_heads.mp hh
    refine ⟨launchTake_eq hn, hq, hfirst, fun m hm hhead hfree => ?_⟩
    have := hmin m (mem_heads.mpr ⟨hm, fun k hk hkq => hhead k hk hkq⟩) hfree
    rw [← Bool.not_eq_true, before_iff] at this
    omega
  · obtain ⟨t, ht, hu⟩ := strandStart_spec hc hd hp hs hfresh
    have hw0 : (l.packet.ctrl.extractLsb' 0 6).toNat = l.packet.w 0 := toNat_extractLsb' ..
    simp only [hw0]
    refine ⟨t, _, ht, hu, rfl, rfl, rfl, rfl, rfl, rfl, rfl, rfl, ?_, ?_, ?_, ?_, ?_, ?_, ?_, rfl, ?_, rfl, ?_⟩
    · rw [startStrand_x, startRegs_at]; rfl
    · rw [startStrand_x, startRegs_at]; rfl
    · rw [startStrand_x, startRegs_at]; rfl
    · rw [startStrand_x]; exact startRegs_args l core k area
    · rw [startStrand_x, startRegs_at]; rfl
    · rw [startStrand_x, startRegs_at, if_pos rfl, BitVec.ofNat_add]; rfl
    · rw [startStrand_x]; exact fun i hi => startRegs_zero l core k area i.val i.isLt hi
    · rw [startStrand_widbase, startRegs_first]
    · rw [startStrand_sstatus, hs]; rfl
  · obtain ⟨t, u, ht, hb⟩ := launchRetire_books hl ho
    obtain ⟨r, hr, hid, hst, hw, hgone⟩ := retire_books u l
    simp only [books, Prod.mk.injEq] at hb
    obtain ⟨hqueued, hretired, hlive⟩ := hb
    refine ⟨t, r, ht, by rw [hretired, hr], hid, fun q hq => ?_, fun hn => ?_, fun c hn => ?_, fun c hn => ?_⟩
    · obtain hq | hq := List.mem_append.mp hq
      · have hm := List.mem_map_of_mem (f := Launch.id) hq
        rw [hlive, List.mem_map] at hm
        obtain ⟨q', hq', he⟩ := hm
        rw [← he]
        exact hgone q' (List.mem_append_left _ hq')
      · exact hgone q (List.mem_append_right _ (hqueued ▸ hq))
    · rw [hst, hw, hn, Launch.status, hn]
      exact ⟨rfl, rfl⟩
    · rw [hst, hw, hn, Launch.status, hn]
      exact ⟨rfl, rfl⟩
    · rw [hst, hw, hn, Launch.status, hn]
      exact ⟨rfl, rfl⟩

end Sys2Proof.StarterRules
end

section
/-! PROOF. What a restore gives back (R393, R395, R396). -/

namespace Sys2Proof.RestoreRules

open Machine Claim CsrRules VectorConfig Ledger TrapRules HaltRules WaitRules TaskRules StrandRules WaitEndRules HoldRules StarterRules

/-! ### Bytes of a saved number -/

/-- Byte `b` of a little-endian number is the byte of memory at its place (R5). -/
theorem extractLsb'_saved (m : List Host.Cell) (a : Nat) {n b w : Nat} (hb : b < n) (hw : 8 * b + 8 ≤ w) :
    (BitVec.ofNat w (ofBytes (Memory.bytes m a n))).extractLsb' (8 * b) 8 = Memory.get m (a + b) := by
  obtain ⟨k, rfl⟩ : ∃ k, n = b + (k + 1) := ⟨n - b - 1, by omega⟩
  have hlt := OwnSpad.ofBytes_bytes_lt m a b
  have hpow : 2 ^ (8 * b) = 256 ^ b := pow_mul 2 8 b
  have hdiv : ofBytes (Memory.bytes m a (b + (k + 1))) / 2 ^ (8 * b) = (Memory.get m (a + b)).toNat + 256 * ofBytes (Memory.bytes m (a + b + 1) k) := by
    rw [OwnSpad.ofBytes_bytes_append, hpow, Nat.add_mul_div_left _ _ (by positivity), Nat.div_eq_of_lt hlt, Nat.zero_add, Memory.bytes, ofBytes]
  have hbyte : (Memory.get m (a + b)).toNat < 256 := (Memory.get m (a + b)).isLt
  apply BitVec.eq_of_toNat_eq
  rw [BitVec.extractLsb'_toNat, BitVec.toNat_ofNat, Nat.shiftRight_eq_div_pow]
  have hsplit : 2 ^ w = 2 ^ (8 * b) * 2 ^ (w - 8 * b) := by rw [← pow_add]; congr 1; omega
  rw [hsplit, Nat.mod_mul_right_div_self, hdiv]
  have hdvd : 2 ^ 8 ∣ 2 ^ (w - 8 * b) := pow_dvd_pow 2 (by omega)
  rw [Nat.mod_mod_of_dvd _ hdvd]
  omega

theorem getByte_saveWrite {s : State} (hm : Inv s) (t : Strand) (b : Byte) :
    (s.saveWrite t 0x0B [b]).byte (physKey t.id.save + 0x0B) = b := by
  rw [State.byte, saveWrite_mem]
  exact Laws.get_setBytes_same [b] _ 0 Nat.one_pos hm

/-! ### Nothing on its way -/

theorem passes_notes (s : State) (dies : List Nat) : s.passes dies = { s with mark := (s.passes dies).mark } := rfl

theorem touch_notes (s : State) (key : Nat) : s.touch key = { s with mark := (s.touch key).mark } := by
  rw [State.touch]
  split
  · rfl
  · split <;> rfl

theorem decodesIn_notes (s : State) (first last source : Nat) (writer : BitVec 12) :
    s.decodesIn first last source writer = { s with mark := (s.decodesIn first last source writer).mark } := by
  rw [State.decodesIn]
  split
  · exact decodes_notes ..
  · rfl

/-- With nothing of a strand in its core's buffer or on the networks, nothing of it lands. -/
theorem drain_idle {s : State} {sid : Nat} {t : Strand} (hs : s.strand sid = some t) (hn : s.homes.wnet = []) (hb : (s.coreAt t.id.core).outb = [])
    (p : Nat → Bool) : roster (s.drain sid p) = roster s ∧ (s.drain sid p).mem = s.mem := by
  have hnet : s.drainNet sid p = s := by
    simp only [State.drainNet, hn, arriving, List.any_nil, Bool.or_self, Bool.false_eq_true, if_false, List.foldl_nil]
    rw [← hn]
  simp only [State.drain, hnet, State.drainBuffer, hs, hb, List.filter_nil, List.any_nil, List.isEmpty_nil, Bool.not_true, Bool.false_and, Bool.or_self,
    Bool.false_eq_true, if_false, List.foldl_nil]
  exact ⟨roster_of_ledger (setCore_ledger ..), Laws.setCore_mem ..⟩

/-! ### The strand that comes back -/

theorem strand_of_roster {s u : State} (h : roster u = roster s) (sid : Nat) : u.strand sid = s.strand sid := by
  simp only [roster, Prod.mk.injEq] at h
  rw [State.strand, State.strand, h.1, h.2.1]

theorem vectors_iff (k : SaveKind) : k.vectors = true ↔ k = .yield ∨ k = .forced := by cases k <;> simp [SaveKind.vectors]

/-- What the control registers of a save area keep as `vm` is not changed by the address space and the vector length of the resumption. -/
theorem resume_eq {s : State} {t : Strand} {k : SaveKind} {w : Option WaitRec} (hr : t.run = .restoring k w) (n : Nat) :
    ∃ c link, c.vm = s.savedWord t 3 ∧ s.resume t n =
      { s.restore t k n with c := c, link := link, run := match (generalizing := false) w with | some w => .waiting w | none => .running } := by
  rw [State.resume, hr]
  refine ⟨_, _, ?_, rfl⟩
  dsimp only
  split <;> split <;> rfl

/-- A strand as its save area gives it back (R393, R396). -/
theorem resume_spec {s : State} {t : Strand} {k : SaveKind} {w : Option WaitRec} (hr : t.run = .restoring k w) (n : Nat) :
    let r := s.resume t n
    let a := t.id.save.toNat % 2 ^ 42
    r.run = (match w with | some w => .waiting w | none => .running) ∧ r.grant = t.grant ∧
      (∀ (i : Fin 32), ∀ b < 8, r.x[i].extractLsb' (8 * b) 8 = s.byte (a + 0x80 + 8 * i.val + b)) ∧
      (∀ b < 8, r.c.vm.extractLsb' (8 * b) 8 = s.byte (a + 0x198 + b)) ∧
      (k = .yield ∨ k = .forced → ∀ (i : Fin 32), ∀ b < 8 * t.grant, b < 1024 → r.v[i].extractLsb' (8 * b) 8 = s.byte (a + 0x8000 + 1024 * i.val + b)) := by
  obtain ⟨c, link, hvm, he⟩ := resume_eq (s := s) hr n
  simp only [he]
  refine ⟨?_, rfl, fun i b hb => ?_, fun b hb => ?_, fun hk i b hb hb' => ?_⟩
  · cases w <;> rfl
  · simp only [State.restore, Fin.getElem_fin, Vector.getElem_ofFn, State.savedAt]
    rw [extractLsb'_saved _ _ hb (by omega), State.byte, physKey]
    exact congrArg (Memory.get s.mem) (by omega)
  · rw [hvm, State.savedWord, State.savedAt, extractLsb'_saved _ _ hb (by omega)]
    rfl
  · simp only [State.restore, if_pos ((vectors_iff k).2 hk), Fin.getElem_fin, Vector.getElem_ofFn, State.savedAt]
    rw [extractLsb'_saved _ _ hb (by omega), State.byte, physKey]
    exact congrArg (Memory.get s.mem) (by omega)

theorem resume_same {s : State} {t : Strand} {k : SaveKind} {w : Option WaitRec} (hr : t.run = .restoring k w) (n : Nat) :
    (s.resume t n).id = t.id ∧ (s.resume t n).request = t.request ∧ (s.resume t n).run ≠ .absent := by
  obtain ⟨c, link, -, he⟩ := resume_eq (s := s) hr n
  rw [he]
  exact ⟨rfl, rfl, by cases w <;> exact Run.noConfusion⟩

theorem yieldInWait_idle {s : State} (h : s.cur.request = none) : s.yieldInWait = s := by
  simp only [State.yieldInWait, Strand.mustYield, h, Option.isSome_none, Bool.false_and, Bool.not_false, if_true]

/-- The header of a strand that has come back is written last, and nothing is pending for it then. -/
theorem comeBack_strand {u : State} {t : Strand} {k : SaveKind} {w : Option WaitRec} (h : has u t.id.sid t) (hr : t.run = .restoring k w)
    (hq : t.request = none) (n : Nat) :
    let v := ((u.setStrand (u.resume t n)).saveWrite t 0x0B [0]).asStrand t.id.sid State.yieldInWait
    v.strand t.id.sid = some (u.resume t n) ∧ (Inv u → v.byte (physKey t.id.save + 0x0B) = 0) := by
  obtain ⟨hid, hreq, hrun⟩ := resume_same (s := u) hr n
  generalize hr' : u.resume t n = r at hid hreq hrun ⊢
  have hset : (u.setStrand r).strand t.id.sid = some r := by
    have h1 : has u r.id.sid t := by rw [hid]; exact h
    have h2 := strand_setStrand h1
    rwa [hid] at h2
  have hw : has ((u.setStrand r).saveWrite t 0x0B [0]) t.id.sid r := ⟨h.1, by rw [strand_of_roster (saveWrite_roster ..), hset]⟩
  have hidle : (((u.setStrand r).saveWrite t 0x0B [0]).focus t.id.sid).yieldInWait = id (((u.setStrand r).saveWrite t 0x0B [0]).focus t.id.sid) :=
    yieldInWait_idle (by rw [focus_cur hw, hreq, hq])
  simp only [asStrand_congr hidle]
  refine ⟨?_, fun hm => ?_⟩
  · rw [strand_asStrand (f := id) hw (by rw [id, focus_cur hw, hid]) (by rw [id, focus_cur hw]; exact hrun), id, focus_cur hw]
  · rw [State.byte, Laws.asStrand_mem _ _ id (fun _ => rfl)]
    refine getByte_saveWrite ?_ t 0
    rw [Machine.Inv, Laws.setStrand_mem]
    exact hm

/-- The end of a restore when nothing of the strand is on its way: the strand is as `resume` makes it, and its header says that it is resident. -/
theorem restoreEnd_strand {s : State} {sid : Nat} {t : Strand} {k : SaveKind} {w : Option WaitRec} (h : has s sid t) (hr : t.run = .restoring k w)
    (hq : t.request = none) (hb : (s.coreAt t.id.core).outb = []) (hn : s.homes.wnet = []) :
    ∃ (u : State) (n : Nat), u.mem = s.mem ∧ (s.restoreEnd t).strand sid = some (u.resume t n) ∧
      (Inv s → (s.restoreEnd t).byte (physKey t.id.save + 0x0B) = 0) := by
  obtain ⟨h0, hs⟩ := h
  obtain rfl := strand_name hs
  obtain ⟨m, hm⟩ : ∃ m, ((s.touch (physKey t.id.save)).passes (pathFor (dieOf t.id.core) (homeDie (physKey t.id.save)) (physKey t.id.save))).decodesIn
      (physKey t.id.save / 64) (physKey t.id.save / 64 + 1024) 0 t.writer = { s with mark := m } := by
    rw [decodesIn_notes, passes_notes, touch_notes]
    exact ⟨_, rfl⟩
  have hsm : ({ s with mark := m } : State).strand t.id.sid = some t := hs
  obtain ⟨hrost, hmem⟩ := drain_idle (s := { s with mark := m }) hsm hn hb
    (fun l => decide (physKey t.id.save / 64 ≤ l) && decide (l < physKey t.id.save / 64 + 1024))
  rw [State.restoreEnd, hm]
  generalize State.drain _ _ _ = d at hrost hmem ⊢
  obtain ⟨u, hu⟩ : ∃ u : State, u = { d with fresh := d.fresh + 5 } := ⟨_, rfl⟩
  have hur : roster u = roster s := by rw [hu]; exact hrost
  have humem : u.mem = s.mem := by rw [hu]; exact hmem
  have hustrand : u.strand t.id.sid = some t := by rw [strand_of_roster hur, hs]
  simp only [← hu, hustrand]
  obtain ⟨h1, h2⟩ := comeBack_strand ⟨h0, hustrand⟩ hr hq d.fresh
  exact ⟨u, d.fresh, humem, h1, fun hi => h2 (by rw [Machine.Inv, humem]; exact hi)⟩

/-- R393, R395, R396. -/
theorem restores : Claim.Restores := by
  intro s sid t k w h hr
  refine ⟨fun hq hb hn => ?_, fun o ha hp ho u hu => ?_⟩
  · obtain ⟨u, n, hmem, hs, hbyte⟩ := restoreEnd_strand h hr hq hb hn
    obtain ⟨h1, h2, h3, h4, h5⟩ := resume_spec (s := u) hr n
    simp only [State.byte, hmem] at h3 h4 h5
    refine ⟨_, hs, ?_, h2, h3, h4, h5, hbyte⟩
    rw [h1]
    cases w <;> rfl
  · subst hu
    simp only [step, State.advance, State.move, ha, State.own, hp, ho, andThen]

end Sys2Proof.RestoreRules
end

section
/-! PROOF. What the writing of a save area leaves of the strand that is saved (R331, R393, R396). -/

namespace Sys2Proof.SaveRules

open Machine Claim CsrRules VectorConfig Ledger TrapRules HaltRules WaitRules TaskRules StrandRules WaitEndRules HoldRules StarterRules RestoreRules

/-! ### What a lost or landed write of a strand changes of it -/

/-- A strand but for its records, its write log, its streams and how far its save has come. -/
def bare (t : Strand) : Strand := { t with records := [], pos := 0, wlog := [], streams := Vector.replicate 4 none, progress := 0 }

/-- The issuing strand and the clock. -/
def scene (s : State) : Strand × BitVec 63 := (s.cur, s.dclkw)

/-- What the outstanding writes of the issuing strand and the writing of its save area leave of it, and the clock. -/
def face (s : State) : Option Strand × BitVec 63 := (if s.cur.id.sid = 0 then none else some (bare s.cur), s.dclkw)

theorem face_of_scene {s u : State} (h : scene u = scene s) : face u = face s := by
  rw [scene, scene, Prod.mk.injEq] at h
  rw [face, face, h.1, h.2]

theorem scene_of_roster {s u : State} (h : roster u = roster s) : scene u = scene s := by
  simp only [roster, Prod.mk.injEq] at h
  rw [scene, scene, h.1, h.2.2.2.2.1]

theorem face_of_ledger {s u : State} (h : ledger u = ledger s) : face u = face s := face_of_scene (scene_of_roster (roster_of_ledger h))

theorem saveWrite_face (s : State) (t : Strand) (off : Nat) (bs : List Byte) : face (s.saveWrite t off bs) = face s :=
  face_of_scene (scene_of_roster (saveWrite_roster ..))

theorem landFrom_scene (s : State) (m : BitVec 18) (l : Nat) (w : BitVec 12) (mask : BitVec 64) (data : Line) :
    scene (s.landFrom m l w mask data).2 = scene s := by
  have ht (l : Nat) : scene (s.touch l) = scene s := scene_of_roster (roster_of_ledger (touch_ledger ..))
  have hd (u : State) (l n : Nat) (w : BitVec 12) : scene (u.decodes l n w) = scene u := scene_of_roster (roster_of_ledger (decodes_ledger ..))
  grind [State.landFrom, scene]

theorem landAt_face (s : State) (l : Nat) (w : BitVec 12) (mask : BitVec 64) (data : Line) : face (s.landAt l w mask data).2 = face s :=
  face_of_scene (landFrom_scene ..)

theorem touchLines_face (s : State) (first last : Nat) : face (s.touchLines first last) = face s :=
  foldl_keeps face _ (fun u _ => face_of_ledger (touch_ledger u _)) _ _

theorem ackLines_face (s : State) (sid : Nat) (p : Nat → Bool) : face (s.ackLines sid p) = face s := by
  rw [State.ackLines]
  have h := foldl_keeps face _ (fun u (e : Inval) => face_of_ledger (onCore_ledger u e.core (fun k => k.drop e.line (e.line + 1))))
    (s.homes.invals.filter (fun e => (e.sid == sid) && p e.line)) s
  dsimp only
  generalize List.foldl _ s _ = u at h ⊢
  exact h

theorem onCores_face (s : State) (f : Core → Core) : face (s.onCores f) = face s := rfl

theorem releaseSources_face (s : State) (core : Nat) : face (s.releaseSources core) = face s := rfl

/-- Strands of one face agree on all that a save keeps. -/
theorem face_fields {s u : State} (h : face u = face s) (h0 : s.cur.id.sid ≠ 0) :
    u.dclkw = s.dclkw ∧ u.cur.id = s.cur.id ∧ u.cur.run = s.cur.run ∧ u.cur.x = s.cur.x ∧ u.cur.v = s.cur.v ∧ u.cur.pc = s.cur.pc ∧
      u.cur.c = s.cur.c ∧ u.cur.dbg = s.cur.dbg := by
  rw [face, face, Prod.mk.injEq, if_neg h0] at h
  obtain ⟨h, hd⟩ := h
  have hu : u.cur.id.sid ≠ 0 := fun hu => by rw [if_pos hu] at h; cases h
  rw [if_neg hu, Option.some.injEq] at h
  have field {α : Type} (f : Strand → α) : f (bare u.cur) = f (bare s.cur) := congrArg f h
  exact ⟨hd, field Strand.id, field Strand.run, field Strand.x, field Strand.v, field Strand.pc, field Strand.c, field Strand.dbg⟩

theorem strand_is_cur {s : State} {sid : Nat} {t : Strand} (h : s.strand sid = some t) (hc : s.cur.id.sid = t.id.sid) (h0 : s.cur.id.sid ≠ 0) : s.cur = t := by
  obtain rfl := strand_name h
  rw [← hc, strand_cur h0] at h
  exact Option.some.inj h

/-- A strand put back under its name with nothing changed but what the face leaves out. -/
theorem setStrand_face {s : State} {sid : Nat} {t u : Strand} (h : s.strand sid = some t) (hid : u.id = t.id)
    (hu : bare u = bare t) : face (s.setStrand u) = face s := by
  rw [State.setStrand, hid]
  split
  next hc =>
    rw [face, face, hc, Prod.mk.injEq]
    dsimp only
    refine ⟨?_, rfl⟩
    rw [hid]
    split
    · rfl
    next h0 => rw [hu, ← strand_is_cur h hc (by rw [hc]; exact h0)]
  next => rfl

theorem addRecord_face (s : State) (sid : Nat) (r : Record) : face (s.addRecord sid r) = face s := by
  rw [State.addRecord]
  split
  · rfl
  next t ht =>
    have h (n : Nat) : face (s.setStrand { t with records := t.records ++ [{ r with ring := n, at_ := t.c.dclkr.toNat, given := false }] }) = face s :=
      setStrand_face ht rfl rfl
    dsimp only
    split
    · exact (saveWrite_face ..).trans (h _)
    · exact h _

theorem addReached_face (s : State) (sid : Nat) (r : Record) : face (s.addReached sid r) = face s := by
  rw [State.addReached]
  split
  · rfl
  next t ht => exact (addRecord_face ..).trans (setStrand_face ht rfl rfl)

/-! ### Landing -/

theorem landSent_face (s : State) (e : OutEntry) : face (s.landSent e) = face s := by
  have hl := landAt_face s e.line e.writer e.mask e.data
  rw [State.landSent]
  split
  · exact addRecord_face ..
  · split
    next heq => rw [heq] at hl; exact hl
    next heq => rw [heq] at hl; exact (addRecord_face ..).trans hl

theorem loseStore_face (s : State) (e : OutEntry) (landed : Bool) : face (s.loseStore e landed) = face s := by
  rw [State.loseStore]
  refine (addRecord_face ..).trans ?_
  split
  · exact landAt_face ..
  · rfl

theorem arriveStore_face (s : State) (f : Flight) : face (s.arriveStore f) = face s := by
  rw [State.arriveStore]
  dsimp only
  split
  · exact (loseStore_face ..).trans (face_of_ledger ((loss_ledger _).trans (passes_ledger ..)))
  · exact (landSent_face ..).trans (face_of_ledger (passes_ledger ..))

theorem landEntry_face (s : State) (core : Nat) (e : OutEntry) : face (s.landEntry core e) = face s := by
  have hc := face_of_ledger (crosses_ledger s core e.writer (64 * e.line) 64)
  rw [State.landEntry]
  split
  next heq => rw [heq] at hc; exact (addRecord_face ..).trans hc
  next heq => rw [heq] at hc; exact (landSent_face ..).trans hc

theorem drainNet_face (s : State) (sid : Nat) (p : Nat → Bool) : face (s.drainNet sid p) = face s := by
  rw [State.drainNet]
  refine (foldl_keeps face _ arriveStore_face _ _).trans ?_
  dsimp only
  split
  · rfl
  · rfl

theorem drainBuffer_face (s : State) (sid : Nat) (p : Nat → Bool) : face (s.drainBuffer sid p) = face s := by
  rw [State.drainBuffer]
  split
  · rfl
  · refine (foldl_keeps face _ (fun u e => landEntry_face u _ e) _ _).trans ((face_of_ledger (setCore_ledger ..)).trans ?_)
    split
    · exact face_of_ledger (waitNet_ledger s)
    · rfl

theorem drain_face (s : State) (sid : Nat) (p : Nat → Bool) : face (s.drain sid p) = face s := (drainBuffer_face ..).trans (drainNet_face ..)

/-! ### The streams -/

theorem send_face (s : State) (core : Nat) (e : OutEntry) : face (s.send core e) = face s := by
  have hp := face_of_ledger (portFor_ledger s core (64 * e.line))
  rw [State.send]
  split
  · rfl
  · split
    next heq => rw [heq] at hp; exact (addRecord_face ..).trans hp
    next heq => rw [heq] at hp; exact hp

theorem bufferStore_face (s : State) (wait : Bool) (a : Agent) (key n v : Nat) (pc : Word) (w : InsnWord) (pos : Nat) :
    face (s.bufferStore wait a key n v pc w pos) = face s := by
  have hset (u : State) (k : Core) : face (u.setCore k) = face u := face_of_ledger (setCore_ledger ..)
  have hrel (c : Nat) : face (s.releaseSources c) = face s := releaseSources_face s c
  rw [State.bufferStore]
  dsimp only
  split
  · exact hset ..
  split
  · exact hset ..
  split
  · split
    · exact (send_face ..).trans ((hset ..).trans (hrel _))
    · exact hrel _
  split
  · exact (hset ..).trans (hrel _)
  split
  · exact (face_of_ledger (waitNet_ledger _)).trans (hrel _)
  · exact (send_face ..).trans (hrel _)

theorem logLine_face (s : State) (l : Nat) : face (s.logLine l) = face s := rfl

theorem placeStream_face (s : State) (i : Nat) : face (s.placeStream i) = face s := by
  rw [State.placeStream]
  split
  · rfl
  · refine (foldl_keeps face _ (fun u e => ?_) _ _).trans rfl
    exact (bufferStore_face ..).trans (logLine_face ..)

theorem settleStreams_face (s : State) : face s.settleStreams = face s := by
  have h : face s.placeStreams = face s := foldl_keeps face _ placeStream_face _ s
  rw [State.settleStreams]
  generalize s.placeStreams = u at h ⊢
  exact h

/-! ### The turn of the write log -/

theorem turnLines_face (s : State) (a : Agent) (lvl : Nat) (all : Bool) (first last : Nat) : face (s.turnLines a lvl all first last) = face s := by
  have hpass : face ((s.touchLines first last).decodesIn first last 2 a.writer) = face s :=
    (face_of_ledger (decodesIn_ledger ..)).trans (touchLines_face ..)
  have hdrain (u : State) (p : Nat → Bool) (h : face u = face s) : face ((u.drain a.sid p).ackLines a.sid p) = face s :=
    (ackLines_face ..).trans ((drain_face ..).trans h)
  rw [State.turnLines]
  dsimp only
  generalize (s.touchLines first last).decodesIn first last 2 a.writer = u at hpass ⊢
  have hpath : face (if keyModule (64 * first) = 0 then u.passes (u.turnPaths a.core lvl first last) else u) = face s := by
    split
    · exact hpass
    · exact hpass
  have h := hdrain _ (fun l => decide (first ≤ l) && decide (l < last)) hpath
  generalize State.ackLines _ _ _ = v at h ⊢
  split
  · exact h
  · exact (onCores_face ..).trans h

theorem turnFar_face (s : State) (a : Agent) (lvl : Nat) (all : Bool) (n l : Nat) : face (s.turnFar a lvl all n l).2.2 = face s := by
  induction n generalizing s l with
  | zero => rfl
  | succ n ih =>
    have hc := face_of_ledger (crosses_ledger s a.core a.writer (64 * l) 64)
    rw [State.turnFar]
    split
    next heq => rw [heq] at hc; exact hc
    next heq => rw [heq] at hc; exact (ih ..).trans ((turnLines_face ..).trans hc)

theorem turnReachLine_face (s : State) (lvl : Nat) (sp : Span) (l : Nat) : face (s.turnReachLine lvl sp l) = face s := by
  have hf := turnFar_face s s.me lvl false 1 l
  rw [State.turnReachLine]
  split
  next heq =>
    rw [heq] at hf
    split
    · exact (addReached_face ..).trans hf
    · exact hf
  next heq => rw [heq] at hf; exact hf

theorem turnReach_face (s : State) (lvl : Nat) (sp : Span) (first last : Nat) : face (s.turnReach lvl sp first last) = face s := by
  rw [State.turnReach]
  split
  · exact turnLines_face ..
  · exact foldl_keeps face _ (fun u l => turnReachLine_face u lvl sp l) _ _

theorem turnSpan_face (s : State) (lvl : Nat) (sp : Span) (n : Nat) : face (s.turnSpan lvl sp n) = face s := by
  rw [State.turnSpan]
  split
  · rfl
  split
  · exact turnReach_face ..
  · refine foldl_keeps face _ (fun u p => ?_) _ _
    split
    · exact turnReach_face ..
    · rfl

theorem turnSpans_face (s : State) (lvl : Nat) (todo : List Span) (budget : Option Nat) : face (s.turnSpans lvl todo budget).2.2 = face s := by
  induction todo generalizing s budget with
  | nil => rfl
  | cons sp r ih =>
    rw [State.turnSpans]
    split
    · exact ih ..
    · cases budget with
      | some b =>
        dsimp only
        split
        · exact turnSpan_face ..
        · exact (ih ..).trans (turnSpan_face ..)
      | none => exact (ih ..).trans (turnSpan_face ..)

/-! ### The save area -/

theorem handOver_face (s : State) : face s.handOver = face s := by
  have h : face (s.settleStreams.turnSpans 1 s.settleStreams.cur.wlog none).2.2 = face s := (turnSpans_face ..).trans (settleStreams_face s)
  rw [State.handOver]
  dsimp only
  generalize s.settleStreams.turnSpans 1 s.settleStreams.cur.wlog none = q at h ⊢
  obtain ⟨n, ok, u⟩ := q
  exact h

theorem progress_face (s : State) (n : Nat) : face { s with cur := { s.cur with progress := n } } = face s := rfl

theorem saveFrom_face (s : State) (p : Nat) (rs : List (Nat × List (Nat × List Byte))) (at_ n : Nat) : face (s.saveFrom p rs at_ n) = face s := by
  induction rs generalizing s at_ n with
  | nil => rfl
  | cons r rs ih =>
    unfold State.saveFrom
    dsimp only
    split
    · exact ih ..
    · cases n with
      | zero => rfl
      | succ n =>
        refine (ih ..).trans ?_
        have hregion := foldl_keeps face (fun u e => u.saveWrite u.cur e.1 e.2) (fun u e => saveWrite_face ..) r.2 s
        exact (progress_face ..).trans ((saveWrite_face ..).trans hregion)

theorem saveOn_face (s : State) (n : Nat) : face (s.saveOn n) = face s := by
  rw [State.saveOn]
  split
  · refine (saveFrom_face ..).trans ?_
    split
    · exact handOver_face s
    · rfl
  · rfl

end Sys2Proof.SaveRules
end

section
/-! PROOF. Requests that have come, forced saves, saves completed, imprecise delivery and the watchdogs (R337 to R340, R384, R394, R402, R440, R441). -/

namespace Sys2Proof.PreemptRules

open Machine Claim CsrRules VectorConfig Ledger TrapRules HaltRules WaitRules TaskRules StrandRules WaitEndRules HoldRules StarterRules RestoreRules SaveRules

section
variable {s : State} {sid : Nat} {t : Strand}

theorem focus_dclkw (s : State) (sid : Nat) : (s.focus sid).dclkw = s.dclkw := by
  rw [State.focus]
  split
  · rfl
  · split
    · rfl
    · dsimp only; split <;> rfl

theorem asStrand_dclkw (s : State) (sid : Nat) {f : State → State} (hf : (f (s.focus sid)).dclkw = (s.focus sid).dclkw) : (s.asStrand sid f).dclkw = s.dclkw := by
  rw [State.asStrand]
  split
  · rfl
  · exact (focus_dclkw ..).trans (hf.trans (focus_dclkw ..))

/-- A strand replaced under its own name reads back. -/
theorem strand_onStrand (h : has s sid t) {f : Strand → Strand} (hf : (f t).id.sid = t.id.sid) : (s.onStrand sid f).strand sid = some (f t) := by
  obtain ⟨h0, hs⟩ := h
  obtain rfl := strand_name hs
  rw [State.onStrand, hs, ← hf]
  exact strand_setStrand (t := t) ⟨by rw [hf]; exact h0, by rw [hf]; exact hs⟩

/-- A strand that is lost stands under its name with the cause (R67). -/
theorem strand_lose (h : has s sid t) (code : BitVec 10) : (s.lose sid code).strand sid = some { t with run := .lost code, stepping := false } := by
  obtain ⟨h0, hs⟩ := h
  obtain rfl := strand_name hs
  have hset : (s.setStrand { t with run := .lost code, stepping := false }).strand t.id.sid = some { t with run := .lost code, stepping := false } :=
    strand_setStrand (u := { t with run := .lost code, stepping := false }) ⟨h0, hs⟩
  have hfail (u : State) : (u.failLaunch t.id.lid code).strand t.id.sid = u.strand t.id.sid := rfl
  rw [State.lose, hs]
  dsimp only
  rw [hfail, strand_of_roster (saveWrite_roster ..)]
  split
  · rw [strand_of_roster (roster_of_ledger (stepOver_ledger ..)), strand_of_roster (roster_of_ledger (releaseTile_ledger ..)), hset]
  · rw [strand_of_roster (roster_of_ledger (releaseTile_ledger ..)), hset]

/-! ### Requests -/

/-- The issuing strand's request has come: it stands from now on (R340). -/
def requestCame (s : State) : State := { s with cur := { s.cur with sent := false, request := some s.now } }

theorem yieldInWait_running {s : State} (h : s.cur.run = .running) : s.yieldInWait = s := by
  rw [State.yieldInWait, h]
  exact ite_self _

/-- A request that comes while the strand runs stands from then on (R340). -/
theorem requestArrival_running (h : has s sid t) (hsent : t.sent = true) (hd : t.dbg = false) (hst : t.stepping = false) (hr : t.run = .running) :
    ∃ u, exec (.preemptionRequestArrival sid) s = .next u ∧ u.mem = s.mem ∧ u.strand sid = some { t with sent := false, request := some s.now } := by
  have he : (s.focus sid).requestArrived = requestCame (s.focus sid) :=
    yieldInWait_running (s := requestCame (s.focus sid)) ((congrArg Strand.run (focus_cur h)).trans hr)
  have hcur : (requestCame (s.focus sid)).cur = { t with sent := false, request := some s.now } := by
    rw [requestCame, focus_cur h, State.now, State.now, focus_dclkw]
  refine ⟨s.asStrand sid requestCame, ?_, Laws.asStrand_mem _ _ _ (fun _ => rfl), ?_⟩
  · change execPreemptionRequestArrival sid s = _
    simp only [execPreemptionRequestArrival, h.2, hsent, Strand.resident, hr, hd, hst, Bool.not_false, Bool.and_self, if_true, asStrand_congr he]
  · rw [strand_asStrand h (by rw [hcur]; exact (strand_name h.2 :)) (by rw [hcur, hr]; exact nofun), hcur]

/-- A request that comes while the strand waits at a point where it may be saved starts its save (R286, R331). -/
theorem requestArrival_waiting (h : has s sid t) {w : WaitRec} (hsent : t.sent = true) (hd : t.dbg = false) (hst : t.stepping = false)
    (hr : t.run = .waiting w) (hn : t.nest = false) (hp : w.what.isPoint = true) :
    exec (.preemptionRequestArrival sid) s = .next (s.asStrand sid (fun u =>
      { u with cur := { u.cur with sent := false, request := some s.now } }.beginSave .wait (some w) u.cur.pc)) := by
  change execPreemptionRequestArrival sid s = _
  simp only [execPreemptionRequestArrival, h.2, hsent, Strand.resident, hr, hd, hst, Bool.not_false, Bool.and_self, if_true]
  have hn' : t.c.sstatus.getLsbD 2 = false := hn
  have hnow : (s.focus sid).now = s.now := by rw [State.now, State.now, focus_dclkw]
  refine congrArg Host.Outcome.next (asStrand_congr ?_)
  simp only [State.requestArrived, State.yieldInWait, hnow, Strand.mustYield, Strand.nest, focus_cur h, Option.isSome_some, hn', Bool.not_false, Bool.and_self,
    Bool.not_true, Bool.false_eq_true, if_false, hr, hp, if_true]

/-- A request that has stood for 8 us forces the save of a running strand (R340). -/
theorem forcedPreemption_running (h : has s sid t) {a : Nat} (hq : t.request = some a) (ha : a + 8000 ≤ s.now) (hr : t.run = .running) (hd : t.dbg = false) :
    exec (.forcedPreemption sid) s = .next (s.asStrand sid (fun u => u.beginSave .forced none u.cur.pc)) := by
  change execForcedPreemption sid s = _
  simp only [execForcedPreemption, h.2, State.forceDue, hq, decide_eq_true ha, Strand.resident, hr, hd, Bool.not_false, Bool.and_self, if_true]
  refine congrArg Host.Outcome.next (asStrand_congr ?_)
  simp only [State.force, focus_cur h, hr]

/-! ### Saves (R331, R393, R394) -/

/-- The rest of the save area is written with the strand brought before the machine. -/
def writeArea (k : SaveKind) (w : Option WaitRec) (s : State) : State := s.saveOn (s.cur.regions s.front.modnum k w).length

/-- The header of a save area says when it was written and that its strand is away (R393). -/
def writeHeader (t : Strand) (s : State) : State := (s.saveWrite t 0x18 (toBytes 8 s.now)).saveWrite t 0x0B [1]

/-- A strand whose save is complete. -/
def leaves (k : SaveKind) (w : Option WaitRec) (now : Nat) (t : Strand) : Strand := { t with run := .away k w, id := { t.id with since := now } }

/-- What the writing of a save area leaves of the strand and of the clock. -/
theorem writeArea_strand (h : has s sid t) {k : SaveKind} {w : Option WaitRec} (hr : t.run = .saving k w) :
    ∃ c, (s.asStrand sid (writeArea k w)).strand sid = some c ∧ (s.asStrand sid (writeArea k w)).dclkw = s.dclkw ∧ c.id = t.id ∧ c.x = t.x ∧ c.v = t.v ∧
      c.pc = t.pc ∧ c.c = t.c ∧ c.dbg = t.dbg := by
  have hf : face (writeArea k w (s.focus sid)) = face (s.focus sid) := saveOn_face ..
  have hc := focus_cur h
  have hsid := strand_name h.2
  obtain ⟨hclk, hid, hrun, hx, hv, hpc, hcs, hdbg⟩ := face_fields hf (by rw [hc, hsid]; exact h.1)
  rw [hc] at hid hrun hx hv hpc hcs hdbg
  exact ⟨_, strand_asStrand h (by rw [hid, hsid]) (by rw [hrun, hr]; exact nofun), asStrand_dclkw s sid hclk, hid, hx, hv, hpc, hcs, hdbg⟩

theorem takenBack_regs (core : Nat) (kept : List Nat) (t : Strand) :
    (takenBack core kept t).x = t.x ∧ (takenBack core kept t).v = t.v ∧ (takenBack core kept t).pc = t.pc ∧ (takenBack core kept t).c = t.c := by
  rw [takenBack]; split <;> exact ⟨rfl, rfl, rfl, rfl⟩

/-- A completed save: the strand is away with all that it had, and its header says so (R393, R394). -/
theorem saveComplete_spec (h : has s sid t) {k : SaveKind} {w : Option WaitRec} (hr : t.run = .saving k w) (hd : t.dbg = false) (hl : s.loadsOut t = 0) :
    ∃ u, exec (.saveComplete sid) s = .next u ∧ ∃ t', u.strand sid = some t' ∧ t'.run = .away k w ∧
      t'.id = { t.id with since := s.now } ∧ t'.x = t.x ∧ t'.v = t.v ∧ t'.pc = t.pc ∧ t'.c = t.c ∧
      (Machine.Inv s → u.byte (t.id.save.toNat % 2 ^ 42 + 0x0B) = 1) := by
  obtain ⟨c, hc, hclk, hid, hx, hv, hpc, hcs, hdbg⟩ := writeArea_strand h hr
  have hwf : Machine.Inv s → Machine.Inv (s.asStrand sid (writeArea k w)) := MemoryForm.asStrand_wf s sid _ (fun u => Laws.saveOn_wf u _)
  have hnow : (s.asStrand sid (writeArea k w)).now = s.now := by rw [State.now, State.now, hclk]
  have hex : exec (.saveComplete sid) s = .next ((((writeHeader t (s.asStrand sid (writeArea k w))).onStrand sid
      (leaves k w (writeHeader t (s.asStrand sid (writeArea k w))).now)).resumeHalted sid).withdrawRequests t.id.core) := by
    change execSaveComplete sid s = _
    simp only [execSaveComplete, h.2, hr, hl, ne_eq, not_true, if_false]
    rfl
  rw [hex]
  generalize s.asStrand sid (writeArea k w) = v at hc hwf hnow ⊢
  have hroster : roster (writeHeader t v) = roster v := (saveWrite_roster ..).trans (saveWrite_roster ..)
  have hvc : has (writeHeader t v) sid c := ⟨h.1, by rw [strand_of_roster hroster, hc]⟩
  have hbyte : Machine.Inv s → (writeHeader t v).byte (physKey t.id.save + 0x0B) = 1 :=
    fun hi => getByte_saveWrite (Laws.saveWrite_wf _ _ _ _ (hwf hi)) t 1
  have hnow' : (writeHeader t v).now = s.now := by
    rw [← hnow, State.now, State.now]
    exact congrArg (fun q => q.2.toNat) (scene_of_roster hroster)
  generalize writeHeader t v = y at hvc hbyte hnow' ⊢
  rw [hnow']
  have hset : (y.onStrand sid (leaves k w s.now)).strand sid = some (leaves k w s.now c) := strand_onStrand hvc rfl
  have hmem := Laws.onStrand_mem y sid (leaves k w s.now)
  obtain ⟨c', hc'⟩ : ∃ c', c' = leaves k w s.now c := ⟨_, rfl⟩
  rw [← hc'] at hset
  generalize y.onStrand sid _ = z at hset hmem ⊢
  have hdbg' : c'.dbg = false := by rw [hc']; exact hdbg.trans hd
  have hres : z.resumeHalted sid = z := by rw [State.resumeHalted, hset]; simp only [hdbg', Bool.false_and, Bool.false_eq_true, if_false]
  rw [hres]
  refine ⟨_, rfl, takenBack t.id.core (z.plan t.id.core) c', by rw [strand_withdrawRequests, hset, Option.map_some], ?_⟩
  obtain ⟨hbx, hbv, hbpc, hbc⟩ := takenBack_regs t.id.core (z.plan t.id.core) c'
  rw [takenBack_run, takenBack_id, hbx, hbv, hbpc, hbc, hc', leaves]
  refine ⟨rfl, by rw [hid], hx, hv, hpc, hcs, fun hi => ?_⟩
  rw [State.byte, MemoryForm.withdrawRequests_mem, hmem]
  exact hbyte hi

/-! ### The watchdogs (R440, R441) -/

/-- A save begun and written out at once leaves the strand its name, and leaves it there. -/
theorem writeArea_beginSave {u : State} (h0 : u.cur.id.sid ≠ 0) (hr : u.cur.run ≠ .absent) :
    (writeArea .forced none (u.beginSave .forced none u.cur.pc)).cur.id = u.cur.id ∧
      (writeArea .forced none (u.beginSave .forced none u.cur.pc)).cur.run ≠ .absent := by
  have hb := beginSave_stays h0 .forced none u.cur.pc
  generalize u.beginSave .forced none u.cur.pc = v at hb ⊢
  obtain ⟨-, hid, hrun, -⟩ := face_fields (s := v) (u := writeArea .forced none v) (saveOn_face ..) (by rw [hb.ident]; exact h0)
  rw [hid, hrun]
  exact ⟨hb.ident, hb.there hr⟩

/-- A strand that a watchdog stops is lost with cause 0x3F0 (R440). -/
theorem strand_hang (h : has s sid t) (hr : t.run = .running) : ∃ t', (s.hang sid).strand sid = some t' ∧ t'.run = .lost 0x3F0 := by
  have hu : has (s.unregister sid) sid t := h
  have hc := focus_cur hu
  have hsid := strand_name h.2
  obtain ⟨hid, hrun⟩ := writeArea_beginSave (u := (s.unregister sid).focus sid) (by rw [hc, hsid]; exact h.1) (by rw [hc, hr]; exact nofun)
  have hsaved := strand_asStrand hu (f := fun u => writeArea .forced none (u.beginSave .forced none u.cur.pc)) (by rw [hid, hc, hsid]) hrun
  exact ⟨_, strand_lose ⟨h.1, hsaved⟩ _, rfl⟩

theorem handlerWatchdog_spec (h : has s sid t) (hr : t.run = .running) (hd : t.dbg = false) (hn : t.nest = true) (ha : t.nestAt + 10000000 ≤ t.stay) :
    ∃ u t', exec (.handlerWatchdog sid) s = .next u ∧ u.strand sid = some t' ∧ t'.run = .lost 0x3F0 := by
  obtain ⟨t', ht', hl⟩ := strand_hang h hr
  refine ⟨s.hang sid, t', ?_, ht', hl⟩
  change execHandlerWatchdog sid s = _
  simp only [execHandlerWatchdog, h.2, Strand.handlerHung, Strand.watched, hd, Strand.resident, hr, hn, decide_eq_true ha, Bool.not_false, Bool.and_self, if_true]

theorem trapRepeatWatchdog_spec (h : has s sid t) (hr : t.run = .running) (hd : t.dbg = false) (ha : 4096 ≤ t.repeats) :
    ∃ u t', exec (.trapRepeatWatchdog sid) s = .next u ∧ u.strand sid = some t' ∧ t'.run = .lost 0x3F0 := by
  obtain ⟨t', ht', hl⟩ := strand_hang h hr
  refine ⟨s.hang sid, t', ?_, ht', hl⟩
  change execTrapRepeatWatchdog sid s = _
  simp only [execTrapRepeatWatchdog, h.2, Strand.trapHung, Strand.watched, hd, Strand.resident, hr, decide_eq_true ha, Bool.not_false, Bool.and_self, if_true]

/-- A save or a restore that has not ended within 1 ms is tried once more and then loses its strand (R441). -/
theorem saveRestoreWatchdog_spec (h : has s sid t) {k : SaveKind} {w : Option WaitRec} (hr : (t.run = .saving k w ∧ t.dbg = false) ∨ t.run = .restoring k w)
    (ha : t.saveAt + 1000000 ≤ s.now) :
    (t.again = false → exec (.saveRestoreWatchdog sid) s = .next (s.setStrand { t with again := true, saveAt := s.now })) ∧
      (t.again = true → ∃ u t', exec (.saveRestoreWatchdog sid) s = .next u ∧ u.strand sid = some t' ∧ t'.run = .lost 0x3F0) := by
  have hh : s.saveHung t = true := by
    obtain ⟨hr, hd⟩ | hr := hr
    · simp only [State.saveHung, hr, hd, decide_eq_true ha, Bool.not_false, Bool.and_self]
    · simp only [State.saveHung, hr, decide_eq_true ha]
  have he : exec (.saveRestoreWatchdog sid) s =
      if t.again then .next (s.lose sid 0x3F0) else .next (s.setStrand { t with again := true, saveAt := s.now }) := by
    change execSaveRestoreWatchdog sid s = _
    simp only [execSaveRestoreWatchdog, h.2, hh, Bool.not_true, Bool.false_eq_true, if_false]
  refine ⟨fun hf => by rw [he, if_neg (by rw [hf]; exact Bool.false_ne_true)], fun hf => ⟨_, _, he.trans (if_pos hf), strand_lose h _, rfl⟩⟩

/-! ### Aging and imprecise delivery (R337, R384) -/

theorem issueAging_spec (h : has s sid t) (hr : t.run = .running) (hc : t.id.cls ≠ 0) (hs : t.stall = none) :
    exec (.issueAging sid) s = .next (s.setStrand { t with aged := some (t.aged.getD s.now) }) := by
  change execIssueAging sid s = _
  simp only [execIssueAging, State.onStrand, h.2, hr, hc, hs, Option.isSome_none, Bool.false_eq_true, or_self, if_false]

theorem impreciseDelivery_spec (h : has s sid t) {r : Record} (hr : t.run = .running) (hn : t.nest = false) (hs : t.stall = none)
    (hrec : nextRecord (t.records.filter (Record.late t.c.dclkr.toNat)) = some r) :
    exec (.impreciseDelivery sid) s = .next (s.asStrand sid (fun u => u.deliver r 2)) := by
  change execImpreciseDelivery sid s = _
  simp only [execImpreciseDelivery, h.2, Option.bind_some, Strand.lateRecord, hr, hn, hs, Option.isSome_none, Bool.or_self, Bool.false_eq_true, if_false, hrec]

end

end Sys2Proof.PreemptRules
end

section
/-! PROOF. Whom a pre-emption request names (R337 to R340). -/

namespace Sys2Proof.PlanRules

open Machine Claim CsrRules VectorConfig Ledger TrapRules HaltRules WaitRules TaskRules StrandRules WaitEndRules HoldRules StarterRules RestoreRules SaveRules
  PreemptRules

/-! ### The named strands -/

/-- A state in which the plan is tried out: its named strands are those of the state it is made for, and its clock is the same. -/
structure Drawn (s u : State) : Prop where
  named : ∀ q ∈ u.all, q.id.sid ≠ 0 → ∃ p ∈ s.all, p.id.sid = q.id.sid ∧ p.id.core = q.id.core ∧ p.id.cls = q.id.cls ∧ (q.dbg = false → p.dbg = false)
  clock : u.dclkw = s.dclkw

theorem drawn_without (s : State) (sids : List Nat) {u : State} (h : Drawn s u) : Drawn s (u.without sids) := by
  refine ⟨fun q hq h0 => ?_, h.clock⟩
  have hall : (u.without sids).all = u.all.map (fun t => if sids.contains t.id.sid then { t with run := .away .yield none } else t) := rfl
  rw [hall, List.mem_map] at hq
  obtain ⟨p, hp, rfl⟩ := hq
  have hsame : ∀ b : Bool, ((if b then { p with run := .away .yield none } else p : Strand)).id = p.id ∧
      ((if b then { p with run := .away .yield none } else p : Strand)).dbg = p.dbg := by
    intro b; cases b <;> exact ⟨rfl, rfl⟩
  obtain ⟨hid, hdbg⟩ := hsame (sids.contains p.id.sid)
  rw [hid] at h0 ⊢
  rw [hdbg]
  exact h.named p hp h0

theorem mem_updFirst {α : Type} {p : α → Bool} {b x : α} : ∀ {l : List α}, x ∈ updFirst p (fun _ => b) l → x = b ∨ x ∈ l
  | [], h => absurd h List.not_mem_nil
  | a :: r, h => by
    unfold updFirst at h
    split at h
    · exact (List.mem_cons.mp h).imp_right (List.mem_cons_of_mem _)
    · obtain rfl | h := List.mem_cons.mp h
      · exact .inr List.mem_cons_self
      · exact (mem_updFirst h).imp_right (List.mem_cons_of_mem _)

theorem mem_all_setStrand {s : State} {t q : Strand} (h : q ∈ (s.setStrand t).all) : q = t ∨ q ∈ s.all := by
  rw [State.setStrand] at h
  split at h
  · exact (List.mem_cons.mp h).imp_right (List.mem_cons_of_mem _)
  · obtain rfl | h := List.mem_cons.mp h
    · exact .inr List.mem_cons_self
    · exact (mem_updFirst h).imp_right (List.mem_cons_of_mem _)

theorem setStrand_dclkw (s : State) (t : Strand) : (s.setStrand t).dclkw = s.dclkw := by
  rw [State.setStrand]; split <;> rfl

theorem drawn_pretend {s u : State} (h : Drawn s u) (core : Nat) (c : Cand) (hc : ∀ t, c = .away t → t ∈ s.all ∧ t.dbg = false) (q : Nat × Nat × Nat × Nat) :
    Drawn s (u.pretend core c q) := by
  cases c with
  | fresh l k =>
    refine ⟨fun p hp h0 => ?_, h.clock⟩
    have hp' : p ∈ u.all ∨ p.id.sid = 0 := by
      obtain rfl | hp := List.mem_cons.mp hp
      · exact .inl List.mem_cons_self
      · obtain hp | hp := List.mem_append.mp hp
        · exact .inl (List.mem_cons_of_mem _ hp)
        · rw [List.mem_singleton] at hp
          rw [hp]
          exact .inr rfl
    exact h.named p (hp'.resolve_right h0) h0
  | away t =>
    obtain ⟨ht, hd⟩ := hc t rfl
    refine ⟨fun p hp h0 => ?_, (setStrand_dclkw ..).trans h.clock⟩
    obtain rfl | hp := mem_all_setStrand hp
    · exact ⟨t, ht, rfl, rfl, rfl, fun _ => hd⟩
    · exact h.named p hp h0

/-- Those that a candidate's claim names stand in the list it chooses from. -/
theorem victimsFor_mem {s : State} {core : Nat} {c : Cand} {n : Nat} : ∀ {l : List Strand} {chosen r : List Nat},
    s.victimsFor core c l chosen = some r → n ∈ r → n ∈ chosen ∨ ∃ v ∈ l, v.id.sid = n
  | [], _, _, h, _ => by cases h
  | v :: l, chosen, r, h, hn => by
    unfold State.victimsFor at h
    have hcons : n ∈ v.id.sid :: chosen → n ∈ chosen ∨ ∃ w ∈ v :: l, w.id.sid = n := fun hm =>
      (List.mem_cons.mp hm).elim (fun he => .inr ⟨v, List.mem_cons_self, he.symm⟩) .inl
    dsimp only at h
    split at h
    · cases h; exact hcons hn
    · obtain hm | ⟨w, hw, he⟩ := victimsFor_mem h hn
      · exact hcons hm
      · exact .inr ⟨w, List.mem_cons_of_mem _ hw, he⟩

theorem mem_preemptable {s : State} {core cls : Nat} {v : Strand} (h : v ∈ s.preemptable core cls) :
    v ∈ s.all ∧ v.dbg = false ∧ v.id.core = core ∧ v.id.sid ≠ 0 ∧ cls < v.id.cls := by
  rw [State.preemptable, mem_sortBy, List.mem_filter] at h
  obtain ⟨hm, h⟩ := h
  simp only [Bool.and_eq_true, Bool.not_eq_true', beq_iff_eq, decide_eq_true_eq] at h
  obtain ⟨⟨⟨⟨⟨-, hd⟩, hc⟩, h0⟩, hcls⟩, -⟩ := h
  exact ⟨hm, hd, hc, h0, hcls⟩

/-- What a request may be made for: a strand of the core that is not halted, of a class above that of one which waits and which may ask (R337 to R339). -/
def Named (s : State) (core n : Nat) (cs : List Cand) : Prop :=
  ∃ q ∈ s.all, q.id.sid = n ∧ q.id.core = core ∧ q.dbg = false ∧
    ∃ c ∈ cs, c.key.1 < q.id.cls ∧ (c.key.1 = 0 ∨ s.waitsSince c + 100000 ≤ s.dclkw.toNat)

theorem Named.mono {s : State} {core n : Nat} {cs ds : List Cand} (h : Named s core n cs) (hs : ∀ c ∈ cs, c ∈ ds) : Named s core n ds := by
  obtain ⟨q, hq, hn, hc, hd, c, hmem, hlt⟩ := h
  exact ⟨q, hq, hn, hc, hd, c, hs c hmem, hlt⟩

theorem mayRequest_drawn {s u : State} (h : Drawn s u) {c : Cand} (hm : u.mayRequest c = true) :
    c.key.1 = 0 ∨ s.waitsSince c + 100000 ≤ s.dclkw.toNat := by
  have hnow : u.now = s.now := congrArg BitVec.toNat h.clock
  have hw : u.waitsSince c = s.waitsSince c := by cases c <;> simp only [State.waitsSince, hnow]
  rw [State.mayRequest, Bool.or_eq_true, decide_eq_true_eq, decide_eq_true_eq, hw, hnow] at hm
  exact hm

theorem planFrom_named {s : State} {core n : Nat} : ∀ (cs : List Cand) (u : State), Drawn s u → (∀ t, Cand.away t ∈ cs → t ∈ s.all ∧ t.dbg = false) →
    n ∈ State.planFrom core cs u → Named s core n cs
  | [], _, _, _, h => absurd h List.not_mem_nil
  | c :: r, u, hd, hc, h => by
    have htail (v : State) (hv : Drawn s v) (hn : n ∈ State.planFrom core r v) : Named s core n (c :: r) :=
      (planFrom_named r v hv (fun t ht => hc t (List.mem_cons_of_mem _ ht)) hn).mono (fun d hd => List.mem_cons_of_mem _ hd)
    have hpretend (v : State) (hv : Drawn s v) (q : Nat × Nat × Nat × Nat) : Drawn s (v.pretend core c q) :=
      drawn_pretend hv core c (fun t ht => hc t (by rw [ht]; exact List.mem_cons_self)) q
    unfold State.planFrom at h
    split at h
    next q hq => exact htail _ (hpretend u hd q) h
    next =>
      split at h
      next => exact htail u hd h
      next hmay =>
        rw [Bool.not_eq_true', Bool.not_eq_false] at hmay
        split at h
        next => exact htail u hd h
        next sids hv =>
          obtain hn | hn := List.mem_append.mp h
          · obtain hm | ⟨v, hv', he⟩ := victimsFor_mem hv hn
            · exact absurd hm List.not_mem_nil
            · obtain ⟨hm, hdbg, hcore, h0, hcls⟩ := mem_preemptable hv'
              obtain ⟨p, hp, hpn, hpc, hpcls, hpd⟩ := hd.named v hm h0
              exact ⟨p, hp, hpn.trans he, hpc.trans hcore, hpd hdbg, c, List.mem_cons_self, by rw [hpcls]; exact hcls, mayRequest_drawn hd hmay⟩
          · refine htail _ ?_ hn
            split
            · exact hpretend _ (drawn_without s sids hd) _
            · exact drawn_without s sids hd

theorem away_waiters {s : State} {core : Nat} {t : Strand} (h : Cand.away t ∈ s.waiters core) : t ∈ s.all ∧ t.dbg = false := by
  rw [State.waiters, mem_sortBy, List.mem_append] at h
  obtain h | h := h
  · obtain ⟨e, -, he⟩ := List.mem_flatMap.mp h
    obtain ⟨k, -, hk⟩ := List.mem_map.mp he
    cases hk
  · obtain ⟨q, hq, he⟩ := List.mem_map.mp h
    cases he
    obtain ⟨hm, hr⟩ := List.mem_filter.mp hq
    rw [Bool.and_eq_true, Strand.readyAway] at hr
    refine ⟨hm, ?_⟩
    split at hr
    · simp only [Bool.and_eq_true, Bool.not_eq_true'] at hr; exact hr.1.1
    · exact absurd hr.1 Bool.false_ne_true

theorem plan_named {s : State} {core n : Nat} (h : n ∈ s.plan core) : Named s core n (s.waiters core) :=
  planFrom_named _ _ (drawn_without s _ ⟨fun q hq _ => ⟨q, hq, rfl, rfl, rfl, id⟩, rfl⟩) (fun _ => away_waiters) h

/-! ### Requests made and withdrawn -/

/-- A request sent to a strand that has none yet. -/
def asked (t : Strand) : Strand := if t.request.isSome then t else { t with sent := true }

theorem asked_id (t : Strand) : (asked t).id = t.id := by rw [asked]; split <;> rfl

theorem asked_run (t : Strand) : (asked t).run = t.run ∧ (asked t).dbg = t.dbg := by rw [asked]; split <;> exact ⟨rfl, rfl⟩

theorem asked_standing (t : Strand) : (asked t).sent = true ∨ (asked t).request ≠ none := by
  rw [asked]
  split
  next h => exact .inr (by rw [← Option.isSome_iff_ne_none]; exact h)
  next => exact .inl rfl

theorem asked_asked (t : Strand) : asked (asked t) = asked t := by
  cases h : t.request <;> simp [asked, h]

theorem find?_updFirst_other {p q : Strand → Bool} {b : Strand} (hpq : ∀ a, p a = true → q a = false) (hb : q b = false) :
    ∀ l : List Strand, (updFirst p (fun _ => b) l).find? q = l.find? q
  | [] => rfl
  | a :: r => by
    unfold updFirst
    split
    next h => rw [List.find?_cons, List.find?_cons, hb, hpq a h]
    next => rw [List.find?_cons, List.find?_cons, find?_updFirst_other hpq hb r]

/-- Another strand replaced under its own name: this one stands as it did. -/
theorem strand_onStrand_other (s : State) {n sid : Nat} (hne : n ≠ sid) {f : Strand → Strand} (hf : ∀ t, (f t).id = t.id) :
    (s.onStrand n f).strand sid = s.strand sid := by
  rw [State.onStrand]
  split
  next t ht =>
    have hn : t.id.sid = n := strand_name ht
    rw [State.setStrand, hf, hn]
    split
    next hc =>
      have h1 : (f t).id.sid ≠ sid := by rw [hf, hn]; exact hne
      rw [strand_other (s := s) (by rw [hc]; exact hne)]
      exact strand_other (s := { s with cur := f t }) h1
    next =>
      have hfind := find?_updFirst_other (p := fun u : Strand => u.id.sid == n) (q := fun u => u.id.sid == sid) (b := f t)
        (fun a ha => by simp only [beq_iff_eq] at ha; simp [ha, hne]) (by simp [hf, hn, hne]) s.strands
      rw [State.strand, State.strand]
      dsimp only
      rw [hfind]
  next => rfl

theorem strand_askAll {sid : Nat} : ∀ (l : List Nat) {s : State} {t : Strand}, has s sid t →
    (l.foldl (fun s n => s.onStrand n asked) s).strand sid = some (if sid ∈ l then asked t else t)
  | [], _, _, h => h.2
  | n :: l, s, t, h => by
    rw [List.foldl_cons]
    by_cases hn : n = sid
    · subst hn
      have hs : has (s.onStrand n asked) n (asked t) := ⟨h.1, strand_onStrand h (by rw [asked_id])⟩
      rw [strand_askAll l hs, asked_asked, ite_self, if_pos List.mem_cons_self]
    · have hs : has (s.onStrand n asked) sid t := ⟨h.1, by rw [strand_onStrand_other s hn asked_id]; exact h.2⟩
      rw [strand_askAll l hs]
      simp [Ne.symm hn]

/-- A pre-emption request of the Starter: whom it names, and what becomes of a strand's request (R337 to R340). -/
theorem preemptionRequest_spec {s : State} {core sid : Nat} {t : Strand} (hcore : core < 384) (h : has s sid t) :
    let v := (s.plan core).foldl (fun s n => s.onStrand n asked) s
    ∃ u, exec (.preemptionRequest core) s = .next u ∧ u.mem = s.mem ∧
      (sid ∈ s.plan core → sid ∈ v.plan core → ∃ t', u.strand sid = some t' ∧ (t'.sent = true ∨ t'.request ≠ none)) ∧
      (sid ∉ v.plan core → t.resident = true → t.id.core = core → ∃ t', u.strand sid = some t' ∧ t'.sent = false ∧ t'.request = none) := by
  have hv := strand_askAll (s.plan core) h
  have hmem : ((s.plan core).foldl (fun s n => s.onStrand n asked) s).mem = s.mem := foldl_keeps State.mem _ (fun u n => Laws.onStrand_mem u n asked) _ _
  have hex : exec (.preemptionRequest core) s = .next (((s.plan core).foldl (fun s n => s.onStrand n asked) s).withdrawRequests core) := by
    change execPreemptionRequest core s = _
    rw [execPreemptionRequest, Machine.coreOk, decide_eq_true hcore]
    rfl
  rw [hex]
  generalize (s.plan core).foldl (fun s n => s.onStrand n asked) s = v at hv hmem ⊢
  have hu := strand_withdrawRequests v core sid
  rw [hv, Option.map_some] at hu
  refine ⟨_, rfl, (MemoryForm.withdrawRequests_mem ..).trans hmem, fun hin hkept => ⟨_, hu, ?_⟩, fun hout hres hc => ⟨_, hu, ?_⟩⟩
  · have hname : (asked t).id.sid = sid := by rw [asked_id]; exact strand_name h.2
    rw [if_pos hin, takenBack, if_neg (fun hh => by simp [hname, hkept] at hh)]
    exact asked_standing t
  · have hq : ∀ q : Strand, q.id = t.id → q.run = t.run → q.dbg = t.dbg → (takenBack core (v.plan core) q).sent = false ∧ (takenBack core (v.plan core) q).request = none := by
      intro q hid hrun hdbg
      have hqr : q.resident = true := by rw [← hres, Strand.resident, Strand.resident, hrun, hdbg]
      have hqc : q.id.core = core := by rw [hid, hc]
      have hqs : q.id.sid = sid := by rw [hid]; exact strand_name h.2
      rw [takenBack]
      split
      next => exact ⟨rfl, rfl⟩
      next hn =>
        simpa [hqc, hqr, hqs, hout] using hn
    split
    · exact hq _ (asked_id t) (asked_run t).1 (asked_run t).2
    · exact hq t rfl rfl rfl

/-- R337 to R340, R384, R394, R402, R440, R441. -/
theorem preemption : Preemption := by
  intro s core sid t hcore h
  refine ⟨?_, fun hsent _ hd hst hr => requestArrival_running h hsent hd hst hr, fun w hsent hd hst hr hn hp => requestArrival_waiting h hsent hd hst hr hn hp,
    fun a hq ha hr hd => forcedPreemption_running h hq ha hr hd, fun k w hr hd hl => saveComplete_spec h hr hd hl,
    fun hr hc hs => issueAging_spec h hr hc hs, fun r hr hn hs hrec => impreciseDelivery_spec h hr hn hs hrec,
    fun hr hd hn ha => handlerWatchdog_spec h hr hd hn ha, fun hr hd ha => trapRepeatWatchdog_spec h hr hd ha,
    fun k w hr ha => saveRestoreWatchdog_spec h hr ha⟩
  obtain ⟨u, hu, hmem, hin, hout⟩ := preemptionRequest_spec hcore h
  exact ⟨u, hu, hmem, fun n hn => plan_named hn, hin, hout⟩

/-- Settles O52: whom a request names is shown of every state in which the plan is tried out; a save and a restore are followed through what the writing of the save area leaves of the strand. -/
theorem schedulingEvents : Obligations.SchedulingEvents := ⟨starterEvents, preemption, restores⟩

end Sys2Proof.PlanRules
end

section
/-! PROOF. What a write leaves at its home (R87, R88). -/

namespace Sys2Proof.LandRules

open Machine Laws Claim

/-! ### The list of tags -/

/-- A tag that is not clear, once set, is the tag of its line, and the other lines keep theirs. -/
theorem tagsGet_set {t : Tag} (h : t ≠ Tag.clear) (l m : Nat) : ∀ ts : List (Nat × Tag), Tags.get (Tags.set ts l t) m = if m = l then t else Tags.get ts m
  | [] => by
    rw [Tags.set, if_neg h]
    grind [Tags.get]
  | (a, u) :: r => by
    have ih := tagsGet_set h l m r
    simp only [Tags.set, if_neg h]
    grind [Tags.get]

theorem ne_clear_of_state {t : Tag} (h : t.state ≠ 5) : t ≠ Tag.clear := by
  rintro rfl
  exact h rfl

/-! ### The write -/

/-- The mark of a write to a line, once its home has been reached and its codeword decoded (R37, R426). -/
def landMark (s : State) (l : Nat) (w : BitVec 12) : Mark := ((s.touch (64 * l)).decodes l 2 w).mark

theorem touch_decodes (s : State) (l : Nat) (w : BitVec 12) : (s.touch (64 * l)).decodes l 2 w = { s with mark := landMark s l w } := by
  obtain ⟨m, hm⟩ := OwnSpad.touch_eq s (64 * l)
  obtain ⟨m', hm'⟩ := OwnSpad.decodes_eq { s with mark := m } l 2 w
  rw [landMark, hm, hm']

theorem landFrom_discarded {s : State} {m : BitVec 18} {l : Nat} {w : BitVec 12} {mask : BitVec 64} (hl : isSpad (64 * l) = false)
    (h : tagAfter (s.tag l) w m (mask == BitVec.allOnes 64) = none) (data : Line) :
    s.landFrom m l w mask data = (false, { s with mark := landMark s l w }) := by
  rw [State.landFrom, touch_decodes]
  simp only [hl, Bool.false_eq_true, if_false]
  rw [show State.tag { s with mark := landMark s l w } l = s.tag l from rfl, h]

/-- A write that is not discarded replaces the masked bytes of its line, and sets the tag that R88 gives it. -/
theorem landFrom_lands {s : State} {m : BitVec 18} {l : Nat} {w : BitVec 12} {mask : BitVec 64} {g : Tag} (hl : isSpad (64 * l) = false)
    (h : tagAfter (s.tag l) w m (mask == BitVec.allOnes 64) = some g) (data : Line) :
    s.landFrom m l w mask data = (true, { s with
      mem := Memory.setMasked s.mem (64 * l) mask.toNat data.toNat 64, tags := Tags.set s.tags l g, mark := landMark s l w }) := by
  rw [State.landFrom, touch_decodes]
  simp only [hl, Bool.false_eq_true, if_false]
  rw [show State.tag { s with mark := landMark s l w } l = s.tag l from rfl, h]

theorem line_byte (data : Line) (i : Nat) : BitVec.ofNat 8 (data.toNat / 256 ^ i) = data.extractLsb' (8 * i) 8 := by
  apply BitVec.eq_of_toNat_eq
  rw [BitVec.toNat_ofNat, BitVec.extractLsb'_toNat, Nat.shiftRight_eq_div_pow, pow_mul, show 2 ^ 8 = 256 from rfl]

/-- The bytes of memory after a masked write of a line. -/
theorem get_setLine {m : List Host.Cell} (h : Memory.wf m = true) (l : Nat) (mask : BitVec 64) (data : Line) (a : Nat) :
    Memory.get (Memory.setMasked m (64 * l) mask.toNat data.toNat 64) a =
      if a / 64 = l ∧ mask.getLsbD (a % 64) = true then data.extractLsb' (8 * (a % 64)) 8 else Memory.get m a := by
  rw [get_setMasked 64 _ _ _ _ h, ← line_byte]
  simp only [BitVec.getLsbD, Nat.testBit_eq_decide_div_mod_eq, decide_eq_true_eq]
  by_cases ha : a / 64 = l
  · subst ha
    rw [show a - 64 * (a / 64) = a % 64 by omega]
    refine if_congr ?_ rfl rfl
    constructor
    · exact fun h => ⟨rfl, h.2.2⟩
    · exact fun h => ⟨by omega, by omega, h.2⟩
  · rw [if_neg (by omega), if_neg (fun h => ha h.1)]

/-! ### The tag (R88) -/

theorem tagAfter_turned {t : Tag} (h : t.state.toNat ≤ 5) (w : BitVec 12) (m : BitVec 18) (whole : Bool) :
    tagAfter t w m whole = some ⟨6, w, t.gen + 1, m⟩ := by
  have h6 : t.state ≠ 6 := by rintro e; rw [e] at h; exact absurd h (by decide)
  have h7 : t.state ≠ 7 := by rintro e; rw [e] at h; exact absurd h (by decide)
  simp only [tagAfter, if_neg h7, if_neg h6]

theorem tagAfter_same {t : Tag} (h : t.state = 6) {w : BitVec 12} {m : BitVec 18} {whole : Bool} (hw : whole = true ∨ (t.writer = w ∧ t.wmod = m)) :
    tagAfter t w m whole = some ⟨6, w, t.gen + 1, m⟩ := by
  simp [tagAfter, h, hw]

theorem tagAfter_mixed {t : Tag} (h : t.state = 6) {w : BitVec 12} {m : BitVec 18} (hw : ¬ (t.writer = w ∧ t.wmod = m)) :
    tagAfter t w m false = some ⟨6, 0xFFF, t.gen + 1, m⟩ := by
  simp [tagAfter, h, hw]

theorem tagAfter_poisoned {t : Tag} (h : t.state = 7) (w : BitVec 12) (m : BitVec 18) (whole : Bool) :
    tagAfter t w m whole = if whole then some ⟨6, w, t.gen + 1, m⟩ else none := by
  simp [tagAfter, h]

/-- Settles O9: by the tag before the write (R88), `tagAfter` gives the new one or discards the write, and a write that is not
discarded sets the masked bytes and that tag together. -/
theorem landedWrite : Obligations.LandedWrite := by
  unfold Obligations.LandedWrite
  intro s l w mask data hl T own whole m put hinv
  have lands {wr : BitVec 12} (h : tagAfter T w own (mask == BitVec.allOnes 64) = some ⟨6, wr, T.gen + 1, own⟩) : ∃ t, put t wr := by
    have hc : (⟨6, wr, T.gen + 1, own⟩ : Tag) ≠ Tag.clear := ne_clear_of_state (by decide : (6 : BitVec 3) ≠ 5)
    refine ⟨_, landFrom_lands hl h data, rfl, ?_, ?_, ?_⟩
    · exact (tagsGet_set hc l l s.tags).trans (if_pos rfl)
    · exact fun m hm => (tagsGet_set hc l m s.tags).trans (if_neg hm)
    · exact fun a => get_setLine hinv l mask data a
  refine ⟨?_, ?_, ?_, ?_, ?_⟩
  · exact fun h => lands (tagAfter_turned h ..)
  · exact fun h hw => lands (tagAfter_same h (hw.imp_left beq_iff_eq.mpr))
  · exact fun h hp hw => lands ((congrArg _ (beq_false_of_ne hp)).trans (tagAfter_mixed h hw))
  · exact fun h hp => lands ((tagAfter_poisoned h ..).trans (if_pos (beq_iff_eq.mpr hp)))
  · exact fun h hp => landFrom_discarded hl ((tagAfter_poisoned h ..).trans (if_neg (fun hw => hp (beq_iff_eq.mp hw)))) data

end Sys2Proof.LandRules
end

section
/-! PROOF. Cores and dies by number: what a unit that is replaced reads back as, and what the others are. -/

namespace Sys2Proof.UnitRules

open Machine Laws HaltRules

/-! ### The lists that hold them -/

theorem find?_updFirst_other {α : Type} {p q : α → Bool} {b : α} (hpq : ∀ a, p a = true → q a = false) (hb : q b = false) :
    ∀ l : List α, (updFirst p (fun _ => b) l).find? q = l.find? q
  | [] => rfl
  | a :: r => by
    unfold updFirst
    split
    next h => rw [List.find?_cons, List.find?_cons, hb, hpq a h]
    next => rw [List.find?_cons, List.find?_cons, find?_updFirst_other hpq hb r]

theorem find?_insertBy_other {α : Type} {q : α → Bool} {lt : α → α → Bool} {b : α} (hb : q b = false) :
    ∀ l : List α, (insertBy lt b l).find? q = l.find? q
  | [] => by simp [insertBy, hb]
  | a :: r => by
    unfold insertBy
    split
    next => rw [List.find?_cons, hb]
    next => rw [List.find?_cons, List.find?_cons, find?_insertBy_other hb r]

/-! ### Cores -/

theorem coreAt_setCore_other (s : State) {k : Core} {n : Nat} (h : n ≠ k.id) : (s.setCore k).coreAt n = s.coreAt n := by
  have hq {q : Core} (hq : (q.id == k.id) = true) : (q.id == n) = false := by
    rw [beq_iff_eq] at hq
    simpa [hq] using fun e => h e.symm
  have hk : (k.id == n) = false := by simpa using fun e => h e.symm
  unfold State.setCore
  split
  next hc =>
    rw [State.coreAt, State.coreAt, if_neg (fun e => h e.symm), if_neg (fun e => h (e.symm.trans hc))]
  next hc =>
    split
    · simp only [State.coreAt, find?_updFirst_other (q := fun u : Core => u.id == n) (fun a ha => hq ha) hk]
    · simp only [State.coreAt, find?_insertBy_other (q := fun u : Core => u.id == n) hk]

/-- One core replaced: it reads back, and the others are as they were. -/
theorem coreAt_setCore_eq (s : State) (k : Core) (n : Nat) : (s.setCore k).coreAt n = if n = k.id then k else s.coreAt n := by
  split
  next h => subst h; exact coreAt_setCore s k
  next h => exact coreAt_setCore_other s h

theorem coreAt_onCore_eq {s : State} {n : Nat} {f : Core → Core} (hf : ∀ k, (f k).id = k.id) (m : Nat) :
    (s.onCore n f).coreAt m = if m = n then f (s.coreAt m) else s.coreAt m := by
  rw [State.onCore, coreAt_setCore_eq, hf, coreAt_id]
  split
  next h => rw [h]
  next => rfl

theorem setCore_frame (s : State) (k : Core) : s.setCore k = { s with core := (s.setCore k).core, cores := (s.setCore k).cores } := by
  unfold State.setCore
  split
  · rfl
  · split <;> rfl

theorem coreAt_onCores {s : State} {f : Core → Core} (hf : ∀ k, (f k).id = k.id) (hr : ∀ n, f (Core.reset n) = Core.reset n) (n : Nat) :
    (s.onCores f).coreAt n = f (s.coreAt n) := by
  have hid : (fun k : Core => k.id == n) ∘ f = fun k : Core => k.id == n := funext fun k => by simp [hf]
  rw [State.onCores, State.coreAt, State.coreAt]
  simp only [hf, List.find?_map, hid]
  split
  · rfl
  · cases s.cores.find? (fun k => k.id == n) with
    | none => exact (hr n).symm
    | some k => rfl

/-! ### Dies -/

theorem dieAt_id (s : State) (n : Nat) : (s.dieAt n).id = n := by
  unfold State.dieAt
  cases h : s.dies.find? (fun d => d.id == n) with
  | none => rfl
  | some d => simpa using List.find?_some h

/-- One die replaced: it reads back, and the others are as they were. -/
theorem dieAt_setDie (s : State) (d : Die) (n : Nat) : (s.setDie d).dieAt n = if n = d.id then d else s.dieAt n := by
  have hd : (d.id == d.id) = true := beq_self_eq_true _
  unfold State.setDie
  split_ifs with hany hn hn
  · subst hn
    rw [State.dieAt, find?_updFirst_const (p := fun q : Die => q.id == d.id) hd _ hany]
    rfl
  · simp only [State.dieAt]
    rw [find?_updFirst_other (p := fun q : Die => q.id == d.id) (q := fun q => q.id == n) (by grind) (by grind)]
  · subst hn
    rw [State.dieAt, find?_insertBy (p := fun q : Die => q.id == d.id) hd _ (eq_false_of_ne_true hany)]
    rfl
  · simp only [State.dieAt]
    rw [find?_insertBy_other (q := fun q : Die => q.id == n) (by grind)]

theorem dieAt_onDie {s : State} {n : Nat} {f : Die → Die} (hf : ∀ d, (f d).id = d.id) (m : Nat) :
    (s.onDie n f).dieAt m = if m = n then f (s.dieAt m) else s.dieAt m := by
  rw [State.onDie, dieAt_setDie, hf, dieAt_id]
  split
  next h => rw [h]
  next => rfl

theorem setDie_frame (s : State) (d : Die) : s.setDie d = { s with dies := (s.setDie d).dies } := by
  unfold State.setDie
  split <;> rfl

end Sys2Proof.UnitRules
end

section
/-! PROOF. TLBINV and TLBINVALL (R78, R307). -/

namespace Sys2Proof.TlbRules

open Machine Laws Claim HaltRules UnitRules

/-! ### The entries that leave -/

/-- A core's translation buffer without the entries that satisfy `p`, when the core is on the die. -/
def coreWithout (die : Nat) (p : TlbEntry → Bool) (k : Core) : Core := if dieOf k.id = die then { k with tlb := k.tlb.filter (fun e => !p e) } else k

theorem coreWithout_eq (die : Nat) (p : TlbEntry → Bool) (k : Core) :
    coreWithout die p k = { k with tlb := if dieOf k.id = die then k.tlb.filter (fun e => !p e) else k.tlb } := by
  unfold coreWithout
  split <;> rfl

/-- A die's translation cache without the entries that satisfy `p`. -/
def dieWithout (p : TlbEntry → Bool) (d : Die) : Die := { d with tlb := d.tlb.filter (fun e => !p e) }

theorem dropTlb_frame (s : State) (die : Nat) (p : TlbEntry → Bool) :
    s.dropTlb die p = { s with core := (s.dropTlb die p).core, cores := (s.dropTlb die p).cores, dies := (s.dropTlb die p).dies } := by
  rw [State.dropTlb, State.onDie, setDie_frame]
  rfl

theorem coreAt_dropTlb (s : State) (die : Nat) (p : TlbEntry → Bool) (n : Nat) : (s.dropTlb die p).coreAt n = { s.coreAt n with
    tlb := if n / 16 = die then (s.coreAt n).tlb.filter (fun e => !p e) else (s.coreAt n).tlb } := by
  have h : (s.dropTlb die p).coreAt n = (s.onCores (coreWithout die p)).coreAt n := by
    rw [State.dropTlb, State.onDie, setDie_frame]
    rfl
  have hid : dieOf (s.coreAt n).id = n / 16 := congrArg (· / 16) (coreAt_id s n)
  rw [h, coreAt_onCores (fun k => by rw [coreWithout_eq]) (fun n => by unfold coreWithout; split <;> rfl), coreWithout_eq, hid]

theorem dieAt_dropTlb (s : State) (die : Nat) (p : TlbEntry → Bool) (n : Nat) : (s.dropTlb die p).dieAt n = { s.dieAt n with
    tlb := if n = die then (s.dieAt n).tlb.filter (fun e => !p e) else (s.dieAt n).tlb } := by
  refine (dieAt_onDie (f := dieWithout p) (fun _ => rfl) n).trans ?_
  split <;> rfl

/-! ### Nothing parked tries again (R362, R424) -/

theorem retryParked_none {s : State} {core ch : Nat} (h : ((s.chanAt core ch).queue.head?).bind CopyCmd.park = none) : s.retryParked core ch = s := by
  unfold State.retryParked
  cases hq : (s.chanAt core ch).queue.head? with
  | none => rfl
  | some c =>
    rw [hq, Option.bind_some] at h
    simp only [h]

theorem foldl_idle {α : Type} {f : State → α → State} {s : State} : ∀ {l : List α}, (∀ a ∈ l, f s a = s) → l.foldl f s = s
  | [], _ => rfl
  | a :: r, h => by
    rw [List.foldl_cons, h a List.mem_cons_self]
    exact foldl_idle (fun b hb => h b (List.mem_cons_of_mem _ hb))

theorem retryDie_idle {s : State} {die : Nat} (h : NothingParked s die) : s.retryDie die = s := by
  have hcopies : (upto (16 * die) 16).foldl (fun s core => (upto 0 8).foldl (fun s ch => s.retryParked core ch) s) s = s := by
    refine foldl_idle (fun core hcore => foldl_idle (fun ch _ => retryParked_none (h.2 core ch ?_)))
    rw [ElementRules.upto_eq_range', List.mem_range'_1] at hcore
    omega
  rw [State.retryDie, hcopies, State.retryArrivals, h.1]
  rfl

theorem nothingParked_dropTlb {s : State} {die : Nat} (h : NothingParked s die) (p : TlbEntry → Bool) : NothingParked (s.dropTlb die p) die := by
  refine ⟨?_, fun core ch hcore => ?_⟩
  · rw [dieAt_dropTlb]
    exact h.1
  · rw [State.chanAt, coreAt_dropTlb]
    exact h.2 core ch hcore

/-! ### The instructions -/

theorem tlbinv_next {s : State} (hs : s.cur.sup = true) (hp : NothingParked s (s.cur.id.core / 16)) (a b : Reg) :
    exec (.tlbinv a b) s = .next (s.dropTlb (s.cur.id.core / 16)
      (fun e => covers e (s.rx a).toNat ((s.rx b).extractLsb' 0 16) ((s.rx b).getLsbD 16))).adv := by
  change execTlbinv a b s = _
  rw [execTlbinv, hs]
  exact congrArg (fun t => Host.Outcome.next t.adv) (retryDie_idle (nothingParked_dropTlb hp _))

theorem tlbinvall_next {s : State} (hs : s.cur.sup = true) (hp : NothingParked s (s.cur.id.core / 16)) :
    exec .tlbinvall s = .next (s.dropTlb (s.cur.id.core / 16) (fun _ => true)).adv := by
  change execTlbinvall s = _
  rw [execTlbinvall, hs]
  exact congrArg (fun t => Host.Outcome.next t.adv) (retryDie_idle (nothingParked_dropTlb hp _))

theorem adv_dropTlb (s : State) (die : Nat) (p : TlbEntry → Bool) : (s.dropTlb die p).adv =
    { went s with core := (s.dropTlb die p).core, cores := (s.dropTlb die p).cores, dies := (s.dropTlb die p).dies } := by
  rw [dropTlb_frame]
  rfl

/-- Settles O18: the entries named leave the buffers and the cache of the issuing die, and with nothing parked there no command and no
arrival tries its page again. -/
theorem translationInvalidation : Obligations.TranslationInvalidation := by
  unfold Obligations.TranslationInvalidation
  intro s a b hs hp die gone after
  have dropped (p : TlbEntry → Bool) (all : Bool) (h : p = gone all) : after all (s.dropTlb die p).adv := by
    subst h
    exact ⟨adv_dropTlb s die _, coreAt_dropTlb s die _, dieAt_dropTlb s die _⟩
  refine ⟨⟨_, tlbinv_next hs hp a b, dropped _ false ?_⟩, ⟨_, tlbinvall_next hs hp, dropped _ true rfl⟩⟩
  exact funext fun e => (Bool.false_or _).symm

end Sys2Proof.TlbRules
end

section
/-! PROOF. What reading memory and resolving an address change: what caches, translation buffers and route entries hold, the packets that
have left, the mark of the move and the schedule of lost packets (R78, R83, R350, R353). -/

namespace Sys2Proof.CacheRules

open Machine Laws Claim HaltRules UnitRules

/-! ### A preorder -/

theorem same_refl (s : State) : SameButCaches s s := ⟨rfl, rfl, fun _ => rfl, fun _ => rfl⟩

theorem same_trans {s t u : State} (h : SameButCaches s t) (h' : SameButCaches t u) : SameButCaches s u := by
  obtain ⟨hs, hp, hc, hd⟩ := h
  obtain ⟨hs', hp', hc', hd'⟩ := h'
  refine ⟨?_, hp'.trans hp, fun n => ?_, fun n => ?_⟩
  · rw [hs'.trans (by rw [hs])]
  · rw [(hc' n).trans (by rw [hc n])]
  · rw [(hd' n).trans (by rw [hd n])]

/-! ### The steps -/

theorem same_mark (s : State) (m : Mark) : SameButCaches s { s with mark := m } := ⟨rfl, rfl, fun _ => rfl, fun _ => rfl⟩

theorem same_fresh (s : State) (n : Nat) : SameButCaches s { s with fresh := n } := ⟨rfl, rfl, fun _ => rfl, fun _ => rfl⟩

theorem same_lost (s : State) (l : List Bool) : SameButCaches s { s with sched := { s.sched with lost := l } } :=
  ⟨rfl, rfl, fun _ => rfl, fun _ => rfl⟩

theorem same_touch (s : State) (key : Nat) : SameButCaches s (s.touch key) := by
  obtain ⟨m, h⟩ := OwnSpad.touch_eq s key
  exact h ▸ same_mark s m

theorem same_passes (s : State) (dies : List Nat) : SameButCaches s (s.passes dies) := same_mark ..

theorem same_decodes (s : State) (l source : Nat) (w : BitVec 12) : SameButCaches s (s.decodes l source w) := by
  obtain ⟨m, h⟩ := OwnSpad.decodes_eq s l source w
  exact h ▸ same_mark s m

theorem same_reads (s : State) (w : BitVec 12) (l : Nat) : SameButCaches s (s.reads w l) := by
  obtain ⟨m, h⟩ := OwnSpad.reads_eq s w l
  exact h ▸ same_mark s m

theorem same_emit (s : State) (p target channel : Nat) (lane : Option Nat) (n : Nat) : SameButCaches s (s.emit p target channel lane n) := by
  refine ⟨rfl, ?_, fun _ => rfl, fun _ => rfl⟩
  simp only [State.emit, List.map_map]
  refine List.map_congr_left (fun q _ => ?_)
  rw [Function.comp_apply]
  split <;> rfl

/-- A core whose inbound cache and translation buffer alone change. -/
theorem same_onCore (s : State) (n : Nat) {f : Core → Core} (hf : ∀ k, f k = { k with inb := (f k).inb, tlb := (f k).tlb }) :
    SameButCaches s (s.onCore n f) := by
  refine ⟨?_, ?_, fun m => ?_, fun m => ?_⟩
  · rw [State.onCore, setCore_frame]
  · rw [State.onCore, setCore_frame]
  · rw [coreAt_onCore_eq (fun k => by rw [hf k])]
    split
    · exact hf _
    · rfl
  · rw [State.onCore, setCore_frame]
    rfl

/-- A die whose translation cache and route entries alone change. -/
theorem same_onDie (s : State) (n : Nat) {f : Die → Die} (hf : ∀ d, f d = { d with tlb := (f d).tlb, routes := (f d).routes }) :
    SameButCaches s (s.onDie n f) := by
  refine ⟨?_, ?_, fun m => ?_, fun m => ?_⟩
  · rw [State.onDie, setDie_frame]
  · rw [State.onDie, setDie_frame]
  · rw [State.onDie, setDie_frame]
    rfl
  · rw [dieAt_onDie (fun d => by rw [hf d])]
    split
    · exact hf _
    · rfl

theorem fill_eq (k : Core) (n l : Nat) (d : Line) : k.fill n l d = { k with inb := (k.fill n l d).inb, tlb := (k.fill n l d).tlb } := by
  simp only [Core.fill]
  split
  · rfl
  · split <;> rfl

/-! ### Reads and translation -/

theorem same_routeEntry (s : State) (die target : Nat) : SameButCaches s (s.routeEntry die target).2 := by
  simp only [State.routeEntry]
  split
  · exact same_refl s
  · dsimp only
    refine same_trans ?_ (same_onDie _ _ (fun _ => rfl))
    exact same_trans (same_trans (same_touch ..) (same_passes ..)) (same_decodes ..)

theorem same_portFor (s : State) (core key : Nat) : SameButCaches s (s.portFor core key).2 := by
  simp only [State.portFor]
  split
  · exact same_refl s
  · exact same_routeEntry ..

theorem same_crosses (s : State) (core : Nat) (w : BitVec 12) (key n : Nat) : SameButCaches s (s.crosses core w key n).2 := by
  have hp := same_portFor s core key
  simp only [State.crosses]
  split
  · exact same_passes ..
  · split
    next h => rwa [h] at hp
    next p t h =>
      rw [h] at hp
      dsimp only
      refine same_trans ?_ (same_lost ..)
      have he (dies : List Nat) (target channel : Nat) : SameButCaches s ((t.passes dies).emit p target channel none n) :=
        same_trans (same_trans hp (same_passes ..)) (same_emit ..)
      split
      · exact same_trans (he ..) (same_mark ..)
      · exact he ..

theorem same_atHome (s : State) (core : Nat) (w : BitVec 12) (least l : Nat) : SameButCaches s (s.atHome core w least l).2 := by
  have hr := same_reads s w l
  have hx := same_trans hr (same_crosses (s.reads w l) core w (64 * l) 64)
  simp only [State.atHome]
  split
  · exact hr
  · split
    next h => rwa [h] at hx
    next h =>
      rw [h] at hx
      split <;> exact hx

theorem same_readLineAs (s : State) (core : Nat) (w : BitVec 12) (least l : Nat) : SameButCaches s (s.readLineAs core w least l).2 := by
  have ha := same_atHome s core w least l
  simp only [State.readLineAs]
  generalize (if isSpad (64 * l) then none else (s.coreAt core).cached l) = held
  cases held with
  | some d => exact same_refl s
  | none =>
    generalize s.atHome core w least l = r at ha
    match r, ha with
    | (.error c, t), ha => exact ha
    | (.ok (d, true), t), ha =>
      exact same_trans ha (same_trans (same_fresh ..) (same_onCore _ _ (fun k => fill_eq k ..)))
    | (.ok (d, false), t), ha => exact ha

theorem same_walk (a : Agent) (va : Nat) : ∀ (fuel : Nat) (s : State) (level table : Nat), SameButCaches s (s.walk a va fuel level table).2
  | 0, s, _, _ => same_refl s
  | fuel + 1, s, level, table => by
    simp only [State.walk]
    generalize hg : keyOf s.front.modnum (table + 8 * ((va / 2 ^ levelShift level) % 2 ^ levelBits level)) = key
    have hl : SameButCaches s (s.coreLine a.core a.writer (key / 64)).2 := same_readLineAs ..
    split
    next h => rwa [h] at hl
    next h =>
      rw [h] at hl
      split
      · exact hl
      · exact same_trans hl (same_walk a va fuel ..)
      · exact hl

theorem same_lookup (s : State) (a : Agent) (va : Nat) : SameButCaches s (s.lookup a va).2 := by
  have hw := same_walk a va 4 s 1 (field a.ptroot 16 44 * 2 ^ 16)
  simp only [State.lookup]
  split
  · exact same_refl s
  · split
    · dsimp only
      exact same_trans (same_fresh ..) (same_onCore _ _ (fun _ => rfl))
    · split
      next h => rwa [h] at hw
      next h =>
        rw [h] at hw
        dsimp only
        exact same_trans hw (same_trans (same_fresh ..) (same_trans (same_onCore _ _ (fun _ => rfl)) (same_onDie _ _ (fun _ => rfl))))

theorem same_translate (s : State) (a : Agent) (va : Word) (need : Need) : SameButCaches s (s.translate a va need).2 := by
  have hl := same_lookup s a (va.toNat % 2 ^ 56)
  simp only [State.translate]
  split
  next h => rwa [h] at hl
  next h =>
    rw [h] at hl
    split
    · split <;> exact hl
    · exact hl

theorem same_resolveAddr (s : State) (a : Agent) (va : Word) (need : Need) : SameButCaches s (s.resolveAddr a va need).2 := by
  simp only [State.resolveAddr]
  split
  · exact same_translate ..
  all_goals (repeat' split) <;> exact same_refl s

theorem same_loadKey (s : State) (a : Agent) (va : Word) (key n : Nat) : SameButCaches s (s.loadKey a va key n).2 := by
  have hl : SameButCaches s (s.readLine a.core a.writer (key / 64)).2 := same_readLineAs ..
  simp only [State.loadKey]
  split
  next h => rwa [h] at hl
  next h =>
    rw [h] at hl
    split <;> exact hl

theorem same_loadAt (s : State) (a : Agent) (va : Word) (n : Nat) : SameButCaches s (s.loadAt a va n).2 := by
  have hr := same_resolveAddr s a va .read
  simp only [State.loadAt]
  split
  next h => rwa [h] at hr
  next h =>
    rw [h] at hr
    exact same_trans hr (same_loadKey ..)

end Sys2Proof.CacheRules
end

section
/-! PROOF. The outbound buffer and the write log: what a store puts there, and what else stays as it was (R83, R237, R315). -/

namespace Sys2Proof.BufferRules

open Machine Laws Claim HaltRules UnitRules

/-! ### Byte masks -/

theorem getLsbD_byteMask (sh n i : Nat) : (byteMask sh n).getLsbD i = (decide (i < 64) && decide (sh ≤ i) && decide (i < sh + n)) := by
  simp only [byteMask, BitVec.getLsbD_shiftLeft, BitVec.getLsbD_ofNat, Nat.testBit_two_pow_sub_one]
  grind

theorem getLsbD_bitMask (sh n i : Nat) : (bitMask sh n).getLsbD i = (decide (i < 512) && decide (8 * sh ≤ i) && decide (i < 8 * (sh + n))) := by
  simp only [bitMask, BitVec.getLsbD_shiftLeft, BitVec.getLsbD_ofNat, Nat.testBit_two_pow_sub_one]
  grind

theorem getLsbD_foldl_or (m : BitVec 64) (j : Nat) : ∀ (l : List Nat) (d : Line),
    (l.foldl (fun d i => if m.getLsbD i then d ||| bitMask i 1 else d) d).getLsbD j =
      (d.getLsbD j || l.any (fun i => m.getLsbD i && (bitMask i 1).getLsbD j))
  | [], d => by simp
  | a :: r, d => by
    rw [List.foldl_cons, getLsbD_foldl_or m j r, List.any_cons]
    split
    next h => rw [BitVec.getLsbD_or, h, Bool.true_and, Bool.or_assoc]
    next h => rw [eq_false_of_ne_true h, Bool.false_and, Bool.false_or]

/-- The bits of a byte are those of its place in the byte mask. -/
theorem getLsbD_maskBits (m : BitVec 64) {j : Nat} (hj : j < 512) : (maskBits m).getLsbD j = m.getLsbD (j / 8) := by
  unfold maskBits
  split
  next h => subst h; simp
  next =>
    rw [getLsbD_foldl_or, show BitVec.getLsbD (0 : Line) j = false from BitVec.getLsbD_zero, Bool.false_or, Bool.eq_iff_iff, List.any_eq_true]
    simp only [getLsbD_bitMask, ElementRules.upto_zero_eq_range, List.mem_range]
    constructor
    · rintro ⟨i, -, hi⟩
      simp only [Bool.and_eq_true, decide_eq_true_eq] at hi
      rw [show j / 8 = i by omega]
      exact hi.1
    · intro h
      refine ⟨j / 8, by omega, ?_⟩
      simp only [Bool.and_eq_true, decide_eq_true_eq]
      exact ⟨h, ⟨hj, by omega⟩, by omega⟩

/-! ### One entry -/

theorem getLsbD_foldl_later (pos i : Nat) : ∀ (l : List (Nat × BitVec 64)) (m : BitVec 64),
    (l.foldl (fun (m : BitVec 64) o => if pos < o.1 then m ||| o.2 else m) m).getLsbD i =
      (m.getLsbD i || l.any (fun o => decide (pos < o.1) && o.2.getLsbD i))
  | [], m => by simp
  | a :: r, m => by
    rw [List.foldl_cons, getLsbD_foldl_later pos i r, List.any_cons]
    split
    next h => rw [BitVec.getLsbD_or, decide_eq_true h, Bool.true_and, Bool.or_assoc]
    next h => rw [decide_eq_false h, Bool.false_and, Bool.false_or]

theorem getLsbD_later (e : OutEntry) (pos i : Nat) : (e.later pos).getLsbD i = e.ops.any (fun o => decide (pos < o.1) && o.2.getLsbD i) := by
  rw [OutEntry.later, getLsbD_foldl_later, show BitVec.getLsbD (0 : BitVec 64) i = false from BitVec.getLsbD_zero, Bool.false_or]

/-- The byte `i` that an entry holds. -/
def held (e : OutEntry) (i : Nat) : Option Byte := if e.mask.getLsbD i then some (e.data.extractLsb' (8 * i) 8) else none

/-- A byte outside those that are combined is as it was. -/
theorem held_combine_other (e : OutEntry) {sh n i : Nat} (v : Nat) (pc : Word) (w : InsnWord) (now pos : Nat) (hi : i < 64) (h : i < sh ∨ sh + n ≤ i) :
    held (e.combine sh n v pc w now pos) i = held e i := by
  have hm : (byteMask sh n).getLsbD i = false := by
    rw [getLsbD_byteMask]
    grind
  have hd : (e.combine sh n v pc w now pos).data.extractLsb' (8 * i) 8 = e.data.extractLsb' (8 * i) 8 := by
    refine BitVec.eq_of_getLsbD_eq (fun k hk => ?_)
    have hb : (bitMask sh n).getLsbD (8 * i + k) = false := by
      rw [getLsbD_bitMask]
      grind
    simp only [OutEntry.combine, BitVec.getLsbD_extractLsb', BitVec.getLsbD_or, BitVec.getLsbD_and, BitVec.getLsbD_not, hb]
    simp [show 8 * i + k < 512 by omega]
  rw [held, held, hd]
  simp [OutEntry.combine, hm]

/-- A byte that is combined is the store's, unless a younger instruction has written it (R315). -/
theorem held_combine_new (e : OutEntry) {sh n k : Nat} (v : Nat) (pc : Word) (w : InsnWord) (now pos : Nat) (hn : sh + n ≤ 64) (hk : k < n)
    (hy : e.ops.any (fun o => decide (pos < o.1) && o.2.getLsbD (sh + k)) = false) :
    held (e.combine sh n v pc w now pos) (sh + k) = some (BitVec.ofNat 8 (v / 2 ^ (8 * k))) := by
  have hm : (byteMask sh n).getLsbD (sh + k) = true := by
    rw [getLsbD_byteMask]
    grind
  rw [held, if_pos (by simp [OutEntry.combine, hm])]
  congr 1
  refine BitVec.eq_of_getLsbD_eq (fun j hj => ?_)
  have hb : (bitMask sh n).getLsbD (8 * (sh + k) + j) = true := by
    rw [getLsbD_bitMask, decide_eq_true (show 8 * (sh + k) + j < 512 by omega), decide_eq_true (show 8 * sh ≤ 8 * (sh + k) + j by omega),
      decide_eq_true (show 8 * (sh + k) + j < 8 * (sh + n) by omega)]
    rfl
  have hl : (maskBits (e.later pos)).getLsbD (8 * (sh + k) + j) = false := by
    rw [getLsbD_maskBits _ (by omega), show (8 * (sh + k) + j) / 8 = sh + k by omega, getLsbD_later, hy]
  have hv : (BitVec.ofNat 512 v <<< (8 * sh)).getLsbD (8 * (sh + k) + j) = v.testBit (8 * k + j) := by
    rw [BitVec.getLsbD_shiftLeft, BitVec.getLsbD_ofNat, show 8 * (sh + k) + j - 8 * sh = 8 * k + j by omega,
      decide_eq_true (show 8 * (sh + k) + j < 512 by omega), decide_eq_false (show ¬ 8 * (sh + k) + j < 8 * sh by omega),
      decide_eq_true (show 8 * k + j < 512 by omega)]
    rfl
  rw [BitVec.getLsbD_extractLsb', BitVec.getLsbD_ofNat, Nat.testBit_div_two_pow, Nat.add_comm j]
  simp only [OutEntry.combine, BitVec.getLsbD_or, BitVec.getLsbD_and, BitVec.getLsbD_not, hb, hl, hv,
    decide_eq_true (show 8 * (sh + k) + j < 512 by omega), decide_eq_true hj]
  simp

/-! ### The entries of a buffer -/

/-- The entry of a strand's line. -/
def entryOf (out : List OutEntry) (sid line : Nat) : Option OutEntry := out.find? (fun e => e.sid == sid && e.line == line)

theorem pending_eq (s : State) (core sid key : Nat) :
    pending s core sid key = (entryOf (s.coreAt core).outb sid (key / 64)).bind (fun e => held e (key % 64)) := by
  unfold pending entryOf held
  cases (s.coreAt core).outb.find? (fun e => e.sid == sid && e.line == key / 64) <;> rfl

theorem writtenBeyond_eq (s : State) (core sid pos key : Nat) : writtenBeyond s core sid pos key =
    ((entryOf (s.coreAt core).outb sid (key / 64)).map (fun e => e.ops.any (fun o => decide (pos < o.1) && o.2.getLsbD (key % 64)))).getD false := by
  unfold writtenBeyond entryOf
  cases (s.coreAt core).outb.find? (fun e => e.sid == sid && e.line == key / 64) <;> rfl

theorem younger_eq (s : State) (key : Nat) : younger s key = writtenBeyond s s.cur.id.core s.cur.id.sid (s.cur.pos + 1) key := rfl

/-- A buffer once a store has been combined into its line's entry, or has a new one. -/
def putIn (out : List OutEntry) (a : Agent) (line : Nat) (put : OutEntry → OutEntry) : List OutEntry :=
  if out.any (fun e => e.sid == a.sid && e.line == line) then updFirst (fun e => e.sid == a.sid && e.line == line) put out
  else out ++ [put (OutEntry.fresh a line)]

theorem find?_updFirst_same {α : Type} {p : α → Bool} {f : α → α} (hf : ∀ a, p (f a) = p a) :
    ∀ l : List α, (updFirst p f l).find? p = (l.find? p).map f
  | [] => rfl
  | a :: r => by
    unfold updFirst
    cases hp : p a
    · rw [if_neg (by simp), List.find?_cons, List.find?_cons, hp]
      exact find?_updFirst_same hf r
    · rw [if_pos rfl, List.find?_cons, List.find?_cons, hf, hp]
      rfl

theorem find?_updFirst_else {α : Type} {p q : α → Bool} {f : α → α} (hpq : ∀ a, p a = true → q a = false ∧ q (f a) = false) :
    ∀ l : List α, (updFirst p f l).find? q = l.find? q
  | [] => rfl
  | a :: r => by
    unfold updFirst
    split
    next h => rw [List.find?_cons, List.find?_cons, (hpq a h).1, (hpq a h).2]
    next => rw [List.find?_cons, List.find?_cons, find?_updFirst_else hpq r]

/-- The line stored to has the entry with the store combined; every other keeps its own. -/
theorem entryOf_putIn (out : List OutEntry) (a : Agent) (line : Nat) {put : OutEntry → OutEntry} (hs : ∀ e, (put e).sid = e.sid)
    (hl : ∀ e, (put e).line = e.line) (sid l : Nat) : entryOf (putIn out a line put) sid l =
      if sid = a.sid ∧ l = line then some (put ((entryOf out a.sid line).getD (OutEntry.fresh a line))) else entryOf out sid l := by
  unfold putIn entryOf
  split_ifs with hany hsl hsl
  · obtain ⟨rfl, rfl⟩ := hsl
    rw [find?_updFirst_same (fun e => by rw [hs, hl])]
    cases hf : out.find? (fun e => e.sid == a.sid && e.line == l) with
    | none =>
      rw [List.find?_eq_none] at hf
      rw [List.any_eq_true] at hany
      obtain ⟨e, he, hp⟩ := hany
      exact absurd hp (hf e he)
    | some e => rfl
  · refine find?_updFirst_else (fun e he => ?_) out
    rw [hs, hl]
    grind
  · obtain ⟨rfl, rfl⟩ := hsl
    have hf : out.find? (fun e => e.sid == a.sid && e.line == l) = none := by
      rw [List.find?_eq_none]
      exact fun e he hp => hany (List.any_eq_true.mpr ⟨e, he, hp⟩)
    rw [List.find?_append, hf]
    simp [hs, hl, OutEntry.fresh]
  · rw [List.find?_append]
    have : ([put (OutEntry.fresh a line)] : List OutEntry).find? (fun e => e.sid == sid && e.line == l) = none := by
      simp [hs, hl, OutEntry.fresh]
      grind
    rw [this, Option.or_none]

theorem length_putIn_le (out : List OutEntry) (a : Agent) (line : Nat) (put : OutEntry → OutEntry) : (putIn out a line put).length ≤ out.length + 1 := by
  have hl {p : OutEntry → Bool} : ∀ l : List OutEntry, (updFirst p put l).length = l.length := by
    intro l
    induction l with
    | nil => rfl
    | cons e r ih => unfold updFirst; split <;> simp [ih]
  unfold putIn
  split
  · rw [hl]; omega
  · simp

/-! ### A store with room -/

/-- The buffer takes a store of an agent to a line without sending an entry away first (R83). -/
def Takes (s : State) (a : Agent) (line : Nat) : Prop :=
  s.outUsed a.core < 4096 ∨ (s.coreAt a.core).outb.any (fun e => e.sid == a.sid && e.line == line) = true

/-- What a store does to its line's entry. -/
def combined (s : State) (key n v : Nat) (pc : Word) (w : InsnWord) (pos : Nat) (e : OutEntry) : OutEntry := e.combine (key % 64) n v pc w s.now pos

theorem bufferStore_takes {s : State} {a : Agent} {key : Nat} (h : Takes s a (key / 64)) (wait : Bool) (n v : Nat) (pc : Word) (w : InsnWord) (pos : Nat) :
    s.bufferStore wait a key n v pc w pos = s.setCore { s.coreAt a.core with
      outb := putIn (s.coreAt a.core).outb a (key / 64) (combined s key n v pc w pos) } := by
  unfold State.bufferStore putIn combined
  dsimp only
  by_cases hany : (s.coreAt a.core).outb.any (fun e => e.sid == a.sid && e.line == key / 64) = true
  · rw [if_pos hany, if_pos hany]
  · rw [if_neg hany, if_neg hany, if_pos (h.resolve_right hany)]

section
variable {s : State} {a : Agent} {key n v : Nat} {pc : Word} {w : InsnWord} {pos : Nat}

theorem coreAt_bufferStore (h : Takes s a (key / 64)) (wait : Bool) (c : Nat) : (s.bufferStore wait a key n v pc w pos).coreAt c =
    if c = a.core then { s.coreAt a.core with outb := putIn (s.coreAt a.core).outb a (key / 64) (combined s key n v pc w pos) } else s.coreAt c := by
  rw [bufferStore_takes h, coreAt_setCore_eq]
  simp only [coreAt_id]

theorem bufferStore_frame (h : Takes s a (key / 64)) (wait : Bool) : s.bufferStore wait a key n v pc w pos =
    { s with core := (s.bufferStore wait a key n v pc w pos).core, cores := (s.bufferStore wait a key n v pc w pos).cores } := by
  rw [bufferStore_takes h]
  exact setCore_frame ..

/-- What the entry of a line is after a store to it. -/
theorem entryOf_bufferStore (h : Takes s a (key / 64)) (wait : Bool) (c sid l : Nat) :
    entryOf ((s.bufferStore wait a key n v pc w pos).coreAt c).outb sid l =
      if c = a.core ∧ sid = a.sid ∧ l = key / 64 then
        some (combined s key n v pc w pos ((entryOf (s.coreAt a.core).outb a.sid (key / 64)).getD (OutEntry.fresh a (key / 64))))
      else entryOf (s.coreAt c).outb sid l := by
  rw [coreAt_bufferStore h]
  by_cases hc : c = a.core
  · subst hc
    rw [if_pos rfl]
    refine (entryOf_putIn _ a (key / 64) (put := combined s key n v pc w pos) (fun _ => rfl) (fun _ => rfl) sid l).trans (if_congr ?_ rfl rfl)
    simp
  · rw [if_neg hc, if_neg (fun q => hc q.1)]

/-- The bytes of a store within a line wait in the buffer, unless an instruction beyond it has written them. -/
theorem pending_bufferStore_new (h : Takes s a (key / 64)) (wait : Bool) (hn : key % 64 + n ≤ 64) {k : Nat} (hk : k < n)
    (hy : writtenBeyond s a.core a.sid pos (key + k) = false) :
    pending (s.bufferStore wait a key n v pc w pos) a.core a.sid (key + k) = some (BitVec.ofNat 8 (v / 2 ^ (8 * k))) := by
  have hline : (key + k) / 64 = key / 64 := by omega
  have hbyte : (key + k) % 64 = key % 64 + k := by omega
  rw [writtenBeyond_eq, hline, hbyte] at hy
  rw [pending_eq, hline, hbyte, entryOf_bufferStore h, if_pos ⟨rfl, rfl, rfl⟩, Option.bind_some]
  refine held_combine_new _ v pc w s.now pos hn hk ?_
  cases he : entryOf (s.coreAt a.core).outb a.sid (key / 64) with
  | none => rfl
  | some e => rw [he] at hy; exact hy

/-- A waiting byte that is none of the store's is as it was. -/
theorem pending_bufferStore_other (h : Takes s a (key / 64)) (wait : Bool) (_ : key % 64 + n ≤ 64) {c sid x : Nat}
    (hx : c ≠ a.core ∨ sid ≠ a.sid ∨ x < key ∨ key + n ≤ x) :
    pending (s.bufferStore wait a key n v pc w pos) c sid x = pending s c sid x := by
  rw [pending_eq, pending_eq, entryOf_bufferStore h]
  split
  next hl =>
    obtain ⟨rfl, rfl, hl⟩ := hl
    rw [Option.bind_some, combined, held_combine_other _ _ _ _ _ _ (by omega) (by omega), hl]
    cases entryOf (s.coreAt a.core).outb a.sid (key / 64) with
    | none => simp [held, OutEntry.fresh]
    | some e => rfl
  next => rfl

end

/-! ### The write log (R237) -/

theorem foldl_minLevel_none (l : List Span) : l.foldl (fun l s => minLevel l s.level) none = none := by
  induction l with
  | nil => rfl
  | cons a r ih => exact ih

theorem foldl_minLevel_mem {sp : Span} (h : sp.level = none) : ∀ {l : List Span} (m : Option Nat), sp ∈ l → l.foldl (fun l s => minLevel l s.level) m = none
  | a :: r, m, hm => by
    rw [List.foldl_cons]
    rcases List.mem_cons.mp hm with rfl | hr
    · rw [h, show minLevel m none = none by cases m <;> rfl]
      exact foldl_minLevel_none r
    · exact foldl_minLevel_mem h _ hr

/-- A line that has been written stands un-turned in the log. -/
theorem logWrite_covers (own : BitVec 18) (log : List Span) (line : Nat) :
    ∃ sp ∈ logWrite own log line, sp.base ≤ 64 * line ∧ 64 * line < sp.base + sp.size ∧ sp.level = none := by
  have hnew : (⟨64 * line, 64, none, [⟨line, line + 1, none⟩]⟩ : Span) ∈ insertBy (Span.before own) ⟨64 * line, 64, none, [⟨line, line + 1, none⟩]⟩ log :=
    StarterRules.mem_insertBy.mpr (.inl rfl)
  simp only [logWrite]
  generalize insertBy (Span.before own) ⟨64 * line, 64, none, [⟨line, line + 1, none⟩]⟩ log = log' at hnew
  split_ifs with hany hlen
  · obtain ⟨sp, hsp, hc⟩ := List.any_eq_true.mp hany
    refine ⟨sp.rewrite line, List.mem_map.mpr ⟨sp, hsp, if_pos hc⟩, ?_⟩
    simp only [Bool.and_eq_true, decide_eq_true_eq] at hc
    exact ⟨hc.1, hc.2, rfl⟩
  · exact ⟨_, hnew, Nat.le_refl _, by simp, rfl⟩
  · cases bestJoin log' with
    | none => exact ⟨_, hnew, Nat.le_refl _, by simp, rfl⟩
    | some r =>
      simp only [mergeInto]
      by_cases hin : Span.inside ⟨64 * line, 64, none, [⟨line, line + 1, none⟩]⟩ r = true
      · refine ⟨_, StarterRules.mem_insertBy.mpr (.inl rfl), ?_⟩
        simp only [Span.inside, Bool.and_eq_true, decide_eq_true_eq] at hin
        exact ⟨hin.1, by dsimp only; omega, foldl_minLevel_mem rfl _ (List.mem_filter.mpr ⟨hnew, by simpa [Span.inside] using hin⟩)⟩
      · exact ⟨_, StarterRules.mem_insertBy.mpr (.inr (List.mem_filter.mpr ⟨hnew, by simpa using hin⟩)), Nat.le_refl _, by simp, rfl⟩

end Sys2Proof.BufferRules
end

section
/-! PROOF. Scalar stores (R83, R185, R186, R187, R237). -/

namespace Sys2Proof.StoreRules

open Machine Laws Claim UnitRules BufferRules

theorem address_eq (s : State) (a : Reg) (o : BitVec 13) : s.ea a o = address s a o := by
  rw [State.ea, address, BitVec.ofInt_add, BitVec.ofInt_toInt]
  rfl

/-- The state in which a store instruction enters the buffer: its position taken and its line in the write log. -/
def logged (s : State) (key : Nat) : State := s.bump.logLine (key / 64)

theorem bump_store (s : State) (key n v : Nat) (w : InsnWord) :
    s.bump.store key n v w = (logged s key).bufferStore true s.me key n v s.cur.pc w (s.cur.pos + 1) := rfl

theorem takes_of_hasRoom {s : State} {key : Nat} (h : HasRoom s key) : Takes (logged s key) s.me (key / 64) := h

/-- A store of whole bytes within a line, once its address is known and the buffer has room. -/
theorem stored_store {s : State} {key n : Nat} (h : HasRoom s key) (hn : key % 64 + n ≤ 64) (v : Nat) (w : InsnWord) :
    Stored s (s.bump.store key n v w).adv key n (v % 2 ^ (8 * n)) := by
  have hb := bufferStore_frame (n := n) (v := v) (pc := s.cur.pc) (w := w) (pos := s.cur.pos + 1) (takes_of_hasRoom h) true
  have hcur : (s.bump.store key n v w).cur = (logged s key).cur := by rw [bump_store, hb]
  have hframe : (s.bump.store key n v w).adv = { logged s key with
      cur := (logged s key).adv.cur, core := (s.bump.store key n v w).core, cores := (s.bump.store key n v w).cores } := by
    rw [bump_store, hb]
    rfl
  refine ⟨?_, ?_, ?_, ?_, fun k hk hy => ?_, fun c sid x hx => ?_, ?_⟩
  · rw [hframe]; rfl
  · rw [hframe]; rfl
  · rw [hframe]; rfl
  · rw [hframe]; rfl
  · have hv : BitVec.ofNat 8 (v % 2 ^ (8 * n) / 2 ^ (8 * k)) = BitVec.ofNat 8 (v / 2 ^ (8 * k)) := by
      refine BitVec.eq_of_getLsbD_eq (fun j hj => ?_)
      rw [BitVec.getLsbD_ofNat, BitVec.getLsbD_ofNat, Nat.testBit_div_two_pow, Nat.testBit_div_two_pow, Nat.testBit_mod_two_pow,
        decide_eq_true (show j + 8 * k < 8 * n by omega), Bool.true_and]
    rw [hv]
    exact pending_bufferStore_new (takes_of_hasRoom h) true hn hk hy
  · exact pending_bufferStore_other (takes_of_hasRoom h) true hn hx
  · have hlog := logWrite_covers s.front.modnum s.cur.wlog (key / 64)
    rw [show key / 64 * 64 = 64 * (key / 64) by omega]
    rwa [hframe]

theorem scalarStore_stored {s s1 : State} {va : Word} {key n : Nat} (hr : s.resolveAddr s.me va .write = (.ok key, s1)) (h : HasRoom s1 key)
    (ha : va.toNat % n = 0) (hn : key % 64 + n ≤ 64) (v : Word) (w : InsnWord) :
    ∃ t, s.scalarStore va n v w = .next t ∧ Stored s1 t key n (v.toNat % 2 ^ (8 * n)) :=
  ⟨_, scalarStore_enters ha hr v w, stored_store h hn v.toNat w⟩

theorem storeEntersOutboundBuffer : StoreEntersOutboundBuffer := by
  intro s s1 d a o key E hr h
  rw [show E = s.ea a o from (address_eq s a o).symm] at hr ⊢
  have hsame := CacheRules.same_resolveAddr s s.me (s.ea a o) .write
  rw [hr] at hsame
  refine ⟨hsame, ?_, fun ha hk => ?_, fun ha hk => ?_, fun ha hk => ?_⟩
  · exact scalarStore_stored hr h (Nat.mod_one _) (by omega) (s.rx d) (mkM 0x0D d a 0 o)
  · exact scalarStore_stored hr h ha (by omega) (s.rx d) (mkM 0x0D d a 1 o)
  · exact scalarStore_stored hr h ha (by omega) (s.rx d) (mkM 0x0D d a 2 o)
  · obtain ⟨t, ht, hs⟩ := scalarStore_stored hr h ha (by omega) (s.rx d) (mkM 0x0D d a 3 o)
    rw [Nat.mod_eq_of_lt (s.rx d).isLt] at hs
    exact ⟨t, ht, hs⟩

theorem misalignedScalarTraps : MisalignedScalarTraps := by
  intro s d a o E trapped
  have hE : E = s.ea a o := (address_eq s a o).symm
  have load {n : Nat} (h : E.toNat % n ≠ 0) (f : Nat → Word) : s.scalarLoad (s.ea a o) n d f = trapped :=
    hE ▸ scalarLoad_misaligned h d f
  have store {n : Nat} (h : E.toNat % n ≠ 0) (w : InsnWord) : s.scalarStore (s.ea a o) n (s.rx d) w = trapped :=
    hE ▸ scalarStore_misaligned h (s.rx d) w
  exact ⟨fun h => ⟨load h _, load h _, store h _⟩, fun h => ⟨load h _, load h _, store h _⟩, fun h => ⟨load h _, store h _⟩⟩

/-- Settles O8: a store that finds room is combined into its line's entry of the outbound buffer (R83), and a misaligned access traps
before anything else. -/
theorem scalarStores : Obligations.ScalarStores := ⟨storeEntersOutboundBuffer, misalignedScalarTraps⟩

end Sys2Proof.StoreRules
end

section
/-! PROOF. A write of DBGCTL by a strand whose step has no STEP bit (R443). -/

namespace Sys2Proof.DebugWriteRules

open Machine Claim

/-- A supervisor strand in a debug step of slot 0, alone in its core, whose DBGCTL has the HALT bit of the slot set and its STEP bit clear. -/
def stepUnmarked : State := { State.reset with
  cur := { Strand.reset with run := .running, stepping := true, id := { Ident.reset with sid := 1 }, c := { Csrs.reset with sstatus := 1 } }
  core := { Core.reset 0 with dbgctl := 1#64 <<< 24 } }

/-- DBGCTL as an outcome leaves it in the issuing core. -/
def dbgctlAfter : Out → Option Word
  | .next t => some t.core.dbgctl
  | _ => none

/-- The model takes the bit of a step from the strand that is in one: its STEP bit is set by the write. -/
theorem dbgctlAfter_stepUnmarked : dbgctlAfter (exec (.csrw 0 0 0x200) stepUnmarked) = some (1#64 <<< 24 ||| 1#64 <<< 16) := by decide +kernel

/-- DbgctlWrites would have the STEP bit stay as it stood, which is clear. -/
theorem not_dbgctlWrites : ¬ DbgctlWrites := by
  intro h
  have hw := (h stepUnmarked 0 0 (by decide) (by decide) (by decide) (by decide) (by decide)).1 (fun _ hu => nomatch hu)
  have hd := congrArg dbgctlAfter hw
  rw [dbgctlAfter_stepUnmarked] at hd
  exact absurd hd (by decide +kernel)

/-- Refutes O13: `DbgctlWrites` says that the bit of the writer's own step stays as it stood. The write sets it from the strand that is in
a step, so that in a state where a strand is in a step and its STEP bit is clear (`stepUnmarked`) the bit becomes 1. -/
theorem not_csrStoredValues : ¬ Obligations.CsrStoredValues := fun h => not_dbgctlWrites h.2.2.1

end Sys2Proof.DebugWriteRules
end

section
/-! PROOF. Vector stores that send an entry of a full outbound buffer away, in a state whose issuing strand has no name (R83, R350, R389). -/

namespace Sys2Proof.NamelessStores

open Machine Claim

/-! ### A state

Sid 0 names no strand (log entry 8), and the statements range over states in which a strand of the list carries it as the issuing strand
does. The record of a store that is lost goes to the strand that the list holds under the name, and is written to the issuing one. -/

/-- A strand without a name, that waits at issue. -/
def stray : Strand := { Strand.reset with stall := some 0, pc := 4, c := { Csrs.reset with tvec := 8 } }

/-- An entry for a line of another module, to which no route leads. -/
def farEntry : OutEntry := ⟨0, 0, 2 ^ 36, 1, 0, 0, 0, 0, 0, []⟩

/-- A strand without a name, with an outbound buffer full of such entries, about to store `vl` 32-bit integers of v0 from x1 on, in
strided mode at every fourth byte of selector after selector. -/
def crowded (vl : Word) : State := { State.reset with
  cur := { Strand.reset with
    run := .running, x := (Vector.replicate 32 0).set 1 (ownSpad 0), c := { Csrs.reset with vl := vl, vtype := 1, vstr := 0x1F00000000000000 } }
  core := { Core.reset 0 with outb := List.replicate 4096 farEntry }
  strands := [stray] }

theorem ready_crowded {vl : Word} (h : (crowded vl).limit = none) : Ready (crowded vl) := ⟨⟨rfl, h⟩, rfl, rfl, rfl, rfl⟩

/-- Addresses whose elements are those of a list lie within the scratchpad's range when those do. -/
theorem inRange_of {s : State} {l : List Nat} {ad : Nat → Word} (hl : s.cur.active = l) (h : ∀ i ∈ l, spadOutside (ad i) = false) :
    InRange s (fun i => [ad i]) := by
  intro i hi a ha
  rw [List.mem_singleton] at ha
  rw [ha]
  exact h i (hl ▸ hi)

/-- The element stores of an access of `crowded`. -/
def loopOf (vl : Word) (i : Instr) (ad : Nat → Word) : List Nat × FFlags × Option XFault × State :=
  (crowded vl).bump.storeLoop (encode i) (fmtSize 10) (fun i => [ad i]) (storedAt (crowded vl) 10 false 0) (crowded vl).cur.active

theorem eq_of_stop {vl : Word} {i : Instr} {ad : Nat → Word} {x : Option XFault} (h : (loopOf vl i ad).2.2.1 = x) :
    loopOf vl i ad = ((loopOf vl i ad).1, (loopOf vl i ad).2.1, x, (loopOf vl i ad).2.2.2) := by rw [← h]

/-! ### A store that completes -/

/-- The wait of the issuing strand after a step. -/
def stallAfter : Out → Option (Option Nat)
  | .next t => some t.cur.stall
  | _ => none

theorem stallAfter_finished (s : State) (t : Strand) : stallAfter (finished s t) = some none := by
  have hv (u : Strand) : u.vdone.stall = u.stall := by unfold Strand.vdone; dsimp only; split <;> rfl
  exact congrArg some (hv _)

/-- The stray strand stands for the issuing one as the store ends, waiting as it did. -/
theorem stallAfter_vst : stallAfter (exec (.vst 0 1 0 10) (crowded 1)) = some (some 0) := by decide +kernel

theorem loopOf_vst : (loopOf 1 (.vst 0 1 0 10) (unit (crowded 1) 1 10)).2.2.1 = none := by decide +kernel

theorem inRange_vst : InRange (crowded 1) (fun i => [unit (crowded 1) 1 10 i]) := by
  have hu : unit (crowded 1) 1 10 0 = ownSpad 0 := by decide +kernel
  refine inRange_of (l := [0]) (by decide +kernel) (fun i hi => ?_)
  rw [List.mem_singleton.mp hi, hu]
  decide

theorem not_vectorStores : ¬ VectorStores := by
  intro h
  have hq := eq_of_stop loopOf_vst
  have hv := ((h (crowded 1) _ 0 1 0 10 false _ _ (ready_crowded (by decide +kernel)) rfl rfl rfl).1 rfl ⟨inRange_vst, hq⟩).2
  have he := congrArg stallAfter hv
  rw [stallAfter_vst, stallAfter_finished] at he
  exact absurd he (by decide)

/-- Refutes O26: in `crowded` the strand that ends a VST is not the one that issued it, and waits at issue, while `VectorStores` has a strand
that waits for nothing. -/
theorem not_vectorStoreResults : ¬ Obligations.VectorStoreResults := fun h => not_vectorStores h.1

/-! ### A store that stops at an element -/

/-- TPC of the issuing strand after a step. -/
def tpcAfter : Out → Option Word
  | .next t => some t.cur.c.tpc
  | _ => none

/-- The second element of the access faults after the first has brought the stray strand forward. -/
theorem loopOf_vsts : (loopOf 2 (.vsts 0 1 0 10) (strided (crowded 2) 1)).1 = [0] ∧
    (loopOf 2 (.vsts 0 1 0 10) (strided (crowded 2) 1)).2.2.1 = some ⟨0x084, 0xFF00000000000000, 0xFF00000000000000⟩ := by decide +kernel

/-- TPC is the program counter of the stray strand. -/
theorem tpcAfter_vsts : tpcAfter (exec (.vsts 0 1 0 10) (crowded 2)) = some 4 := by decide +kernel

/-- The counters that the stop leaves (R390). -/
def stopCounters : Vector Word 8 := Vector.ofFn (fun h : Fin 8 => if 16 * h.val < 4 then (1#64 <<< 63) ||| 1#64 else 0)

theorem stopCounters_eq : ∀ g : Fin 8, (if 16 * g.val < (crowded 2).cur.grant then (1#64 <<< 63) |||
      BitVec.ofNat 64 ((([1] : List Nat).filter (fun i => i % (crowded 2).cur.grant / 16 == g.val)).headD (crowded 2).cur.vl) else 0) =
    stopCounters[g] := by decide +kernel

/-- What `VectorAccessStops` has the access end in. -/
noncomputable def stopped : Out :=
  let q := loopOf 2 (.vsts 0 1 0 10) (strided (crowded 2) 1)
  let t := flagged q.2.2.2.cur q.2.1
  .next ({ q.2.2.2 with cur := { t with c := { t.c with tlg := stopCounters, vstart := 0 } } }.trapEntry 0x084 0 true 0 0xFF00000000000000 0 0)

theorem tpcAfter_stopped : tpcAfter stopped = some 0 := by decide +kernel

theorem inRange_vsts : InRange (crowded 2) (fun i => [strided (crowded 2) 1 i]) := by
  have hu : strided (crowded 2) 1 0 = ownSpad 0 ∧ strided (crowded 2) 1 1 = 0xFF00000000000000 := by decide +kernel
  refine inRange_of (l := [0, 1]) (by decide +kernel) (fun i hi => ?_)
  rcases List.mem_pair.mp hi with rfl | rfl
  · rw [hu.1]; decide
  · rw [hu.2]; decide

theorem not_vectorAccessStops : ¬ VectorAccessStops := by
  intro h
  have hq := eq_of_stop loopOf_vsts.2
  have hs := ((h (crowded 2) _ 0 1 0 10 false _ (ready_crowded (by decide +kernel)) rfl rfl rfl).2.1 rfl (by decide)).2 _ _ inRange_vsts hq
  obtain ⟨-, -, tlg, htlg, he⟩ := hs
  have hleft : (crowded 2).cur.active.drop (loopOf 2 (.vsts 0 1 0 10) (strided (crowded 2) 1)).1.length = [1] := by
    rw [loopOf_vsts.1]
    decide
  rw [hleft] at htlg
  have hc : tlg = stopCounters := by
    ext g hg : 1
    exact (htlg ⟨g, hg⟩).trans (stopCounters_eq ⟨g, hg⟩)
  subst hc
  have ht := congrArg tpcAfter he
  rw [tpcAfter_vsts] at ht
  exact absurd (ht.trans tpcAfter_stopped) (by decide)

/-- Refutes O27: in `crowded` the strand whose VSTS stops at its second element is not the one that issued it, and the trap is taken at its
program counter, while `VectorAccessStops` has TPC and EPC at the instruction. -/
theorem not_vectorAccessFaults : ¬ Obligations.VectorAccessFaults := fun h => not_vectorAccessStops h.1

end Sys2Proof.NamelessStores
end

section
/-! PROOF. TURN, TURNALL, FENCE and PUBLISH in the words of the claims (R236 to R241, R259). -/

namespace Sys2Proof.TurningRules

open Machine Claim CsrRules VectorConfig HaltRules WaitRules CollectRules

/-! ### Time and stalls (R92, R281) -/

theorem spent_eq (s : State) (op : Word) : s.spent op = noTime s op := by
  simp only [State.spent, noTime, isPoll_eq, deadline_eq, State.clock, State.now]

theorem stallUnder_eq (s : State) (op : Word) : s.stallUnder op = stalls s op := by
  simp only [State.stallUnder, dueOf_eq, State.stallHere, stalls]
  rfl

/-- A turning operation with engine stores to come waits while it has time, and ends late when it has none (R259). -/
theorem turning_late {s : State} (h : s.engStores = true) (op : Word) (late k : State → Out) :
    s.turning op s.engStores late k = if noTime s op = true then late s else stalls s op := by
  rw [State.turning, h, spent_eq, stallUnder_eq]
  rfl

theorem turning_now {s : State} (h : s.engStores = false) (op : Word) (late k : State → Out) : s.turning op s.engStores late k = k s := by
  rw [State.turning, h]
  rfl

/-- How TURNALL and PUBLISH end late (R239, R241). -/
theorem late_eq (s : State) (d : Reg) (op : Word) : (.next (s.finish d (status oTIMEOUT 0 0) (s.isPoll op)) : Out) = ended s d (stat 1 0 0) (polls s op) := by
  rw [finish_ended, status_eq, isPoll_eq]
  rfl

/-! ### The write log after a TURN (R237) -/

/-- The whole span lies in the lines [r.1, r.2). -/
def Within (sp : Span) (r : Nat × Nat) : Prop := 64 * r.1 ≤ sp.base ∧ sp.base + sp.size ≤ 64 * r.2

/-- Every span of a log within one of some ranges of lines stands at a level or above. -/
def Above (lvl : Nat) (rs : List (Nat × Nat)) (log : List Span) : Prop := ∀ sp ∈ log, ∀ r ∈ rs, Within sp r → sp.below lvl = false

theorem below_eq_false {sp : Span} {lvl : Nat} : sp.below lvl = false ↔ ∃ k, sp.level = some k ∧ lvl ≤ k := by
  rw [Span.below]
  cases sp.level <;> simp

theorem raise_range (sp : Span) (lvl first last : Nat) : (sp.raise lvl first last).base = sp.base ∧ (sp.raise lvl first last).size = sp.size := by
  rw [Span.raise]
  split
  · exact ⟨rfl, rfl⟩
  · split <;> exact ⟨rfl, rfl⟩

theorem raise_within {sp : Span} {r : Nat × Nat} (h : Within sp r) (lvl : Nat) : (sp.raise lvl r.1 r.2).level = some lvl := by
  rw [Span.raise, if_pos ⟨by have := h.1; omega, by have := h.2; omega⟩]

/-- A span of the log after a range has been raised: an old one at the level or above, or one raised. -/
theorem mem_raiseWithin {lvl : Nat} {log : List Span} {r : Nat × Nat} {q : Span} (h : q ∈ raiseWithin lvl log r) :
    ∃ sp ∈ log, (sp.below lvl = false ∧ q = sp) ∨ (sp.below lvl = true ∧ q = sp.raise lvl r.1 r.2) := by
  rw [raiseWithin, List.mem_filterMap] at h
  obtain ⟨sp, hsp, hq⟩ := h
  refine ⟨sp, hsp, ?_⟩
  cases hb : sp.below lvl with
  | false =>
    simp only [hb, Bool.false_eq_true, if_false, Option.some.injEq] at hq
    exact .inl ⟨rfl, hq.symm⟩
  | true =>
    simp only [hb, if_true, Option.ite_none_left_eq_some, Option.some.injEq] at hq
    exact .inr ⟨rfl, hq.2.symm⟩

theorem above_raiseWithin {lvl : Nat} {rs : List (Nat × Nat)} {log : List Span} (h : Above lvl rs log) (r : Nat × Nat) :
    Above lvl (r :: rs) (raiseWithin lvl log r) := by
  intro q hq r' hr' hw
  obtain ⟨sp, hsp, ⟨hb, rfl⟩ | ⟨hb, rfl⟩⟩ := mem_raiseWithin hq
  · exact hb
  · have hsw : Within sp r' := by
      obtain ⟨hbase, hsize⟩ := raise_range sp lvl r.1 r.2
      rwa [Within, hbase, hsize] at hw
    rcases List.mem_cons.mp hr' with rfl | hr'
    · exact below_eq_false.mpr ⟨lvl, raise_within hsw lvl, Nat.le_refl _⟩
    · exact absurd (h sp hsp r' hr' hsw) (by rw [hb]; decide)

theorem above_foldl_raiseWithin {lvl : Nat} (rs : List (Nat × Nat)) : ∀ (done : List (Nat × Nat)) (log : List Span), Above lvl done log →
    Above lvl (rs.reverse ++ done) (rs.foldl (raiseWithin lvl) log) := by
  induction rs with
  | nil => exact fun _ _ h => h
  | cons r rs ih =>
    intro done log h
    rw [List.reverse_cons, List.append_assoc]
    exact ih (r :: done) _ (above_raiseWithin h r)

/-- The log after a TURN: what lies within its lines done stands at the level or above. -/
theorem turnRegion_above {s s1 : State} {lvl : Nat} {all spent : Bool} {base : Word} {len : Nat} {e : TurnEnd}
    (h : s.turnRegion lvl all spent base len = (e, s1)) : Above lvl e.ranges s1.cur.wlog := by
  rw [State.turnRegion] at h
  obtain ⟨rfl, rfl⟩ := Prod.mk.inj h
  intro sp hsp r hr hw
  exact above_foldl_raiseWithin _ [] _ (fun _ _ _ hr' => nomatch hr') sp hsp r (List.mem_append_left _ (List.mem_reverse.mpr hr)) hw

/-! ### TURN (R236) -/

theorem turnStatus_eq (len b : Nat) : turnStatus len b = if b = len then stat 0 0 b else if b = 0 then stat 1 0 0 else stat 3 0 b := by
  simp only [turnStatus, status_eq, oDONE, oTIMEOUT, oPARTIAL]
  split
  · rfl
  · split
    next h => rw [h]
    next => rfl

theorem turnedBytes_eq (base : Word) (len : Nat) (e : TurnEnd) :
    turnedBytes base len e = if e.all = true then len else min len (64 * e.lines - base.toNat % 64) := rfl

/-- How a TURN over a region of `len` bytes ends with its region. -/
def endOf (d : Reg) (base : Word) (len : Nat) (poll : Bool) (r : TurnEnd × State) : Out :=
  match r.1.fault with
  | some x => r.2.trapX x
  | none => .next (r.2.finish d (turnStatus len (turnedBytes base len r.1)) poll)

/-- TURN whose flag is allowed, by its region. -/
theorem turn_eq {s : State} {d a b c : Reg} {l : BitVec 3} {len : Nat} (hlen : field (s.rx b) 0 63 = len) (hreq : s.cur.request = none)
    (hall : (s.rx b).getLsbD 63 = true → 3 ≤ l.toNat ∧ s.cur.sup = true) :
    exec (.turn d a b c l) s =
      if len = 0 then .next (s.finish d (status oDONE 0 0) (s.isPoll (s.rx c)))
      else if turnOutside (s.rx a) len then s.trap 0x084 (s.rx a)
      else if s.turnOut (s.rx a) len && !s.spent (s.rx c) then s.stallUnder (s.rx c)
      else endOf d (s.rx a) len (s.isPoll (s.rx c)) (s.turnRegion l.toNat ((s.rx b).getLsbD 63) (s.spent (s.rx c)) (s.rx a) len) := by
  have h1 : ((s.rx b).getLsbD 63 && decide (l.toNat < 3)) = false := by
    cases hb : (s.rx b).getLsbD 63 with
    | false => rfl
    | true => simpa using (hall hb).1
  have h2 : ((s.rx b).getLsbD 63 && !s.cur.sup) = false := by
    cases hb : (s.rx b).getLsbD 63 with
    | false => rfl
    | true => simp [(hall hb).2]
  have hy : s.cur.mustYield = false := by rw [Strand.mustYield, hreq]; rfl
  change execTurn d a b c l s = _
  simp only [execTurn, h1, h2, hy, hlen, Bool.false_eq_true, if_false]
  generalize s.turnRegion _ _ _ _ _ = r
  obtain ⟨⟨n, rs, ok, _ | x⟩, t⟩ := r <;> rfl

theorem turnOutcomes : TurnOutcomes := by
  intro s s1 d a b c l e hreq hl op base len all p i B
  have hlen : field (s.rx b) 0 63 = len := field_zero _ _
  refine ⟨?_, ?_, fun hall => ⟨?_, ?_, ?_, ?_⟩⟩
  · intro ha hl3
    change execTurn d a b c l s = _
    rw [execTurn, if_pos (by simpa using ⟨ha, hl3⟩)]
    rfl
  · intro ha hl3 hsup
    change execTurn d a b c l s = _
    rw [execTurn, if_neg (by simpa using fun _ => hl3), if_pos (by simpa using ⟨ha, hsup⟩)]
    rfl
  · intro h0
    rw [turn_eq hlen hreq hall, if_pos h0, finish_ended, status_eq, isPoll_eq]
    rfl
  · intro h0 hout
    rw [turn_eq hlen hreq hall, if_neg h0, if_pos hout]
    rfl
  · intro h0 hin heng ht
    rw [turn_eq hlen hreq hall, if_neg h0, if_neg (by rw [hin]; decide), if_pos (by rw [heng, spent_eq, ht]; rfl), stallUnder_eq]
  · intro h0 hin hgo ht
    have hgo' : ¬ (s.turnOut base len && !s.spent op) = true := by
      rw [spent_eq]
      rcases hgo with h | h <;> simp [h]
    have hx : exec i s = endOf d base len p (e, s1) := by
      rw [turn_eq hlen hreq hall, if_neg h0, if_neg (by rw [hin]; decide), if_neg hgo', spent_eq, isPoll_eq]
      exact congrArg _ ht
    refine ⟨?_, ?_, ?_⟩
    · intro x hf
      rw [hx, endOf, hf]
      rfl
    · intro hf
      rw [hx, endOf, hf]
      exact (finish_ended ..).trans (by rw [turnStatus_eq, turnedBytes_eq])
    · intro sp hsp r hr h1 h2
      exact below_eq_false.mp (turnRegion_above ht sp hsp r hr ⟨h1, h2⟩)

/-! ### TURNALL, FENCE and PUBLISH (R239, R240, R241) -/

theorem logStatus_eq (n : Nat) (ok : Bool) : logStatus n ok = if ok = true then stat 0 0 n else if n = 0 then stat 1 0 0 else stat 3 0 n := by
  simp only [logStatus, status_eq, oDONE, oTIMEOUT, oPARTIAL]
  cases ok with
  | true => rfl
  | false =>
    simp only [Bool.false_eq_true, if_false]
    split
    next h => rw [h]
    next => rfl

section
variable {s s1 : State} {n : Nat} {ok : Bool} (d c : Reg) (l : BitVec 3)

theorem turnall_late (h : s.engStores = true) : exec (.turnall d c l) s =
    if noTime s (s.rx c) = true then ended s d (stat 1 0 0) (polls s (s.rx c)) else stalls s (s.rx c) := by
  change execTurnall d c l s = _
  rw [execTurnall, turning_late h, late_eq]

theorem publish_late (h : s.engStores = true) : exec (.publish d c) s =
    if noTime s (s.rx c) = true then ended s d (stat 1 0 0) (polls s (s.rx c)) else stalls s (s.rx c) := by
  change execPublish d c s = _
  rw [execPublish, turning_late h, late_eq]

theorem turnall_turned (h : s.engStores = false) (ht : s.turnLog l.toNat (noTime s (s.rx c)) = (n, ok, s1)) :
    exec (.turnall d c l) s = ended s1 d (logStatus n ok) (polls s1 (s.rx c)) := by
  change execTurnall d c l s = _
  simp only [execTurnall, turning_now h, spent_eq, ht, finish_ended, isPoll_eq]

theorem publish_partial (h : s.engStores = false) (ht : s.turnLog s.cur.id.publvl (noTime s (s.rx c)) = (n, false, s1)) :
    exec (.publish d c) s = ended s1 d (logStatus n false) (polls s1 (s.rx c)) := by
  change execPublish d c s = _
  simp only [execPublish, turning_now h, spent_eq, ht, finish_ended, isPoll_eq]

theorem publish_declares (h : s.engStores = false) (ht : s.turnLog s.cur.id.publvl (noTime s (s.rx c)) = (n, true, s1)) :
    exec (.publish d c) s = ended (s1.declareUpTo s1.cur.c.widbase.toNat) d (stat 0 0 (s1.cur.c.widbase - s1.cur.id.first).toNat)
      (polls s1 (s.rx c)) := by
  change execPublish d c s = _
  simp only [execPublish, turning_now h, spent_eq, ht, finish_ended, isPoll_eq, status_eq, oDONE]

end

theorem fence_eq {s : State} {d a c : Reg} (hu : Undisturbed s) :
    exec (.fence d a c) s = s.placeStreams.localWait (encode (.fence d a c)) d (s.rx c) (.fence ((s.rx a).extractLsb' 0 5)) := by
  change execFence d a c s = _
  rw [execFence, deliverPoint_none hu.1]
  rfl

theorem fence_try {s : State} {m : BitVec 5} :
    s.localTry s.cur (.fence m) = if m.toNat &&& s.classesDone s.cur = m.toNat then some (stat 0 0 m.toNat) else none := by
  simp only [State.localTry, fenceOutcome, Nat.and_comm m.toNat, status_eq, oDONE, oTIMEOUT, oPARTIAL]
  by_cases h : s.classesDone s.cur &&& m.toNat = m.toNat
  · simp only [h, if_true]
  · simp only [h, if_false]
    split <;> simp

theorem fence_end {s : State} {m : BitVec 5} (h : m.toNat &&& s.classesDone s.cur ≠ m.toNat) :
    s.localEnd s.cur (.fence m) =
      if m.toNat &&& s.classesDone s.cur = 0 then stat 1 0 0 else stat 3 0 (m.toNat &&& s.classesDone s.cur) := by
  rw [Nat.and_comm] at h
  simp only [State.localEnd, fenceOutcome, Nat.and_comm m.toNat, if_neg h, status_eq, oTIMEOUT, oPARTIAL]
  split
  next h0 => rw [h0]
  next => rfl

theorem turnallFencePublish : TurnallFencePublish := by
  intro s s1 d a c l n ok hu op mask no turned u done p
  have hm : ((s.rx a).extractLsb' 0 5).toNat = mask := (toNat_extractLsb' ..).trans (field_zero ..)
  refine ⟨?_, ?_, ?_, ?_, ?_, ?_, ?_⟩
  · intro he hn
    have hn' : ¬ noTime s (s.rx c) = true := by rw [show noTime s (s.rx c) = false from hn]; decide
    exact ⟨(turnall_late d c l he).trans (if_neg hn'), (publish_late d c he).trans (if_neg hn')⟩
  · intro he hn
    exact ⟨(turnall_late d c l he).trans (if_pos hn), (publish_late d c he).trans (if_pos hn)⟩
  · intro he ht
    rw [turnall_turned d c l he ht, logStatus_eq]
  · intro hd
    rw [fence_eq hu]
    exact localWait_done _ _ (by rw [fence_try, hm, if_pos hd])
  · intro hd hp
    rw [fence_eq hu, localWait_poll _ _ (by rw [fence_try, hm, if_neg hd]) hp, fence_end (by rw [hm]; exact hd), hm]
  · intro hd hp
    rw [fence_eq hu]
    exact localWait_waits _ _ rfl (by rw [fence_try, hm, if_neg hd]) hp
  · intro he ht
    constructor
    · rintro rfl
      rw [publish_partial d c he ht, logStatus_eq]
    · rintro rfl
      rw [publish_declares d c he ht]

/-- Settles O33: TURN by the end of its region, with the log's spans within the lines done raised; TURNALL, FENCE and PUBLISH by what is
outstanding and by the time left. -/
theorem turningInstructions : Obligations.TurningInstructions := ⟨turnOutcomes, turnallFencePublish⟩

end Sys2Proof.TurningRules
end

section
/-! PROOF. A turn of the write log of a strand without a name, which meets a line that no packet reaches (R237, R466). -/

namespace Sys2Proof.NamelessTurns

open Machine Claim

/-! Sid 0 names no strand (log entry 8), and `WriteLogTurned` ranges over states in which a strand of the list carries it as the issuing
strand does. The record of a written line that cannot be reached goes to the strand that the list holds under the name, and is written to
the issuing one. -/

/-- The span of line `l`, written and not turned. -/
def written (l : Nat) : Span := ⟨64 * l, 64, none, [⟨l, l + 1, none⟩]⟩

/-- A strand without a name, two lines written. -/
def twoWritten : Strand := { Strand.reset with wlog := [written 0, written 1] }

/-- A strand without a name that has written one line, of another module to which no route leads. -/
def farWritten : State := { State.reset with
  cur := { Strand.reset with run := .running, wlog := [written (2 ^ 36)] }
  strands := [twoWritten] }

/-- The turn at C of its write log, with time for it. -/
def turnedLog : Nat × Bool × State := farWritten.turnLog 1 false

/-- The turn is complete, and the log that it leaves is the other strand's, its first 64 bytes raised: line 1 stands where it stood. -/
theorem turnedLog_leaves : turnedLog.2.1 = true ∧ written 1 ∈ turnedLog.2.2.cur.wlog := by decide +kernel

theorem not_writeLogTurned : ¬ WriteLogTurned := by
  intro h
  obtain ⟨hok, hmem⟩ := turnedLog_leaves
  have ht : farWritten.turnLog 1 false = (turnedLog.1, true, turnedLog.2.2) := by rw [← hok]; rfl
  obtain ⟨k, hk, -⟩ := (h farWritten _ 1 _ (by decide) ht).1 _ hmem
  exact nomatch hk

/-- Refutes O32: in `farWritten` a complete turn of the write log at C leaves a span of the log that is not turned, against
`WriteLogTurned`. -/
theorem not_turnedLines : ¬ Obligations.TurnedLines := fun h => not_writeLogTurned h.2.2

end Sys2Proof.NamelessTurns
end

section
/-! PROOF. COPY, COPYB and PUTQ at issue (R248 to R252). -/

namespace Sys2Proof.CopyIssueRules

open Machine Claim CsrRules WaitRules

/-! ### The checks in numbers (R249, R250) -/

theorem field_top {w : Word} {k len : Nat} (h : 64 ≤ k + len) : field w k len = w.toNat / 2 ^ k := by
  rw [field, Nat.mod_eq_of_lt]
  refine Nat.div_lt_of_lt_mul ?_
  rw [← Nat.pow_add]
  exact Nat.lt_of_lt_of_le w.isLt (Nat.pow_le_pow_right (by decide) h)

theorem controlOk_iff {c : Word} : controlOk c = true ↔ c.toNat < 128 ∧ c.getLsbD 3 = false ∧ c.toNat / 16 ≤ 4 := by
  have hf : field c 4 3 = c.toNat / 16 % 8 := rfl
  have hd : c.toNat / 2 ^ 7 = 0 ↔ c.toNat < 128 := Nat.div_eq_zero_iff_lt (by decide)
  simp only [controlOk, field_top (w := c) (k := 7) (len := 57) (by decide), hd, hf, Bool.and_eq_true, decide_eq_true_eq, Bool.not_eq_true', and_assoc]
  refine and_congr_right fun h => and_congr_right fun _ => ?_
  rw [Nat.mod_eq_of_lt (by omega)]

theorem selector_ne {a b : Word} : (selector a == selector b) = false ↔ a.extractLsb' 56 8 ≠ b.extractLsb' 56 8 := by
  rw [beq_eq_false_iff_ne, selector, selector, ← toNat_extractLsb', ← toNat_extractLsb', Ne, BitVec.toNat_inj]

theorem overlap_eq_false {a b : Word} {n : Nat} : overlap a b n = false ↔ a.extractLsb' 56 8 ≠ b.extractLsb' 56 8 ∨
    a.toNat % 2 ^ 56 + n ≤ b.toNat % 2 ^ 56 ∨ b.toNat % 2 ^ 56 + n ≤ a.toNat % 2 ^ 56 := by
  simp only [overlap, field_zero, Bool.and_eq_false_iff, selector_ne, decide_eq_false_iff_not, Nat.not_lt]
  constructor
  · rintro ((h | h) | h)
    · exact .inl h
    · exact .inr (.inr h)
    · exact .inr (.inl h)
  · rintro (h | h | h)
    · exact .inl (.inl h)
    · exact .inr h
    · exact .inl (.inr h)

theorem spad_iff {c : CopyCmd} : c.spad = true ↔ c.dst.extractLsb' 56 8 = 0xE0 := by
  rw [CopyCmd.spad, decide_eq_true_eq, selector, ← toNat_extractLsb', ← BitVec.toNat_inj]
  rfl

/-! ### CHRNG and CHWM as a command starts (R102, R251) -/

/-- The number that CHRNG holds: BUSY, level, space, bytes and offset. -/
theorem range_bits (lvl sp n o : Nat) (hl : lvl < 8) (hs : sp < 2) (hn : n < 2 ^ 24) (ho : o < 2 ^ 24) :
    let w := BitVec.ofNat 64 (2 ^ 63 + lvl * 2 ^ 60 + sp * 2 ^ 59 + n * 2 ^ 24 + o)
    w.getLsbD 63 = true ∧ w.getLsbD 59 = decide (sp = 1) ∧ w.extractLsb' 24 24 = BitVec.ofNat 24 n ∧ w.extractLsb' 60 3 = BitVec.ofNat 3 lvl ∧
      w.extractLsb' 0 24 = BitVec.ofNat 24 o := by
  intro w
  have hw : w.toNat = 2 ^ 63 + lvl * 2 ^ 60 + sp * 2 ^ 59 + n * 2 ^ 24 + o := by
    rw [BitVec.toNat_ofNat, Nat.mod_eq_of_lt (by omega)]
  refine ⟨?_, ?_, ?_, ?_, ?_⟩
  · rw [← BitVec.testBit_toNat, hw, Nat.testBit_eq_decide_div_mod_eq]
    exact decide_eq_true (by omega)
  · rw [← BitVec.testBit_toNat, hw, Nat.testBit_eq_decide_div_mod_eq]
    exact decide_eq_decide.mpr (by omega)
  all_goals
    apply BitVec.eq_of_toNat_eq
    rw [toNat_extractLsb', field, hw, BitVec.toNat_ofNat]
    omega

theorem bytes_lt (t : Strand) : t.vl * (t.ew / 8) < 2 ^ 24 := by
  have hv : t.vl < 1024 := Nat.mod_lt _ (by decide)
  have he : t.ew / 8 ≤ 16 := by
    have hf : field t.c.vtype 0 2 < 4 := Nat.mod_lt _ (by decide)
    have hp : 2 ^ field t.c.vtype 0 2 ≤ 2 ^ 3 := Nat.pow_le_pow_right (by decide) (by omega)
    simp only [Strand.ew, ewOf]
    omega
  calc t.vl * (t.ew / 8) ≤ 1024 * 16 := Nat.mul_le_mul (by omega) he
    _ < 2 ^ 24 := by decide

theorem range_eq (c : CopyCmd) : c.range = BitVec.ofNat 64 (2 ^ 63 + (if c.spad then 1 else c.lvl) * 2 ^ 60 + (if c.spad then 1 else 0) * 2 ^ 59 +
    c.bytes * 2 ^ 24 + if c.spad then field c.dst 0 23 else 0) := by
  rw [CopyCmd.range]
  split <;> simp

/-- CHRNG and CHWM of a command into the own scratchpad, and of one elsewhere. -/
theorem range_fields {c : CopyCmd} (hl : c.lvl < 8) (hn : c.bytes < 2 ^ 24) :
    c.range.getLsbD 63 = true ∧ c.range.getLsbD 59 = decide (c.dst.extractLsb' 56 8 = 0xE0) ∧ c.range.extractLsb' 24 24 = BitVec.ofNat 24 c.bytes ∧
      (c.dst.extractLsb' 56 8 = 0xE0 → c.range.extractLsb' 60 3 = 1 ∧ c.range.extractLsb' 0 24 = (c.dst.extractLsb' 0 23).setWidth 24) ∧
      (¬ c.dst.extractLsb' 56 8 = 0xE0 → c.range.extractLsb' 60 3 = BitVec.ofNat 3 c.lvl ∧ c.range.extractLsb' 0 24 = 0) := by
  have ho : field c.dst 0 23 < 2 ^ 23 := Nat.mod_lt _ (by decide)
  obtain ⟨h63, h59, hlen, hlvl, hoff⟩ := range_bits (if c.spad then 1 else c.lvl) (if c.spad then 1 else 0) c.bytes (if c.spad then field c.dst 0 23 else 0)
    (by split <;> omega) (by split <;> omega) hn (by split <;> omega)
  rw [← range_eq] at h63 h59 hlen hlvl hoff
  refine ⟨h63, ?_, hlen, ?_, ?_⟩
  · rw [h59]
    refine decide_eq_decide.mpr ?_
    rw [← spad_iff]
    cases c.spad <;> decide
  · intro h
    rw [hlvl, hoff, if_pos (spad_iff.mpr h), if_pos (spad_iff.mpr h)]
    refine ⟨rfl, BitVec.eq_of_toNat_eq ?_⟩
    rw [BitVec.toNat_ofNat, BitVec.toNat_setWidth, toNat_extractLsb']
  · intro h
    rw [hlvl, hoff, if_neg (spad_iff.not.mpr h), if_neg (spad_iff.not.mpr h)]
    exact ⟨rfl, rfl⟩

/-- CHWM as a command starts. -/
def firstMark (c : CopyCmd) : Word := if c.spad then BitVec.ofNat 64 (field c.dst 0 23) else 0

theorem firstMark_own {c : CopyCmd} (h : c.dst.extractLsb' 56 8 = 0xE0) : firstMark c = (c.dst.extractLsb' 0 23).setWidth 64 := by
  apply BitVec.eq_of_toNat_eq
  rw [firstMark, if_pos (spad_iff.mpr h), BitVec.toNat_ofNat, BitVec.toNat_setWidth, toNat_extractLsb']

theorem firstMark_other {c : CopyCmd} (h : ¬ c.dst.extractLsb' 56 8 = 0xE0) : firstMark c = 0 := if_neg (spad_iff.not.mpr h)

/-- A channel on which a command starts with an empty queue. -/
theorem begin_head {q : Chan} {c : CopyCmd} (hq : q.queue = [c]) : q.begin_ =
    { q with busy := true, rng := c.range, wm := firstMark c } := by
  rw [Chan.begin_, hq]
  rfl

/-! ### The instruction by its checks (R250) -/

/-- The command that an instruction captures, and the channel after it joins the queue. -/
def capture (s : State) (word : InsnWord) (kind : Nat) (ctl dst src obj : Word) : CopyCmd := {
  sid := s.cur.id.sid, writer := s.cur.writer, sup := s.cur.sup, kind := kind, dst := dst, src := src, obj := obj, opd := ctl
  bytes := s.cur.vl * (s.cur.ew / 8), lvl := ctl.toNat / 16, pc := s.cur.pc, word := word, vl := BitVec.ofNat 16 s.cur.vl
  vtype := s.cur.c.vtype.extractLsb' 0 8, dlcap := s.core.dlcap.toNat % 2 ^ 63
  asid := s.cur.c.asid.extractLsb' 0 16, ptroot := s.cur.c.ptroot, seq := (s.core.copySeq + 1) % 2 ^ 16, pos := s.cur.pos + 1
  done := [], sent := [], park := none, tried := 0, full := 0, dead := false, step := 0, turns := [] }

def joined (q : Chan) (c : CopyCmd) : Chan :=
  let q' := { q with queue := q.queue ++ [c] }
  if q'.queue.length = 1 then q'.begin_ else q'

theorem joined_queue (q : Chan) (c : CopyCmd) : (joined q c).queue = q.queue ++ [c] := by
  simp only [joined]
  split
  next h =>
    have hq : q.queue = [] := by simpa using h
    rw [begin_head (c := c) (by rw [hq]; rfl)]
  next => rfl

theorem joined_busy {q : Chan} (h : q.queue ≠ []) (c : CopyCmd) : joined q c = { q with queue := q.queue ++ [c] } :=
  if_neg (by simpa using h)

theorem joined_idle {q : Chan} (h : q.queue = []) (c : CopyCmd) : joined q c =
    { q with queue := [c], busy := true, rng := c.range, wm := firstMark c } := by
  simp only [joined, h, List.nil_append, List.length_singleton, if_true]
  exact begin_head rfl

section
variable (s : State) (word : InsnWord) (kind : Nat) (d a b : Reg) (obj : Word)

theorem async_control (h : controlOk (s.rx d) = false) : s.async word kind d a b obj = trapped s 0x200 (s.rx d) := by
  simp only [State.async, h, Bool.not_false, if_true]
  rfl

variable (h : controlOk (s.rx d) = true)
include h

theorem async_dst (hd : (s.rx a).toNat % (s.cur.ew / 8) ≠ 0) : s.async word kind d a b obj = trapped s 0x086 (s.rx a) := by
  simp only [State.async, h, Bool.not_true, Bool.false_eq_true, if_false, if_pos hd]
  rfl

variable (hd : (s.rx a).toNat % (s.cur.ew / 8) = 0)
include hd

theorem async_src (hb : (s.rx b).toNat % (s.cur.ew / 8) ≠ 0) : s.async word kind d a b obj = trapped s 0x086 (s.rx b) := by
  simp only [State.async, h, hd, Bool.not_true, Bool.false_eq_true, if_false, ne_eq, not_true_eq_false]
  exact if_pos hb

variable (hb : (s.rx b).toNat % (s.cur.ew / 8) = 0)
include hb

theorem async_selectors : s.async word kind d a b obj =
    match selectorFault s.cur.sup (s.rx a), selectorFault s.cur.sup (s.rx b) with
    | some x, _ => s.trapX x
    | none, some x => s.trapX x
    | none, none =>
      if s.cur.vl * (s.cur.ew / 8) ≠ 0 ∧ overlap (s.rx a) (s.rx b) (s.cur.vl * (s.cur.ew / 8)) then s.trap 0x200 (s.rx d)
      else if s.cur.vl * (s.cur.ew / 8) = 0 then s.ret d (status oDONE 0 0)
      else if 8 ≤ (s.core.chans.getD (field (s.rx d) 0 3) Chan.reset).queue.length then s.ret d (status oTIMEOUT 0 0)
      else
        ({ s with
          cur := { s.cur with pos := s.cur.pos + 1 }
          core := { s.core with
            copySeq := (s.core.copySeq + 1) % 2 ^ 16
            chans := s.core.chans.setIfInBounds (field (s.rx d) 0 3)
              (joined (s.core.chans.getD (field (s.rx d) 0 3) Chan.reset) (capture s word kind (s.rx d) (s.rx a) (s.rx b) obj)) } }).ret d
          (status oDONE 0 (joined (s.core.chans.getD (field (s.rx d) 0 3) Chan.reset) (capture s word kind (s.rx d) (s.rx a) (s.rx b) obj)).queue.length) := by
  have hlvl : field (s.rx d) 4 3 = (s.rx d).toNat / 16 := by
    have := (controlOk_iff.mp h).1
    rw [field]
    omega
  have hcap : field s.core.dlcap 0 63 = s.core.dlcap.toNat % 2 ^ 63 := field_zero ..
  simp only [State.async, h, hd, hb, hlvl, State.bump, hcap, Bool.not_true, Bool.false_eq_true, if_false, ne_eq, not_true_eq_false, capture, joined]
  rfl

/-- A command that passes every check and finds room joins its channel's queue. -/
theorem async_joins (hfd : selectorFault s.cur.sup (s.rx a) = none) (hfs : selectorFault s.cur.sup (s.rx b) = none)
    (h0 : s.cur.vl * (s.cur.ew / 8) ≠ 0) (ho : overlap (s.rx a) (s.rx b) (s.cur.vl * (s.cur.ew / 8)) = false)
    (hq : (s.core.chans.getD ((s.rx d).toNat % 8) Chan.reset).queue.length < 8) :
    s.async word kind d a b obj =
      .next (wrote { s with
        cur := { s.cur with pos := s.cur.pos + 1 }
        core := { s.core with
          copySeq := (s.core.copySeq + 1) % 2 ^ 16
          chans := s.core.chans.setIfInBounds ((s.rx d).toNat % 8)
            (joined (s.core.chans.getD ((s.rx d).toNat % 8) Chan.reset) (capture s word kind (s.rx d) (s.rx a) (s.rx b) obj)) } } d
        (stat 0 0 ((s.core.chans.getD ((s.rx d).toNat % 8) Chan.reset).queue.length + 1))) := by
  have hf : field (s.rx d) 0 3 = (s.rx d).toNat % 8 := field_zero ..
  rw [async_selectors s word kind d a b obj h hd hb, hfd, hfs]
  simp only [h0, ho, hf, Nat.not_le.mpr hq, ret_wrote, status_eq, joined_queue, List.length_append, List.length_singleton, oDONE, ne_eq,
    not_false_eq_true, Bool.false_eq_true, and_false, if_false]

end

/-- Settles O40: the checks of `State.async` in their order, and the queue and the channel that the command finds. -/
theorem copyIssue : Obligations.CopyIssue := by
  intro s d a b c ctl dst src w n ch q good apart cmd own row hrow i
  have hex : exec i s = s.async (encode i) row.2.1 d a b row.2.2 := by
    simp only [List.mem_cons, List.not_mem_nil, or_false] at hrow
    rcases hrow with h | h | h <;> simp only [i, h] <;> rfl
  have hch : field ctl 0 3 = ch := field_zero ..
  rw [hex]
  refine ⟨?_, ?_, ?_, ?_, ?_, ?_⟩
  · exact fun h => async_control s _ _ d a b _ (Bool.eq_false_iff.mpr (fun hc => h (controlOk_iff.mp hc)))
  · exact fun h hd => async_dst s _ _ d a b _ (controlOk_iff.mpr h) hd
  · exact fun h hd hb => async_src s _ _ d a b _ (controlOk_iff.mpr h) hd hb
  · intro x h hd hb hx
    rw [async_selectors s _ _ d a b _ (controlOk_iff.mpr h) hd hb, hx]
    rfl
  · intro x h hd hb hn hx
    rw [async_selectors s _ _ d a b _ (controlOk_iff.mpr h) hd hb, hn, hx]
    rfl
  · intro h hd hb hfd hfs
    have he := async_selectors s (encode i) row.2.1 d a b row.2.2 (controlOk_iff.mpr h) hd hb
    rw [hfd, hfs] at he
    rw [he]
    refine ⟨?_, ?_, ?_, ?_⟩
    · intro h0 hap
      exact if_pos ⟨h0, by rw [← Bool.not_eq_false]; exact overlap_eq_false.not.mpr hap⟩
    · intro h0
      have hq : (.next (wrote s d (stat 0 0 0)) : Out) = s.ret d (status oDONE 0 0) := by rw [ret_wrote, status_eq]; rfl
      exact (if_neg (fun hc => hc.1 h0)).trans ((if_pos h0).trans hq.symm)
    · intro h0 hap hq
      have hn : ¬ (n ≠ 0 ∧ overlap dst src n = true) := fun hc => by rw [overlap_eq_false.mpr hap] at hc; exact nomatch hc.2
      rw [hch]
      refine (if_neg hn).trans ((if_neg h0).trans ((if_pos hq).trans ?_))
      rw [ret_wrote, status_eq]
      rfl
    · intro h0 hap hq
      have hcmd : capture s (encode i) row.2.1 ctl dst src row.2.2 = cmd i row.2.1 row.2.2 := rfl
      refine ⟨joined q (cmd i row.2.1 row.2.2), ?_, joined_queue .., fun hne => ?_, fun hnil => ?_⟩
      · rw [← he, async_joins s (encode i) row.2.1 d a b row.2.2 (controlOk_iff.mpr h) hd hb hfd hfs h0 (overlap_eq_false.mpr hap) hq, hcmd]
      · rw [joined_busy hne]
        exact ⟨rfl, rfl, rfl⟩
      · obtain ⟨h63, h59, hlen, hsp, hns⟩ := range_fields (c := cmd i row.2.1 row.2.2) (Nat.lt_of_le_of_lt h.2.2 (by decide)) (bytes_lt s.cur)
        rw [joined_idle hnil]
        exact ⟨rfl, h63, h59, hlen, fun ho => ⟨(hsp ho).1, (hsp ho).2, firstMark_own ho⟩, fun ho => ⟨(hns ho).1, (hns ho).2, firstMark_other ho⟩⟩

end Sys2Proof.CopyIssueRules
end

section
/-! PROOF. A copy into the own scratchpad whose command keeps lines to turn (R101, R251). -/

namespace Sys2Proof.TurningCopy

open Machine Claim

/-! COPY_RETIRE turns the lines that a command keeps (`CopyCmd.turns`) and begins to keep them for destinations outside the own scratchpad
alone; `CopyProgress` ranges over every command. -/

/-- A landed COPY of no bytes into the own scratchpad that keeps line 0 to turn. -/
def keeping : CopyCmd where
  sid := 1
  writer := 0
  sup := false
  kind := 0
  dst := 0xE000000000000000
  src := 0
  obj := 0
  opd := 0
  bytes := 0
  lvl := 1
  pc := 0
  word := 0
  vl := 0
  vtype := 0
  dlcap := 0
  asid := 0
  ptroot := 0
  seq := 0
  pos := 0
  done := []
  sent := []
  park := none
  tried := 0
  full := 0
  dead := false
  step := 0
  turns := [0]

/-- Core 0 runs it on channel 0, and its writer has written line 0, which is not turned. -/
def landedCopy : State := { State.reset with
  core := { Core.reset 0 with chans := (Vector.replicate 8 Chan.reset).set 0 { Chan.reset with queue := [keeping] } }
  tags := [(0, ⟨6, 0, 0, State.reset.front.modnum⟩)] }

theorem runs_landedCopy : Runs landedCopy 0 0 keeping := by
  refine ⟨?_, ?_, ?_, ?_, ?_⟩ <;> decide +kernel

/-- The state of line 0 after a step. -/
def stateAfter : Out → Option (BitVec 3)
  | .next t => some (t.tag 0).state
  | _ => none

/-- The line is turned at C as the command retires. -/
theorem stateAfter_copyRetire : stateAfter (exec (.copyRetire 0 0) landedCopy) = some 1 := by decide +kernel

theorem stateAfter_kept {o : Out} {t : State} (ho : o = .next t) (ht : t.tags = landedCopy.tags) : stateAfter o = some 6 := by
  rw [ho, stateAfter, State.tag, ht]
  rfl

/-- Refutes O49: as the command of `landedCopy` retires the tag of line 0 changes, while `CopyProgress` has the end of a COPY into the own
scratchpad keep every tag. -/
theorem not_copyProgress : ¬ Obligations.CopyProgress := by
  intro h
  have hend := (h landedCopy landedCopy landedCopy landedCopy landedCopy 0 0 0 0 keeping (0, 0) [] 0 0 ⟨0, 0, keeping, 0, none, false⟩ ⟨0, 0, 0⟩
    (by decide) (by decide)).2.1
  obtain ⟨t, ht, -, htags, -⟩ := hend runs_landedCopy (.inr ⟨rfl, rfl, by decide, by decide⟩)
  exact absurd ((stateAfter_kept ht htags).symm.trans stateAfter_copyRetire) (by decide)

end Sys2Proof.TurningCopy
end

section
/-! PROOF. Stream descriptors, SBIND, SUNBIND and SPOS (R229 to R234). -/

namespace Sys2Proof.StreamRules

open Machine Laws Claim CsrRules VectorConfig WaitRules

/-! ### Descriptors (R230 to R232) -/

/-- The lattice of an affine stream: row `i`, column `k`. -/
def corner (b : Stream) (i k : Int) : Int := (b.base : Int) + i * b.s1 + k * b.s0

/-- An element of `n` bytes at offset `z` lies in the scratchpad at a multiple of its size. -/
def Inside (n : Nat) (z : Int) : Prop := 0 ≤ z ∧ z + n ≤ 2 ^ 23 ∧ z % n = 0

theorem streamAt_eq (b : Stream) (i k : Nat) (hk : k < b.n0) : streamAt b (i * b.n0 + k) = corner b i k := by
  rw [streamAt, corner, Nat.add_comm, Nat.add_mul_div_right _ _ (by omega), Nat.div_eq_of_lt hk, Nat.add_mul_mod_self_right,
    Nat.mod_eq_of_lt hk, Nat.zero_add]

/-- A multiple of a step lies between 0 and the last one. -/
theorem between (s : Int) {k m : Int} (h0 : 0 ≤ k) (hm : k ≤ m) : (0 ≤ k * s ∧ k * s ≤ m * s) ∨ (m * s ≤ k * s ∧ k * s ≤ 0) := by
  rcases Int.le_total 0 s with hs | hs
  · exact .inl ⟨Int.mul_nonneg h0 hs, Int.mul_le_mul_of_nonneg_right hm hs⟩
  · exact .inr ⟨Int.mul_le_mul_of_nonpos_right hm hs, Int.mul_nonpos_of_nonneg_of_nonpos h0 hs⟩

/-- The four corners bound a lattice. -/
theorem bounds_of_corners {b : Stream} {n : Nat} {I K i k : Int} (hi : 0 ≤ i ∧ i ≤ I) (hk : 0 ≤ k ∧ k ≤ K)
    (h00 : Inside n (corner b 0 0)) (h0K : Inside n (corner b 0 K)) (hI0 : Inside n (corner b I 0)) (hIK : Inside n (corner b I K)) :
    0 ≤ corner b i k ∧ corner b i k + n ≤ 2 ^ 23 := by
  simp only [Inside, corner, Int.zero_mul, Int.add_zero] at h00 h0K hI0 hIK ⊢
  rcases between b.s1 hi.1 hi.2 with hr | hr <;> rcases between b.s0 hk.1 hk.2 with hc | hc <;> omega

/-- A lattice whose first element and steps are multiples of a size. -/
theorem aligned_of_steps {b : Stream} {n : Nat} {i k : Int} (h00 : corner b 0 0 % n = 0) (hi : i = 0 ∨ b.s1 % n = 0) (hk : k = 0 ∨ b.s0 % n = 0) :
    corner b i k % n = 0 := by
  have hmul {x s : Int} (h : x = 0 ∨ s % n = 0) : (n : Int) ∣ x * s := by
    rcases h with rfl | h
    · rw [Int.zero_mul]; exact Int.dvd_zero _
    · exact Int.dvd_mul_of_dvd_right (Int.dvd_of_emod_eq_zero h)
  have hb : (n : Int) ∣ b.base := by
    refine Int.dvd_of_emod_eq_zero ?_
    simpa only [corner, Int.zero_mul, Int.add_zero] using h00
  exact Int.emod_eq_zero_of_dvd (Int.dvd_add (Int.dvd_add hb (hmul hi)) (hmul hk))

/-- The corners of an affine stream and its steps say what every element does. -/
theorem elements_iff {b : Stream} {n : Nat} (hn : 0 < n) (h0 : 1 ≤ b.n0) (h1 : 1 ≤ b.n1) :
    (b.base < 2 ^ 23 ∧ Inside n (corner b 0 0) ∧ Inside n (corner b 0 ((b.n0 : Int) - 1)) ∧ Inside n (corner b ((b.n1 : Int) - 1) 0) ∧
        Inside n (corner b ((b.n1 : Int) - 1) ((b.n0 : Int) - 1)) ∧ (b.n0 = 1 ∨ b.s0 % n = 0) ∧ (b.n1 = 1 ∨ b.s1 % n = 0)) ↔
      ∀ j < b.n0 * b.n1, Inside n (streamAt b j) := by
  constructor
  · rintro ⟨-, h00, h0K, hI0, hIK, hs0, hs1⟩ j hj
    have hdiv : j / b.n0 < b.n1 := Nat.div_lt_of_lt_mul hj
    have hmod : j % b.n0 < b.n0 := Nat.mod_lt _ h0
    change Inside n (corner b (j / b.n0 : Nat) (j % b.n0 : Nat))
    generalize j / b.n0 = i at hdiv
    generalize j % b.n0 = k at hmod
    obtain ⟨hlo, hhi⟩ := bounds_of_corners (i := i) (k := k) ⟨by omega, by omega⟩ ⟨by omega, by omega⟩ h00 h0K hI0 hIK
    refine ⟨hlo, hhi, aligned_of_steps h00.2.2 (hs1.imp_left fun h => ?_) (hs0.imp_left fun h => ?_)⟩
    · omega
    · omega
  · intro h
    have hat (i k : Nat) (hi : i < b.n1) (hk : k < b.n0) : Inside n (corner b i k) := by
      rw [← streamAt_eq b i k hk]
      refine h _ ?_
      calc i * b.n0 + k < (i + 1) * b.n0 := by rw [Nat.add_mul, Nat.one_mul]; omega
        _ ≤ b.n1 * b.n0 := Nat.mul_le_mul_right _ hi
        _ = b.n0 * b.n1 := Nat.mul_comm ..
    have hK : ((b.n0 - 1 : Nat) : Int) = (b.n0 : Int) - 1 := by omega
    have hI : ((b.n1 - 1 : Nat) : Int) = (b.n1 : Int) - 1 := by omega
    have h00 := hat 0 0 h1 h0
    refine ⟨?_, h00, hK ▸ hat 0 (b.n0 - 1) h1 (by omega), hI ▸ hat (b.n1 - 1) 0 (by omega) h0, hI ▸ hK ▸ hat (b.n1 - 1) (b.n0 - 1) (by omega) (by omega), ?_, ?_⟩
    · have hle := h00.2.1
      simp only [corner, Nat.cast_zero, Int.zero_mul, Int.add_zero] at hle
      omega
    · by_cases hs : b.n0 = 1
      · exact .inl hs
      · have hd := Int.emod_eq_emod_iff_emod_sub_eq_zero.mp ((hat 0 1 h1 (by omega)).2.2.trans h00.2.2.symm)
        refine .inr ?_
        simpa [corner] using hd
    · by_cases hs : b.n1 = 1
      · exact .inl hs
      · have hd := Int.emod_eq_emod_iff_emod_sub_eq_zero.mp ((hat 1 0 (by omega) h0).2.2.trans h00.2.2.symm)
        refine .inr ?_
        simpa [corner] using hd

theorem fmtSize_pos (f : BitVec 4) : 0 < fmtSize f := by revert f; decide

theorem field_eq_zero_iff (w : Word) (lo len : Nat) : field w lo len = 0 ↔ w.extractLsb' lo len = 0 := by
  rw [← toNat_extractLsb', ← BitVec.toNat_inj]
  rfl

theorem toNat_ne {f : BitVec 4} (k : BitVec 4) {n : Nat} (hk : k.toNat = n) : f.toNat ≠ n ↔ f ≠ k := by
  rw [← hk, Ne, BitVec.toNat_inj]

section
variable {d : Vector Word 4}

/-- What both kinds of descriptors must be like. -/
def Common (d : Vector Word 4) : Prop := field (d.getD 0 0) 12 20 = 0 ∧ field (d.getD 0 0) 4 4 = 0 ∧ (bound d).fmt.toNat ≠ 5 ∧ (bound d).fmt.toNat ≠ 8 ∧
  (bound d).fmt.toNat < 12

theorem descOk_affine (h : (bound d).kind < 2) : descOk d = true ↔ Common d ∧ 1 ≤ (bound d).n0 ∧ 1 ≤ (bound d).n1 ∧
    (bound d).base < 2 ^ 23 ∧ Inside (fmtSize (bound d).fmt) (corner (bound d) 0 0) ∧
    Inside (fmtSize (bound d).fmt) (corner (bound d) 0 (((bound d).n0 : Int) - 1)) ∧
    Inside (fmtSize (bound d).fmt) (corner (bound d) (((bound d).n1 : Int) - 1) 0) ∧
    Inside (fmtSize (bound d).fmt) (corner (bound d) (((bound d).n1 : Int) - 1) (((bound d).n0 : Int) - 1)) ∧
    ((bound d).n0 = 1 ∨ (bound d).s0 % fmtSize (bound d).fmt = 0) ∧ ((bound d).n1 = 1 ∨ (bound d).s1 % fmtSize (bound d).fmt = 0) := by
  have hk : (⟨d, 0, [], none, none, false, []⟩ : Stream).kind < 2 := h
  rw [descOk]
  simp only [if_pos hk, Bool.and_eq_true, Bool.or_eq_true, decide_eq_true_eq, bne_iff_ne, Common, Inside, corner, bound]
  tauto

theorem descOk_remote (h : ¬ (bound d).kind < 2) : descOk d = true ↔ Common d ∧ (bound d).base < 2 ^ 7 ∧ d.getD 2 0 = 0 ∧ d.getD 3 0 = 0 := by
  have hk : ¬ (⟨d, 0, [], none, none, false, []⟩ : Stream).kind < 2 := h
  rw [descOk]
  simp only [if_neg hk, Bool.and_eq_true, decide_eq_true_eq, bne_iff_ne, Common, bound]
  tauto

end

theorem streamDescriptors : StreamDescriptors := by
  intro d b n common
  have hd (k : Fin 4) : d.getD k.val 0 = d[k] := by simp [Vector.getD]
  have hcommon : Common d ↔ common := by
    rw [Common, field_eq_zero_iff, field_eq_zero_iff, toNat_ne 5 (by decide), toNat_ne 8 (by decide), show d.getD 0 0 = d[0] from hd 0]
  constructor
  · intro hk
    rw [descOk_affine hk, hcommon]
    refine and_congr_right fun _ => and_congr_right fun hn0 => and_congr_right fun hn1 => ?_
    exact elements_iff (fmtSize_pos _) hn0 hn1
  · intro hk
    have hb : (bound d).base < 2 ^ 7 ↔ d[1].extractLsb' 7 57 = 0 := by
      rw [← field_eq_zero_iff, CopyIssueRules.field_top (by decide), Nat.div_eq_zero_iff_lt (by decide)]
      exact iff_of_eq (congrArg (· < 2 ^ 7) (congrArg BitVec.toNat (hd 1)))
    rw [descOk_remote (Nat.not_lt.mpr hk), hcommon, hb, show d.getD 2 0 = d[2] from hd 2, show d.getD 3 0 = d[3] from hd 3]

/-! ### SBIND, SUNBIND and SPOS (R231, R234) -/

section
variable {s : State} {v : Reg} {b : Stream}

theorem stream_eq (hv : 28 ≤ v.toNat) : s.cur.stream v = s.cur.streams.getD (v.toNat - 28) none := if_pos hv

theorem release_unbound {i : Nat} (h : s.cur.streams.getD i none = none) : s.release i = some s := by
  rw [State.release, h]

/-- The release of a bound register by its kind. -/
theorem release_bound {i : Nat} (h : s.cur.streams.getD i none = some b) :
    (b.kind = 0 → s.release i = some (setBinding s i none)) ∧
    (b.kind = 1 → s.release i = some (setBinding (s.placeStream i) i none)) ∧
    (b.kind = 2 → s.release i = some (setBinding (s.onPartner s.cur i (fun c => { c with group := none })) i none)) ∧
    (b.kind = 3 → b.group = none → s.release i = some (setBinding (s.onPartner s.cur i (fun c => { c with closed := true })) i none)) ∧
    (b.kind = 3 → b.group.isSome = true → s.release i = none) := by
  rw [State.release, h]
  refine ⟨fun hk => ?_, fun hk => ?_, fun hk => ?_, fun hk hg => ?_, fun hk hg => ?_⟩
  · simp only [hk]
    rfl
  · simp only [hk]
    rfl
  · simp only [hk]
    rfl
  · simp only [hk, hg]
    rfl
  · simp only [hk, hg]
    rfl

theorem sunbind_released {t : State} (h : s.release (v.toNat - 28) = some t) : exec (.sunbind v) s = .next (went (unwaited t)) := by
  change execSunbind v s = _
  rw [execSunbind, h]
  rfl

theorem sunbind_waits (h : s.release (v.toNat - 28) = none) : exec (.sunbind v) s = s.stallOn v := by
  change execSunbind v s = _
  rw [execSunbind, h]

theorem sbind_unbound (h : s.release (v.toNat - 28) = some s) (a : Reg) : exec (.sbind v a) s =
    if (s.rx a).toNat % 32 ≠ 0 then trapped (unwaited s) 0x086 (s.rx a)
    else
      match (unwaited s).loadAt (unwaited s).me (s.rx a) 32 with
      | (.error x, s) => s.trapX x
      | (.ok n, s1) => if descOk (words n) then .next (went (setBinding s1 (v.toNat - 28) (some (bound (words n))))) else trapped s1 0x204 (s.rx a) := by
  change execSbind v a s = _
  rw [execSbind, h]
  rfl

end

theorem streamInstructions : StreamInstructions := by
  intro s s1 v a d n b hv i va u gone
  have hs : s.cur.stream v = s.cur.streams.getD i none := stream_eq hv
  have hspos : exec (.spos d v) s = .next (wrote s d (match s.cur.stream v with | some b => BitVec.ofNat 64 b.count | none => 0)) := by
    change execSpos d v s = _
    rw [execSpos, ret_wrote] <;> rfl
  refine ⟨?_, ?_, ?_, ?_, ?_, ?_, ?_, ?_, ?_⟩
  · intro hb ha hl
    have hx := sbind_unbound (release_unbound (hs ▸ hb)) a
    rw [if_neg (not_not.mpr ha), hl] at hx
    refine ⟨?_, fun hok => ?_, fun hok => ?_⟩
    · have hc := CacheRules.same_loadAt u u.me va 32
      rwa [hl] at hc
    · exact hx.trans (if_pos hok)
    · exact hx.trans (if_neg (by rw [hok]; decide))
  · intro hb ha
    rw [sbind_unbound (release_unbound (hs ▸ hb)) a, if_pos ha]
  · intro hb
    refine ⟨sunbind_released (release_unbound (hs ▸ hb)), ?_⟩
    rw [hspos, hb]
  · intro hb
    rw [hspos, hb]
  · exact fun hb hk => sunbind_released ((release_bound (hs ▸ hb)).1 hk)
  · exact fun hb hk => sunbind_released ((release_bound (hs ▸ hb)).2.1 hk)
  · exact fun hb hk => sunbind_released ((release_bound (hs ▸ hb)).2.2.1 hk)
  · exact fun hb hk hg => sunbind_released ((release_bound (hs ▸ hb)).2.2.2.1 hk hg)
  · intro hb hk hg
    refine ⟨if s.cur.blockedOn = some v then s.cur.stall.getD s.now else s.now, ?_, fun hn => ?_⟩
    · rw [sunbind_waits ((release_bound (hs ▸ hb)).2.2.2.2 hk hg)]
      rfl
    · rw [hn]
      rfl

end Sys2Proof.StreamRules
end

section
/-! PROOF. Streams as operands of an element-wise instruction (R104, R115, R206, R232). -/

namespace Sys2Proof.StreamOperands

open Machine Laws Claim CsrRules VectorConfig ElementRules

/-! ### The checks of operands (R206) -/

section
variable {s : State} {a d : Reg} {b : Stream} {use : Strand → List Nat} {k : State → (Reg → Nat → Nat) → Out}

theorem kind_iff {n : Nat} (hn : n < 4) : b.kind = n ↔ (b.desc.getD 0 0).extractLsb' 0 2 = BitVec.ofNat 2 n := by
  rw [Stream.kind, ← toNat_extractLsb', ← BitVec.toNat_inj, BitVec.toNat_ofNat, Nat.mod_eq_of_lt (by omega)]

/-- A source that is an output stream traps before any other check. -/
theorem withOperands_source (h : s.cur.stream a = some b) (hk : b.kind = 1 ∨ b.kind = 3) (dsts : List Reg) :
    s.withOperands use [a] dsts k = trapped s 0x201 (a.setWidth 64) := by
  have hm : (b.kind = 1 || b.kind = 3) = true := by simpa using hk
  simp only [State.withOperands, distinct, List.filter_nil, List.find?_cons, h, hm]
  rfl

/-- A destination that is an input stream, or any stream under a mask, traps after the sources' directions. -/
theorem withOperands_dest {srcs : List Reg} (hs : ∀ r ∈ distinct srcs, s.cur.stream r = none) (h : s.cur.stream d = some b)
    (hk : b.kind = 0 ∨ b.kind = 2 ∨ s.cur.c.vm.getLsbD 5 = true) : s.withOperands use srcs [d] k = trapped s 0x201 (d.setWidth 64) := by
  have hd : s.checkDest d = .trap 0x201 (d.setWidth 64) := by
    rw [State.checkDest, h]
    exact if_pos hk
  have hf : ([d].map s.checkDest).find? StreamCheck.misuse = some (.trap 0x201 (d.setWidth 64)) := by
    rw [List.map_cons, hd]
    rfl
  rw [State.withOperands]
  split
  next r hr =>
    have hp := List.find?_some hr
    rw [hs r (List.mem_of_find?_eq_some hr)] at hp
    exact nomatch hp
  next =>
    simp only [hf]
    rfl

theorem elementWise_source (h : s.cur.stream a = some b) (hk : b.kind = 1 ∨ b.kind = 3) (op : (Reg → Nat → Nat) → Nat → Nat × FFlags) :
    s.elementWise [a] d op = trapped s 0x201 (a.setWidth 64) := by
  rw [State.elementWise, State.withSources, withOperands_source h hk]

theorem elementWise_dest {srcs : List Reg} (hs : ∀ r ∈ distinct srcs, s.cur.stream r = none) (h : s.cur.stream d = some b)
    (hk : b.kind = 0 ∨ b.kind = 2 ∨ s.cur.c.vm.getLsbD 5 = true) (op : (Reg → Nat → Nat) → Nat → Nat × FFlags) :
    s.elementWise srcs d op = trapped s 0x201 (d.setWidth 64) := by
  rw [State.elementWise, State.withSources, Option.toList_some, withOperands_dest hs h hk]

/-- A floating-point instruction at a width with an element format is element-wise. -/
theorem vfloat_eq (h : s.cur.ew ≠ 64) (srcs : List Reg) (op : FFmt → RMode → (Reg → Nat → Nat) → Nat → Nat × FFlags) :
    s.vfloat srcs d op = s.elementWise srcs d (op (regFmt s.cur.ew) (rmOf s.cur.c.fcsr)) := if_neg h

end

theorem streamMisuse : StreamMisuse := by
  intro s d a b hew kind
  constructor
  · intro ha hk
    have hk' : b.kind = 1 ∨ b.kind = 3 := hk.imp (kind_iff (by decide)).mpr (kind_iff (by decide)).mpr
    refine ⟨?_, ?_, ?_⟩
    · change s.vbcast d (.v a) = _
      rw [State.vbcast, VOp.regs, elementWise_source ha hk']
    · change execVfabs d a s = _
      rw [execVfabs, State.vf1, vfloat_eq hew, elementWise_source ha hk']
    · change execVmcnt d a s = _
      rw [execVmcnt, State.whole, Option.toList_none, withOperands_source ha hk']
      rfl
  · intro ha hd hk
    have hk' : b.kind = 0 ∨ b.kind = 2 ∨ s.cur.c.vm.getLsbD 5 = true :=
      hk.imp (kind_iff (by decide)).mpr (Or.imp_left (kind_iff (by decide)).mpr)
    have hs : ∀ r ∈ distinct [a], s.cur.stream r = none := fun r hr => by rw [List.mem_singleton.mp hr]; exact ha
    refine ⟨?_, ?_, ?_⟩
    · change s.vbcast d (.v a) = _
      rw [State.vbcast, VOp.regs, elementWise_dest hs hd hk']
    · change execVfabs d a s = _
      rw [execVfabs, State.vf1, vfloat_eq hew, elementWise_dest hs hd hk']
    · change execVid d s = _
      rw [execVid, elementWise_dest (fun _ hr => absurd hr List.not_mem_nil) hd hk']

/-! ### An affine input as the source (R104, R115) -/

/-- The issuing strand's wait at issue is over. -/
def ready (s : State) : State := { s with cur := issued s.cur }

/-- The same with a free value drawn, for an instruction with a stream source. -/
def begun (s : State) : State := { ready s with fresh := s.fresh + 1 }

/-- The element that an input stream brings for element `i`, converted, and its flags. -/
def incoming (t : Strand) (b : Stream) (isF : Bool) (i : Nat) : Nat × FFlags := loadConvert b.fmt isF t.ew (b.ahead.getD i (0, none)).1.toNat

section
variable {s : State} {a d : Reg} {b : Stream} {isF : Bool} {use : Strand → List Nat} {k : State → (Reg → Nat → Nat) → Out}

theorem setStream_self {t : Strand} (ha : t.stream a = some b) : t.setStream (a.toNat - 28) (some b) = t := by
  have h : t.streams.getD (a.toNat - 28) none = some b := by
    rw [Strand.stream] at ha
    split at ha
    · exact ha
    · exact nomatch ha
  rw [Strand.setStream, ← h, WaitRules.setIfInBounds_getD]

theorem stream_setStream {t : Strand} (ha : t.stream a = some b) (b' : Stream) : (t.setStream (a.toNat - 28) (some b')).stream a = some b' := by
  have hlt := a.isLt
  rw [Strand.stream] at ha ⊢
  split at ha
  · have h4 : a.toNat - 28 < 4 := by omega
    have hin : ∀ v : Vector (Option Stream) 4, (v.setIfInBounds (a.toNat - 28) (some b')).getD (a.toNat - 28) none = some b' := by
      intro v
      simp [Vector.getD, h4]
    exact (if_pos ‹28 ≤ a.toNat›).trans (hin t.streams)
  · exact nomatch ha

/-- An affine input whose next VL elements have arrived is ready. -/
theorem checkSource_arrived (ha : s.cur.stream a = some b) (hk : b.kind = 0) (hf : fmtKind b.fmt s.cur.ew false = some isF)
    (hn : b.count + s.cur.vl ≤ b.total) (hl : s.cur.vl ≤ b.ahead.length) (hok : ∀ e ∈ b.ahead.take s.cur.vl, e.2 = none) :
    s.checkSource a = (.ready, s) := by
  have hfind : (b.ahead.take s.cur.vl).find? (fun e => e.2.isSome) = none := by
    refine List.find?_eq_none.mpr fun e he => ?_
    rw [hok e he]
    decide
  have hself : { s with cur := s.cur.setStream (a.toNat - 28) (some b) } = s := by rw [setStream_self ha]
  simp only [State.checkSource, ha, hk, hf, Nat.not_lt.mpr hn, Nat.sub_eq_zero_of_le hl, State.streamFill, hself, hfind]
  rfl

theorem withOperands_arrived (ha : s.cur.stream a = some b) (hd : s.cur.stream d = none) (hk : b.kind = 0) (hc : s.checkSource a = (.ready, s)) :
    s.withOperands use [a] [d] k = (begun s).consuming (use (issued s.cur)) [a]
      (k (begun s) (fun r i => (issued s.cur).source s.fresh r i)) := by
  have hcd : s.checkDest d = .ready := by rw [State.checkDest, hd]
  have hany : ([a].any fun r => ((issued s.cur).stream r).isSome) = true := by
    rw [List.any_cons, show (issued s.cur).stream a = some b from ha]
    rfl
  have hcs : s.checkSources [a] = (.ready, s) := by rw [State.checkSources, hc]; rfl
  rw [State.withOperands]
  split
  next r hr =>
    have hp := List.find?_some hr
    obtain rfl : r = a := List.mem_singleton.mp (List.mem_of_find?_eq_some hr)
    rw [ha] at hp
    simp [hk] at hp
  next =>
    simp only [List.map_cons, List.map_nil, hcd, distinct, List.filter_nil, hcs]
    exact if_pos hany

/-- The instruction's own part, with the elements `es` of v[d] written: no flags, VSTART 0, the next word. -/
def written (w : State) (d : Reg) (es : List (Nat × Nat)) : State :=
  let t := w.cur.setElems d es
  { w with cur := { t with c := { t.c with vstart := 0 }, pc := t.pc + 4 } }

theorem foldl_noFlags (l : List Nat) (op : Nat → Nat) :
    (l.map (fun i => (i, (op i, (0 : FFlags))))).foldl (fun (f : FFlags) r => f ||| r.2.2) 0 = 0 := by
  induction l with
  | nil => rfl
  | cons i l ih => simpa using ih

theorem vdone_eq {t : Strand} (h : t.resuming = false) : t.vdone = { t with c := { t.c with vstart := 0 } } := by
  rw [Strand.vdone, h]
  rfl

theorem orFlags_zero (c : Word) : orFlags c 0 = c := by
  rw [orFlags]
  exact BitVec.or_zero

theorem writePart_noFlags {w : State} (hd : w.cur.stream d = none) (es : List (Nat × Nat)) :
    w.writePart d es 0 = { w with cur := w.cur.setElems d es } := by
  have h : (0 : FFlags) ||| w.cur.outFlags d es = 0 := by rw [Strand.outFlags, hd]; exact BitVec.or_zero
  simp only [State.writePart, h, orFlags_zero]

theorem writeBack_noFlags {w : State} (hd : w.cur.stream d = none) (es : List (Nat × Nat)) :
    (w.writePart d es 0).writeGroup d = { w with cur := w.cur.setElems d es } := by
  have hs : (w.cur.setElems d es).stream d = none := hd
  rw [writePart_noFlags hd, State.writeGroup]
  simp only [hs]

/-- A copy of v[a]'s elements into v[d], an affine input brought by `b`. -/
theorem copy_arrived (hlim : s.limit = none) (hr : s.cur.resuming = false) (ha : s.cur.stream a = some b) (hd : s.cur.stream d = none)
    (hk : b.kind = 0) (hc : s.checkSource a = (.ready, s)) :
    exec (.vbcastVv d a) s = (begun s).consuming s.cur.active [a]
      (.next (written (begun s) d (s.cur.active.map (fun i => (i, s.cur.source s.fresh a i))))) := by
  have hlim' : (begun s).limit = none := hlim
  have hmap (l : List Nat) (op : Nat → Nat) : (l.map (fun i => (i, (op i, (0 : FFlags))))).map (fun r => (r.1, r.2.1)) = l.map (fun i => (i, op i)) := by
    rw [List.map_map]
    rfl
  change s.vbcast d (.v a) = _
  rw [State.vbcast, VOp.regs, State.elementWise, State.withSources, Option.toList_some, withOperands_arrived ha hd hk hc]
  refine congrArg _ ?_
  simp only [State.portion, hlim', foldl_noFlags, State.operand, hmap, List.isEmpty_nil, if_true]
  rw [writeBack_noFlags (w := begun s) hd, vdone_eq (t := (begun s).cur.setElems d _) hr]
  rfl

/-- A stream's next VL elements read out of it. -/
def advanced (t : Strand) (b : Stream) : Stream := { b with count := b.count + t.vl, ahead := b.ahead.drop t.vl, group := none }

/-- The instruction complete: its source's flags in FCSR, and its elements read out of their stream. -/
def consumed (t : State) (a : Reg) (b : Stream) (fl : FFlags) : State :=
  { t with cur := { t.cur with c := { t.cur.c with fcsr := orFlags t.cur.c.fcsr fl } }.setStream (a.toNat - 28) (some (advanced t.cur b)) }

theorem consuming_written {w : State} (ha : w.cur.stream a = some b) (hp : b.partner = none) (hk : b.kind = 0) (act : List Nat) (es : List (Nat × Nat)) :
    w.consuming act [a] (.next (written w d es)) =
      .next (consumed (written w d es) a b (w.cur.sourceFlags (act.filter (fun i => decide (i < w.cur.vl))) a)) := by
  have hdone : w.completed (written w d es) = true := by simp [State.completed, written, Strand.nest, Strand.setElems, Strand.setV]
  have hvl : (written w d es).cur.vl = w.cur.vl := rfl
  have hs (c : Csrs) : ({ (written w d es).cur with c := c } : Strand).stream a = some b := ha
  have hz (f : FFlags) : (0 : FFlags) ||| f = f := BitVec.zero_or
  simp only [State.consuming, hdone, if_true, State.consumeAll, State.raiseSources, State.setC, List.foldl_cons, List.foldl_nil, hz, hvl,
    State.consume, hs, hp, hk, consumed, advanced]

/-- The flags of elements that have all arrived. -/
theorem sourceFlags_arrived {t : Strand} (ha : t.stream a = some b) (hk : b.kind = 0) (hf : fmtKind b.fmt t.ew false = some isF) {l : List Nat}
    (hl : ∀ i ∈ l, i < b.ahead.length) : t.sourceFlags l a = orAll (l.map (fun i => (incoming t b isF i).2)) := by
  have hstep {i : Nat} (hi : i < b.ahead.length) : b.ahead[i]? = some (b.ahead.getD i (0, none)) := by simp [hi]
  rw [Strand.sourceFlags, ha, orAll, List.foldl_map]
  simp only [hk, if_true, hf, Option.getD_some]
  refine List.foldl_ext _ _ _ fun f i hi => ?_
  rw [hstep (hl i hi)]
  rfl

theorem source_arrived {t : Strand} (ha : t.stream a = some b) (hk : b.kind = 0) (hf : fmtKind b.fmt t.ew false = some isF) {i : Nat}
    (hi : i < b.ahead.length) (n : Nat) : t.source n a i = (incoming t b isF i).1 := by
  have hstep : b.ahead[i]? = some (b.ahead.getD i (0, none)) := by simp [hi]
  rw [Strand.source, ha]
  simp only [hk, if_true, hf, Option.getD_some, hstep]
  rfl

theorem active_lt {t : Strand} {i : Nat} (h : i ∈ t.active) : i < t.vl := by
  rw [Strand.active, List.mem_filter, upto_zero_eq_range, List.mem_range] at h
  exact h.1

/-- VBCAST.VV from an affine input whose next VL elements have arrived. -/
theorem input_elements (hlim : s.limit = none) (hr : s.cur.resuming = false) (ha : s.cur.stream a = some b) (hd : s.cur.stream d = none)
    (hf : fmtKind b.fmt s.cur.ew false = some isF) (hn : b.count + s.cur.vl ≤ b.total) (hp : b.partner = none) (hk : b.kind = 0)
    (hl : s.cur.vl ≤ b.ahead.length) (hok : ∀ e ∈ b.ahead.take s.cur.vl, e.2 = none) :
    exec (.vbcastVv d a) s = .next (consumed (written (begun s) d (s.cur.active.map (fun i => (i, (incoming s.cur b isF i).1)))) a b
      (orAll (s.cur.active.map (fun i => (incoming s.cur b isF i).2)))) := by
  have hact : s.cur.active.filter (fun i => decide (i < s.cur.vl)) = s.cur.active :=
    List.filter_eq_self.mpr fun i hi => decide_eq_true (active_lt hi)
  have hlt : ∀ i ∈ s.cur.active, i < b.ahead.length := fun i hi => Nat.lt_of_lt_of_le (active_lt hi) hl
  have hes : s.cur.active.map (fun i => (i, s.cur.source s.fresh a i)) = s.cur.active.map (fun i => (i, (incoming s.cur b isF i).1)) :=
    List.map_congr_left fun i hi => by rw [source_arrived ha hk hf (hlt i hi)]
  have hfl : (begun s).cur.sourceFlags (s.cur.active.filter (fun i => decide (i < (begun s).cur.vl))) a =
      orAll (s.cur.active.map (fun i => (incoming s.cur b isF i).2)) :=
    (congrArg (fun l => s.cur.sourceFlags l a) hact).trans (sourceFlags_arrived ha hk hf hlt)
  rw [copy_arrived hlim hr ha hd hk (checkSource_arrived ha hk hf hn hl hok), consuming_written (w := begun s) ha hp hk, hes, hfl]

/-- What a completed copy from an affine input shows of itself. -/
theorem input_effects {w : State} {es : List (Nat × Nat)} {fl : FFlags} (ha : w.cur.stream a = some b) :
    let t := consumed (written w d es) a b fl
    t.mem = w.mem ∧ t.cur.pc = w.cur.pc + 4 ∧ t.cur.vr d = (w.cur.setElems d es).vr d ∧ (∀ r, r ≠ d → t.cur.vr r = w.cur.vr r) ∧
      t.cur.c.fcsr = w.cur.c.fcsr ||| fl.setWidth 64 ∧ t.cur.stream a = some (advanced w.cur b) := by
  refine ⟨rfl, rfl, rfl, fun r hr => Laws.vr_setV_other w.cur hr _, rfl, ?_⟩
  exact stream_setStream (t := (written w d es).cur) ha _

end

/-! ### An affine output as the destination (R115, R206, R232) -/

section
variable {s : State} {a d : Reg} {b : Stream} {isF : Bool}

/-- With no mask, VSTART 0 and no resumption every element is active. -/
theorem active_all {t : Strand} (hr : t.resuming = false) (hm : t.c.vm.getLsbD 5 = false) (hv : t.c.vstart = 0) : t.active = List.range t.vl := by
  have hall (i : Nat) : (t.begun i && t.maskBit i) = true := by
    have hb : t.begun i = true := by
      rw [Strand.begun, hr, Strand.vstart, hv]
      exact decide_eq_true (Nat.zero_le i)
    rw [hb, Strand.maskBit, hm]
    rfl
  rw [Strand.active, upto_zero_eq_range]
  exact List.filter_eq_self.mpr fun i _ => hall i

theorem setElems_append (t : Strand) (r : Reg) (es : List (Nat × Nat)) (e : Nat × Nat) :
    t.setElems r (es ++ [e]) = (t.setElems r es).setElems r [e] := by
  have hv (v w : VReg) : (t.setV r v).setV r w = t.setV r w := by
    simp only [Strand.setV, Vector.set_set]
  rw [Strand.setElems, Strand.setElems, Strand.setElems, hv, Laws.vr_setV_same, writeElems, List.foldl_append]
  rfl

/-- The elements below `n` written in order and read back. -/
theorem elem_setElems_range {t : Strand} (hg : 0 < t.grant) (hg' : t.grant ≤ 128) (hew : t.c.vtype.extractLsb' 0 2 ≠ 3) (f : Nat → Nat) {n : Nat}
    (hn : n ≤ t.vlmax) {j : Nat} (hj : j < n) : (t.setElems d ((List.range n).map (fun i => (i, f i)))).elem d j = f j % 2 ^ t.ew := by
  induction n with
  | zero => exact absurd hj (Nat.not_lt_zero j)
  | succ n ih =>
    rw [List.range_succ, List.map_append, List.map_singleton, setElems_append]
    obtain ⟨-, -, -, hsame, hother, -⟩ := elementPlacement (t.setElems d ((List.range n).map (fun i => (i, f i)))) d d n j (f n) hg hg'
      hn (Nat.lt_of_lt_of_le hj hn) hew
    by_cases h : j = n
    · rw [h, hsame]
      rfl
    · rw [hother h, ih (Nat.le_of_succ_le hn) (by omega)]

/-- The rounding mode does not lie in the flags. -/
theorem rmOf_orFlags (c : Word) (fl : FFlags) : rmOf (orFlags c fl) = rmOf c := by
  have h : field (orFlags c fl) 5 3 = field c 5 3 := by
    apply Nat.eq_of_testBit_eq
    intro i
    rw [testBit_field, testBit_field, orFlags, BitVec.getLsbD_or, BitVec.getLsbD_setWidth, BitVec.getLsbD_of_ge fl (5 + i) (by omega),
      Bool.and_false, Bool.or_false]
  rw [rmOf, rmOf, h]

/-- The elements `es` of v[d] written and `fl` raised. -/
def given (w : State) (d : Reg) (es : List (Nat × Nat)) (fl : FFlags) : State :=
  { w with cur := { w.cur with c := { w.cur.c with fcsr := orFlags w.cur.c.fcsr fl } }.setElems d es }

/-- The affine output `b` with the elements `vs` for its next addresses, at the next position. -/
def appended (t : Strand) (b : Stream) (vs : List Nat) : Stream :=
  { b with
    pend := b.pend ++ (vs.zip (upto b.count vs.length)).map (fun e => ⟨t.pos + 1, b.addr e.2, fmtSize b.fmt, BitVec.ofNat 64 (t.outCode b e.1).1⟩)
    count := b.count + vs.length }

/-- The strand moved on with the stream `b` bound to register `d`. -/
def produced (t : Strand) (d : Reg) (b : Stream) : Strand := { t with pos := t.pos + 1 }.setStream (d.toNat - 28) (some b)

theorem produce_affine {w : State} (hd : w.cur.stream d = some b) (hk : b.kind = 1) (vs : List Nat) :
    w.produce d vs = { w with cur := produced w.cur d (appended w.cur b vs) } := by
  simp only [State.produce, hd, hk, if_true]
  rfl

/-- The VL elements that v[d] holds passed on to the affine output. -/
def filled (w : State) (d : Reg) (b : Stream) : State :=
  { w with cur := produced w.cur d (appended w.cur b ((List.range w.cur.vl).map (w.cur.elem d))) }

/-- The elements of v[a] that a copy writes and the flags of their conversions. -/
def copies (t : Strand) (a : Reg) : List (Nat × Nat) := (List.range t.vl).map (fun i => (i, t.elem a i))

def copyFlags (t : Strand) (a : Reg) (b : Stream) : FFlags := (copies t a).foldl (fun (f : FFlags) e => f ||| (t.outCode b e.2).2) 0

/-- What a copy of all elements of v[a] leaves behind in an affine output. -/
def copied (s : State) (d a : Reg) (b : Stream) : State :=
  let w := filled (given (ready s) d (copies s.cur a) (copyFlags s.cur a b)) d b
  { w with cur := { w.cur with c := { w.cur.c with vstart := 0 }, pc := w.cur.pc + 4 } }

theorem checkDest_affine (hd : s.cur.stream d = some b) (hk : b.kind = 1) (hm : s.cur.c.vm.getLsbD 5 = false)
    (hn : b.count + s.cur.vl ≤ b.total) (hf : fmtKind b.fmt s.cur.ew false = some isF) : s.checkDest d = .ready := by
  simp only [State.checkDest, hd, hk, hm, Nat.not_lt.mpr hn, hf, if_true, if_false]
  rfl

theorem withOperands_affine {use : Strand → List Nat} {k : State → (Reg → Nat → Nat) → Out} (ha : s.cur.stream a = none)
    (hc : s.checkDest d = .ready) : s.withOperands use [a] [d] k = k (ready s) (fun r i => s.cur.source 0 r i) := by
  have hcs : s.checkSources [a] = (.ready, s) := by simp only [State.checkSources, State.checkSource, ha]
  have hany : ([a].any fun r => ((issued s.cur).stream r).isSome) = false := by
    rw [List.any_cons, show (issued s.cur).stream a = none from ha]
    rfl
  rw [State.withOperands]
  split
  next r hr =>
    have hp := List.find?_some hr
    obtain rfl : r = a := List.mem_singleton.mp (List.mem_of_find?_eq_some hr)
    rw [ha] at hp
    exact nomatch hp
  next =>
    simp only [List.map_cons, List.map_nil, hc, distinct, List.filter_nil, hcs]
    exact if_neg (ne_true_of_eq_false hany)

/-- The elements `es` written into an affine output, of their own no flags. -/
theorem writePart_affine {w : State} (hd : w.cur.stream d = some b) (hk : b.kind = 1) (es : List (Nat × Nat)) :
    w.writePart d es 0 = given w d es (es.foldl (fun (f : FFlags) e => f ||| (w.cur.outCode b e.2).2) 0) := by
  have hz (f : FFlags) : (0 : FFlags) ||| f = f := BitVec.zero_or
  simp only [State.writePart, Strand.outFlags, hd, hk, if_true, hz]
  rfl

theorem writeGroup_affine {w : State} (hd : w.cur.stream d = some b) (hk : b.kind = 1) : w.writeGroup d = filled w d b := by
  simp only [State.writeGroup, hd, produce_affine hd hk, upto_zero_eq_range]
  rfl

theorem output_elements (hlim : s.limit = none) (hr : s.cur.resuming = false) (hd : s.cur.stream d = some b) (ha : s.cur.stream a = none)
    (hf : fmtKind b.fmt s.cur.ew false = some isF) (hn : b.count + s.cur.vl ≤ b.total) (hk : b.kind = 1) (hm : s.cur.c.vm.getLsbD 5 = false)
    (hv : s.cur.c.vstart = 0) : exec (.vbcastVv d a) s = .next (copied s d a b) := by
  have hlim' : (ready s).limit = none := hlim
  have hmap (l : List Nat) (op : Nat → Nat) : (l.map (fun i => (i, (op i, (0 : FFlags))))).map (fun r => (r.1, r.2.1)) = l.map (fun i => (i, op i)) := by
    rw [List.map_map]
    rfl
  have hsrc : (fun i => (i, s.cur.source 0 a i)) = (fun i => (i, s.cur.elem a i)) := by simp only [Strand.source, ha]
  have hact : (ready s).cur.active = List.range s.cur.vl := active_all (t := s.cur) hr hm hv
  have hes : (List.range s.cur.vl).map (fun i => (i, s.cur.elem a i)) = copies s.cur a := rfl
  have hw : (ready s).writePart d (copies s.cur a) 0 = given (ready s) d (copies s.cur a) (copyFlags s.cur a b) :=
    writePart_affine (w := ready s) hd hk (copies s.cur a)
  have hg := writeGroup_affine (w := given (ready s) d (copies s.cur a) (copyFlags s.cur a b)) hd hk
  have hvd := vdone_eq (t := (filled (given (ready s) d (copies s.cur a) (copyFlags s.cur a b)) d b).cur) hr
  change s.vbcast d (.v a) = _
  rw [State.vbcast, VOp.regs, State.elementWise, State.withSources, Option.toList_some, withOperands_affine ha (checkDest_affine hd hk hm hn hf)]
  simp only [State.portion, hlim', foldl_noFlags, State.operand, hmap, List.isEmpty_nil, if_true, hact, hsrc, hes, hw, hg, hvd]
  rfl

theorem outCode_lt {t : Strand} (hf : fmtKind b.fmt t.ew false = some isF) {x : Nat} (hx : x < 2 ^ t.ew) :
    t.outCode b x = storeConvert b.fmt isF t.ew (rmOf t.c.fcsr) x := by
  rw [Strand.outCode, hf, Nat.mod_eq_of_lt hx]
  rfl

theorem copyFlags_eq (hf : fmtKind b.fmt s.cur.ew false = some isF) :
    copyFlags s.cur a b = orAll ((List.range s.cur.vl).map (fun i => (storeConvert b.fmt isF s.cur.ew (rmOf s.cur.c.fcsr) (s.cur.elem a i)).2)) := by
  rw [copyFlags, copies, orAll, List.foldl_map, List.foldl_map]
  exact List.foldl_ext _ _ _ fun f i _ => congrArg (fun e : Nat × FFlags => f ||| e.2) (outCode_lt hf (getE_lt ..))

/-- The elements that reach an affine output are those of v[a], converted. -/
theorem appended_copies (hf : fmtKind b.fmt s.cur.ew false = some isF) (hg : 0 < s.cur.grant) (hg' : s.cur.grant ≤ 128) (hn : s.cur.vl ≤ s.cur.vlmax)
    (hew : s.cur.c.vtype.extractLsb' 0 2 ≠ 3) (fl : FFlags) :
    let w := given (ready s) d (copies s.cur a) fl
    appended w.cur b ((List.range w.cur.vl).map (w.cur.elem d)) = { b with
      pend := b.pend ++ (List.range s.cur.vl).map (fun i => PendElem.mk (s.cur.pos + 1) (b.addr (b.count + i)) (fmtSize b.fmt)
        (BitVec.ofNat 64 (storeConvert b.fmt isF s.cur.ew (rmOf s.cur.c.fcsr) (s.cur.elem a i)).1))
      count := b.count + s.cur.vl } := by
  intro w
  have hread : (List.range w.cur.vl).map (w.cur.elem d) = (List.range s.cur.vl).map (s.cur.elem a) := by
    refine List.map_congr_left fun i hi => ?_
    exact (elem_setElems_range (t := { (ready s).cur with c := { (ready s).cur.c with fcsr := orFlags s.cur.c.fcsr fl } }) hg hg' hew
      (s.cur.elem a) hn (List.mem_range.mp hi)).trans (Nat.mod_eq_of_lt (getE_lt ..))
  have hcode (i : Nat) : w.cur.outCode b (s.cur.elem a i) = storeConvert b.fmt isF s.cur.ew (rmOf s.cur.c.fcsr) (s.cur.elem a i) := by
    refine (outCode_lt (t := w.cur) hf (getE_lt s.cur.grant s.cur.ew (s.cur.vr a) i)).trans ?_
    exact congrArg (fun rm => storeConvert b.fmt isF s.cur.ew rm (s.cur.elem a i)) (rmOf_orFlags ..)
  rw [hread, appended, List.length_map, List.length_range, upto_eq_range', List.range'_eq_map_range, List.zip_map', List.map_map]
  refine congrArg (fun p => { b with pend := b.pend ++ p, count := b.count + s.cur.vl }) (List.map_congr_left fun i _ => ?_)
  exact congrArg (fun c : Nat × FFlags => PendElem.mk (s.cur.pos + 1) (b.addr (b.count + i)) (fmtSize b.fmt) (BitVec.ofNat 64 c.1)) (hcode i)

/-- What a completed copy to an affine output shows of itself. -/
theorem output_effects (hd : s.cur.stream d = some b) :
    let t := copied s d a b
    let w := given (ready s) d (copies s.cur a) (copyFlags s.cur a b)
    t.mem = s.mem ∧ t.cur.pc = s.cur.pc + 4 ∧ (∀ r, r ≠ d → t.cur.vr r = s.cur.vr r) ∧
      t.cur.c.fcsr = s.cur.c.fcsr ||| (copyFlags s.cur a b).setWidth 64 ∧
      t.cur.stream d = some (appended w.cur b ((List.range w.cur.vl).map (w.cur.elem d))) := by
  refine ⟨rfl, rfl, fun r hr => Laws.vr_setV_other s.cur hr _, rfl, ?_⟩
  exact stream_setStream (t := (given (ready s) d (copies s.cur a) (copyFlags s.cur a b)).cur) hd _

end

theorem streamElements : StreamElements := by
  intro s d a b isF hlim hr _ hf hn hp
  constructor
  · intro ha hd hk hl hok
    obtain ⟨hmem, hpc, hvd, hvr, hfc, hst⟩ := input_effects (w := begun s) (d := d) (b := b)
      (es := s.cur.active.map (fun i => (i, (incoming s.cur b isF i).1))) (fl := orAll (s.cur.active.map (fun i => (incoming s.cur b isF i).2))) ha
    exact ⟨_, input_elements hlim hr ha hd hf hn hp hk hl hok, hmem, hpc, hvd, hvr, hfc, _, hst, rfl, rfl, rfl⟩
  · intro hd ha hk hm hv hg hg' hvl hew
    obtain ⟨hmem, hpc, hvr, hfc, hst⟩ := output_effects (a := a) hd
    have happ := appended_copies (d := d) (a := a) hf hg hg' hvl hew (copyFlags s.cur a b)
    rw [happ] at hst
    rw [copyFlags_eq hf] at hfc
    exact ⟨_, output_elements hlim hr hd ha hf hn hk hm hv, hmem, hpc, hvr, hfc, _, hst, rfl, rfl, rfl⟩

/-- Settles O31: descriptors and the instructions on streams, misused operands, and the elements that a copy takes from or gives to a stream. -/
theorem streams : Obligations.Streams := ⟨StreamRules.streamDescriptors, StreamRules.streamInstructions, streamMisuse, streamElements⟩

end Sys2Proof.StreamOperands
end

section
/-! PROOF. Vector loads whose elements can all be read (R217, R218, R220, R221, R223). -/

namespace Sys2Proof.VectorLoadRules

open Machine Laws Claim CsrRules VectorConfig ElementRules CacheRules

/-! ### The address modes (R217) -/

theorem ofInt_base (x : Word) (z : Int) : BitVec.ofInt 64 (x.toInt + z) = x + BitVec.ofInt 64 z := by
  rw [BitVec.ofInt_add, BitVec.ofInt_toInt]

theorem unit_eq (s : State) (a : Reg) (f : BitVec 4) : unit s a f = unitAddr (s.rx a) f := by
  funext i
  rw [unit, unitAddr, ofInt_base]
  split
  · rw [BitVec.ofInt_natCast]
  · rw [← Int.natCast_mul, BitVec.ofInt_natCast]

theorem strided_eq (s : State) (a : Reg) : strided s a = strideAddr (s.rx a) s.cur.c.vstr := by
  funext i
  rw [strided, strideAddr, ofInt_base, BitVec.ofInt_mul, BitVec.ofInt_natCast, BitVec.ofInt_toInt]

theorem ofNat_ofInt (z : Int) : BitVec.ofNat 64 (ofInt 64 z) = BitVec.ofInt 64 z := by
  apply BitVec.eq_of_toNat_eq
  rw [BitVec.toNat_ofNat, BitVec.toNat_ofInt, ofInt]
  exact Nat.mod_eq_of_lt (by omega)

theorem ew_pos (t : Strand) : 0 < t.ew := Nat.mul_pos (by decide) (Nat.two_pow_pos _)

theorem toInt_el (s : State) (b : Reg) (i : Nat) : (el s b i).toInt = toInt s.cur.ew (s.cur.elem b i) := by
  have hlt : s.cur.elem b i < 2 ^ s.cur.ew := getE_lt ..
  have h2 : 2 ^ s.cur.ew = 2 * 2 ^ (s.cur.ew - 1) := by rw [← Nat.pow_succ', ← Nat.add_one, Nat.sub_add_cancel (ew_pos s.cur)]
  rw [el, BitVec.toInt, BitVec.toNat_ofNat, Nat.mod_eq_of_lt hlt, toInt]
  by_cases h : s.cur.elem b i < 2 ^ (s.cur.ew - 1)
  · rw [if_pos h, if_pos (by omega)]
  · rw [if_neg h, if_neg (by omega)]

theorem indexed_eq (s : State) (a b : Reg) : indexed s a b = fun i => indexAddr (s.rx a) s.cur.ew (s.cur.elem b i) := by
  funext i
  rw [indexed, indexAddr, ofInt_base, ofNat_ofInt, toInt_el]

theorem field_eq (s : State) (a : Reg) (f : BitVec 4) (n i : Nat) : (List.range n).map (field' s a f n i) = segAddrs (s.rx a) f n i := by
  rw [segAddrs, upto_zero_eq_range]
  refine List.map_congr_left fun k _ => ?_
  rw [field', ofInt_base, BitVec.ofInt_natCast]

/-! ### Elements read in order -/

theorem same_strand {s t : State} (h : SameButCaches s t) : t.cur = s.cur := by
  have hc := congrArg State.cur h.1
  exact hc

theorem same_memory {s t : State} (h : SameButCaches s t) : t.mem = s.mem ∧ t.tags = s.tags := by
  have hm := congrArg State.mem h.1
  have ht := congrArg State.tags h.1
  exact ⟨hm, ht⟩

theorem same_elemKey (s : State) (va : Word) (n : Nat) (need : Need) : SameButCaches s (s.elemKey va n need).2 := by
  rw [State.elemKey]
  split
  · exact same_refl s
  · split
    · exact same_refl s
    · exact same_resolveAddr ..

theorem same_elemLoad (s : State) (va : Word) (n : Nat) : SameButCaches s (s.elemLoad va n).2 := by
  have hk := same_elemKey s va n .read
  rw [State.elemLoad]
  split
  next x t h => rw [h] at hk; exact hk
  next k t h => rw [h] at hk; exact same_trans hk (same_loadKey ..)

theorem same_elemLoads (n : Nat) : ∀ (s : State) (l : List Word), SameButCaches s (s.elemLoads n l).2
  | s, [] => same_refl s
  | s, va :: r => by
    have hk := same_elemLoad s va n
    rw [State.elemLoads]
    split
    next x t h => rw [h] at hk; exact hk
    next v t h =>
      rw [h] at hk
      have hr := same_elemLoads n t r
      split
      next x u h' => rw [h'] at hr; exact same_trans hk hr
      next l u h' => rw [h'] at hr; exact same_trans hk hr

theorem elemLoads_length (n : Nat) : ∀ (s : State) (l : List Word) (vs : List Nat) (t : State), s.elemLoads n l = (.ok vs, t) → vs.length = l.length
  | s, [], vs, t, h => by
    rw [State.elemLoads] at h
    cases h
    rfl
  | s, va :: r, vs, t, h => by
    rw [State.elemLoads] at h
    split at h
    · exact nomatch h
    next v t' _ =>
      split at h
      · exact nomatch h
      next l u h' =>
        cases h
        exact congrArg Nat.succ (elemLoads_length n t' r l t h')

theorem same_loadLoop (n : Nat) (ad : Nat → List Word) : ∀ (l : List Nat) (s : State), SameButCaches s (s.loadLoop n ad l).2.2
  | [], s => same_refl s
  | i :: r, s => by
    have hk := same_elemLoads n s (ad i)
    rw [State.loadLoop]
    split
    next x t h => rw [h] at hk; exact hk
    next v t h => rw [h] at hk; exact same_trans hk (same_loadLoop n ad r t)

/-- A loop without a fault has read every element, each with as many values as it has addresses. -/
theorem loadLoop_done (n : Nat) (ad : Nat → List Word) : ∀ (l : List Nat) (s s1 : State) (done : List (Nat × List Nat)),
    s.loadLoop n ad l = (done, none, s1) → done.map (·.1) = l ∧ ∀ e ∈ done, e.2.length = (ad e.1).length
  | [], s, s1, done, h => by
    rw [State.loadLoop] at h
    cases h
    exact ⟨rfl, fun _ he => absurd he List.not_mem_nil⟩
  | i :: r, s, s1, done, h => by
    rw [State.loadLoop] at h
    split at h
    · exact nomatch h
    next v t hv =>
      have hdone : (i, v) :: (t.loadLoop n ad r).1 = done := congrArg Prod.fst h
      have hx : (t.loadLoop n ad r).2.1 = none := congrArg (fun q => q.2.1) h
      obtain ⟨hmap, hlen⟩ := loadLoop_done n ad r t (t.loadLoop n ad r).2.2 (t.loadLoop n ad r).1 (by rw [← hx])
      subst hdone
      refine ⟨congrArg (List.cons i) hmap, fun e he => ?_⟩
      rcases List.mem_cons.mp he with rfl | he
      · exact elemLoads_length n s (ad i) v t hv
      · exact hlen e he

/-! ### A load whose elements can all be read -/

theorem ready_issued {s : State} (h : Ready s) : { s with cur := ElementRules.issued s.cur } = s := by
  obtain ⟨-, hst, hdue, hbl, -⟩ := h
  have hc : ElementRules.issued s.cur = s.cur := by
    rw [ElementRules.issued, ← hst, ← hdue, ← hbl]
  rw [hc]

theorem withOperands_ready {s : State} (h : Ready s) (use : Strand → List Nat) (srcs dsts : List Reg) (k : State → (Reg → Nat → Nat) → Out) :
    s.withOperands use srcs dsts k = k s s.cur.elem := by
  rw [Laws.withOperands_plain (stream_none h.1)]
  exact congrArg₂ k (ready_issued h) (funext₂ (source_plain h.1))

theorem trimSpad_inRange {s : State} {ad : Nat → List Word} (h : InRange s ad) : s.trimSpad ad s.cur.active = (.ok s.cur.active, s) := by
  have hf : s.cur.active.find? (fun i => (ad i).any spadOutside) = none := by
    refine List.find?_eq_none.mpr fun i hi => ?_
    simpa using h i hi
  rw [State.trimSpad, hf]

/-- Field `k` of the elements read, converted. -/
def column (f : BitVec 4) (isF : Bool) (ew : Nat) (pick : Nat → Nat → Nat) (done : List (Nat × List Nat)) (k : Nat) : List (Nat × Nat × FFlags) :=
  done.map (fun e => (e.1, loadConvert f isF ew (pick e.1 (e.2.getD k 0))))

/-- A column written to v[d], its flags raised. -/
def entered (s : State) (d : Reg) (c : List (Nat × Nat × FFlags)) : State :=
  { s with cur := (flagged s.cur (orAll (c.map (fun e => e.2.2)))).setElems d (c.map (fun e => (e.1, e.2.1))) }

theorem writePart_entered {s : State} (h : ∀ r, s.cur.stream r = none) (d : Reg) (c : List (Nat × Nat × FFlags)) :
    s.writePart d (c.map (fun e => (e.1, e.2.1))) (c.foldl (fun (fl : FFlags) e => fl ||| e.2.2) 0) = entered s d c := by
  have ho (fl : FFlags) : fl ||| s.cur.outFlags d (c.map (fun e => (e.1, e.2.1))) = fl := by
    rw [Strand.outFlags, h d]
    exact BitVec.or_zero
  rw [State.writePart]
  simp only [ho, entered, flagged, orAll, List.foldl_map]
  rfl

theorem writeGroups_none {s : State} (h : ∀ r, s.cur.stream r = none) : ∀ regs : List Reg, regs.foldl State.writeGroup s = s
  | [] => rfl
  | r :: rs => by rw [List.foldl_cons, Laws.writeGroup_plain (h r), writeGroups_none h rs]

/-- The columns of the elements read, one to each register, as they are entered one after another. -/
def enteredAll (s : State) (col : Nat → List (Nat × Nat × FFlags)) (rs : List (Reg × Nat)) : State :=
  rs.foldl (fun s r => entered s r.1 (col r.2)) s

theorem writeParts_enteredAll (col : Nat → List (Nat × Nat × FFlags)) : ∀ (rs : List (Reg × Nat)) (s : State), (∀ r, s.cur.stream r = none) →
    rs.foldl (fun s r => s.writePart r.1 ((col r.2).map (fun e => (e.1, e.2.1))) ((col r.2).foldl (fun (fl : FFlags) e => fl ||| e.2.2) 0)) s =
      enteredAll s col rs ∧ ∀ r, (enteredAll s col rs).cur.stream r = none
  | [], _, h => ⟨rfl, h⟩
  | r :: rs, s, h => by
    rw [List.foldl_cons, writePart_entered h, enteredAll, List.foldl_cons]
    exact writeParts_enteredAll col rs (entered s r.1 (col r.2)) h

theorem filterMap_column {f : BitVec 4} {isF : Bool} {ew : Nat} {pick : Nat → Nat → Nat} {done : List (Nat × List Nat)} {n k : Nat}
    (hlen : ∀ e ∈ done, e.2.length = n) (hk : k < n) :
    (done.map (fun e => (e.1, e.2.map (fun c => loadConvert f isF ew (pick e.1 c))))).filterMap (fun e => (e.2[k]?).map (fun v => (e.1, v))) =
      column f isF ew pick done k := by
  rw [List.filterMap_map, column, ← List.filterMap_eq_map]
  refine List.filterMap_congr fun e he => ?_
  have hke : k < e.2.length := by rw [hlen e he]; exact hk
  simp [hke]

theorem vecLoad_done {s s1 : State} {f : BitVec 4} {isF : Bool} {regs : List Reg} {ad : Nat → List Word} {pick : Nat → Nat → Nat}
    {done : List (Nat × List Nat)} (h : Ready s) (hr : InRange s ad) (hlen : ∀ i, (ad i).length = regs.length)
    (hl : s.loadLoop (fmtSize f) ad s.cur.active = (done, none, s1)) :
    s.vecLoad f isF regs ad pick = .next (State.adv { enteredAll s1 (column f isF s.cur.ew pick done) (regs.zip (upto 0 regs.length)) with
      cur := (enteredAll s1 (column f isF s.cur.ew pick done) (regs.zip (upto 0 regs.length))).cur.vdone }) := by
  obtain ⟨hmap, hdone⟩ := loadLoop_done _ _ _ _ _ _ hl
  have hsame : SameButCaches s s1 := by have := same_loadLoop (fmtSize f) ad s.cur.active s; rw [hl] at this; exact this
  have hcur : s1.cur = s.cur := same_strand hsame
  have hstream : ∀ r, s1.cur.stream r = none := fun r => by rw [hcur]; exact stream_none h.1 r
  obtain ⟨hpl, -, -, -, hslip⟩ := h
  have hlim : s.limit = none := hpl.2
  have hsl : s.slipDone = s := by rw [State.slipDone, ← hslip]
  have hleft : s.cur.active.filter (fun i => !(done.any (fun e => e.1 == i))) = [] := by
    refine List.filter_eq_nil_iff.mpr fun i hi => ?_
    rw [← hmap] at hi
    obtain ⟨e, he, rfl⟩ := List.mem_map.mp hi
    have hany : done.any (fun d => d.1 == e.1) = true := List.any_eq_true.mpr ⟨e, he, beq_self_eq_true _⟩
    rw [hany]
    decide
  have hfold (t : State) (hs : ∀ r, t.cur.stream r = none) (hew : t.cur.ew = s.cur.ew) :
      (regs.zip (upto 0 regs.length)).foldl (fun s' r =>
        let col := (done.map (fun e => (e.1, e.2.map (fun c => loadConvert f isF t.cur.ew (pick e.1 c))))).filterMap
          (fun e => (e.2[r.2]?).map (fun v => (e.1, v)))
        s'.writePart r.1 (col.map (fun e => (e.1, e.2.1))) (col.foldl (fun (fl : FFlags) e => fl ||| e.2.2) 0)) t =
      enteredAll t (column f isF s.cur.ew pick done) (regs.zip (upto 0 regs.length)) := by
    rw [← (writeParts_enteredAll _ _ t hs).1, hew]
    refine List.foldl_ext _ _ _ fun u r hrm => ?_
    have hk : r.2 < regs.length := by
      have := (List.of_mem_zip hrm).2
      rwa [upto_zero_eq_range, List.mem_range] at this
    have hcol := filterMap_column (f := f) (isF := isF) (ew := s.cur.ew) (pick := pick) (fun e he => (hdone e he).trans (hlen e.1)) hk
    simp only [hcol]
  have hend := (writeParts_enteredAll (column f isF s.cur.ew pick done) (regs.zip (upto 0 regs.length)) s1 hstream).2
  simp only [State.vecLoad, trimSpad_inRange hr, State.portion, hlim, State.attempt, hslip, hsl, hl, hleft, List.isEmpty_nil, if_true]
  rw [hfold s1 hstream (by rw [hcur]), writeGroups_none hend]
  rfl

theorem issued_entered (t : Strand) (fl : FFlags) (v : Reg) (es : List (Nat × Nat)) :
    ElementRules.issued ((flagged t fl).setElems v es) = (flagged (ElementRules.issued t) fl).setElems v es := rfl

theorem finished_issued {s : State} {t : Strand} (h : ElementRules.issued t = t) : finished s t = .next (went { s with cur := t.vdone }) :=
  congrArg (fun t : Strand => Host.Outcome.next (went { s with cur := t.vdone })) h

/-- One register loaded: an ordinary end with the elements and the flags entered. -/
theorem vecLoad_single {s s1 : State} {f : BitVec 4} {isF : Bool} {v : Reg} {ad : Nat → Word} {pick : Nat → Nat → Nat}
    {done : List (Nat × List Nat)} (h : Ready s) (hr : InRange s (fun i => [ad i]))
    (hl : s.loadLoop (fmtSize f) (fun i => [ad i]) s.cur.active = (done, none, s1)) :
    let res := done.map (fun e => (e.1, loadConvert f isF s.cur.ew (pick e.1 (e.2.headD 0))))
    s.vecLoad f isF [v] (fun i => [ad i]) pick =
      finished s1 ((flagged s1.cur (orAll (res.map (fun e => e.2.2)))).setElems v (res.map (fun e => (e.1, e.2.1)))) := by
  intro res
  have hcur : s1.cur = s.cur := by
    have hs := same_loadLoop (fmtSize f) (fun i => [ad i]) s.cur.active s
    rw [hl] at hs
    exact same_strand hs
  have hres : column f isF s.cur.ew pick done 0 = res := by
    refine List.map_congr_left fun e _ => ?_
    rw [List.headD_eq_head?_getD, List.head?_eq_getElem?, List.getD_eq_getElem?_getD]
  have hiss : ElementRules.issued s1.cur = s1.cur := by rw [hcur]; exact congrArg State.cur (ready_issued h)
  rw [vecLoad_done (regs := [v]) h hr (fun _ => rfl) hl]
  have hone : enteredAll s1 (column f isF s.cur.ew pick done) ([v].zip (upto 0 [v].length)) = entered s1 v res := by rw [← hres]; rfl
  rw [hone, finished_issued (by rw [issued_entered, hiss])]
  rfl

theorem loads_whole {s s1 : State} {n : Nat} {ad : Nat → List Word} {done : List (Nat × List Nat)}
    (hl : s.loadLoop n ad s.cur.active = (done, none, s1)) : done.map (·.1) = s.cur.active ∧ SameButCaches s s1 := by
  have hs := same_loadLoop n ad s.cur.active s
  rw [hl] at hs
  exact ⟨(loadLoop_done _ _ _ _ _ _ hl).1, hs⟩

section
variable {s : State} {f : BitVec 4} {isF : Bool} {a b v : Reg} {w : InsnWord} (h : Ready s) (hbs : blockScaled s.cur.c.vtype f = false)
  (hf : fmtKind f s.cur.ew false = some isF) (ha : (s.rx a).toNat % fmtSize f = 0)
include h hbs hf ha

/-- A unit or strided load that passes the checks before any element. -/
theorem vload_checked {strided : Bool} (hc : (!strided && s.isCollective a f) = false)
    (hv : strided = true → s.cur.c.vstr.toNat % fmtSize f = 0) :
    s.vload w v a 0 f strided =
      s.vecLoad f isF [v] (fun i => [if strided then strideAddr (s.rx a) s.cur.c.vstr i else unitAddr (s.rx a) f i]) (pickNibble f) := by
  have hst : (strided && decide (s.cur.c.vstr.toNat % fmtSize f ≠ 0)) = false := by
    cases strided with
    | false => rfl
    | true => simp [hv rfl]
  simp only [State.vload, hc, State.vaccess, hbs, hf, ha, hst, ne_eq, not_true_eq_false, decide_false, Bool.not_false, Bool.and_false,
    Bool.false_and, Bool.false_eq_true, if_false, withOperands_ready h]

/-- An indexed load that passes the checks before any element. -/
theorem vloadx_checked : s.vloadx w v a b f = s.vecLoad f isF [v] (fun i => [indexAddr (s.rx a) s.cur.ew (s.cur.elem b i)]) (fun _ c => c) := by
  simp only [State.vloadx, State.xaccess, hbs, hf, ha, ne_eq, not_true_eq_false, Bool.false_eq_true, if_false, State.withSources,
    withOperands_ready h]

end

theorem vectorLoads : VectorLoads := by
  intro s s1 v a b f isF done h hbs hf ha runs res completes whole
  refine ⟨fun hc ⟨hr, hl⟩ => ?_, fun hst hn ⟨hr, hl⟩ => ?_, fun hn ⟨hr, hl⟩ => ?_⟩
  · refine ⟨loads_whole hl, ?_⟩
    change execVld v a 0 f s = _
    rw [unit_eq] at hr hl
    rw [execVld, vload_checked h hbs hf ha (strided := false) (by rw [hc]; rfl) (fun hx => absurd hx Bool.false_ne_true)]
    exact vecLoad_single h hr hl
  · refine ⟨loads_whole hl, ?_⟩
    have hpick : pickNibble f = fun _ c => c := by funext i c; exact if_neg hn
    change execVlds v a 0 f s = _
    rw [strided_eq] at hr hl
    rw [execVlds, vload_checked h hbs hf ha (strided := true) rfl (fun _ => hst), hpick]
    exact vecLoad_single h hr hl
  · refine ⟨loads_whole hl, ?_⟩
    change execVldx v a b f s = _
    rw [indexed_eq] at hr hl
    rw [execVldx, vloadx_checked h hbs hf ha]
    exact vecLoad_single h hr hl

/-! ### Columns entered into distinct registers (R223, R224) -/

theorem foldl_or (a : FFlags) (l : List FFlags) : l.foldl (· ||| ·) a = a ||| orAll l := by
  induction l generalizing a with
  | nil => exact BitVec.or_zero.symm
  | cons x l ih =>
    have hz : (0 : FFlags) ||| x = x := BitVec.zero_or
    rw [orAll, List.foldl_cons, List.foldl_cons, ih, ih (0 ||| x), hz, BitVec.or_assoc]

theorem orAll_append (l m : List FFlags) : orAll (l ++ m) = orAll l ||| orAll m := by
  rw [orAll, List.foldl_append, foldl_or]
  rfl

theorem flagged_flagged (t : Strand) (fl fl' : FFlags) : flagged (flagged t fl) fl' = flagged t (fl ||| fl') := by
  simp only [flagged, BitVec.setWidth_or, BitVec.or_assoc]

theorem flagged_zero (t : Strand) : flagged t 0 = t := by
  have h : t.c.fcsr ||| (0 : FFlags).setWidth 64 = t.c.fcsr := BitVec.or_zero
  rw [flagged, h]

/-- Columns entered change registers and flags alone. -/
theorem enteredAll_frame (col : Nat → List (Nat × Nat × FFlags)) (g : Nat → Reg) : ∀ (ks : List Nat) (s : State),
    ∃ v, enteredAll s col (ks.map (fun k => (g k, k))) =
      { s with cur := { flagged s.cur (orAll (ks.flatMap (fun k => (col k).map (fun e => e.2.2)))) with v := v } }
  | [], s => ⟨s.cur.v, by
    show s = _
    rw [List.flatMap_nil, show orAll [] = 0 from rfl, flagged_zero]⟩
  | k :: ks, s => by
    obtain ⟨v, hv⟩ := enteredAll_frame col g ks (entered s (g k) (col k))
    refine ⟨v, hv.trans ?_⟩
    rw [List.flatMap_cons, orAll_append, ← flagged_flagged]
    rfl

theorem enteredAll_other (col : Nat → List (Nat × Nat × FFlags)) (g : Nat → Reg) {r : Reg} : ∀ (ks : List Nat) (s : State), (∀ k ∈ ks, r ≠ g k) →
    (enteredAll s col (ks.map (fun k => (g k, k)))).cur.vr r = s.cur.vr r
  | [], _, _ => rfl
  | k :: ks, s, h => by
    refine (enteredAll_other col g ks (entered s (g k) (col k)) fun j hj => h j (List.mem_cons_of_mem k hj)).trans ?_
    exact Laws.vr_setV_other _ (h k List.mem_cons_self) _

theorem enteredAll_same (col : Nat → List (Nat × Nat × FFlags)) (g : Nat → Reg) {k : Nat} : ∀ (ks : List Nat) (s : State),
    ks.Pairwise (fun i j => g i ≠ g j) → k ∈ ks →
    (enteredAll s col (ks.map (fun k => (g k, k)))).cur.vr (g k) = (s.cur.setElems (g k) ((col k).map (fun e => (e.1, e.2.1)))).vr (g k)
  | [], _, _, h => absurd h List.not_mem_nil
  | j :: ks, s, hp, h => by
    obtain ⟨hj, hks⟩ := List.pairwise_cons.mp hp
    by_cases hin : k ∈ ks
    · refine (enteredAll_same col g ks (entered s (g j) (col j)) hks hin).trans ?_
      rw [Strand.setElems, Strand.setElems, Laws.vr_setV_same, Laws.vr_setV_same]
      exact congrArg (fun v => writeElems s.cur.grant s.cur.ew v ((col k).map (fun e => (e.1, e.2.1)))) (Laws.vr_setV_other _ (hj k hin).symm _)
    · obtain rfl : k = j := (List.mem_cons.mp h).resolve_right hin
      refine (enteredAll_other col g ks (entered s (g k) (col k)) fun i hi => hj i hi).trans ?_
      rw [Strand.setElems, Laws.vr_setV_same]
      exact Laws.vr_setV_same ..

/-! ### The registers of a segment (R224) -/

/-- A map of n numbers onto n numbers is one to one and stays among them. -/
theorem surjective_below {p : Nat → Nat} {n : Nat} (h : ∀ f < n, ∃ k < n, p k = f) :
    (∀ k < n, p k < n) ∧ ∀ j < n, ∀ k < n, p j = p k → j = k := by
  have hsub : Finset.range n ⊆ (Finset.range n).image p := fun f hf => by
    obtain ⟨k, hk, rfl⟩ := h f (Finset.mem_range.mp hf)
    exact Finset.mem_image_of_mem p (Finset.mem_range.mpr hk)
  have heq : Finset.range n = (Finset.range n).image p := Finset.eq_of_subset_of_card_le hsub Finset.card_image_le
  have hinj : Set.InjOn p (Finset.range n) := Finset.card_image_iff.mp (by rw [← heq])
  refine ⟨fun k hk => ?_, fun j hj k hk he => hinj (by simpa using hj) (by simpa using hk) he⟩
  rw [← Finset.mem_range, heq]
  exact Finset.mem_image_of_mem p (Finset.mem_range.mpr hk)

section
variable {s : State} {v b : Reg} {n : Nat} (hp : Permutes s b n) (hv : v.toNat + n ≤ 32)

/-- The field of register `v + segField k` is field k. -/
def segField (s : State) (b : Reg) (k : Nat) : Nat := if b = 0 then k else s.cur.elem b k

theorem segReg_eq (k : Nat) : segReg s v b k = v + BitVec.ofNat 5 (segField s b k) := by
  rw [segReg, segField]
  split <;> rfl

include hp in
theorem segField_onto : ∀ f < n, ∃ k < n, segField s b k = f := by
  intro f hf
  by_cases hb : b = 0
  · exact ⟨f, hf, if_pos hb⟩
  · obtain ⟨k, hk, he⟩ := (hp.resolve_left hb).2 f hf
    exact ⟨k, hk, (if_neg hb).trans he⟩

include hp hv in
theorem segReg_ne {j k : Nat} (hj : j < n) (hk : k < n) (hne : j ≠ k) : segReg s v b j ≠ segReg s v b k := by
  obtain ⟨hlt, hinj⟩ := surjective_below (segField_onto hp)
  intro he
  rw [segReg_eq, segReg_eq] at he
  have h1 := hlt j hj
  have h2 := hlt k hk
  have he' := congrArg BitVec.toNat he
  rw [BitVec.toNat_add, BitVec.toNat_add, BitVec.toNat_ofNat, BitVec.toNat_ofNat] at he'
  exact hne (hinj j hj k hk (by omega))

theorem drawn_cur : (drawn s b).cur = s.cur := by
  rw [drawn]
  split <;> rfl

theorem ready_drawn (h : Ready s) : Ready (drawn s b) := by
  rw [drawn]
  split <;> exact h

include hp in
theorem segRegs_permutes (h : Plain s) : s.segRegs v b n s.cur.elem = (some ((List.range n).map (segReg s v b)), drawn s b) := by
  rw [State.segRegs, upto_zero_eq_range]
  by_cases hb : b = 0
  · rw [if_pos hb, drawn, if_pos hb]
    refine congrArg (fun l => (some l, s)) (List.map_congr_left fun k _ => ?_)
    rw [segReg, if_pos hb]
  · rw [if_neg hb, drawn, if_neg hb]
    obtain ⟨hn, honto⟩ := hp.resolve_left hb
    have hheld : (List.range n).map (fun f => if f < s.cur.vlmax then s.cur.elem b f else (Config.beyondElement (s.fresh + f)).toNat % 2 ^ s.cur.ew) =
        (List.range n).map (s.cur.elem b) :=
      List.map_congr_left fun f hf => if_pos (Nat.lt_of_lt_of_le (List.mem_range.mp hf) hn)
    have hall : ((List.range n).all fun f => ((List.range n).map (s.cur.elem b)).contains f) = true := by
      refine List.all_eq_true.mpr fun f hf => List.contains_iff_mem.mpr ?_
      obtain ⟨k, hk, rfl⟩ := honto f (List.mem_range.mp hf)
      exact List.mem_map_of_mem (List.mem_range.mpr hk)
    have hregs : ((List.range n).map (s.cur.elem b)).map (fun f => v + BitVec.ofNat 5 f) = (List.range n).map (segReg s v b) := by
      rw [List.map_map]
      refine List.map_congr_left fun k _ => ?_
      rw [segReg, if_neg hb]
      rfl
    simp only [State.draw, stream_none h b, Option.isSome_none, Bool.false_eq_true, if_false, hheld, hall, if_true, hregs]

/-- A segmented load that passes the checks before any element reads its segments. -/
theorem vsegld_checked {a : Reg} {f : BitVec 4} {isF : Bool} {w : InsnWord} (h : Ready s) (hp : Permutes s b n)
    (hbs : blockScaled s.cur.c.vtype f = false) (hf : fmtKind f s.cur.ew false = some isF) (ha : (s.rx a).toNat % fmtSize f = 0)
    (hb : b = 0 ∨ b.toNat < v.toNat ∨ v.toNat + n ≤ b.toNat) :
    s.vsegld w v a b f n =
      (drawn s b).vecLoad f isF ((List.range n).map (segReg s v b)) (segAddrs (s.rx a) f n) (fun _ c => c) := by
  have hin : ¬ (b ≠ 0 ∧ v.toNat ≤ b.toNat ∧ b.toNat < v.toNat + n) := by
    rintro ⟨h0, h1, h2⟩
    have := hb.resolve_left h0
    omega
  have hrx : (drawn s b).rx a = s.rx a := by rw [drawn]; split <;> rfl
  simp only [State.vsegld, State.xaccess, hbs, hf, hin, Bool.false_eq_true, if_false, State.withPermutation, withOperands_ready h,
    segRegs_permutes hp h.1, hrx, ha, ne_eq, not_true_eq_false, withOperands_ready (ready_drawn h)]

end

theorem vdone_frame (t : Strand) : t.vdone = { t with c := t.vdone.c } := by
  rw [Strand.vdone]
  split <;> rfl

theorem vdone_registers (t : Strand) (v : Vector VReg 32) : ({ t with v := v } : Strand).vdone = { t.vdone with v := v } := by
  have hr : ({ t with v := v } : Strand).resuming = t.resuming := rfl
  rw [Strand.vdone, Strand.vdone, hr]
  split <;> rfl

/-- The end of a segmented load whose columns are `col`. -/
def segmentsRead (s : State) (col : Nat → List (Nat × Nat × FFlags)) (g : Nat → Reg) (n : Nat) : State :=
  let w := enteredAll s col ((List.range n).map (fun k => (g k, k)))
  State.adv { w with cur := w.cur.vdone }

theorem segmentsRead_frame (s : State) (col : Nat → List (Nat × Nat × FFlags)) (g : Nat → Reg) (n : Nat) :
    let t := segmentsRead s col g n
    t.mem = s.mem ∧ t.tags = s.tags ∧ t.cur.x = s.cur.x ∧ t.cur.pc = s.cur.pc + 4 ∧
      t.cur.c = ((flagged s.cur (orAll ((List.range n).flatMap (fun k => (col k).map (fun e => e.2.2))))).vdone).c ∧
      ∀ r, t.cur.vr r = (enteredAll s col ((List.range n).map (fun k => (g k, k)))).cur.vr r := by
  obtain ⟨vs, hfr⟩ := enteredAll_frame col g (List.range n) s
  intro t
  have ht : t.cur = { (enteredAll s col ((List.range n).map (fun k => (g k, k)))).cur.vdone with
      pc := (enteredAll s col ((List.range n).map (fun k => (g k, k)))).cur.vdone.pc + 4 } := rfl
  have hm : t.mem = (enteredAll s col ((List.range n).map (fun k => (g k, k)))).mem := rfl
  have hg : t.tags = (enteredAll s col ((List.range n).map (fun k => (g k, k)))).tags := rfl
  rw [ht, hm, hg, hfr, vdone_registers, vdone_frame]
  exact ⟨rfl, rfl, rfl, rfl, rfl, fun _ => rfl⟩

/-- The columns of a segmented load's fields. -/
def fields (s : State) (f : BitVec 4) (isF : Bool) (done : List (Nat × List Nat)) (k : Nat) : List (Nat × Nat × FFlags) :=
  column f isF s.cur.ew (fun _ c => c) done k

section
variable {s s1 : State} {v a b : Reg} {f : BitVec 4} {isF : Bool} {done : List (Nat × List Nat)} {n : Nat}

theorem same_drawn : SameButCaches s (drawn s b) := by
  rw [drawn]
  split
  · exact same_refl s
  · exact same_fresh s _

theorem segments_whole (hl : (drawn s b).loadLoop (fmtSize f) (segAddrs (s.rx a) f n) s.cur.active = (done, none, s1)) :
    done.map (·.1) = s.cur.active ∧ SameButCaches s s1 := by
  have hd : (drawn s b).cur = s.cur := drawn_cur
  obtain ⟨hmap, hsame⟩ := loads_whole (s := drawn s b) (n := fmtSize f) (by rw [hd]; exact hl)
  exact ⟨hd ▸ hmap, same_trans same_drawn hsame⟩

theorem vsegld_read {w : InsnWord} (h : Ready s) (hp : Permutes s b n)
    (hbs : blockScaled s.cur.c.vtype f = false) (hf : fmtKind f s.cur.ew false = some isF) (ha : (s.rx a).toNat % fmtSize f = 0)
    (hb : b = 0 ∨ b.toNat < v.toNat ∨ v.toNat + n ≤ b.toNat) (hr : InRange s (segAddrs (s.rx a) f n))
    (hl : (drawn s b).loadLoop (fmtSize f) (segAddrs (s.rx a) f n) s.cur.active = (done, none, s1)) :
    s.vsegld w v a b f n = .next (segmentsRead s1 (fields s f isF done) (segReg s v b) n) := by
  have hd : (drawn s b).cur = s.cur := drawn_cur
  have hzip : ((List.range n).map (segReg s v b)).zip (upto 0 ((List.range n).map (segReg s v b)).length) =
      (List.range n).map (fun k => (segReg s v b k, k)) := by
    rw [List.length_map, List.length_range, upto_zero_eq_range]
    exact (congrArg _ (List.map_id _).symm).trans List.zip_map'
  have hlen (i : Nat) : (segAddrs (s.rx a) f n i).length = ((List.range n).map (segReg s v b)).length := by
    rw [segAddrs, upto_zero_eq_range, List.length_map, List.length_map]
  rw [vsegld_checked h hp hbs hf ha hb,
    vecLoad_done (ready_drawn h) (by rw [InRange, hd]; exact hr) hlen (by rw [hd]; exact hl), hzip, hd]
  rfl

end

theorem segmented_rows {row : (Reg → Reg → Reg → BitVec 4 → Instr) × (Reg → Reg → Reg → BitVec 4 → Instr) × Nat} (h : row ∈ segmented)
    (s : State) (v a b : Reg) (f : BitVec 4) : ∃ w, exec (row.1 v a b f) s = s.vsegld w v a b f row.2.2 := by
  simp only [segmented, List.mem_cons, List.not_mem_nil, or_false] at h
  rcases h with rfl | rfl | rfl | rfl | rfl | rfl | rfl <;> exact ⟨_, rfl⟩

theorem segmentedLoads : SegmentedLoads := by
  intro row hrow s s1 v a b f isF done h n hbs hf ha hv hb hp ads hr hl col
  have hads : ads = segAddrs (s.rx a) f n := funext (field_eq s a f n)
  rw [hads] at hr hl
  obtain ⟨hmap, hsame⟩ := segments_whole hl
  have hcur : s1.cur = s.cur := same_strand hsame
  obtain ⟨w, hw⟩ := segmented_rows hrow s v a b f
  obtain ⟨hm, ht, hx, hpc, hc, hvr⟩ := segmentsRead_frame s1 (fields s f isF done) (segReg s v b) n
  have hpair : (List.range n).Pairwise (fun i j => segReg s v b i ≠ segReg s v b j) :=
    (List.nodup_range.pairwise_of_forall_ne fun i hi j hj hne => segReg_ne hp hv (List.mem_range.mp hi) (List.mem_range.mp hj) hne)
  refine ⟨hmap, hsame, _, hw.trans (vsegld_read h hp hbs hf ha hb hr hl), hm.trans (same_memory hsame).1, ht.trans (same_memory hsame).2,
    hx.trans (congrArg Strand.x hcur), hpc.trans (congrArg (fun t : Strand => t.pc + 4) hcur), fun k hk => ?_, fun r hne => ?_, hc⟩
  · rw [hvr, enteredAll_same _ _ _ _ hpair (List.mem_range.mpr hk), hcur]
    rfl
  · rw [hvr, enteredAll_other _ _ _ _ fun k hk => hne k (List.mem_range.mp hk), hcur]

/-- Settles O25: loads of one register in the three address modes, and segmented loads. -/
theorem vectorLoadResults : Obligations.VectorLoadResults := ⟨vectorLoads, segmentedLoads⟩

end Sys2Proof.VectorLoadRules
end

section
/-! PROOF. Writes, reads and replies, invalidations and soft errors at the homes (R83, R88, R89, R95, R187, R246, R346, R426). -/

namespace Sys2Proof.HomeRules

open Machine Laws Claim UnitRules CacheRules Ledger WaitEndRules

/-! ### The first of a list -/

/-- What stands at `j`, with nothing of its kind before it, is the first of its kind. -/
theorem findIdx?_first {α : Type} {p : α → Bool} {l : List α} {j : Nat} {o : α} (hj : l[j]? = some o) (ho : p o = true)
    (hb : ∀ k x, k < j → l[k]? = some x → p x = false) : l.findIdx? p = some j := by
  obtain ⟨hlt, he⟩ := List.getElem?_eq_some_iff.mp hj
  refine List.findIdx?_eq_some_iff_getElem.mpr ⟨hlt, by rw [he]; exact ho, fun k hk => ?_⟩
  rw [hb k _ hk (List.getElem?_eq_getElem (Nat.lt_trans hk hlt))]
  decide

/-! ### Stores on their way (R83, R350) -/

section
variable {s : State} {core j : Nat} {o : OutEntry}

/-- The entry that may leave with no older one before it, when none whose time is over may leave in its place. -/
theorem nextOut_eq {k : Core} (hj : k.outb[j]? = some o) (hid : k.id = core) (hf : s.blocked core o = false ∧ s.outHeld o.sid = false)
    (hb : ∀ i x, i < j → k.outb[i]? = some x → ¬ (s.blocked core x = false ∧ s.outHeld x.sid = false) ∨
      (¬ x.last + 4000 ≤ s.dclkw.toNat ∧ o.last + 4000 ≤ s.dclkw.toNat))
    (hd : o.last + 4000 ≤ s.dclkw.toNat ∨ ∀ x ∈ k.outb, ¬ (s.blocked core x = false ∧ s.outHeld x.sid = false) ∨ ¬ x.last + 4000 ≤ s.dclkw.toNat) :
    s.nextOut k = some j := by
  have hfree (x : OutEntry) : (!s.blocked k.id x && !s.outHeld x.sid) = true ↔ s.blocked core x = false ∧ s.outHeld x.sid = false := by
    rw [hid, Bool.and_eq_true, Bool.not_eq_true', Bool.not_eq_true']
  have hdue (x : OutEntry) : (decide (x.last + 4000 ≤ s.now) && !s.blocked k.id x && !s.outHeld x.sid) = true ↔
      x.last + 4000 ≤ s.dclkw.toNat ∧ s.blocked core x = false ∧ s.outHeld x.sid = false := by
    rw [Bool.and_assoc, Bool.and_eq_true, hfree, decide_eq_true_eq]
    rfl
  rw [State.nextOut]
  by_cases hdo : o.last + 4000 ≤ s.dclkw.toNat
  · have hfirst : k.outb.findIdx? (fun e => decide (e.last + 4000 ≤ s.now) && !s.blocked k.id e && !s.outHeld e.sid) = some j := by
      refine findIdx?_first hj ((hdue o).mpr ⟨hdo, hf⟩) fun i x hi hx => Bool.eq_false_iff.mpr fun h => ?_
      obtain ⟨hd', hf'⟩ := (hdue x).mp h
      exact (hb i x hi hx).elim (fun h => h hf') fun h => h.1 hd'
    rw [hfirst]
  · have hnone : k.outb.findIdx? (fun e => decide (e.last + 4000 ≤ s.now) && !s.blocked k.id e && !s.outHeld e.sid) = none := by
      refine List.findIdx?_eq_none_iff.mpr fun x hx => Bool.eq_false_iff.mpr fun h => ?_
      obtain ⟨hd', hf'⟩ := (hdue x).mp h
      exact ((hd.resolve_left hdo) x hx).elim (fun h => h hf') fun h => h hd'
    rw [hnone]
    refine findIdx?_first hj ((hfree o).mpr hf) fun i x hi hx => Bool.eq_false_iff.mpr fun h => ?_
    exact (hb i x hi hx).elim (fun h' => h' ((hfree x).mp h)) fun h' => hdo h'.2

theorem onCore_congr {f g : Core → Core} {n : Nat} (h : f (s.coreAt n) = g (s.coreAt n)) : s.onCore n f = s.onCore n g := by
  rw [State.onCore, State.onCore, h]

theorem classOf_of_ledger {t : State} (h : ledger t = ledger s) (sid : Nat) : t.classOf sid = s.classOf sid := by
  simp only [ledger, Prod.mk.injEq] at h
  obtain ⟨hc, hs, -⟩ := h
  simp only [State.classOf, State.strand, hc, hs]

theorem outboundDrain_next (hc : core < 384) (hj : (s.coreAt core).outb[j]? = some o) (hn : s.nextOut (s.coreAt core) = some j) :
    exec (.outboundDrainTimeout core) s =
      .next ((s.onCore core (fun k => { k with outb := (s.coreAt core).outb.eraseIdx j })).send core o) := by
  have hok : (!Machine.coreOk core) = false := by rw [Machine.coreOk, decide_eq_true hc]; rfl
  change execOutboundDrainTimeout core s = _
  simp only [execOutboundDrainTimeout, hok, Bool.false_eq_true, if_false, hn, hj, dropAt_eq]
  exact congrArg (fun u : State => Host.Outcome.next (u.send core o)) (onCore_congr rfl)

theorem send_home {u : State} (hm : keyModule (64 * o.line) = 0) : u.send core o =
    { u with homes := { u.homes with wnet := u.homes.wnet ++ [⟨o, core, none, requestChannel (u.classOf o.sid) (64 * o.line), none, none⟩] } } :=
  if_pos hm

/-- An entry for another module leaves by the port that its route gives, or is lost without one. -/
theorem send_away {u : State} (hm : keyModule (64 * o.line) ≠ 0) : u.send core o =
    match (u.portFor core (64 * o.line)).1 with
    | some n =>
      let t := (u.portFor core (64 * o.line)).2.emitFor core ((u.portFor core (64 * o.line)).2.classOf o.sid) n (64 * o.line) 64
      { t with homes := { t.homes with wnet := t.homes.wnet ++ [⟨o, core, some n, requestChannel (u.classOf o.sid) (64 * o.line), none, none⟩] } }
    | none => (u.portFor core (64 * o.line)).2.addRecord o.sid (o.record 0x300 (globalOf u.front.modnum (64 * o.line))) := by
  have hport : ledger (u.portFor core (64 * o.line)).2 = ledger u := portFor_ledger ..
  have hfront : (u.portFor core (64 * o.line)).2.front.modnum = u.front.modnum := by
    have h := congrArg (fun t : State => t.front.modnum) (same_portFor u core (64 * o.line)).1
    exact h
  rw [State.send, if_neg hm]
  generalize u.portFor core (64 * o.line) = q at hport hfront
  obtain ⟨p, t⟩ := q
  cases p with
  | none => exact congrArg (fun m => t.addRecord o.sid (o.record 0x300 (globalOf m (64 * o.line)))) hfront
  | some n =>
    have hem : ledger (t.emitFor core (t.classOf o.sid) n (64 * o.line) 64) = ledger t := rfl
    dsimp only
    rw [classOf_of_ledger (hem.trans hport)]

end

theorem outboundDrain {s : State} {core j : Nat} {o : OutEntry} (hc : core < 384) (hj : (s.coreAt core).outb[j]? = some o)
    (hn : s.nextOut (s.coreAt core) = some j) :
    let u := s.onCore core (fun k => { k with outb := (s.coreAt core).outb.eraseIdx j })
    let g (p : Option Nat) : Flight := ⟨o, core, p, requestChannel (s.classOf o.sid) (64 * o.line), none, none⟩
    let away (t : State) (p : Option Nat) : State := { t with homes := { t.homes with wnet := t.homes.wnet ++ [g p] } }
    (keyModule (64 * o.line) = 0 → exec (.outboundDrainTimeout core) s = .next (away u none)) ∧
    (keyModule (64 * o.line) ≠ 0 → ∀ p t, u.portFor core (64 * o.line) = (p, t) →
      exec (.outboundDrainTimeout core) s = .next (match p with
        | some n => away (t.emitFor core (t.classOf o.sid) n (64 * o.line) 64) p
        | none => t.addRecord o.sid (o.record 0x300 (globalOf s.front.modnum (64 * o.line))))) := by
  intro u g away
  have hu : ledger u = ledger s := onCore_ledger ..
  have hcls : u.classOf o.sid = s.classOf o.sid := classOf_of_ledger hu _
  have hfront : u.front = s.front := by
    have h := congrArg State.front (setCore_frame s ((fun k : Core => { k with outb := (s.coreAt core).outb.eraseIdx j }) (s.coreAt core)))
    exact h
  rw [outboundDrain_next hc hj hn]
  refine ⟨fun hm => ?_, fun hm p t hp => ?_⟩
  · rw [send_home hm, hcls]
  · rw [send_away hm, hp, hcls, hfront]
    cases p <;> rfl

/-! ### Writes and reads at their home -/

/-- A write of no copy command that no local completion has made overdue lands as a store. -/
theorem landFlight_sent {u : State} {f : Flight} (hbl : f.block = none) (ho : f.overdue u.now = false) :
    u.landFlight f = (u.passes f.returns).landSent f.entry := by
  have hlate : f.overdue (u.passes f.returns).now = false := ho
  simp only [State.landFlight, hbl, State.arriveStore, hlate, Bool.false_eq_true, if_false]

theorem landSent_reached {u : State} {e : OutEntry} (hph : keyModule (64 * e.line) = 0 → (u.dieAt (homeDie (64 * e.line))).phase ≠ .failed) :
    u.landSent e = if (u.landAt e.line e.writer e.mask e.data).1 = true then (u.landAt e.line e.writer e.mask e.data).2
      else (u.landAt e.line e.writer e.mask e.data).2.addRecord e.sid (e.record 0x380 (globalOf u.front.modnum (64 * e.line))) := by
  rw [State.landSent, if_neg fun h => hph h.1 h.2]
  generalize u.landAt e.line e.writer e.mask e.data = q
  obtain ⟨ok, t⟩ := q
  cases ok <;> rfl

/-- The first write of its way that nothing holds arrives (R88). -/
theorem homeWrite_arrives {s : State} {i : Nat} {f : Flight} (hi : s.homes.wnet[i]? = some f)
    (hb : ∀ j < i, ∀ g, s.homes.wnet[j]? = some g → g.ahead f = false) (hh : s.held f = false) :
    exec (.homeWrite i 0) s = .next (State.landFlight { s with homes := { s.homes with wnet := s.homes.wnet.eraseIdx i } } f) := by
  have hself : f.ahead f = true := by simp [Flight.ahead]
  have hfirst : s.homes.wnet.findIdx? (fun g => g.ahead f) = some i := findIdx?_first hi hself fun k x hk hx => hb k hk x hx
  have hscrub (u : State) : u.scrub f.entry.line 0 2 f.entry.writer = u := if_pos (Or.inr (Or.inr (Or.inl rfl)))
  change execHomeWrite i 0 s = _
  simp only [execHomeWrite, hi, hfirst, hh, Bool.false_eq_true, if_false, dropAt_eq, hscrub]

theorem homeWrite {s : State} {i : Nat} {f : Flight} (hi : s.homes.wnet[i]? = some f)
    (hb : ∀ j < i, ∀ g, s.homes.wnet[j]? = some g → g.ahead f = false) (hh : s.held f = false) (ho : f.overdue s.now = false) (hbl : f.block = none)
    (hph : keyModule (64 * f.entry.line) = 0 → (s.dieAt (homeDie (64 * f.entry.line))).phase ≠ .failed) :
    let s' := State.passes { s with homes := { s.homes with wnet := s.homes.wnet.eraseIdx i } } f.returns
    (∀ t, s'.landAt f.entry.line f.entry.writer f.entry.mask f.entry.data = (true, t) → exec (.homeWrite i 0) s = .next t) ∧
    (∀ t, s'.landAt f.entry.line f.entry.writer f.entry.mask f.entry.data = (false, t) →
      exec (.homeWrite i 0) s = .next (t.addRecord f.entry.sid (f.entry.record 0x380 (globalOf s.front.modnum (64 * f.entry.line))))) := by
  intro s'
  have hsent := landSent_reached (u := s') (e := f.entry) hph
  have hland := landFlight_sent (u := { s with homes := { s.homes with wnet := s.homes.wnet.eraseIdx i } }) hbl ho
  rw [homeWrite_arrives hi hb hh, hland]
  refine ⟨fun t h => ?_, fun t h => ?_⟩
  · rw [hsent, h, if_pos rfl]
  · rw [hsent, h, if_neg Bool.false_ne_true]
    rfl

theorem same_readHome (s : State) (core : Nat) (w : BitVec 12) (l : Nat) : SameButCaches s (s.readHome core w l).2 := by
  have ha := same_atHome s core w 0 l
  rw [State.readHome]
  generalize s.atHome core w 0 l = r at ha
  match r, ha with
  | (.error c, t), ha => exact ha
  | (.ok (d, b), t), ha =>
    dsimp only
    split
    · exact ha
    · exact same_trans ha (same_onCore _ _ (fun k => rfl))

theorem same_modnum {s t : State} (h : SameButCaches s t) : t.front.modnum = s.front.modnum := by
  have hm := congrArg (fun u : State => u.front.modnum) h.1
  exact hm

theorem homeRead {s s1 : State} {sid : Nat} {t0 : Strand} {addr : BitVec 61} {d : Reg} {data : Line} {c : BitVec 10} (h : has s sid t0)
    (hr : t0.run = .running) :
    let key := addr.toNat / 8 * 8
    (s.readHome t0.id.core t0.writer (key / 64) = (.ok data, s1) → exec (.homeRead sid addr d 0) s =
      .next { s1 with homes := { s1.homes with loads := s1.homes.loads ++ [⟨sid, d, data.extractLsb' (8 * (key % 64)) 64, key / 64, some data⟩] } }) ∧
    (s.readHome t0.id.core t0.writer (key / 64) = (.error c, s1) → exec (.homeRead sid addr d 0) s = .next (s1.asStrand sid (fun u =>
      u.trapEntry c 0 false u.cur.pc (BitVec.ofNat 64 (globalOf s.front.modnum key)) 0 u.cur.pc))) := by
  intro key
  have hscrub (u : State) : u.scrub (key / 64) 0 0 t0.writer = u := if_pos (Or.inr (Or.inr (Or.inl rfl)))
  have hex : exec (.homeRead sid addr d 0) s = execHomeRead sid addr d 0 s := rfl
  rw [hex, execHomeRead, h.2]
  simp only [hr]
  rw [hscrub]
  refine ⟨fun hrd => ?_, fun hrd => ?_⟩
  · rw [hrd]
  · have hs := same_readHome s t0.id.core t0.writer (key / 64)
    rw [hrd] at hs
    rw [hrd, ← same_modnum hs]

/-- A strand that runs takes the first reply of its way (R95). -/
theorem loadReply_next {s : State} {i : Nat} {r : Reply} {t0 : Strand} (hi : s.homes.loads[i]? = some r)
    (hb : ∀ j < i, ∀ q, s.homes.loads[j]? = some q → replyWay s q ≠ replyWay s r) (h : has s r.sid t0) (hr : t0.run = .running) :
    ∃ u, exec (.loadReply i) s = .next (u.onStrand r.sid (fun t => t.wx r.d r.data)) ∧
      ledger u = ledger { s with homes := { s.homes with loads := s.homes.loads.eraseIdx i } } := by
  have hself : (replyWay s r == replyWay s r) = true := beq_self_eq_true _
  have hidx : s.homes.loads.findIdx? (fun q => replyWay s q == replyWay s r) = some i :=
    findIdx?_first (p := fun q => replyWay s q == replyWay s r) hi hself fun k x hk hx => beq_false_of_ne (hb k hk x hx)
  have hfirst : s.firstReply r = i := by
    rw [State.firstReply]
    exact congrArg (fun o => Option.getD o 0) hidx
  have hstrand : State.strand { s with homes := { s.homes with loads := s.homes.loads.eraseIdx i } } r.sid = some t0 := h.2
  have hex : exec (.loadReply i) s = execLoadReply i s := rfl
  rw [hex, execLoadReply, hi]
  simp only [Option.bind_some, hfirst, hi, dropAt_eq, hstrand, hr]
  refine ⟨_, rfl, ?_⟩
  split
  · exact onCore_ledger ..
  · rfl

theorem onStrand_wx {u : State} {r : Reply} {t0 : Strand} (h : has u r.sid t0) :
    let w := u.onStrand r.sid (fun t => t.wx r.d r.data)
    w.mem = u.mem ∧ w.tags = u.tags ∧ w.homes = u.homes ∧
      w.strand r.sid = some { t0 with x := if r.d = 0 then t0.x else t0.x.set r.d.toNat r.data r.d.isLt } := by
  have hwx : t0.wx r.d r.data = { t0 with x := if r.d = 0 then t0.x else t0.x.set r.d.toNat r.data r.d.isLt } := by
    rw [Strand.wx]
    split <;> rfl
  have hset (v : Strand) : (u.setStrand v).mem = u.mem ∧ (u.setStrand v).tags = u.tags := by
    rw [State.setStrand]
    split <;> exact ⟨rfl, rfl⟩
  intro w
  have hw : w = u.setStrand (t0.wx r.d r.data) := by
    simp only [w, State.onStrand, h.2]
  obtain ⟨hm, ht⟩ := hset (t0.wx r.d r.data)
  have hrd := PreemptRules.strand_onStrand h (f := fun t => t.wx r.d r.data) (by simp only [hwx])
  exact ⟨hw ▸ hm, hw ▸ ht, onStrand_homes .., hrd.trans (congrArg some hwx)⟩

theorem loadReply {s : State} {i : Nat} {r : Reply} {t0 : Strand} (hi : s.homes.loads[i]? = some r)
    (hb : ∀ j < i, ∀ q, s.homes.loads[j]? = some q → replyWay s q ≠ replyWay s r) (h : has s r.sid t0) (hr : t0.run = .running) :
    ∃ t, exec (.loadReply i) s = .next t ∧ t.mem = s.mem ∧ t.tags = s.tags ∧ t.homes.loads = s.homes.loads.eraseIdx i ∧
      t.strand r.sid = some { t0 with x := if r.d = 0 then t0.x else t0.x.set r.d.toNat r.data r.d.isLt } := by
  obtain ⟨u, hu, hl⟩ := loadReply_next hi hb h hr
  simp only [ledger, Prod.mk.injEq] at hl
  obtain ⟨hcur, hstrands, hmem, htags, -, hhomes, -⟩ := hl
  have hh : has u r.sid t0 := ⟨h.1, by rw [State.strand, hcur, hstrands]; exact h.2⟩
  obtain ⟨hm, ht, hho, hst⟩ := onStrand_wx (r := r) hh
  exact ⟨_, hu, hm.trans hmem, ht.trans htags, by rw [hho, hhomes], hst⟩

/-! ### Invalidations and their acknowledgements (R89, R246) -/

theorem drop_one (k : Core) (l : Nat) : k.drop l (l + 1) = { k with
    inb := k.inb.filter (fun q => q.1 ≠ l), icb := k.icb.filter (fun q => q.1 ≠ l) } := by
  have hp : ∀ n : Nat, (decide (n < l) || decide (l + 1 ≤ n)) = decide (n ≠ l) := fun n => by
    rw [← Bool.decide_or, decide_eq_decide]
    omega
  simp only [Core.drop, hp]

/-- The invalidation that has arrived. -/
theorem turnInvalidation {s : State} {core : Nat} {e : Inval} (hc : core < 384) (h : s.homes.invals.find? (fun e => e.core == core) = some e) :
    ∃ t, exec (.turnInvalidation core) s = .next t ∧
      t.homes.acks = s.homes.acks ++ [e] ∧ t.homes.invals = s.homes.invals.erase e ∧ t.mem = s.mem ∧ t.tags = s.tags ∧
      t.coreAt core = { s.coreAt core with
        inb := (s.coreAt core).inb.filter (fun q => q.1 ≠ e.line), icb := (s.coreAt core).icb.filter (fun q => q.1 ≠ e.line) } := by
  obtain ⟨hp, as, bs, hl, hno⟩ := List.find?_eq_some_iff_append.mp h
  have hget : s.homes.invals[as.length]? = some e := by simp [hl]
  have hidx : s.homes.invals.findIdx? (fun e => e.core == core) = some as.length := by
    refine findIdx?_first (p := fun e : Inval => e.core == core) hget hp fun k x hk hx => ?_
    rw [hl, List.getElem?_append_left hk] at hx
    exact Bool.not_eq_true' _ ▸ hno x (List.mem_of_getElem? hx)
  have herase : s.homes.invals.eraseIdx as.length = s.homes.invals.erase e := by
    have hne : e ∉ as := fun he => absurd hp (by simpa using hno e he)
    rw [hl, List.eraseIdx_append_of_length_le (Nat.le_refl _), Nat.sub_self, List.erase_append_right _ hne, List.erase_cons_head]
    rfl
  have hok : (!Machine.coreOk core) = false := by rw [Machine.coreOk, decide_eq_true hc]; rfl
  have hex : exec (.turnInvalidation core) s = .next (State.onCore
      { s with homes := { s.homes with invals := s.homes.invals.erase e, acks := s.homes.acks ++ [e] } } core (fun k => k.drop e.line (e.line + 1))) := by
    change execTurnInvalidation core s = _
    rw [execTurnInvalidation, hok, if_neg Bool.false_ne_true]
    simp only [hidx, hget, dropAt_eq, herase]
  obtain ⟨u, hu⟩ : ∃ u : State, u = { s with homes := { s.homes with invals := s.homes.invals.erase e, acks := s.homes.acks ++ [e] } } := ⟨_, rfl⟩
  have hledger := onCore_ledger u core (fun k => k.drop e.line (e.line + 1))
  simp only [ledger, Prod.mk.injEq] at hledger
  obtain ⟨-, -, hmem, htags, -, hhomes, -⟩ := hledger
  have hcore := coreAt_onCore_eq (s := u) (n := core) (f := fun k => k.drop e.line (e.line + 1)) (fun _ => rfl) core
  rw [← hu] at hex
  refine ⟨_, hex, ?_, ?_, ?_, ?_, ?_⟩
  · rw [hhomes, hu]
  · rw [hhomes, hu]
  · rw [hmem, hu]
  · rw [htags, hu]
  · rw [hcore, if_pos rfl, drop_one, hu]
    rfl

theorem invalidationAck (s : State) (i : Nat) :
    ∃ t j, exec (.invalidationAck i) s = .next t ∧ j ≤ i ∧ t = { s with homes := { s.homes with acks := s.homes.acks.eraseIdx j } } ∧
      ∀ e, s.homes.acks[i]? = some e → (∃ q, s.homes.acks[j]? = some q ∧ ackWay s q = ackWay s e) ∧
        ∀ k < j, ∀ q, s.homes.acks[k]? = some q → ackWay s q ≠ ackWay s e := by
  cases he : s.homes.acks[i]? with
  | none =>
    have hout : s.homes.acks.eraseIdx i = s.homes.acks := List.eraseIdx_of_length_le (List.getElem?_eq_none_iff.mp he)
    refine ⟨s, i, ?_, Nat.le_refl i, ?_, fun e h => nomatch h⟩
    · change execInvalidationAck i s = _
      rw [execInvalidationAck, he]
    · rw [hout]
  | some e =>
    have hsome : (s.homes.acks.findIdx? (fun q => ackWay s q == ackWay s e)).isSome = true := by
      rw [List.findIdx?_isSome, List.any_eq_true]
      exact ⟨e, List.mem_of_getElem? he, beq_self_eq_true _⟩
    obtain ⟨j, hj⟩ := Option.isSome_iff_exists.mp hsome
    have hfirst : s.firstAck e = j := by
      rw [State.firstAck]
      exact congrArg (fun o => Option.getD o 0) hj
    obtain ⟨hlt, hway, hno⟩ := List.findIdx?_eq_some_iff_getElem.mp hj
    refine ⟨_, j, ?_, ?_, rfl, fun e' h => ?_⟩
    · change execInvalidationAck i s = _
      rw [execInvalidationAck, he]
      simp only [hfirst, dropAt_eq]
    · by_contra hji
      obtain ⟨hi, hei⟩ := List.getElem?_eq_some_iff.mp he
      have := hno i (Nat.lt_of_not_le hji)
      rw [hei] at this
      exact this (beq_self_eq_true _)
    · obtain rfl := Option.some.inj h
      refine ⟨⟨_, List.getElem?_eq_getElem hlt, eq_of_beq hway⟩, fun k hk q hq => ?_⟩
      obtain ⟨hkl, hkq⟩ := List.getElem?_eq_some_iff.mp hq
      intro hw
      apply hno k hk
      rw [hkq, hw]
      exact beq_self_eq_true _

/-! ### Soft errors (R426, R427) -/

theorem line_congr {m m' : List Host.Cell} {l : Nat} (h : ∀ k < 64, Memory.get m (64 * l + k) = Memory.get m' (64 * l + k)) :
    Memory.line m l = Memory.line m' l := by
  have hb : ∀ (n a : Nat), (∀ k < n, Memory.get m (a + k) = Memory.get m' (a + k)) → Memory.bytes m a n = Memory.bytes m' a n := by
    intro n
    induction n with
    | zero => exact fun _ _ => rfl
    | succ n ih =>
      intro a h
      rw [Memory.bytes, Memory.bytes, ih (a + 1) fun k hk => by rw [Nat.add_right_comm]; exact h (k + 1) (Nat.succ_lt_succ hk)]
      exact congrArg (· :: _) (h 0 (Nat.succ_pos n))
  rw [Memory.line, Memory.line, hb 64 (64 * l) h]

/-- A line written whole and turned on the machine's own behalf. -/
def lineTurned (s : State) (writer : BitVec 12) (l : Nat) (bs : List Byte) (m : Mark) : State :=
  State.onCores { s with
    mem := Memory.setBytes s.mem (64 * l) bs, tags := Tags.set s.tags l ⟨4, writer, (s.tag l).gen + 1, s.front.modnum⟩, mark := m }
    (fun k => k.drop l (l + 1))

theorem writeTurned_line (s : State) (die : Nat) (writer : BitVec 12) (l : Nat) {bs : List Byte} (h : bs.length = 64) :
    ∃ m, s.writeTurned die writer (64 * l) bs = lineTurned s writer l bs m := by
  have hfirst : 64 * l / 64 = l := by omega
  have hlast : (64 * l + bs.length + 63) / 64 = l + 1 := by omega
  have hone : l + 1 - l = 1 := by omega
  obtain ⟨m, hm⟩ : ∃ m, ((s.touch (64 * l)).passes (pathFor die (homeDie (64 * l)) (64 * l))).decodesIn l (l + 1) 2 writer = { s with mark := m } := by
    exact ⟨_, TaskRules.notes_trans (TaskRules.notes_trans (RestoreRules.touch_notes ..) (RestoreRules.passes_notes ..))
      (RestoreRules.decodesIn_notes ..)⟩
  simp only [State.writeTurned, hfirst, hlast, hone, hm, upto, List.foldl_cons, List.foldl_nil]
  exact ⟨_, rfl⟩

/-- An entry of the error log. -/
theorem logError_line (s : State) (kind key count source : Nat) (writer : BitVec 12) :
    ∃ bs m, bs.length = 64 ∧ s.logError kind key count source writer =
      lineTurned { s with front := { s.front with logSeq := s.front.logSeq + 1 } } 0xF01 (2048 + (s.front.logSeq - 1) % 1024) bs m := by
  have haddr : 0x20000 + 64 * ((s.front.logSeq - 1) % 1024) = 64 * (2048 + (s.front.logSeq - 1) % 1024) := by omega
  rw [State.logError, State.logEvent]
  dsimp only
  rw [haddr]
  generalize hbs : _ ++ toBytes 32 0 = bs
  have hlen : bs.length = 64 := by
    rw [← hbs]
    simp only [List.length_append, TrapRules.length_toBytes]
  obtain ⟨m, hm⟩ := writeTurned_line { s with front := { s.front with logSeq := s.front.logSeq + 1 } } 0 0xF01
    (2048 + (s.front.logSeq - 1) % 1024) hlen
  exact ⟨bs, m, hlen, hm⟩

theorem coreAt_lineTurned (s : State) (writer : BitVec 12) (l : Nat) (bs : List Byte) (m : Mark) (n : Nat) :
    (lineTurned s writer l bs m).coreAt n = (s.coreAt n).drop l (l + 1) :=
  coreAt_onCores (f := fun k => k.drop l (l + 1)) (fun _ => rfl) (fun _ => rfl) n

/-- A line turned leaves every other line and its tag. -/
theorem lineTurned_other {s : State} (hw : Memory.wf s.mem = true) {l x : Nat} (hx : x ≠ l) (writer : BitVec 12) {bs : List Byte} (h : bs.length = 64)
    (m : Mark) : (lineTurned s writer l bs m).tag x = s.tag x ∧ (lineTurned s writer l bs m).line x = s.line x := by
  have ht : (⟨4, writer, (s.tag l).gen + 1, s.front.modnum⟩ : Tag) ≠ Tag.clear := LandRules.ne_clear_of_state (by decide : (4 : BitVec 3) ≠ 5)
  refine ⟨(LandRules.tagsGet_set ht l x s.tags).trans (if_neg hx), line_congr fun k hk => ?_⟩
  exact get_setBytes_other bs _ _ hw (by omega)

theorem onCore_keeps (s : State) (n : Nat) (f : Core → Core) : (s.onCore n f).mem = s.mem ∧ (s.onCore n f).tags = s.tags ∧ (s.onCore n f).front = s.front := by
  have h := setCore_frame s (f (s.coreAt n))
  exact ⟨(congrArg State.mem h : _), (congrArg State.tags h : _), (congrArg State.front h : _)⟩

/-- The counter of a patrol set after its line. -/
theorem coreAt_patrol (s : State) (n v m : Nat) :
    (s.onCore n (fun k => { k with patrol := v })).coreAt m = if m = n then { s.coreAt m with patrol := v } else s.coreAt m :=
  coreAt_onCore_eq (f := fun k => { k with patrol := v }) (fun _ => rfl) m

section
variable {s : State} {core : Nat}

/-- The line that a patrol reads next. -/
def patrolLine (s : State) (core : Nat) : Nat := core * 2 ^ 33 / 64 + (s.coreAt core).patrol

theorem patrolScrub_next (hc : core < 384) (b : Nat) :
    ∃ m, exec (.patrolScrub core b) s = .next ((State.scrub { s with mark := m } (patrolLine s core) b 1 0xFFF).onCore core
      (fun k => { k with patrol := ((s.coreAt core).patrol + 1) % 2 ^ 27 })) := by
  have hok : (!Machine.coreOk core) = false := by rw [Machine.coreOk, decide_eq_true hc]; rfl
  have hm := TaskRules.decodes_notes s (patrolLine s core) 1 0xFFF
  refine ⟨(s.decodes (patrolLine s core) 1 0xFFF).mark, ?_⟩
  change execPatrolScrub core b s = _
  rw [execPatrolScrub, hok, if_neg Bool.false_ne_true, ← hm]
  rfl

theorem patrolScrub_clean (hc : core < 384) : ∃ t, exec (.patrolScrub core 0) s = .next t ∧ t.mem = s.mem ∧ t.tags = s.tags ∧
    (t.coreAt core).patrol = ((s.coreAt core).patrol + 1) % 2 ^ 27 := by
  obtain ⟨m, hm⟩ := patrolScrub_next (s := s) hc 0
  have hscrub : State.scrub { s with mark := m } (patrolLine s core) 0 1 0xFFF = { s with mark := m } := if_pos (Or.inr (Or.inr (Or.inl rfl)))
  rw [hscrub] at hm
  have hl := onCore_ledger { s with mark := m } core (fun k => { k with patrol := ((s.coreAt core).patrol + 1) % 2 ^ 27 })
  simp only [ledger, Prod.mk.injEq] at hl
  refine ⟨_, hm, hl.2.2.1, hl.2.2.2.1, ?_⟩
  rw [coreAt_patrol, if_pos rfl]

/-- Where no part of the error log is patrolled, the line patrolled is no line of it. -/
theorem patrolLine_ne (hp : (s.coreAt core).patrol < 2 ^ 27) (h : core ≠ 0 ∨ (s.coreAt core).patrol < 2048 ∨ 3072 ≤ (s.coreAt core).patrol) (n : Nat) :
    patrolLine s core ≠ 2048 + n % 1024 := by
  rw [patrolLine]
  omega

theorem scrub_reached {l b : Nat} (h : 64 * l < 2 ^ 42) (h0 : b ≠ 0) (h5 : b ≤ 5) (source : Nat) (w : BitVec 12) (u : State) :
    u.scrub l b source w = if b ≤ 3 then u.logError 0 (64 * l) b source w else (u.poison l).logError 1 (64 * l) 0 source w := by
  have hspad : isSpad (64 * l) = false := decide_eq_false (by rw [spadBit]; omega)
  have hmod : keyModule (64 * l) = 0 := by rw [keyModule]; omega
  rw [State.scrub, if_neg]
  rintro (h | h | h | h)
  · rw [hspad] at h
    exact Bool.false_ne_true h
  · exact h hmod
  · exact h0 h
  · omega

theorem patrolScrub_corrected {b : Nat} (hc : core < 384) (h1 : 1 ≤ b) (h3 : b ≤ 3) (hw : Inv s) (hp : (s.coreAt core).patrol < 2 ^ 27)
    (hl : core ≠ 0 ∨ (s.coreAt core).patrol < 2048 ∨ 3072 ≤ (s.coreAt core).patrol) (hv : 64 * patrolLine s core < 2 ^ 42) :
    ∃ t, exec (.patrolScrub core b) s = .next t ∧ t.tag (patrolLine s core) = s.tag (patrolLine s core) ∧
      t.line (patrolLine s core) = s.line (patrolLine s core) ∧ t.front.logSeq = s.front.logSeq + 1 := by
  obtain ⟨m, hm⟩ := patrolScrub_next (s := s) hc b
  obtain ⟨bs, m', hlen, he⟩ := logError_line { s with mark := m } 0 (64 * patrolLine s core) b 1 0xFFF
  rw [scrub_reached hv (by omega) (by omega), if_pos h3, he] at hm
  obtain ⟨htag, hline⟩ := lineTurned_other (s := { s with mark := m, front := { s.front with logSeq := s.front.logSeq + 1 } }) hw
    (patrolLine_ne hp hl (s.front.logSeq - 1)) 0xF01 hlen m'
  obtain ⟨hmem, htags, hfront⟩ := onCore_keeps (lineTurned { s with mark := m, front := { s.front with logSeq := s.front.logSeq + 1 } } 0xF01
    (2048 + (s.front.logSeq - 1) % 1024) bs m') core (fun k => { k with patrol := ((s.coreAt core).patrol + 1) % 2 ^ 27 })
  refine ⟨_, hm, ?_, ?_, ?_⟩
  · exact (congrArg (fun t => Tags.get t (patrolLine s core)) htags).trans htag
  · exact (congrArg (fun t => Memory.line t (patrolLine s core)) hmem).trans hline
  · exact congrArg (fun f : Front => f.logSeq) hfront

/-- Memory and tags with a line poisoned there, no copy of the line left, and its vault's count raised. -/
def poisoned (s : State) (mem : List Host.Cell) (tags : List (Nat × Tag)) (l core : Nat) (m : Mark) : State :=
  State.onCore (State.onCores { s with mem := mem, tags := tags, mark := m } (fun k => k.drop l (l + 1))) core
    (fun k => { k with poison := k.poison + 1 })

theorem invalidateAll_eq (u : State) (first last : Nat) :
    u.invalidateAll first last = State.onCores { u with mark := (u.passes (u.invalPaths u.allDies first last)).mark } (fun k => k.drop first last) := rfl

theorem poison_eq {l : Nat} (h : 64 * l < 2 ^ 42) (u : State) : ∃ w m, u.poison l =
    poisoned u (Memory.setMasked u.mem (64 * l) (2 ^ 64 - 1) 0 64) (Tags.set u.tags l ⟨7, 0, 0, w⟩) l (keyCore (64 * l)) m := by
  have hmod : keyModule (64 * l) = 0 := by rw [keyModule]; omega
  rw [State.poison]
  generalize Memory.setMasked u.mem (64 * l) (2 ^ 64 - 1) 0 64 = mem
  dsimp only
  rw [if_pos hmod, invalidateAll_eq]
  exact ⟨_, _, rfl⟩

theorem poisoned_reads (u : State) (mem : List Host.Cell) (tags : List (Nat × Tag)) (l n : Nat) (m : Mark) :
    let t := poisoned u mem tags l n m
    t.mem = mem ∧ t.tags = tags ∧ t.front = u.front ∧ (t.coreAt n).poison = (u.coreAt n).poison + 1 := by
  intro t
  obtain ⟨hmem, htags, hfront⟩ := onCore_keeps (State.onCores { u with mem := mem, tags := tags, mark := m } (fun k => k.drop l (l + 1)))
    n (fun k => { k with poison := k.poison + 1 })
  have hdrop := coreAt_onCores (s := { u with mem := mem, tags := tags, mark := m }) (f := fun k => k.drop l (l + 1)) (fun _ => rfl) (fun _ => rfl) n
  have hcore := coreAt_onCore_eq (s := State.onCores { u with mem := mem, tags := tags, mark := m } (fun k => k.drop l (l + 1))) (n := n)
    (f := fun k => { k with poison := k.poison + 1 }) (fun _ => rfl) n
  refine ⟨hmem, htags, hfront, ?_⟩
  rw [if_pos rfl, hdrop] at hcore
  exact congrArg Core.poison hcore

theorem keyCore_patrolLine (hc : core < 384) (hp : (s.coreAt core).patrol < 2 ^ 27) : keyCore (64 * patrolLine s core) = core := by
  rw [keyCore, patrolLine]
  omega

theorem ofBytes_zero (m : List Host.Cell) : ∀ (n a : Nat), (∀ k < n, Memory.get m (a + k) = 0) → ofBytes (Memory.bytes m a n) = 0
  | 0, _, _ => rfl
  | n + 1, a, h => by
    rw [Memory.bytes, ofBytes, ofBytes_zero m n (a + 1) fun k hk => by rw [Nat.add_right_comm]; exact h (k + 1) (Nat.succ_lt_succ hk)]
    rw [show Memory.get m a = 0 from h 0 (Nat.succ_pos n)]
    rfl

/-- A line of zeros. -/
theorem line_zeros {mem : List Host.Cell} (hw : Memory.wf mem = true) (l : Nat) :
    Memory.line (Memory.setMasked mem (64 * l) (2 ^ 64 - 1) 0 64) l = 0 := by
  rw [Memory.line, ofBytes_zero]
  · rfl
  · intro k hk
    have hbit : (2 ^ 64 - 1) / 2 ^ k % 2 = 1 := by
      have h : (2 ^ 64 - 1).testBit k = true := (Nat.testBit_two_pow_sub_one 64 k).trans (decide_eq_true hk)
      rw [Nat.testBit_eq_decide_div_mod_eq] at h
      exact of_decide_eq_true h
    rw [get_setMasked 64 _ _ _ _ hw, Nat.add_sub_cancel_left, if_pos ⟨by omega, by omega, hbit⟩, Nat.zero_div]
    rfl

theorem patrolScrub_poisons {b : Nat} (hc : core < 384) (hb : b = 4 ∨ b = 5) (hw : Inv s) (hp : (s.coreAt core).patrol < 2 ^ 27)
    (hl : core ≠ 0 ∨ (s.coreAt core).patrol < 2048 ∨ 3072 ≤ (s.coreAt core).patrol) (hv : 64 * patrolLine s core < 2 ^ 42) :
    ∃ t, exec (.patrolScrub core b) s = .next t ∧ (t.tag (patrolLine s core)).state = 7 ∧ (t.tag (patrolLine s core)).writer = 0 ∧
      (t.tag (patrolLine s core)).gen = 0 ∧ t.line (patrolLine s core) = 0 ∧ t.front.logSeq = s.front.logSeq + 1 ∧
      (t.coreAt core).poison = (s.coreAt core).poison + 1 := by
  obtain ⟨m, hm⟩ := patrolScrub_next (s := s) hc b
  obtain ⟨w, m', hpo⟩ := poison_eq hv { s with mark := m }
  rw [scrub_reached hv (by omega) (by omega), if_neg (by omega), hpo, keyCore_patrolLine hc hp] at hm
  have h7 : (⟨7, 0, 0, w⟩ : Tag) ≠ Tag.clear := LandRules.ne_clear_of_state (by decide : (7 : BitVec 3) ≠ 5)
  obtain ⟨hmem, htags, hfront, hpoison⟩ := poisoned_reads { s with mark := m } (Memory.setMasked s.mem (64 * patrolLine s core) (2 ^ 64 - 1) 0 64)
    (Tags.set s.tags (patrolLine s core) ⟨7, 0, 0, w⟩) (patrolLine s core) core m'
  have hwf : Memory.wf (Memory.setMasked s.mem (64 * patrolLine s core) (2 ^ 64 - 1) 0 64) = true := wf_setMasked 64 _ _ _ hw
  have hzero := line_zeros hw (patrolLine s core)
  have htag := (LandRules.tagsGet_set h7 (patrolLine s core) (patrolLine s core) s.tags).trans (if_pos rfl)
  dsimp only at hm hmem htags hfront hpoison
  generalize Memory.setMasked s.mem (64 * patrolLine s core) (2 ^ 64 - 1) 0 64 = mem at hm hmem htags hfront hpoison hwf hzero
  generalize poisoned _ _ _ _ _ _ = u at hm hmem htags hfront hpoison
  obtain ⟨bs, m2, hlen, he⟩ := logError_line u 1 (64 * patrolLine s core) 0 1 0xFFF
  have hseq : u.front.logSeq = s.front.logSeq := congrArg Front.logSeq hfront
  rw [he, hseq] at hm
  obtain ⟨hot, hol⟩ := lineTurned_other (s := { u with front := { u.front with logSeq := s.front.logSeq + 1 } }) (by rw [← hmem] at hwf; exact hwf)
    (patrolLine_ne hp hl (s.front.logSeq - 1)) 0xF01 hlen m2
  have hcore := coreAt_lineTurned { u with front := { u.front with logSeq := s.front.logSeq + 1 } } 0xF01 (2048 + (s.front.logSeq - 1) % 1024) bs m2 core
  have hlog : (lineTurned { u with front := { u.front with logSeq := s.front.logSeq + 1 } } 0xF01 (2048 + (s.front.logSeq - 1) % 1024) bs m2).front.logSeq =
    s.front.logSeq + 1 := rfl
  generalize lineTurned _ _ _ _ _ = v at hm hot hol hcore hlog
  obtain ⟨hvm, hvt, hvf⟩ := onCore_keeps v core (fun k => { k with patrol := ((s.coreAt core).patrol + 1) % 2 ^ 27 })
  have hline : (v.onCore core (fun k => { k with patrol := ((s.coreAt core).patrol + 1) % 2 ^ 27 })).tag (patrolLine s core) = ⟨7, 0, 0, w⟩ := by
    rw [State.tag, hvt]
    refine hot.trans ?_
    rw [State.tag, htags]
    exact htag
  refine ⟨_, hm, by rw [hline], by rw [hline], by rw [hline], ?_, ?_, ?_⟩
  · rw [State.line, hvm]
    refine hol.trans ?_
    rw [State.line, hmem]
    exact hzero
  · rw [hvf, hlog]
  · rw [coreAt_patrol, if_pos rfl, hcore]
    exact hpoison

end

theorem homeWritesAndReads : HomeWritesAndReads := by
  intro s s1 core i sid f d t0 addr data c e hc K key l patrolled due free
  refine ⟨?_, ?_, ?_, ?_, ?_, ?_, ?_, ?_, ?_⟩
  · intro j o hj hid hf hb hd
    exact outboundDrain hc hj (nextOut_eq hj hid hf hb hd)
  · exact fun hi hb hh ho hbl hph => homeWrite hi hb hh ho hbl hph
  · intro h hr
    obtain ⟨hok, herr⟩ := homeRead (s1 := s1) (addr := addr) (d := d) (data := data) (c := c) h hr
    exact ⟨fun hx => ⟨_, hok hx, rfl⟩, herr⟩
  · exact fun r hi hb h hr => loadReply hi hb h hr
  · exact fun h => turnInvalidation hc h
  · exact invalidationAck s i
  · exact patrolScrub_clean hc
  · exact fun b h1 h3 hw hp hl hv => patrolScrub_corrected hc h1 h3 hw hp hl hv
  · exact fun b hb hw hp hl hv => patrolScrub_poisons hc hb hw hp hl hv

/-! ### Table walks, tile stores and objects (R78, R255, R290, R295 to R299) -/

section
variable {s s1 s2 : State} {who : Party} {obj : BitVec 61} {v : Word} {d d' : Line}

theorem accessNeed_eq : ∀ access : Nat, accessNeed access = if access = 0 then .read else if access = 1 then .write else .exec
  | 0 => rfl
  | 1 => rfl
  | _ + 2 => rfl

theorem tableWalk {sid access : Nat} {va : Word} {t0 : Strand} {x : XFault} (h : has s sid t0) (hr : t0.run = .running) :
    let need : Need := if access = 0 then .read else if access = 1 then .write else .exec
    (∀ k, s.translate t0.agent va need = (.ok k, s1) → exec (.tableWalkComplete sid va access) s = .next s1) ∧
    (s.translate t0.agent va need = (.error x, s1) → exec (.tableWalkComplete sid va access) s = .next (s1.asStrand sid (fun u =>
      u.trapEntry x.cause 0 false u.cur.pc x.tval 0 u.cur.pc))) := by
  intro need
  have hneed : accessNeed access = need := accessNeed_eq access
  have hex : exec (.tableWalkComplete sid va access) s = execTableWalkComplete sid va access s := rfl
  rw [hex, execTableWalkComplete, h.2]
  simp only [hr, hneed]
  exact ⟨fun k hk => by rw [hk], fun hk => by rw [hk]⟩

theorem tileStoreClear {core : Nat} (hc : core < 384) (hcl : (s.coreAt core).clearing = true) (he : (s.coreAt core).eng = []) :
    ∃ t, exec (.tileStoreClearEnd core) s = .next t ∧ t.mem = s.mem ∧ t.cur = s.cur ∧
      t.coreAt core = { s.coreAt core with clearing := false, cells := [], l0 := 0 } ∧ ∀ m, m ≠ core → t.coreAt m = s.coreAt m := by
  have hok : (!Machine.coreOk core) = false := by rw [Machine.coreOk, decide_eq_true hc]; rfl
  have hcond : ((s.coreAt core).clearing && (s.coreAt core).eng.isEmpty) = true := by rw [hcl, he]; rfl
  have hex : exec (.tileStoreClearEnd core) s = .next (s.onCore core (fun k => { k with clearing := false, cells := [], l0 := 0 })) := by
    change execTileStoreClearEnd core s = _
    rw [execTileStoreClearEnd, hok, if_neg Bool.false_ne_true]
    exact congrArg Host.Outcome.next (onCore_congr (if_pos hcond))
  have hcore := coreAt_onCore_eq (s := s) (n := core) (f := fun k => { k with clearing := false, cells := [], l0 := 0 }) (fun _ => rfl)
  have hcur : (s.onCore core (fun k => { k with clearing := false, cells := [], l0 := 0 })).cur = s.cur := by
    have h := congrArg (fun q => q.1) (onCore_ledger s core (fun k => { k with clearing := false, cells := [], l0 := 0 }))
    exact h
  exact ⟨_, hex, (onCore_keeps ..).1, hcur, (hcore core).trans (if_pos rfl), fun m hm => (hcore m).trans (if_neg hm)⟩

/-- Operations on a barrier that the party's message has reached (R295 to R297). -/
theorem barrierOperations (h : s.partyObj who obj.toNat 1 = (some d, s1)) :
    let key := obj.toNat
    (fld d 0xC 4 ≠ fld d 8 4 → exec (.homeObjectOperation 0 obj v who) s = .next (s1.putBarrier key (lset d 0xC 4 (fld d 0xC 4 + 1)))) ∧
    exec (.homeObjectOperation 1 obj v who) s = .next (s1.withdraw key (v.extractLsb' 0 32)).2 ∧
    exec (.homeObjectOperation 2 obj v who) s =
      .next (s1.putBarrier key (lset (lset d 0x18 8 (min (fld d 0x18 8 + v.toNat) (2 ^ 64 - 1))) 2 2 0)) ∧
    (v.toNat ≤ fld d 0x18 8 → exec (.homeObjectOperation 3 obj v who) s = .next (s1.putBarrier key (lset d 0x18 8 (fld d 0x18 8 - v.toNat)))) ∧
    (fld d 0x18 8 < v.toNat → exec (.homeObjectOperation 3 obj v who) s = .next (s1.putBarrier key (lset (lset d 0x18 8 0) 2 2 1))) := by
  have hex (op : Nat) : exec (.homeObjectOperation op obj v who) s = execHomeObjectOperation op obj v who s := rfl
  refine ⟨fun hne => ?_, ?_, ?_, fun hle => ?_, fun hlt => ?_⟩
  · have harr : arrive d = some (lset d 0xC 4 (fld d 0xC 4 + 1)) := by
      rw [arrive, WaitRules.lfield_eq, WaitRules.lfield_eq, if_neg hne]
    rw [hex, execHomeObjectOperation, if_pos (by decide), h]
    simp only [harr]
  · rw [hex, execHomeObjectOperation, if_pos (by decide), h] <;> rfl
  · rw [hex, execHomeObjectOperation, if_pos (by decide), h]
    simp only [WaitRules.lfield_eq]
  · rw [hex, execHomeObjectOperation, if_pos (by decide), h]
    simp only [WaitRules.lfield_eq, if_pos hle]
  · rw [hex, execHomeObjectOperation, if_pos (by decide), h]
    simp only [WaitRules.lfield_eq, if_neg (Nat.not_le.mpr hlt)]

/-- Operations on a queue that the party's message has reached (R299). -/
theorem queueOperations (h : s.partyObj who obj.toNat 2 = (some d, s1)) :
    let key := obj.toNat
    (room d → s1.qPush partyAgent key d v = (.ok d', s2) → exec (.homeObjectOperation 4 obj v who) s = .next (s2.serve key)) ∧
    (¬ room d → exec (.homeObjectOperation 4 obj v who) s = .next s1) ∧
    (∀ e, held d ≠ 0 → s1.qPop partyAgent key d = (.ok (e, d'), s2) → exec (.homeObjectOperation 5 obj v who) s = .next (s2.serve key)) := by
  have hex (op : Nat) : exec (.homeObjectOperation op obj v who) s = execHomeObjectOperation op obj v who s := rfl
  refine ⟨fun hr hp => ?_, fun hr => ?_, fun e he hp => ?_⟩
  · rw [hex, execHomeObjectOperation, if_neg (by decide), if_pos (by decide), h]
    simp only [if_true, WaitRules.qCap_eq, WaitRules.qCount_eq, if_neg (Nat.not_le.mpr hr), hp]
  · rw [hex, execHomeObjectOperation, if_neg (by decide), if_pos (by decide), h]
    simp only [if_true, WaitRules.qCap_eq, WaitRules.qCount_eq, if_pos (Nat.not_lt.mp hr)]
  · rw [hex, execHomeObjectOperation, if_neg (by decide), if_pos (by decide), h]
    simp only [if_neg (by decide : ¬ 5 = 4), WaitRules.qCount_eq, if_neg he, hp]

end

theorem homeObjects : HomeObjects := by
  intro s s1 s2 sid core access va v t0 x obj who d d' hc key need K
  exact ⟨fun h hr => tableWalk h hr, fun hcl he => tileStoreClear hc hcl he, fun h => barrierOperations h, fun h => queueOperations h⟩

/-- Settles O48: what happens to writes, reads, invalidations and codewords at the homes, and what walks, tile stores and objects do. -/
theorem homeEvents : Obligations.HomeEvents := ⟨homeWritesAndReads, homeObjects⟩

end Sys2Proof.HomeRules
end

section
/-! PROOF. What the transfer units do behind a strand's streams, and the budget of a wait (R103 to R105, R232, R233, R436). -/

namespace Sys2Proof.StreamUnitRules

open Machine Laws Claim UnitRules BufferRules StrandRules CacheRules CsrRules

/-! ### One element placed (R83, R232) -/

/-- An element of an affine output enters the outbound path. -/
def placed (s : State) (e : PendElem) : State :=
  (s.logLine (spadKey s.cur.id.core e.off / 64)).bufferStore false s.me (spadKey s.cur.id.core e.off) e.size e.code.toNat s.cur.pc 0 e.pos

/-- An element as a bound descriptor places it: a power of two of bytes, aligned. -/
def Aligned (e : PendElem) : Prop := e.size ∈ [1, 2, 4, 8] ∧ e.off % e.size = 0

/-- The element's bytes hold byte `x` of the own scratchpad. -/
def Covers (core : Nat) (e : PendElem) (x : Nat) : Prop := spadKey core e.off ≤ x ∧ x < spadKey core e.off + e.size

theorem aligned_line {e : PendElem} (h : Aligned e) (core : Nat) : spadKey core e.off % 64 + e.size ≤ 64 := by
  obtain ⟨hs, ho⟩ := h
  simp only [List.mem_cons, List.not_mem_nil, or_false] at hs
  rw [spadKey, spadBit]
  rcases hs with h | h | h | h <;> rw [h] at ho ⊢ <;> omega

/-- Later writes to a byte are those before the store, where the store is no later write to it. -/
theorem any_combine_ops (e : OutEntry) {sh n pos p j : Nat} (v : Nat) (pc : Word) (w : InsnWord) (now : Nat) (h : pos ≤ p ∨ j < sh ∨ sh + n ≤ j) :
    (e.combine sh n v pc w now pos).ops.any (fun o => decide (p < o.1) && o.2.getLsbD j) = e.ops.any (fun o => decide (p < o.1) && o.2.getLsbD j) := by
  have hnew (m : BitVec 64) : (decide (p < pos) && (m ||| byteMask sh n).getLsbD j) = (decide (p < pos) && m.getLsbD j) := by
    rw [BitVec.getLsbD_or, getLsbD_byteMask]
    grind
  have hone : (decide (p < pos) && (byteMask sh n).getLsbD j) = false := by
    rw [getLsbD_byteMask]
    grind
  rw [OutEntry.combine]
  dsimp only
  split
  next q m r hops =>
    rw [hops]
    split
    next hq =>
      subst hq
      rw [List.any_cons, List.any_cons, hnew]
    next => rw [List.any_cons, hone, Bool.false_or]
  next hops => rw [hops, List.any_cons, hone, Bool.false_or]

section
variable {s : State} {e : PendElem}

theorem takes_logged (h : s.outUsed s.cur.id.core < 4096) (l : Nat) : Takes (s.logLine l) s.me l := Or.inl h

/-- An element placed changes the write log and the buffers alone. -/
theorem placed_frame (h : s.outUsed s.cur.id.core < 4096) :
    placed s e = { s with
      cur := { s.cur with wlog := (placed s e).cur.wlog }, core := (placed s e).core, cores := (placed s e).cores } := by
  have hf := bufferStore_frame (n := e.size) (v := e.code.toNat) (pc := s.cur.pc) (w := 0) (pos := e.pos)
    (takes_logged h (spadKey s.cur.id.core e.off / 64)) false
  rw [placed, hf]
  rfl

theorem outUsed_placed (h : s.outUsed s.cur.id.core < 4096) : (placed s e).outUsed s.cur.id.core ≤ s.outUsed s.cur.id.core + 1 := by
  have hc := coreAt_bufferStore (n := e.size) (v := e.code.toNat) (pc := s.cur.pc) (w := 0) (pos := e.pos)
    (takes_logged h (spadKey s.cur.id.core e.off / 64)) false s.cur.id.core
  have hh : (placed s e).homes = s.homes := by rw [placed_frame h]
  have hl := length_putIn_le ((s.coreAt s.cur.id.core).outb) s.me (spadKey s.cur.id.core e.off / 64)
    (combined (s.logLine (spadKey s.cur.id.core e.off / 64)) (spadKey s.cur.id.core e.off) e.size e.code.toNat s.cur.pc 0 e.pos)
  have hout : ((placed s e).coreAt s.cur.id.core).outb.length ≤ (s.coreAt s.cur.id.core).outb.length + 1 := by
    rw [placed, hc, if_pos (show s.cur.id.core = s.me.core from rfl)]
    exact hl
  rw [State.outUsed, State.outUsed, hh]
  omega

theorem pending_placed_same (h : s.outUsed s.cur.id.core < 4096) (ha : Aligned e) {k : Nat} (hk : k < e.size)
    (hy : writtenBeyond s s.cur.id.core s.cur.id.sid e.pos (spadKey s.cur.id.core e.off + k) = false) :
    pending (placed s e) s.cur.id.core s.cur.id.sid (spadKey s.cur.id.core e.off + k) = some (e.code.extractLsb' (8 * k) 8) := by
  have hp := pending_bufferStore_new (v := e.code.toNat) (pc := s.cur.pc) (w := 0) (pos := e.pos)
    (takes_logged h (spadKey s.cur.id.core e.off / 64)) false (aligned_line ha _) hk hy
  refine hp.trans (congrArg some (BitVec.eq_of_toNat_eq ?_))
  rw [BitVec.toNat_ofNat, BitVec.extractLsb'_toNat, Nat.shiftRight_eq_div_pow]

theorem pending_placed_other (h : s.outUsed s.cur.id.core < 4096) (ha : Aligned e) {c sid x : Nat}
    (hx : c ≠ s.cur.id.core ∨ sid ≠ s.cur.id.sid ∨ x < spadKey s.cur.id.core e.off ∨ spadKey s.cur.id.core e.off + e.size ≤ x) :
    pending (placed s e) c sid x = pending s c sid x :=
  pending_bufferStore_other (v := e.code.toNat) (pc := s.cur.pc) (w := 0) (pos := e.pos)
    (takes_logged h (spadKey s.cur.id.core e.off / 64)) false (aligned_line ha _) hx

/-- Writes beyond a position to a byte stay as they were, where the element does not cover it or stands no later. -/
theorem writtenBeyond_placed (h : s.outUsed s.cur.id.core < 4096) (ha : Aligned e) {p x : Nat}
    (hx : e.pos ≤ p ∨ x < spadKey s.cur.id.core e.off ∨ spadKey s.cur.id.core e.off + e.size ≤ x) :
    writtenBeyond (placed s e) s.cur.id.core s.cur.id.sid p x = writtenBeyond s s.cur.id.core s.cur.id.sid p x := by
  have hl := aligned_line ha s.cur.id.core
  have he := entryOf_bufferStore (n := e.size) (v := e.code.toNat) (pc := s.cur.pc) (w := 0) (pos := e.pos)
    (takes_logged h (spadKey s.cur.id.core e.off / 64)) false s.cur.id.core s.cur.id.sid (x / 64)
  rw [writtenBeyond_eq, writtenBeyond_eq, placed, he]
  split
  next hline =>
    have hxl : x / 64 = spadKey s.cur.id.core e.off / 64 := hline.2.2
    rw [hxl, Option.map_some, Option.getD_some, combined, any_combine_ops _ _ _ _ _ (by omega)]
    change ((entryOf (s.coreAt s.cur.id.core).outb s.cur.id.sid (spadKey s.cur.id.core e.off / 64)).getD _).ops.any _ = _
    cases entryOf (s.coreAt s.cur.id.core).outb s.cur.id.sid (spadKey s.cur.id.core e.off / 64) <;> rfl
  next => rfl

end

/-! ### All of them in turn -/

/-- The write log of the issuing strand and the buffers of the cores alone have changed. -/
def Logged (s t : State) : Prop := t = { s with cur := { s.cur with wlog := t.cur.wlog }, core := t.core, cores := t.cores }

theorem logged_trans {s t u : State} (h : Logged s t) (h' : Logged t u) : Logged s u := by
  have hu : u = { t with cur := { t.cur with wlog := u.cur.wlog }, core := u.core, cores := u.cores } := h'
  have ht : t = { s with cur := { s.cur with wlog := t.cur.wlog }, core := t.core, cores := t.cores } := h
  exact hu.trans (by rw [ht])

theorem placedAll_logged : ∀ (l : List PendElem) (s : State), s.outUsed s.cur.id.core + l.length ≤ 4096 → Logged s (l.foldl placed s)
  | [], _, _ => rfl
  | e :: l, s, h => by
    rw [List.length_cons] at h
    have hroom : s.outUsed s.cur.id.core < 4096 := by omega
    have hf : Logged s (placed s e) := placed_frame hroom
    have hid : (placed s e).cur.id = s.cur.id := by rw [placed_frame hroom]
    have hu := outUsed_placed (e := e) hroom
    exact logged_trans hf (placedAll_logged l (placed s e) (by rw [hid]; omega))

/-- What is pending of bytes that no element covers. -/
theorem pending_placedAll_other {core sid c q x : Nat} : ∀ (l : List PendElem) (s : State), s.cur.id.core = core → s.cur.id.sid = sid →
    s.outUsed core + l.length ≤ 4096 → (∀ e ∈ l, Aligned e) →
    (c ≠ core ∨ q ≠ sid ∨ ∀ e ∈ l, x < spadKey core e.off ∨ spadKey core e.off + e.size ≤ x) →
    pending (l.foldl placed s) c q x = pending s c q x
  | [], _, _, _, _, _, _ => rfl
  | e :: l, s, hc, hs, h, ha, hx => by
    subst hc hs
    rw [List.length_cons] at h
    have hroom : s.outUsed s.cur.id.core < 4096 := by omega
    have hid : (placed s e).cur.id = s.cur.id := by rw [placed_frame hroom]
    have hu := outUsed_placed (e := e) hroom
    rw [List.foldl_cons, pending_placedAll_other l (placed s e) (congrArg Ident.core hid) (congrArg Ident.sid hid) (by omega)
      (fun e' he' => ha e' (List.mem_cons_of_mem e he')) (hx.imp_right (Or.imp_right fun h e' he' => h e' (List.mem_cons_of_mem e he')))]
    exact pending_placed_other hroom (ha e List.mem_cons_self) (hx.imp_right (Or.imp_right fun h => h e List.mem_cons_self))

/-- A byte of one element that no other covers waits with the element's data. -/
theorem pending_placedAll_same {core sid k : Nat} {e : PendElem} (hk : k < e.size) : ∀ (l : List PendElem) (s : State), s.cur.id.core = core → s.cur.id.sid = sid →
    s.outUsed core + l.length ≤ 4096 → (∀ e ∈ l, Aligned e) →
    (∀ e' ∈ l, e' ≠ e → spadKey core e.off + k < spadKey core e'.off ∨ spadKey core e'.off + e'.size ≤ spadKey core e.off + k) →
    writtenBeyond s core sid e.pos (spadKey core e.off + k) = false →
    (e ∈ l ∨ pending s core sid (spadKey core e.off + k) = some (e.code.extractLsb' (8 * k) 8)) →
    pending (l.foldl placed s) core sid (spadKey core e.off + k) = some (e.code.extractLsb' (8 * k) 8)
  | [], _, _, _, _, _, _, _, h => h.resolve_left List.not_mem_nil
  | e' :: l, s, hc, hs, h, ha, hx, hy, hp => by
    subst hc hs
    rw [List.length_cons] at h
    have hroom : s.outUsed s.cur.id.core < 4096 := by omega
    have hid : (placed s e').cur.id = s.cur.id := by rw [placed_frame hroom]
    have hu := outUsed_placed (e := e') hroom
    have hal := ha e' List.mem_cons_self
    have hbeyond : writtenBeyond (placed s e') s.cur.id.core s.cur.id.sid e.pos (spadKey s.cur.id.core e.off + k) = false := by
      rw [writtenBeyond_placed hroom hal, hy]
      by_cases he : e' = e
      · exact Or.inl (Nat.le_of_eq (congrArg PendElem.pos he))
      · exact Or.inr (hx e' List.mem_cons_self he)
    rw [List.foldl_cons]
    refine pending_placedAll_same hk l (placed s e') (congrArg Ident.core hid) (congrArg Ident.sid hid) (by omega)
      (fun e' he' => ha e' (List.mem_cons_of_mem _ he')) (fun e' he' => hx e' (List.mem_cons_of_mem _ he')) hbeyond ?_
    by_cases he : e' = e
    · subst he
      exact Or.inr (pending_placed_same hroom hal hk hy)
    · rw [pending_placed_other hroom hal (Or.inr (Or.inr (hx e' List.mem_cons_self he)))]
      exact hp.imp_left fun hm => (List.mem_cons.mp hm).resolve_left fun h => he h.symm

/-! ### The units (R103, R232, R233) -/

section
variable {s : State} {i : Nat} {b : Stream}

theorem total_eq (b : Stream) : b.total = b.n0 * b.n1 := rfl

theorem setStream_getD {t : Strand} (hi : i < 4) (o : Option Stream) : (t.setStream i o).streams.getD i none = o := by
  simp [Strand.setStream, Vector.getD, hi]

/-- What the unit of register v28 + `i` does for the issuing strand. -/
def unitStep (i : Nat) (s : State) : State :=
  match s.cur.streams.getD i none with
  | none => s
  | some b =>
    if b.kind = 1 then s.placeStream i
    else if b.kind = 0 ∧ b.count + b.ahead.length < b.total then
      let (b, s) := s.streamRead b
      { s with cur := s.cur.setStream i (some b) }
    else s

theorem streamFill_unit (sid i : Nat) (s : State) : execStreamFill sid i s = .next (s.asStrand sid (unitStep i)) := rfl

theorem unitStep_input {b' : Stream} {u : State} (hb : s.cur.streams.getD i none = some b) (hk : b.kind = 0)
    (hn : b.count + b.ahead.length < b.n0 * b.n1) (hr : s.streamRead b = (b', u)) : unitStep i s = { u with cur := u.cur.setStream i (some b') } := by
  have hk1 : ¬ b.kind = 1 := by omega
  have hn' : b.count + b.ahead.length < b.total := by rw [total_eq]; exact hn
  rw [unitStep, hb]
  refine (if_neg hk1).trans ((if_pos ⟨hk, hn'⟩).trans ?_)
  rw [hr]

theorem unitStep_output (hb : s.cur.streams.getD i none = some b) (hk : b.kind = 1) : unitStep i s = s.placeStream i := by
  rw [unitStep, hb]
  exact if_pos hk

theorem snd_tags {α β : Type} (a : α) (q : β × State) {s : State} (h : q.2.tags = s.tags) : (a, q.2).2.tags = s.tags := h

theorem streamRead_tags (s : State) (b : Stream) : (s.streamRead b).2.tags = s.tags := by
  exact snd_tags _ _ (VectorLoadRules.same_memory (same_loadKey ..)).2

theorem fst_ahead {β : Type} (b : Stream) (e : BitVec 64 × Option (BitVec 10)) (u : β) :
    (({ b with ahead := b.ahead ++ [e] } : Stream), u).1 = { b with ahead := b.ahead ++ [e] } := rfl

theorem streamRead_ahead (s : State) (b : Stream) : ∃ e, (s.streamRead b).1 = { b with ahead := b.ahead ++ [e] } := by
  exact ⟨_, fst_ahead ..⟩

/-- The unit of an affine input reads the next element ahead. -/
theorem streamFill_input {b' : Stream} {u : State} (h : s.cur.id.sid ≠ 0) (hb : s.cur.streams.getD i none = some b) (hk : b.kind = 0)
    (hn : b.count + b.ahead.length < b.n0 * b.n1) (hr : s.streamRead b = (b', u)) (hu : u.cur = s.cur) :
    exec (.streamFill s.cur.id.sid i) s = .next { u with cur := u.cur.setStream i (some b') } := by
  have hid : (unitStep i s).cur.id = s.cur.id := by
    rw [unitStep_input hb hk hn hr]
    show u.cur.id = s.cur.id
    rw [hu]
  change execStreamFill s.cur.id.sid i s = _
  rw [streamFill_unit, asStrand_cur h hid, unitStep_input hb hk hn hr]

/-- The unit of an affine output places what it has produced. -/
theorem streamFill_output (h : s.cur.id.sid ≠ 0) (hb : s.cur.streams.getD i none = some b) (hk : b.kind = 1) :
    exec (.streamFill s.cur.id.sid i) s = .next (s.placeStream i) := by
  obtain ⟨-, hid, -⟩ := SaveRules.face_fields (SaveRules.placeStream_face s i) h
  change execStreamFill s.cur.id.sid i s = _
  rw [streamFill_unit, asStrand_cur h (by rw [unitStep_output hb hk]; exact hid), unitStep_output hb hk]

theorem input_fills (h : s.cur.id.sid ≠ 0) (hi : i < 4) (hb : s.cur.streams.getD i none = some b) (hk : b.kind = 0)
    (hn : b.count + b.ahead.length < b.n0 * b.n1) :
    ∃ t e, exec (.streamFill s.cur.id.sid i) s = .next t ∧ t.cur.streams.getD i none = some { b with ahead := b.ahead ++ [e] } ∧
      t.mem = s.mem ∧ t.tags = s.tags ∧ t.cur = { s.cur with streams := t.cur.streams } := by
  have hc := streamRead_cur s b
  have hm := streamRead_mem s b
  have ht := streamRead_tags s b
  obtain ⟨e, he⟩ := streamRead_ahead s b
  obtain ⟨b', u, hr⟩ : ∃ b' u, s.streamRead b = (b', u) := ⟨_, _, Prod.mk.eta.symm⟩
  rw [hr] at hc hm ht he
  subst he
  refine ⟨_, e, streamFill_input h hb hk hn hr hc, setStream_getD hi _, hm, ht, ?_⟩
  show u.cur.setStream i _ = _
  rw [show u.cur = s.cur from hc]
  rfl

theorem placeStream_eq (hb : s.cur.streams.getD i none = some b) :
    s.placeStream i = b.pend.foldl placed { s with cur := s.cur.setStream i (some { b with pend := [] }) } := by
  rw [State.placeStream, hb]
  rfl

theorem placeStream_nothing (hb : s.cur.streams.getD i none = some b) (hp : b.pend = []) : s.placeStream i = s := by
  have hs : some { b with pend := [] } = s.cur.streams.getD i none := by rw [hb, ← hp]
  rw [placeStream_eq hb, hp, List.foldl_nil, Strand.setStream, hs, WaitRules.setIfInBounds_getD]

theorem output_places (hsid : s.cur.id.sid ≠ 0) (hb : s.cur.streams.getD i none = some b) (hk : b.kind = 1)
    (hroom : s.outUsed s.cur.id.core + b.pend.length ≤ 4096) (ha : ∀ e ∈ b.pend, e.size ∈ [1, 2, 4, 8] ∧ e.off % e.size = 0 ∧ e.off + e.size ≤ 2 ^ 23) :
    let core := s.cur.id.core
    let sid := s.cur.id.sid
    ∃ t, exec (.streamFill sid i) s = .next t ∧ t.mem = s.mem ∧ t.tags = s.tags ∧ t.homes = s.homes ∧
      t.cur = { s.cur with streams := s.cur.streams.setIfInBounds i (some { b with pend := [] }), wlog := t.cur.wlog } ∧
      (∀ e ∈ b.pend, ∀ k < e.size, let key := spadKey core e.off + k
        (∀ e' ∈ b.pend, e' ≠ e → e.off + k < e'.off ∨ e'.off + e'.size ≤ e.off + k) → writtenBeyond s core sid e.pos key = false →
        pending t core sid key = some (e.code.extractLsb' (8 * k) 8)) ∧
      (∀ c q a, (c ≠ core ∨ q ≠ sid ∨ ∀ e ∈ b.pend, a < spadKey core e.off ∨ spadKey core e.off + e.size ≤ a) → pending t c q a = pending s c q a) := by
  intro core sid
  have hal : ∀ e ∈ b.pend, Aligned e := fun e he => ⟨(ha e he).1, (ha e he).2.1⟩
  obtain ⟨u, hu⟩ : ∃ u : State, u = { s with cur := s.cur.setStream i (some { b with pend := [] }) } := ⟨_, rfl⟩
  have hcore : u.cur.id.core = core := by rw [hu]; rfl
  have hsid' : u.cur.id.sid = sid := by rw [hu]; rfl
  have hroom' : u.outUsed core + b.pend.length ≤ 4096 := by rw [hu]; exact hroom
  have hlog : Logged u (b.pend.foldl placed u) := placedAll_logged b.pend u (by rw [hcore]; exact hroom')
  have hpend (c q a : Nat) : pending u c q a = pending s c q a := by rw [hu]; rfl
  have hbeyond (p a : Nat) : writtenBeyond u core sid p a = writtenBeyond s core sid p a := by rw [hu]; rfl
  have hm := congrArg State.mem hlog
  have ht := congrArg State.tags hlog
  have hh := congrArg State.homes hlog
  have hc := congrArg State.cur hlog
  refine ⟨b.pend.foldl placed u, ?_, ?_, ?_, ?_, ?_, ?_, ?_⟩
  · rw [streamFill_output hsid hb hk, placeStream_eq hb, hu]
  · exact hm.trans (by rw [hu])
  · exact ht.trans (by rw [hu])
  · exact hh.trans (by rw [hu])
  · exact hc.trans (by rw [hu]; rfl)
  · intro e he k hke key hx hy
    refine pending_placedAll_same hke b.pend u hcore hsid' hroom' hal (fun e' he' hne => ?_) (by rw [hbeyond]; exact hy) (Or.inl he)
    have := hx e' he' hne
    rw [spadKey, spadKey]
    omega
  · intro c q a hx
    exact (pending_placedAll_other b.pend u hcore hsid' hroom' hal hx).trans (hpend c q a)

/-- The group of a paired output reaches its consumer. -/
theorem group_delivered (h : s.cur.id.sid ≠ 0) (hb : s.cur.streams.getD i none = some b) (hk : b.kind = 2) (hg : b.group = none) {p : Nat} {u : Strand}
    {g : Nat × List (BitVec 64)} (hp : s.pairOf s.cur i = some p) (hu : s.strand p = some u) (hug : (u.streams.getD b.reg none).bind Stream.group = some g) :
    exec (.remoteGroupDelivery s.cur.id.sid i) s = .next (setBinding s i (some { b with group := some g, partner := some p })) := by
  change execRemoteGroupDelivery s.cur.id.sid i s = _
  have hcond : ¬ (b.kind ≠ 2 ∨ b.group.isSome = true) := by rw [hg]; simp [hk]
  simp only [execRemoteGroupDelivery, TrapRules.strand_cur h, hb, hp, if_neg hcond, hu, Option.bind_some, hug]
  exact congrArg Host.Outcome.next (if_pos rfl)

theorem budget_eq (s : State) (t : Strand) (b : Stream) : s.budgetOf t b =
    if b.desc[0].extractLsb' 32 32 = 0 then (s.coreAt t.id.core).dlcap.toNat % 2 ^ 63 else (b.desc[0].extractLsb' 32 32).toNat := by
  have h0 : b.desc.getD 0 0 = b.desc[0] := by simp [Vector.getD]
  have hf : field (b.desc.getD 0 0) 32 32 = (b.desc[0].extractLsb' 32 32).toNat := by rw [h0, toNat_extractLsb']
  have hz : (b.desc[0].extractLsb' 32 32).toNat = 0 ↔ b.desc[0].extractLsb' 32 32 = 0 := by
    rw [← BitVec.toNat_inj]
    rfl
  have hd : field (s.coreAt t.id.core).dlcap 0 63 = (s.coreAt t.id.core).dlcap.toNat % 2 ^ 63 := WaitRules.field_zero ..
  rw [State.budgetOf, hf, hd]
  exact if_congr hz rfl rfl

/-- A strand that waits for a stream's group past its budget traps. -/
theorem budget_expires (h : s.cur.id.sid ≠ 0) {r : Reg} {a : Nat} (hr : r.toNat = 28 + i) (hrun : s.cur.run = .running) (hbl : s.cur.blockedOn = some r)
    (hb : s.cur.streams.getD i none = some b) (hw : (b.kind = 2 ∧ b.group = none) ∨ (b.kind = 3 ∧ b.group ≠ none)) (hst : s.cur.stall = some a)
    (hstep : s.cur.stepping = false) (hover : a + s.budgetOf s.cur b ≤ s.now) :
    exec (.streamBudgetExpiry s.cur.id.sid) s = .next (s.trapEntry 0x181 0 false s.cur.pc (r.setWidth 64) 0 s.cur.pc) := by
  have hs : s.cur.stream r = some b := by
    rw [Strand.stream, if_pos (by omega), show r.toNat - 28 = i by omega, hb]
  have hwait : (b.kind = 2 ∧ b.group.isNone = true) ∨ (b.kind = 3 ∧ b.group.isSome = true) := by
    rwa [Option.isNone_iff_eq_none, Option.isSome_iff_ne_none]
  have hreg : s.budgetOver s.cur = some r := by
    simp only [State.budgetOver, Strand.waitedStream, hrun, hbl, hs, if_pos hwait, hst, if_pos hover]
  have hstays := trapEntry_stays h 0x181 0 false s.cur.pc (r.setWidth 64) 0 s.cur.pc
  have hdone : (s.trapEntry 0x181 0 false s.cur.pc (r.setWidth 64) 0 s.cur.pc).stepDone = s.trapEntry 0x181 0 false s.cur.pc (r.setWidth 64) 0 s.cur.pc :=
    if_neg (by rw [hstays.quiet hstep]; exact Bool.false_ne_true)
  change execStreamBudgetExpiry s.cur.id.sid s = _
  rw [execStreamBudgetExpiry, TrapRules.strand_cur h, Option.bind_some, hreg]
  dsimp only
  rw [asStrand_cur h, hdone]
  rw [hdone]
  exact hstays.ident

end

theorem streamUnits : StreamUnits := by
  intro s i b hi h sid
  refine ⟨fun hb hk hn => input_fills h hi hb hk hn, fun hb hk hp => ?_, fun hb hk hroom ha => output_places h hb hk hroom ha,
    fun hb hk hg p u g hp hu hug => group_delivered h hb hk hg hp hu hug, fun r a hr hrun hbl hb hw hst hstep hover => ?_⟩
  · rw [streamFill_output h hb hk, placeStream_nothing hb hp]
  · exact budget_expires h hr hrun hbl hb hw hst hstep (by rw [budget_eq]; exact hover)

end Sys2Proof.StreamUnitRules
end

section
/-! PROOF. Rounds of the Relay that complete, wait or fail, and parked arrivals (R357, R358, R362, R389, R404, R425, R446, R463). -/

namespace Sys2Proof.RelayRules

open Machine Laws Claim CsrRules Ledger StrandRules CacheRules

/-! ### What a round asks for (R357, R358) -/

section
variable {s s0 s1 : State} {group slot : Nat} {r : Round} {g : Group} {c0 : Contribution} {rest : List Contribution}

/-- The contributions do not agree, or no group admits their join. -/
def Differ (r : Round) (g : Group) (c0 : Contribution) : Prop :=
  (∃ q ∈ r.parts, q.clash = true ∨ q.op ≠ c0.op ∨ q.chunk ≠ c0.chunk) ∨ (c0.op.toNat % 16 = 6 ∧ joinOk g.sign g.sigd = false)

theorem opc_eq (c : Contribution) : c.opc = c.op.toNat % 16 := WaitRules.field_zero ..

theorem mismatch_iff : r.mismatch g c0 = true ↔ Differ r g c0 := by
  rw [Round.mismatch, Bool.or_eq_true, Bool.and_eq_true, List.any_eq_true, decide_eq_true_eq, opc_eq, Bool.not_eq_true', Differ]
  refine or_congr_left (exists_congr fun q => and_congr_right fun _ => ?_)
  rw [Bool.or_eq_true, Bool.or_eq_true, bne_iff_ne, bne_iff_ne, or_assoc]

/-- Everything that the round's operation asks for is there. -/
def Whole (r : Round) (g : Group) (c0 : Contribution) : Bool :=
  r.full g (c0.op.toNat % 16) (c0.chunk.toNat % 2 ^ 32) (c0.op.toNat / 2 ^ 32 % 2 ^ 27)

theorem ready_iff : r.ready g c0 = true ↔ Differ r g c0 ∨ Whole r g c0 = true := by
  have hc : field c0.chunk 0 32 = c0.chunk.toNat % 2 ^ 32 := WaitRules.field_zero ..
  rw [Round.ready, Bool.or_eq_true, mismatch_iff, opc_eq, hc]
  rfl

/-- The Relay holds nothing of a round back. -/
def Free (s : State) (r : Round) : Prop := (∀ q ∈ r.parts, s.relayHeld q.sid = false) ∧ s.roundFrozen r = false

theorem free_iff : (r.parts.any (fun c => s.relayHeld c.sid) || s.roundFrozen r) = false ↔ Free s r := by
  rw [Bool.or_eq_false_iff, List.any_eq_false, Free]
  exact and_congr_left fun _ => forall₂_congr fun _ _ => Bool.not_eq_true _ ▸ Iff.rfl

theorem waits_iff : (!r.ready g c0 || r.parts.any (fun c => s.relayHeld c.sid) || s.roundFrozen r) = false ↔
    (Differ r g c0 ∨ Whole r g c0 = true) ∧ Free s r := by
  rw [Bool.or_assoc, Bool.or_eq_false_iff, Bool.not_eq_false', ready_iff, free_iff]

/-- The record that a rank's arrivals carry: that of its contribution, or the Relay's own. -/
def arrivalRecord (r : Round) (group slot : Nat) (e : Nat × Strand) : Record :=
  match r.parts.find? (fun c => decide (c.rank = e.1)) with
  | some c => c.record
  | none => relayRecord e.2 group slot

/-- The results of a round arrive at the ranks that have a strand here, in turn. -/
def arrivals (s : State) (group slot : Nat) (r : Round) (g : Group) (c0 : Contribution) (here : List (Nat × Strand)) : State :=
  here.foldl (fun s e =>
    s.arriveResult e.2.id.sid g group slot (if c0.fmt = 0 then 4 else 2) (arrivalRecord r group slot e)
      (roundResult g r.parts c0.opc c0.fmt (field c0.chunk 0 32) e.1))
    { s with rounds := s.rounds.filter (fun q => !(q.group == group && q.slot == slot)) }

/-- The end of a round whose ranks have been read. -/
def roundEnds (s u : State) (group slot : Nat) (r : Round) (g : Group) (c0 : Contribution) (here : List (Nat × Strand)) (away : List Nat) : Out :=
  if here.any (fun e => s.relayHeld e.2.id.sid) then .next s
  else if r.mismatch g c0 then .next (u.failRound g r here 0x208 none)
  else
    match u.roundCrosses g r c0 away with
    | (false, v) => .next (v.failRound g r here 0x300 none)
    | (true, v) => .next (arrivals v group slot r g c0 here)

section
variable (hr : s.rounds.find? (fun r => r.group == group && r.slot == slot) = some r) (hp : r.parts = c0 :: rest) (hg : s.roundGroup r = (some g, s0))
include hr hp hg

theorem round_eq : exec (.relayRoundComplete group slot) s =
    if !r.ready g c0 || r.parts.any (fun c => s0.relayHeld c.sid) || s0.roundFrozen r then .next s0
    else
      match s0.ranks g r with
      | (.error x, u) => .next (u.failRound g r [] x.cause (some x.tval))
      | (.ok (here, away), u) => roundEnds s0 u group slot r g c0 here away := by
  change execRelayRoundComplete group slot s = _
  rw [execRelayRoundComplete, hr]
  dsimp only
  rw [hg]
  split
  next c t g' u hp' hq =>
    cases hq
    obtain rfl : c0 = c := (List.cons.inj (hp.symm.trans hp')).1
    rfl
  next heq hno => exact (hno c0 rest g hp (congrArg Prod.fst heq).symm).elim

theorem round_free (h : Differ r g c0 ∨ Whole r g c0 = true) (hf : Free s0 r) : exec (.relayRoundComplete group slot) s =
    match s0.ranks g r with
    | (.error x, u) => .next (u.failRound g r [] x.cause (some x.tval))
    | (.ok (here, away), u) => roundEnds s0 u group slot r g c0 here away := by
  have hcond := (waits_iff (g := g) (c0 := c0)).mpr ⟨h, hf⟩
  rw [round_eq hr hp hg, hcond] <;> rfl

theorem round_waits (h : ¬ ((Differ r g c0 ∨ Whole r g c0 = true) ∧ Free s0 r)) : exec (.relayRoundComplete group slot) s = .next s0 := by
  have hcond : (!r.ready g c0 || r.parts.any (fun c => s0.relayHeld c.sid) || s0.roundFrozen r) = true :=
    (Bool.not_eq_false _).mp (mt waits_iff.mp h)
  rw [round_eq hr hp hg, if_pos hcond]

end

end

/-- No rank here has a record of the Relay that waits for a ring entry. -/
theorem calm_iff {s : State} {here : List (Nat × Strand)} :
    here.any (fun e => s.relayHeld e.2.id.sid) = false ↔ ∀ e ∈ here, s.relayHeld e.2.id.sid = false := by
  rw [List.any_eq_false]
  exact forall₂_congr fun _ _ => Bool.not_eq_true _ ▸ Iff.rfl

/-- A round of this module alone crosses no hop that could be lost. -/
theorem crosses_here {s : State} {g : Group} {r : Round} {c0 : Contribution} (h : ∀ q ∈ r.parts, q.sid ≠ 0) :
    ∃ v, s.roundCrosses g r c0 [] = (true, v) ∧ v = { s with mark := v.mark } := by
  have hall : r.parts.all (fun c => decide (c.sid ≠ 0)) = true := List.all_eq_true.mpr fun q hq => decide_eq_true (h q hq)
  refine ⟨_, if_pos ⟨rfl, hall⟩, rfl⟩

theorem roundOutcomes {s s0 s1 s2 : State} {group slot : Nat} {r : Round} {g : Group} {c0 : Contribution} {rest : List Contribution} {x : XFault}
    {here : List (Nat × Strand)} {away : List Nat} (hr : s.rounds.find? (fun r => r.group == group && r.slot == slot) = some r)
    (hp : r.parts = c0 :: rest) (hg : s.roundGroup r = (some g, s0)) :
    let o := exec (.relayRoundComplete group slot) s
    let calm : Prop := ∀ e ∈ here, s0.relayHeld e.2.id.sid = false
    (¬ Differ r g c0 → Whole r g c0 = false → o = .next s0) ∧
    (¬ Free s0 r → o = .next s0) ∧
    (Differ r g c0 ∨ Whole r g c0 = true → Free s0 r → s0.ranks g r = (.error x, s1) → o = .next (s1.failRound g r [] x.cause (some x.tval))) ∧
    (Differ r g c0 ∨ Whole r g c0 = true → Free s0 r → s0.ranks g r = (.ok (here, away), s1) → ¬ calm → o = .next s0) ∧
    (Differ r g c0 → Free s0 r → s0.ranks g r = (.ok (here, away), s1) → calm → o = .next (s1.failRound g r here 0x208 none)) ∧
    (¬ Differ r g c0 → Whole r g c0 = true → Free s0 r → s0.ranks g r = (.ok (here, away), s1) → calm →
      (away = [] → (∀ q ∈ r.parts, q.sid ≠ 0) → ∃ v, s1.roundCrosses g r c0 away = (true, v) ∧ v = { s1 with mark := v.mark }) ∧
      (s1.roundCrosses g r c0 away = (false, s2) → o = .next (s2.failRound g r here 0x300 none)) ∧
      (s1.roundCrosses g r c0 away = (true, s2) → o = .next (arrivals s2 group slot r g c0 here))) := by
  intro o calm
  refine ⟨fun hd hw => round_waits hr hp hg ?_, fun hf => round_waits hr hp hg fun h => hf h.2, fun h hf hx => ?_, fun h hf hx hc => ?_,
    fun hd hf hx hc => ?_, fun hd hw hf hx hc => ⟨?_, fun hl => ?_, fun hl => ?_⟩⟩
  · rintro ⟨h, -⟩
    exact h.elim hd fun hw' => Bool.false_ne_true (hw.symm.trans hw')
  · exact (round_free hr hp hg h hf).trans (by rw [hx])
  · have hany := (Bool.not_eq_false _).mp (mt calm_iff.mp hc)
    refine (round_free hr hp hg h hf).trans ?_
    rw [hx]
    exact if_pos hany
  · refine (round_free hr hp hg (Or.inl hd) hf).trans ?_
    rw [hx]
    exact (if_neg (ne_true_of_eq_false (calm_iff.mpr hc))).trans (if_pos (mismatch_iff.mpr hd))
  · rintro rfl h
    exact crosses_here h
  · refine (round_free hr hp hg (Or.inr hw) hf).trans ?_
    rw [hx]
    refine (if_neg (ne_true_of_eq_false (calm_iff.mpr hc))).trans ((if_neg (mt mismatch_iff.mp hd)).trans ?_)
    rw [hl]
  · refine (round_free hr hp hg (Or.inr hw) hf).trans ?_
    rw [hx]
    refine (if_neg (ne_true_of_eq_false (calm_iff.mpr hc))).trans ((if_neg (mt mismatch_iff.mp hd)).trans ?_)
    rw [hl]

/-! ### A failed round (R358, R385, R389, R404) -/

/-- Strand `sid` is still there after a step, with the same agent and every record it had. -/
def Keeps (sid : Nat) (s v : State) : Prop :=
  ∀ t, has s sid t → ∃ t', has v sid t' ∧ t'.agent = t.agent ∧ ∀ q ∈ t.records, q ∈ t'.records

theorem keeps_refl (sid : Nat) (s : State) : Keeps sid s s := fun t h => ⟨t, h, rfl, fun _ => id⟩

theorem keeps_trans {sid : Nat} {s v w : State} (h : Keeps sid s v) (h' : Keeps sid v w) : Keeps sid s w := by
  intro t ht
  obtain ⟨t', ht', ha, hr⟩ := h t ht
  obtain ⟨t2, ht2, ha2, hr2⟩ := h' t' ht'
  exact ⟨t2, ht2, ha2.trans ha, fun q hq => hr2 q (hr q hq)⟩

theorem keeps_of_roster {sid : Nat} {s v : State} (h : roster v = roster s) : Keeps sid s v :=
  fun t ht => ⟨t, ⟨ht.1, (RestoreRules.strand_of_roster h sid).trans ht.2⟩, rfl, fun _ => id⟩

/-- A strand replaced under another name leaves this one. -/
theorem strand_setStrand_other (s : State) {w : Strand} {sid : Nat} (h : w.id.sid ≠ sid) : (s.setStrand w).strand sid = s.strand sid := by
  rw [State.setStrand]
  split
  next hc =>
    rw [strand_other (s := s) (by rw [hc]; exact h)]
    exact strand_other (s := { s with cur := w }) h
  next =>
    have hfind := UnitRules.find?_updFirst_other (p := fun u : Strand => u.id.sid == w.id.sid) (q := fun u => u.id.sid == sid) (b := w)
      (fun a ha => by simp only [beq_iff_eq] at ha; simp [ha, h]) (by simp [h]) s.strands
    rw [State.strand, State.strand]
    dsimp only
    rw [hfind]

/-- A strand put back with its agent and no record less. -/
theorem keeps_setStrand {sid n : Nat} {s : State} {t w : Strand} (ht : s.strand n = some t) (hid : w.id = t.id) (ha : w.agent = t.agent)
    (hr : ∀ q ∈ t.records, q ∈ w.records) : Keeps sid s (s.setStrand w) := by
  have hn : w.id.sid = n := by rw [hid]; exact strand_name ht
  intro u hu
  by_cases h : n = sid
  · subst h
    obtain rfl : t = u := Option.some.inj (ht.symm.trans hu.2)
    refine ⟨w, ⟨hu.1, ?_⟩, ha, hr⟩
    have := strand_setStrand (s := s) (u := w) (t := t) (by rw [hn]; exact hu)
    rwa [hn] at this
  · exact ⟨u, ⟨hu.1, (strand_setStrand_other s (by rw [hn]; exact h)).trans hu.2⟩, rfl, fun _ => id⟩

theorem setStrand_rounds (s : State) (t : Strand) : (s.setStrand t).rounds = s.rounds := by
  rw [State.setStrand]
  split <;> rfl

theorem rounds_of_ledger {s t : State} (h : ledger t = ledger s) : t.rounds = s.rounds := by
  simp only [ledger, Prod.mk.injEq] at h
  exact h.2.2.2.2.2.2.1

theorem writeTurned_rounds (s : State) (die : Nat) (writer : BitVec 12) (key : Nat) (bs : List Byte) :
    (s.writeTurned die writer key bs).rounds = s.rounds := by
  simp only [State.writeTurned, rounds_of_ledger (invalidateAll_ledger ..)]
  refine (TrapRules.foldl_keeps State.rounds _ (fun u l => Laws.setTag_rounds u l _) _ _).trans ?_
  show (State.decodesIn _ _ _ _ _).rounds = _
  exact (rounds_of_ledger (decodesIn_ledger ..)).trans (rounds_of_ledger (touch_ledger s key))

section
variable {s : State} {sid n : Nat} {r : Record}

/-- A record as it stands among a strand's. -/
def noted (t : Strand) (r : Record) : Record := { r with ring := freeRing t.records, at_ := t.c.dclkr.toNat, given := false }

theorem addRecord_eq {t : Strand} (h : s.strand n = some t) : s.addRecord n r =
    let w := s.setStrand { t with records := t.records ++ [noted t r] }
    if (noted t r).ring < 16 then w.saveWrite t (0x800 + 64 * (noted t r).ring) (noted t r).bytes else w := by
  rw [State.addRecord, h] <;> rfl

theorem addRecord_roster {t : Strand} (h : s.strand n = some t) :
    roster (s.addRecord n r) = roster (s.setStrand { t with records := t.records ++ [noted t r] }) := by
  rw [addRecord_eq h]
  dsimp only
  split
  · exact saveWrite_roster ..
  · rfl

theorem addRecord_rounds : (s.addRecord n r).rounds = s.rounds := by
  cases h : s.strand n with
  | none => rw [State.addRecord, h]
  | some t =>
    rw [addRecord_eq h]
    dsimp only
    split
    · exact (writeTurned_rounds ..).trans (setStrand_rounds ..)
    · exact setStrand_rounds ..

theorem keeps_addRecord : Keeps sid s (s.addRecord n r) := by
  cases h : s.strand n with
  | none =>
    rw [State.addRecord, h]
    exact keeps_refl sid s
  | some t =>
    refine keeps_trans ?_ (keeps_of_roster (addRecord_roster h))
    exact keeps_setStrand h rfl rfl fun q hq => List.mem_append_left _ hq

/-- The strand that gets a record has it. -/
theorem addRecord_has {t : Strand} (h : has s n t) : has (s.addRecord n r) n { t with records := t.records ++ [noted t r] } := by
  refine ⟨h.1, (RestoreRules.strand_of_roster (addRecord_roster h.2) n).trans ?_⟩
  have hn : t.id.sid = n := strand_name h.2
  have := strand_setStrand (s := s) (u := { t with records := t.records ++ [noted t r] }) (t := t) (by rw [show Strand.id _ = t.id from rfl, hn]; exact h)
  rwa [show Strand.id _ = t.id from rfl, hn] at this

theorem keeps_addReached : Keeps sid s (s.addReached n r) := by
  rw [State.addReached]
  split
  · exact keeps_refl sid s
  next t ht => exact keeps_trans (keeps_setStrand (w := { t with pos := t.pos + 1 }) ht rfl rfl fun _ => id) keeps_addRecord

theorem addReached_rounds : (s.addReached n r).rounds = s.rounds := by
  rw [State.addReached]
  split
  · rfl
  · exact addRecord_rounds.trans (setStrand_rounds ..)

end

theorem roundTval_keeps (s : State) (t : Strand) (g : Group) (slot : Nat) (cause : BitVec 10) : ledger (s.roundTval t g slot cause).2 = ledger s := by
  have h := translate_ledger s t.agent (stageAddr g slot 0) .write
  rw [State.roundTval]
  split
  · rfl
  · split
    next hq => rw [hq] at h; exact h
    next hq => rw [hq] at h; exact h

/-- A failed round names the same address for strands that translate alike. -/
theorem roundTval_agent (s : State) {t u : Strand} (h : t.agent = u.agent) (g : Group) (slot : Nat) (cause : BitVec 10) :
    s.roundTval t g slot cause = s.roundTval u g slot cause := by
  rw [State.roundTval, State.roundTval, h]

/-- The strand that a failed round tells of rank `k`. -/
def told (s : State) (r : Round) (here : List (Nat × Strand)) (k : Nat) : Option Strand :=
  match (r.parts.find? (fun c => decide (c.rank = k))).bind (fun c => s.strand c.sid) with
  | some t => some t
  | none => (here.find? (fun (e : Nat × Strand) => decide (e.1 = k))).bind (fun (e : Nat × Strand) => s.strand e.2.id.sid)

/-- The state and TVAL with which a failed round tells a strand: its slot has given nothing. -/
def tells (s : State) (g : Group) (r : Round) (cause : BitVec 10) (tval : Option Word) (t : Strand) : Word × State :=
  let s := s.setStrand (t.setSlot { t.slotOf r.group r.slot with given := [] })
  match tval with
  | some v => (v, s)
  | none => s.roundTval t g r.slot cause

/-- A failed round tells rank `k`. -/
def failAt (g : Group) (r : Round) (here : List (Nat × Strand)) (cause : BitVec 10) (tval : Option Word) (s : State) (k : Nat) : State :=
  match told s r here k with
  | none => s
  | some t =>
    match r.parts.find? (fun c => decide (c.rank = k)) with
    | some c => (tells s g r cause tval t).2.addRecord t.id.sid { c.record with cause := cause, tval := (tells s g r cause tval t).1 }
    | none => (tells s g r cause tval t).2.addReached t.id.sid { relayRecord t r.group r.slot with cause := cause, tval := (tells s g r cause tval t).1 }

theorem failRound_eq (s : State) (g : Group) (r : Round) (here : List (Nat × Strand)) (cause : BitVec 10) (tval : Option Word) :
    s.failRound g r here cause tval = (upto 0 g.ranks).foldl (failAt g r here cause tval)
      { s with rounds := s.rounds.filter (fun q => !(q.group == r.group && q.slot == r.slot)) } := rfl

theorem told_name {s : State} {r : Round} {here : List (Nat × Strand)} {k : Nat} {t : Strand} (h : told s r here k = some t) :
    s.strand t.id.sid = some t := by
  have hnamed {n : Nat} (hn : s.strand n = some t) : s.strand t.id.sid = some t := by rw [strand_name hn]; exact hn
  rw [told] at h
  split at h
  next u hu =>
    cases h
    obtain ⟨c, -, hc⟩ := Option.bind_eq_some_iff.mp hu
    exact hnamed hc
  next =>
    obtain ⟨e, -, he⟩ := Option.bind_eq_some_iff.mp h
    exact hnamed he

section
variable {s : State} {g : Group} {r : Round} {here : List (Nat × Strand)} {cause : BitVec 10} {tval : Option Word} {sid k : Nat}

theorem tells_roster (t : Strand) :
    roster (tells s g r cause tval t).2 = roster (s.setStrand (t.setSlot { t.slotOf r.group r.slot with given := [] })) := by
  cases tval with
  | some v => rfl
  | none => exact roster_of_ledger (roundTval_keeps ..)

theorem tells_rounds (t : Strand) : (tells s g r cause tval t).2.rounds = s.rounds := by
  cases tval with
  | some v => exact setStrand_rounds ..
  | none => exact (rounds_of_ledger (roundTval_keeps ..)).trans (setStrand_rounds ..)

theorem keeps_failAt : Keeps sid s (failAt g r here cause tval s k) := by
  rw [failAt]
  split
  · exact keeps_refl sid s
  next t ht =>
    have hslot : Keeps sid s (tells s g r cause tval t).2 :=
      keeps_trans (keeps_setStrand (w := t.setSlot { t.slotOf r.group r.slot with given := [] }) (told_name ht) rfl rfl fun _ => id)
        (keeps_of_roster (tells_roster t))
    split
    · exact keeps_trans hslot keeps_addRecord
    · exact keeps_trans hslot keeps_addReached

theorem failAt_rounds : (failAt g r here cause tval s k).rounds = s.rounds := by
  rw [failAt]
  split
  · rfl
  · split
    · exact addRecord_rounds.trans (tells_rounds _)
    · exact addReached_rounds.trans (tells_rounds _)

theorem keeps_failAll : ∀ (l : List Nat) (s : State), Keeps sid s (l.foldl (failAt g r here cause tval) s)
  | [], s => keeps_refl sid s
  | k :: l, s => keeps_trans keeps_failAt (keeps_failAll l (failAt g r here cause tval s k))

/-- The contribution of a rank whose strand is here gets its record of the failure. -/
theorem failAt_records {p : Contribution} {t : Strand} (hf : r.parts.find? (fun c => decide (c.rank = k)) = some p) (h : has s p.sid t) :
    ∃ t' rec v, has (failAt g r here cause tval s k) p.sid t' ∧ rec ∈ t'.records ∧
      rec = { p.record with cause := cause, tval := v, ring := rec.ring, at_ := rec.at_, given := rec.given } ∧
      (∀ x, tval = some x → v = x) ∧ (tval = none → ∃ u : State, v = (u.roundTval t g r.slot cause).1) := by
  have htold : told s r here k = some t := by
    simp only [told, hf, Option.bind_some, h.2]
  have hfail : failAt g r here cause tval s k =
      (tells s g r cause tval t).2.addRecord t.id.sid { p.record with cause := cause, tval := (tells s g r cause tval t).1 } := by
    simp only [failAt, htold, hf]
  have hname : t.id.sid = p.sid := strand_name h.2
  have hslot : has (tells s g r cause tval t).2 p.sid (t.setSlot { t.slotOf r.group r.slot with given := [] }) := by
    refine ⟨h.1, (RestoreRules.strand_of_roster (tells_roster t) p.sid).trans ?_⟩
    have := strand_setStrand (s := s) (u := t.setSlot { t.slotOf r.group r.slot with given := [] }) (t := t) (by
      rw [show Strand.id (t.setSlot _) = t.id from rfl, hname]; exact h)
    rwa [show Strand.id (t.setSlot _) = t.id from rfl, hname] at this
  have hadd := addRecord_has (r := { p.record with cause := cause, tval := (tells s g r cause tval t).1 }) hslot
  rw [hfail, hname]
  refine ⟨_, _, (tells s g r cause tval t).1, hadd, List.mem_append_right _ (List.mem_singleton_self _), rfl, fun x hx => ?_, fun hx => ?_⟩
  · subst hx
    rfl
  · subst hx
    exact ⟨_, rfl⟩

end

theorem failRound_records {s : State} {g : Group} {r : Round} {here : List (Nat × Strand)} {cause : BitVec 10} {tv : Option Word} {u : Strand} :
    let t := s.failRound g r here cause tv
    (∀ q ∈ t.rounds, q.group ≠ r.group ∨ q.slot ≠ r.slot) ∧
    (∀ p ∈ r.parts, p.rank < g.ranks → r.parts.find? (fun c => decide (c.rank = p.rank)) = some p → has s p.sid u →
      ∃ u' rec, t.strand p.sid = some u' ∧ rec ∈ u'.records ∧ rec.cause = cause ∧ (∀ v, tv = some v → rec.tval = v) ∧
        (tv = none → cause = 0x208 → rec.tval = BitVec.ofNat 64 r.slot) ∧
        (tv = none → cause ≠ 0x208 → ∃ v : State, rec.tval = (v.roundTval u g r.slot cause).1) ∧
        rec.pc = p.record.pc ∧ rec.word = p.record.word ∧ rec.opa = p.record.opa ∧ rec.pos = p.record.pos) := by
  intro t
  obtain ⟨w, hw⟩ : ∃ w : State, w = { s with rounds := s.rounds.filter (fun q => !(q.group == r.group && q.slot == r.slot)) } := ⟨_, rfl⟩
  have ht : t = (upto 0 g.ranks).foldl (failAt g r here cause tv) w := by rw [hw]; exact failRound_eq ..
  refine ⟨fun q hq => ?_, fun p hp hrank hf h => ?_⟩
  · have hr : t.rounds = w.rounds := by
      rw [ht]
      exact TrapRules.foldl_keeps State.rounds _ (fun _ _ => failAt_rounds) _ _
    rw [hr, hw] at hq
    have := (List.mem_filter.mp hq).2
    simp only [Bool.not_eq_true', Bool.and_eq_false_iff, beq_eq_false_iff_ne] at this
    exact this
  · obtain ⟨l, m, hlm⟩ := List.append_of_mem (show p.rank ∈ upto 0 g.ranks by rw [ElementRules.upto_zero_eq_range]; exact List.mem_range.mpr hrank)
    have hsw : has w p.sid u := by rw [hw]; exact h
    obtain ⟨t1, h1, ha1, -⟩ := keeps_failAll (g := g) (r := r) (here := here) (cause := cause) (tval := tv) l w u hsw
    obtain ⟨t2, rec, v, h2, hmem, hrec, hsome, hnone⟩ := failAt_records (g := g) (here := here) (cause := cause) (tval := tv) hf h1
    obtain ⟨t3, h3, -, hrs⟩ := keeps_failAll (g := g) (r := r) (here := here) (cause := cause) (tval := tv) m _ t2 h2
    have hfold : t = m.foldl (failAt g r here cause tv) (failAt g r here cause tv (l.foldl (failAt g r here cause tv) w) p.rank) := by
      rw [ht, hlm, List.foldl_append, List.foldl_cons]
    rw [← hfold] at h3
    have htval : rec.tval = v := by rw [hrec]
    refine ⟨t3, rec, h3.2, hrs rec hmem, by rw [hrec], fun x hx => htval.trans (hsome x hx), fun hx hc => ?_, fun hx _ => ?_,
      by rw [hrec], by rw [hrec], by rw [hrec], by rw [hrec]⟩
    · obtain ⟨y, hy⟩ := hnone hx
      rw [htval, hy, State.roundTval, if_pos hc]
    · obtain ⟨y, hy⟩ := hnone hx
      exact ⟨y, by rw [htval, hy, roundTval_agent y ha1]⟩

/-! ### TVAL of a lost hop (R404) and parked arrivals (R362, R425) -/

theorem roundTval_line {s s1 : State} {u : Strand} {g : Group} {slot key : Nat} {cause : BitVec 10} (hc : cause ≠ 0x208)
    (h : s.translate u.agent (g.stgbase + BitVec.ofNat 64 (slot * g.slotlen)) .write = (.ok key, s1)) :
    (s.roundTval u g slot cause).1 = BitVec.ofNat 64 (globalOf s1.front.modnum (key / 64 * 64)) := by
  have ha : stageAddr g slot 0 = g.stgbase + BitVec.ofNat 64 (slot * g.slotlen) := rfl
  rw [State.roundTval, if_neg hc, ha, h]

section
variable {s s0 s1 : State} {i : Nat} {q : Nat × Parked} {u : Strand} {g : Group}
  (hi : s.allParked[i]? = some q) (hrest : q.2.rest = false) (hh : s.relayHeld q.2.sid = false) (h : has s q.2.sid u)
  (hg : s.groupFor q.2.sid q.2.group = (some g, s0))
include hi hrest hh h hg

/-- A parked arrival whose strand the Relay does not hold back tries its page again. -/
theorem parkedArrivalRetry_next : exec (.parkedArrivalRetry i) s = .next (
    match s0.landPiece u (stageAddr g q.2.slot q.2.off) q.2.lanes q.2.bytes with
    | (none, s) => ((s.onDie q.1 (fun d => { d with parked := d.parked.filter (fun p => p != q.2) })).settleRound q.1 q.2.sid q.2.group q.2.slot).enterParking
        q.1 (s.dieAt q.1).parked.length
    | (some x, s) =>
      if x.cause = 0x080 then s.onDie q.1 (fun d => { d with parked := updFirst (fun p => p == q.2) (fun p => { p with at_ := s.now }) d.parked })
      else ((s.discardRound q.1 q.2.sid q.2.group q.2.slot).addReached q.2.sid { q.2.record with cause := x.cause, tval := x.tval }).enterParking q.1
        (s.dieAt q.1).parked.length) := by
  have hcond : (q.2.rest || s.relayHeld q.2.sid) = false := by rw [hrest, hh]; rfl
  change execParkedArrivalRetry i s = _
  rw [execParkedArrivalRetry, hi]
  dsimp only
  rw [State.retryArrival, hcond, if_neg Bool.false_ne_true]
  simp only [h.2, hg] <;> rfl

theorem arrivalOutcomes {x : XFault} :
    let va := g.stgbase + BitVec.ofNat 64 (q.2.slot * g.slotlen + q.2.off)
    let n := (s1.dieAt q.1).parked.length
    let w := exec (.parkedArrivalRetry i) s
    let landed := s0.landPiece u va (lanesOf (q.2.off / q.2.width) (q.2.bytes.length / q.2.width)) q.2.bytes
    (landed = (none, s1) →
      w = .next (((s1.onDie q.1 (fun d => { d with parked := d.parked.filter (fun p => p != q.2) })).settleRound q.1 q.2.sid q.2.group q.2.slot).enterParking q.1 n)) ∧
    (landed = (some x, s1) → x.cause = 0x080 →
      w = .next (s1.onDie q.1 (fun d => { d with parked := updFirst (fun p => p == q.2) (fun p => { p with at_ := s1.now }) d.parked }))) ∧
    (landed = (some x, s1) → x.cause ≠ 0x080 →
      w = .next (((s1.discardRound q.1 q.2.sid q.2.group q.2.slot).addReached q.2.sid
        { q.2.record with cause := x.cause, tval := x.tval }).enterParking q.1 n)) := by
  have hva : stageAddr g q.2.slot q.2.off = g.stgbase + BitVec.ofNat 64 (q.2.slot * g.slotlen + q.2.off) := rfl
  have hlanes : q.2.lanes = lanesOf (q.2.off / q.2.width) (q.2.bytes.length / q.2.width) := rfl
  have hnext := parkedArrivalRetry_next hi hrest hh h hg
  rw [hva, hlanes] at hnext
  intro va n w landed
  refine ⟨fun hl => ?_, fun hl hc => ?_, fun hl hc => ?_⟩
  · exact hnext.trans (by rw [show s0.landPiece _ _ _ _ = _ from hl])
  · refine hnext.trans ?_
    rw [show s0.landPiece _ _ _ _ = _ from hl]
    exact congrArg Host.Outcome.next (if_pos hc)
  · refine hnext.trans ?_
    rw [show s0.landPiece _ _ _ _ = _ from hl]
    exact congrArg Host.Outcome.next (if_neg hc)

end

theorem relayRounds : RelayRounds := by
  intro s s0 s1 s2 group slot i r c0 rest g x q u here away o
  refine ⟨fun hr hp hg => ?_, fun cause tv => failRound_records, fun cause key hc h => roundTval_line hc h,
    fun hi hrest hh h hg => arrivalOutcomes hi hrest hh h hg⟩
  obtain ⟨hwait, hheld, hunread, huncalm, hdiffer, hwhole⟩ := roundOutcomes (s1 := s1) (s2 := s2) (x := x) (here := here) (away := away) hr hp hg
  refine ⟨hwait, hheld, hunread, huncalm, hdiffer, fun hd hw hf hx hc => ?_⟩
  obtain ⟨hhome, hlost, hthrough⟩ := hwhole hd hw hf hx hc
  refine ⟨hhome, hlost, fun hl hrounds => (hthrough hl).trans ?_⟩
  have hfmt : c0.fmt = c0.op.toNat / 16 % 4 := rfl
  have hchunk : field c0.chunk 0 32 = c0.chunk.toNat % 2 ^ 32 := WaitRules.field_zero ..
  rw [arrivals, hrounds, opc_eq, hfmt, hchunk]
  rfl

/-- Settles O50: what the units do behind streams and at the end of budgets, and how rounds and parked arrivals end. -/
theorem streamAndRelayUnits : Obligations.StreamAndRelayUnits := ⟨StreamUnitRules.streamUnits, relayRounds⟩

end Sys2Proof.RelayRules
end

section
/-! PROOF. DBGCTL_HALT in a state that holds a core twice (R444). -/

namespace Sys2Proof.DebugHaltRules

open Machine Claim

/-- Core 1 is the issuing core and stands among the others a second time, as at reset. The issuing strand is of core 0; strand 2 runs in slot 0 of core 1. -/
def coreTwice : State := { State.reset with
  cur := { Strand.reset with run := .running, id := { Ident.reset with sid := 1 } }
  strands := [{ Strand.reset with run := .running, id := { Ident.reset with sid := 2, core := 1 } }]
  core := Core.reset 1
  cores := [Core.reset 1] }

/-- The HALT bit of slot 0 of core 1 as an outcome leaves it. -/
def haltAfter : Out → Option Bool
  | .next t => some ((t.coreAt 1).dbgctl.getLsbD 24)
  | _ => none

/-- The halt is written to the issuing core. When strand 2 has been halted and the issuing strand comes back with core 0, core 1 goes behind its double, which answers for the number from then on. -/
theorem haltAfter_coreTwice : haltAfter (exec (.dbgctlHalt 1 0) coreTwice) = some false := by decide +kernel

theorem not_otherEventsComplete : ¬ OtherEventsComplete := by
  intro h
  obtain ⟨-, -, -, -, hhalt⟩ := h coreTwice 0 1 0 0 0 0 false 0 (by decide) (by decide) (by decide) (by decide)
  obtain ⟨u, hu, hbit⟩ := hhalt
  have hafter := haltAfter_coreTwice
  rw [hu] at hafter
  exact absurd (hbit.symm.trans (Option.some.inj hafter)) (by decide)

/-- Refutes O60: `OtherEventsComplete` says that DBGCTL_HALT leaves the HALT bit of the slot set in every state. In a state where the issuing
core is not the issuing strand's and stands among the other cores a second time (`coreTwice`) the bit reads 0 afterwards. -/
theorem not_eventsComplete : ¬ Obligations.EventsComplete := fun h => not_otherEventsComplete h.2.2.2.2.1

end Sys2Proof.DebugHaltRules
end
